-- ==== Sys2Proof/Word.lean ====
section
/-! DEFINITION. The word types of the block: registers are 32-bit words, buffers and payloads are bytes (R5, R435). -/

namespace Sys2Proof

/-- A byte of a descriptor, payload, window or link. -/
abbrev Byte := BitVec 8

/-- A 32-bit set-up register (R435). -/
abbrev Word := BitVec 32

end Sys2Proof
end

