-- ==== Sys2Proof/Syntax.lean ====
section
/-! DEFINITION. The commands of the AT9640 and the records their operands are made of. -/

namespace Sys2Proof

/-- A tag number (0-4,095), R267. -/
abbrev Tag := Fin 4096

/-- The attachment over which a packet of the recovery ROM arrives (R431): the recovery window of QSPIH or PCI Express, whose packet is
the row's bytes, or UREC, whose frame they are. -/
inductive RomAtt where
  | window | uart
  deriving DecidableEq, Repr

/-- What a cold or wake start finds outside the model: the straps as sampled (R389: bit 0 HOSTIF_SEL,
bits 4:1 LINER_SRC, 7:5 LINER_V, 9:8 LINER_I, 11:10 HB_ADDR), whether AON power has been lost (R381), the AON
counts latched at the reset and read at restart (R379), whether the selected image verifies (R410), whether some slot holds a valid
manifest (R430) and whether a copy of the stored settings is good (R248). -/
structure BootIn where
  straps     : BitVec 12
  aonLost    : Bool
  aonLatch   : Nat
  aonCount   : Nat
  imageOk    : Bool
  slotOk     : Bool
  settingsOk : Bool
  deriving DecidableEq, Repr

/-- What a warm start finds outside the model: whether the SRAM image hash verifies (R397 step 4), the die
temperature of each unit (0.01 °C, R398), and, for an activation, whether the whole target slot verifies
(R420 step 2), with the first bad piece where one fails its check. -/
structure WarmIn where
  imageOk  : Bool
  dieTemps : List Int
  slotOk   : Bool
  badPiece : Option Nat
  deriving DecidableEq, Repr

/-- What a start that may be warm or cold finds: a watchdog reset after BOOT_FAILS has reached 3 is a cold start (R396,
R399). -/
structure StartIn where
  boot : BootIn
  warm : WarmIn
  deriving DecidableEq, Repr

/-- One ageing measurement (R250, R251): the item and number of AGEING_REBASE (R309), and its value. In a row, item 2 gives the
taps that span one engine clock, and item 4 gives in `raw` the rise in mA of each active phase of the mitten, in ascending order,
from its valley sample to the sample at its PWMH falling edge. -/
structure AgeMeas where
  item  : Nat
  num   : Nat
  value : Int
  raw   : List Int := []
  deriving DecidableEq, Repr

/-- A unit with a retry record (R238). -/
inductive UnitRef where
  | phase (n : Fin 64)
  | mitten (n : Fin 16)
  | source (n : Fin 12)
  | string (n : Fin 16)
  | unit (n : Fin 16)
  | supervisor (n : Fin 4)
  deriving DecidableEq, Repr

/-- What a gauntlet step sees (R82): in the sense check the common mode in mV of each member measured, by (phase, mV); in step 1
the samples in mA of each member, by (phase, samples in order); in a pulse of step 2, how many ns after its rising edge FLT came,
if it did. -/
structure GntObs where
  cm      : List (Nat × Int)
  samples : List (Nat × List Int)
  fltAt   : Option Nat
  deriving DecidableEq, Repr

/-- What a liner start sees (R392): the lowest voltage of the source's sense ball over the source test, in µV; in step 1 of the
liner gauntlet the samples of each phase at CSP/CSN in µV, by (phase, samples in order); in step 2 how many ns after the rising
edge of a phase's pulse its FLT came, by (phase, ns). -/
structure LinerObs where
  srcUv   : Int
  samples : List (Nat × List Int)
  fltAt   : List (Nat × Nat)
  busUv   : Int := 0
  deriving DecidableEq, Repr

/-- Where in a cycle the protection comparator sees a crossing (R51, R57): the sign of the current, and the time since the cycle
boundary and since the latest rising edge of PWMH or PWML, in engine clocks of 2.5 ns. -/
structure TripAt where
  negative : Bool := false
  cycle    : Nat := 0
  edge     : Nat := 0
  deriving DecidableEq, Repr

/-- The end reasons of a lend (R119), codes 1-10 in order. -/
inductive LendEnd where
  | hostStop | energy | time | taper | donorFloor | busPriority | foreignSupply | mittenFault | mode | disconnect
  deriving DecidableEq, Repr

/-- One sample of a pair window (R158, R170, R180), in 1/4 codes: whether its common mode is bad, and whether it stood at the
highest or lowest code. -/
structure WinSample where
  code    : Int
  cm      : Bool
  clipped : Bool
  deriving DecidableEq, Repr

/-- What one correction slot yields (R173, R177): the slice, its coefficients in codes, 0.001 % and ps, the
unit's deviation of VREF_CHECK in ppm, and the input 12 reading in mV x 100. -/
structure SliceCoef where
  slice  : Fin 4
  offset : Int
  gain   : Int
  skew   : Int
  devPpm : Int
  in12   : Int
  deriving DecidableEq, Repr

/-- The conversions of a self-test on one slice (R249): input 12 in mV × 100 at the reference, and the deviation of VREF_CHECK
from the calibrated ratio. -/
structure TestConv where
  unit   : Fin 16
  slice  : Fin 4
  in12   : Int
  devPpm : Int
  deriving DecidableEq, Repr

/-- The bytes the ring engine reads from host memory for one descriptor (R276, R277): the 64 descriptor bytes,
the payload bytes, and the offset of a payload read error. -/
structure HostRead where
  desc    : List Byte
  payload : List Byte
  payErr  : Option Nat
  deriving DecidableEq, Repr

/-- How a poll of a pack monitor ends (R344). -/
inductive PollReply where
  | record (bytes : List Byte)
  | nack
  deriving DecidableEq, Repr

/-- How a chain formation ends (R355): the positions counted, this device's position, the crown's ID, the loop
delay in ns, and whether two devices share an ID. -/
structure Formation where
  count    : Nat
  position : Nat
  crownId  : Nat
  loopNs   : Nat
  conflict : Bool
  keys     : List Nat := []
  deriving DecidableEq, Repr

/-- What the other devices of a chain tell beside the bytes of a frame, since no field of R356 carries it (DESIGN CHOICE,
log 14): the number of phases in the PHASES of a shared mitten by (mitten, position, phases), and the rations that sources
on other devices give a shared mitten (R64, R90, R91, R105). `arrived` is the arrival of the marker after the receiver's last tick
boundary, in ps (R359). -/
structure ChainSide where
  phases  : List (Nat × Nat × Nat) := []
  rations : List (Nat × Int) := []
  arrived : Option Int := none
  deriving DecidableEq, Repr

/-- The commands of the block: one constructor per row of the table of operations and events. An operand written with `:=` may be
left out where a command is written down, and then stands for "nothing to report" (no FLT, no stall, no byte cut short, no erase;
a brown-out of VAON): a shorthand for writing a command, no value of the machine's. A meaning takes that operand after the state
for the same reason. -/
inductive Instr where
  /-- POWER_ON (R454). All rails have stayed within their operating ranges for 2 ms, so the power-on reset is released and a cold
  start begins. -/
  | powerOn (boot : BootIn)
  /-- RESET_N_LOW (R396). RESET_N is held low for at least 1 µs, which resets the device; the straps are sampled on its rising
  edge and a cold start follows. -/
  | resetNLow (boot : BootIn)
  /-- BROWN_OUT (R396). VDD_CORE or VAON leaves its window, which resets the device with a cold start. -/
  | brownOut (boot : BootIn) (vaon : Bool := true)
  /-- CLOCK_LOST (R375). The timer clock or the AON clock shows no edge for 1 ms, measured on the other clock, and the device
  resets with a cold start. -/
  | clockLost (boot : BootIn)
  /-- ENGINE_CLOCK_LOCK_LOSS (R248). The engine clock loses lock against the 25 MHz reference, so the device resets while the
  liner keeps BUS0. -/
  | engineClockLockLoss (boot : BootIn)
  /-- AON_RC_FALLBACK (R375). The AON clock falls back from its crystal to the RC oscillator, which is reported in AON_RC. -/
  | aonRcFallback
  /-- RECOVERY_WAKE_N_HOLD (R430). WAKE_N, low at the reset edge, is still low 3 s later on the AON clock, so the device enters
  RECOVERY. -/
  | recoveryWakeNHold
  /-- WAKE_START (R397). After a wake from DEEP or SHIP, once every rail has been valid for 2 ms, the wake start runs and restores
  device time and stored state. -/
  | wakeStart (boot : BootIn)
  /-- HAND_OVER (R394). Firmware takes over from the liner at a control-tick boundary with a matching map, or enters RUN with the
  liner still running. -/
  | handOver
  /-- LINER_SOURCE_TEST_PASS (R392). The strapped source has stayed at or above 1.05 × the BUS0 target for 20 ms, so its switch
  closes and the liner gauntlet and soft start follow. -/
  | linerSourceTestPass (obs : LinerObs)
  /-- LINER_BUS_OVERVOLTAGE (R393). BUS0 has been above target + 10 % for 1 ms, so all liner outputs are held low until BUS0 falls
  below the target. -/
  | linerBusOvervoltage (busUv : Int := 0)
  /-- LINER_SOURCE_LOW (R393). The liner source has been below 1.02 × target for 10 ms, so its switch opens and the source test
  restarts. -/
  | linerSourceLow (srcUv : Int := 0)
  /-- LINER_BUS_COLLAPSE (R393). BUS0 has been below 10 % of target for 100 ms, so the liner outputs are held low for 1 s before
  soft start repeats. -/
  | linerBusCollapse (busUv : Int := 0)
  /-- BOOT_FAILS_CLEAR (R399). After 60 s in RUN or LIMP without a reset, BOOT_FAILS is cleared, SEC_MIN may rise and a pending
  key-slot erase runs. -/
  | bootFailsClear
  /-- CONTROL_TICK (R73). A control-tick boundary: taps latch, outer loops and rations run, crossbar values are published and
  class-0 actions are taken. -/
  | controlTick (cycles : Nat) (aux : BitVec 32) (erase : Bool := false)
  /-- CHARGE_FRAME_BOUNDARY (R211). A charge-frame boundary is placed by the lag rule; it starts checkpointing, program
  evaluation, commit steps and per-frame checks. -/
  | chargeFrameBoundary (all : Bool := true)
  /-- POLICY_FRAME_BOUNDARY (R211). A policy-frame boundary starts arbitration, profile levers, ageing, brim re-planning and
  motion evaluation. -/
  | policyFrameBoundary (meas : List AgeMeas) (late : Bool := false)
  /-- CAPACITANCE_MEASUREMENT (R251). Once per 24 h, a bus's capacitance is measured from 100 alternating current steps. -/
  | capacitanceMeasurement (bus : Fin 4) (mit : Fin 16)
  /-- CHECKPOINT_COMPLETE (R401). A checkpoint's CLOSE_SEQ is written, so completions of the commands it contains are requested
  and held events are delivered. -/
  | checkpointComplete
  /-- FRAME_LAG_LIMP (R218). A level has shown lag at 64 consecutive boundaries, so the device enters LIMP with cause FRAME. -/
  | frameLagLimp (level : Fin 3)
  /-- LIMP_LEFT (R233). Every LIMP cause has cleared, so the device returns to RUN and the strings re-enter their programs. -/
  | limpLeft
  /-- PWM_CYCLE_BOUNDARY (R45). A phase reaches a cycle boundary and applies pending period, duty, dead-time, range, target and
  offset changes. -/
  | pwmCycleBoundary (ph : Fin 64) (at0 : Nat := 0)
  /-- SAMPLE_TRIGGER (R55). A phase trigger issues an urgent conversion to its unit: it takes a slice, queues, or is dropped as a
  missed sample. -/
  | sampleTrigger (ph : Fin 64) (trig : Fin 4) (clk : Nat)
  /-- URGENT_CONVERSION_DONE (R55). An urgent conversion ends and its result goes to the phase engine's law, protections and
  autorange. -/
  | urgentConversionDone (ph : Fin 64) (code : Int) (cmBad : Bool)
  /-- COMPARATOR_TRIP (R57). The protection comparator trips outside blanking and holds both outputs low until the next cycle
  start. -/
  | comparatorTrip (ph : Fin 64) (trip : TripAt := {})
  /-- PHASE_OVERCURRENT (R61). OC_PERSIST consecutive tripped cycles make a transient phase fault, and the phase enters FAULTED. -/
  | phaseOvercurrent (ph : Fin 64)
  /-- PHASE_DRIVER_FAULT (R58). An asserted FLT latches both outputs low, with a reaction that depends on the phase state. -/
  | phaseDriverFault (ph : Fin 64)
  /-- PHASE_SENSE_FAULT (R61). After 16 consecutive bad cycles of common mode, range or FSBB cross-check, the phase enters
  FAULTED. -/
  | phaseSenseFault (ph : Fin 64)
  /-- QUAD_SUPPLY_FAULT (R61). A quad supply has been out of window for 10 µs without a break, so all four phases enter FAULTED. -/
  | quadSupplyFault (quad : Fin 16)
  /-- DELAY_LINE_CALIBRATION (R46). A newly powered quad's delay lines finish their 20 µs calibration. -/
  | delayLineCalibration (quad : Fin 16) (fails : BitVec 4)
  /-- PHASE_REJOIN_CHECK_END (R61). A FAULTED phase's 100 µs rejoin check ends: it returns to ACTIVE, or a further retry is
  counted. -/
  | phaseRejoinCheckEnd (ph : Fin 64) (maxMa : Nat) (flt : Bool := false)
  /-- BACKOFF_EXPIRY (R238). A unit's retry backoff expires and the unit is retried by its own chapter's procedure. -/
  | backoffExpiry (unit : UnitRef) (flt : Bool := false)
  /-- GAUNTLET_STEP (R82). A timed gauntlet step ends: sense check, step 1, or a member's step-2 pulse window. -/
  | gauntletStep (mit : Fin 16) (obs : GntObs)
  /-- GAUNTLET_END (R83). The gauntlet ends: with enough passed phases the mitten enters SOFTSTART, otherwise MITTEN_UNDERSTAFFED
  is raised. -/
  | gauntletEnd (mit : Fin 16)
  /-- GAUNTLET_NO_SUPPLY (R81). The high-side supply condition is not met within 1 s of the start request, so the mitten returns
  to STOPPED. -/
  | gauntletNoSupply (mit : Fin 16)
  /-- SOFT_START_COMPLETE (R84). The soft-start ramp reaches V_SET, or I_SET, and the mitten enters RUN. -/
  | softStartComplete (mit : Fin 16)
  /-- STANDBY_CURRENT_FINDING (R85). A standby member exceeds GNT_ITHR for 100 µs, which is a gauntlet finding against it. -/
  | standbyCurrentFinding (ph : Fin 64) (avgMa : Nat := 0)
  /-- MITTEN_SHORT (R79). V_output stays below 10 % of V_SET for T_SHORT, so the mitten enters FAULTED. -/
  | mittenShort (mit : Fin 16)
  /-- MITTEN_OVERVOLTAGE (R87). The output stays above the regulated node's V_MAX for 3 ticks, so the mitten enters FAULTED. -/
  | mittenOvervoltage (mit : Fin 16)
  /-- MITTEN_OVERTEMP (R87). The stage temperature stays above T_STOP + 5 °C for one charge frame, so the mitten enters FAULTED. -/
  | mittenOvertemp (mit : Fin 16)
  /-- MITTEN_UNDERSTAFFED (R87). Active phases fall below MIN_PHASES in RUN or during a retry. -/
  | mittenUnderstaffed (mit : Fin 16)
  /-- SETPOINT_LOSS (R93). No setpoints from the crown arrive for 2 ticks, so shared-mitten members are placed in SHED. -/
  | setpointLoss (mit : Fin 16)
  /-- SOURCE_QUALIFIED (R98). A source has met its window and ripple conditions for T_STABLE and enters AVAILABLE. -/
  | sourceQualified (src : Fin 12)
  /-- SOURCE_UNDERVOLTAGE_LOSS (R99). A source's voltage stays below QUAL_V_LO − WIN_HYST for 3 ticks: it enters RIDE_THROUGH or
  ABSENT with SOURCE_LOST. -/
  | sourceUndervoltageLoss (src : Fin 12)
  /-- RIPPLE_LOSS (R99). Ripple exceeds RIPPLE_MAX in 10 consecutive charge frames and the source is lost. -/
  | rippleLoss (src : Fin 12)
  /-- RIDE_THROUGH_EXPIRY (R99). T_RIDE expires without recovery and the source enters ABSENT. -/
  | rideThroughExpiry (src : Fin 12)
  /-- SOURCE_OVERVOLTAGE (R100). The voltage stays above QUAL_V_HI + WIN_HYST for 3 ticks, giving a fault, or a 500 ms hold for an
  alternator. -/
  | sourceOvervoltage (src : Fin 12)
  /-- ALTERNATOR_SURGE_HOLD_EXPIRY (R100). An alternator is still over the limit 500 ms after detection, so the fault reaction
  follows. -/
  | alternatorSurgeHoldExpiry (src : Fin 12)
  /-- SOURCE_OVERCURRENT (R114). Port current stays above 110 % of I_IN_MAX for 10 ms, so the source enters FAULTED. -/
  | sourceOvercurrent (src : Fin 12)
  /-- SOURCE_REVERSE (R114). Port current stays below −IREV with the switch ON, outside a lend, for 1 ms. -/
  | sourceReverse (src : Fin 12)
  /-- SOURCE_SENSE_FAULT (R114). A source sense fault lasts 16 ticks, or its tap goes stale, so the source enters FAULTED. -/
  | sourceSenseFault (src : Fin 12)
  /-- SOURCE_SWITCH_FAULT (R114). Current flows through an OFF source switch for 10 ms, so the source is retired. -/
  | sourceSwitchFault (src : Fin 12)
  /-- SWITCH_OPEN (R248). An ON BUS_TIE switch fails to conduct for 10 ms, which is a transient port fault. -/
  | switchOpen (port : Fin 28)
  /-- CHANGEOVER_SWITCH_CLOSE (R113). One tick after the outgoing switch reports off, the incoming switch closes and the stopped
  mittens receive start demands. -/
  | changeoverSwitchClose (src : Fin 12)
  /-- HOLDOFF_END (R96). The terminal stays below LEND_RX_MIN for 1 s, so a HOLDOFF source enters ABSENT. -/
  | holdoffEnd (src : Fin 12)
  /-- MPPT_STEP (R108). At each MPPT_PERIOD, I_MPP moves by MPPT_STEP and reverses direction if power did not rise. -/
  | mpptStep (src : Fin 12)
  /-- SOLAR_SCAN_STEP (R109). A scan step ends: its mean power is recorded and the scan advances, stops early, or sets I_MPP. -/
  | solarScanStep (src : Fin 12)
  /-- SOLAR_SCAN_START (R109). A solar scan starts on selection or every SCAN_PERIOD. -/
  | solarScanStart (src : Fin 12)
  /-- GENERATOR_WARM_UP_END (R107). GEN_WARM expires and I_TYPE rises to I_IN_MAX. -/
  | generatorWarmUpEnd (src : Fin 12)
  /-- START_OUT_RELEASE (R107). The generator has not been wanted for GEN_COOL, so START_OUT is driven low. -/
  | startOutRelease (src : Fin 12)
  /-- LEND_END_CONDITION (R119). A lend end condition is reached (energy, time, taper, donor floor, bus priority, foreign supply,
  fault or mode), so the lend ends with LEND_ENDED. -/
  | lendEndCondition (src : Fin 12) (reason : LendEnd)
  /-- BUS_UNDERVOLTAGE (R33). The feeding mittens cannot hold a bus above V_MIN for 10 consecutive ticks. -/
  | busUndervoltage (bus : Fin 4)
  /-- SUPPLEMENT_RETURN (R36). A reversed mitten's current has been zero for 10 charge frames, so it returns forward. -/
  | supplementReturn (mit : Fin 16)
  /-- STRING_ABSENT (R34). An off string's voltage stays below 10 % of nominal for 100 ms, so the string becomes ABSENT. -/
  | stringAbsent (str : Fin 16)
  /-- STRING_PRESENT (R34). An ABSENT string's voltage stays above the 10 % level for 1 s, so the string enters STOPPED. -/
  | stringPresent (str : Fin 16)
  /-- PRECHARGE_ENTRY (R129). The string voltage stays below the precharge threshold for 1 s, so the string enters PRECHARGE. -/
  | prechargeEntry (str : Fin 16)
  /-- PRECHARGE_END (R142). The mean voltage has stayed at or above the target for 1,000 charge frames, so the string enters its
  next step. -/
  | prechargeEnd (str : Fin 16)
  /-- STRING_PRECHARGE_TIMEOUT (R142). Precharge running time reaches PRE_TIMEOUT, so the string is retired. -/
  | stringPrechargeTimeout (str : Fin 16)
  /-- STEP_EXIT (R134). A step condition's confirm count reaches CONFIRM, and the string changes step, stops, or faults. -/
  | stepExit (str : Fin 16)
  /-- STRING_TIE_LIMIT (R140). Tie current exceeds the step ceiling for 10 ticks, so the tie is demanded IDEAL_DIODE for
  TIE_REARM. -/
  | stringTieLimit (str : Fin 16)
  /-- TIE_REARM_EXPIRY (R140). The TIE_REARM lock-out ends and bus-tied charging resumes. -/
  | tieRearmExpiry (str : Fin 16)
  /-- PAUSE_END (R141). The last pause reason ends after its time condition, and the string resumes at the same step. -/
  | pauseEnd (str : Fin 16)
  /-- PACK_MONITOR_RECORD (R146). A pack-monitor limit record is received whole and is accepted when its CRC matches and its SEQ
  is new. -/
  | packMonitorRecord (str : Fin 16) (rec : List Byte)
  /-- PACK_MONITOR_LOST (R148). No record is accepted for PM_TIMEOUT × PM_PERIOD, so the string pauses. -/
  | packMonitorLost (str : Fin 16)
  /-- STRING_DISCHARGE_LIMIT (R147). Tie current out of the string exceeds I_DSG_LIM for 1 s. -/
  | stringDischargeLimit (str : Fin 16)
  /-- STRING_OVERVOLTAGE (R149). The string stays above V_MAX for 3 ticks, so charging stops and the string enters FAULTED. -/
  | stringOvervoltage (str : Fin 16)
  /-- STRING_OVERCURRENT (R149). Port current stays above 110 % of I_RATED for 10 ms, so the tie goes OFF and the string faults. -/
  | stringOvercurrent (str : Fin 16)
  /-- STRING_OVERTEMP (R149). The string stays above T_CHG_HI + 10 °C for 1 s. -/
  | stringOvertemp (str : Fin 16)
  /-- STRING_SENSE_FAULT (R149). A string voltage or current sense fault lasts 16 ticks, or its tap goes stale. -/
  | stringSenseFault (str : Fin 16) (current : Bool)
  /-- STRING_TEMP_FAULT (R149). The temperature reading stays outside −50 to +150 °C for 1 s. -/
  | stringTempFault (str : Fin 16)
  /-- STRING_SWITCH_FAULT (R149). Current flows through an OFF tie with no mitten running for 10 ms, so the string is retired. -/
  | stringSwitchFault (str : Fin 16)
  /-- IMPEDANCE_RUN_START (R205). At the next charge-frame boundary an accepted run leases entries, sets its base current and
  starts its first point. -/
  | impedanceRunStart (str : Fin 16)
  /-- IMPEDANCE_SETTLE_END (R205). SETTLE periods have passed, so the point's four accumulators are cleared. -/
  | impedanceSettleEnd (str : Fin 16)
  /-- IMPEDANCE_POINT_END (R206). MEASURE periods complete, so Z and the point's flags are computed and the next point starts. -/
  | impedancePointEnd (str : Fin 16)
  /-- IMPEDANCE_REPEAT (R203). The REPEAT interval after a run expires and a new run starts if permitted. -/
  | impedanceRepeat (str : Fin 16)
  /-- PASS_START (R162). A sequence pass starts at its pace boundary, or at once when free-running or late. -/
  | passStart (mu : Fin 16) (behind : Nat) (clk : Nat := 0)
  /-- VISIT_END (R161). A visit completes and yields a FAST output or a PRECISE filter input, which goes to taps, accumulators and
  trackers. -/
  | visitEnd (mu : Fin 16) (samples : List Int) (cmBad : Bool) (clipped : Bool) (time : Nat)
  /-- CORRECTION_SLOT (R173). After 256 background samples, a slice converts a calibration level to correct mismatch and check
  VREF_CHECK. -/
  | correctionSlot (mu : Fin 16) (coef : SliceCoef)
  /-- CORRECTION_CONVERGED (R174). A unit's mismatch correction converges and it enters CONVERGED. -/
  | correctionConverged (mu : Fin 16)
  /-- MU_SLICE_FAULT (R175). A slice's coefficients leave the range, or it does not converge in 200 ms, so it is retired. -/
  | muSliceFault (mu : Fin 16) (slice : Fin 4)
  /-- MU_UNIT_FAULT (R182). A unit fault is detected, so the unit resets and its quad's phases fault. -/
  | muUnitFault (mu : Fin 16) (stall : Bool := false)
  /-- MEAS_TAP_STALE (R172). A tap latches no new result 16 times in a row, so the sense fault of its node follows. -/
  | measTapStale (tap : Fin 112)
  /-- PAIR_WINDOW (R180). A trigger event at a tick takes one equivalent-time window on the pair. -/
  | pairWindow (pair : Fin 8) (samples : List (Option WinSample)) (time : Nat)
  /-- CAPTURE_TRIGGER_TIMEOUT (R180). 1,000 consecutive ticks pass without a trigger event, so the capture ends. -/
  | captureTriggerTimeout (pair : Fin 8)
  /-- REFERENCE_SETTLED (R176). BUF_EN has been 1 for 5 ms and REF_DEV has stayed within ±1,000 ppm for 1 ms, so UNSETTLED marks
  stop. -/
  | referenceSettled
  /-- MEAS_REF_TIMEOUT (R176). The reference is not settled 50 ms after BUF_EN was set, so firmware stays in LINER. -/
  | measRefTimeout
  /-- MEAS_REF_MISMATCH (R177). |REF_DEV| stays above 5,000 ppm for 10 frames, so results carry REF_SUSPECT. -/
  | measRefMismatch
  /-- MEAS_REF_FAULT (R177). |REF_DEV| stays above 20,000 ppm for 10 frames, so the device enters LIMP. -/
  | measRefFault
  /-- ENGINE_STALL (R246). A progress monitor detects a stalled heartbeat, and the agent is declared faulty, revoked and reset. -/
  | engineStall (agent : Fin 128) (start : StartIn)
  /-- TAKEOVER_COMPLETE (R402). Adoption and tag handling end, so the takeover completes and tags in flight are completed or
  fetched again. -/
  | takeoverComplete (micros : Nat) (start : StartIn)
  /-- STANDBY_OK (R405). The restarted supervisor has read the newest complete checkpoint and becomes the standby. -/
  | standbyOk
  /-- HOLD_EXPIRED (R403). The 2 s hold budget expires, so charge ceilings go to 0 and lends and runs end. -/
  | holdExpired
  /-- ECC_CORRECTED (R248). A single-bit memory error is corrected in place. -/
  | eccCorrected (agent : Fin 128)
  /-- ECC_UNCORRECTABLE (R248). A double-bit error is detected at a read, so the owning agent is declared faulty. -/
  | eccUncorrectable (agent : Fin 128) (buf : Option (Fin 2)) (start : StartIn)
  /-- WATCHDOG_TIMEOUT (R374). A full watchdog period passes without service, so the device resets with a warm start. -/
  | watchdogTimeout (start : StartIn)
  /-- WDT_WINDOW_OPEN (R372). The watchdog count reaches the window fraction and OPEN is set. -/
  | wdtWindowOpen
  /-- WDT_KEY_WRITE (R373). A key write services the watchdog, or resets the device with cause EARLY or KEY. -/
  | wdtKeyWrite (agent : Fin 128) (val : Word) (start : StartIn)
  /-- WDT_KEY_LAPSE (R373). More than 10 µs pass after the opening key write, so the service sequence lapses. -/
  | wdtKeyLapse
  /-- WDT_EN_WRITE (R372). Firmware writes EN = 1, which starts the watchdog and locks its fields. -/
  | wdtEnWrite (agent : Fin 128) (val : Word)
  /-- WDT_RESET_CLEAR (R378). A write of CLR = 1 clears WDT_RESET_COUNT and LAST_CAUSE. -/
  | wdtResetClear (val : Word)
  /-- TMR_ARM (R366). A write of ARM = 1 sets COUNT to 0 and starts a one-shot run. -/
  | tmrArm (tmr : Fin 16)
  /-- TMR_STOP (R366). A write of STOP = 1 clears RUN without an end event. -/
  | tmrStop (tmr : Fin 16)
  /-- TMR_FORCE_CMP (R368). A write of FORCE_CMP = 1 performs the compare event at once and disables the comparator. -/
  | tmrForceCmp (tmr : Fin 16)
  /-- TMR_COMPARE (R366). COUNT equals CMP: the flag is set and the output, interrupt and slaves act. -/
  | tmrCompare (tmr : Fin 16)
  /-- TMR_END (R366). COUNT equals TOP: RUN clears and the output, interrupt and slave triggers act. -/
  | tmrEnd (tmr : Fin 16)
  /-- TMR_CAPTURE (R369). A capture edge copies COUNT into CAP and sets CAP_VALID or CAP_OVR. -/
  | tmrCapture (tmr : Fin 16)
  /-- TMR_CAP_READ (R369). A read of CAP returns the captured count and clears CAP_VALID. -/
  | tmrCapRead (tmr : Fin 16)
  /-- TMR_CMP_WRITE (R368). A write to CMP goes straight to the live comparator. -/
  | tmrCmpWrite (tmr : Fin 16) (val : Word)
  /-- TMR_TOP_WRITE (R368). A write to TOP goes straight to the live comparator. -/
  | tmrTopWrite (tmr : Fin 16) (val : Word)
  /-- TMR_MODE_WRITE (R370). A MODE write sets master and slave behaviour, and a self or higher master is ignored with
  TMR_CONFIG_INVALID. -/
  | tmrModeWrite (tmr : Fin 16) (val : Word)
  /-- MOTION_CHANGED (R371). The pulse count crosses THRESH, or stays below it for CLEAR_S, so MOVING_PULSE changes. -/
  | motionChanged
  /-- FUNCTION_LEVEL_RESET (R261). A Function Level Reset stops host-memory access, deletes rings other than ring 0 and discards
  completions. -/
  | functionLevelReset
  /-- BUS_MASTER_ENABLE_CLEAR (R261). A clear of Bus Master Enable acts as a Function Level Reset on the rings. -/
  | busMasterEnableClear
  /-- DOORBELL_SQ_TAIL (R272). A doorbell write with SQ_VALID sets the submission tail. -/
  | doorbellSqTail (ring : Fin 1024) (val : BitVec 64) (bytes : Nat)
  /-- DOORBELL_CQ_HEAD (R273). A doorbell write with CQ_VALID releases completion entries. -/
  | doorbellCqHead (ring : Fin 1024) (val : BitVec 64) (bytes : Nat)
  /-- DOORBELL_ARM (R282). A doorbell write with ARM re-arms the ring's interrupt. -/
  | doorbellArm (ring : Fin 1024) (val : BitVec 64) (bytes : Nat)
  /-- DESCRIPTOR_ADMIT (R276). Once a completion slot and a tag are free, the ring engine reads the descriptor at the fetch head
  and runs the transport checks. -/
  | descriptorAdmit (ring : Fin 1024) (tag : Tag) (read : HostRead)
  /-- RING_ERROR (R286). A descriptor read fails, so the ring enters ERROR. -/
  | ringError (ring : Fin 1024)
  /-- COMPLETION_WRITE (R278). A command's response and completion entry are written once its checkpoint has completed, and its
  tag is freed. -/
  | completionWrite (tag : Tag)
  /-- VECTOR_FIRE (R282). An armed ring's vector fires on COAL_COUNT entries or on COAL_TIME expiry. -/
  | vectorFire (ring : Fin 1024) (waited : Bool := false)
  /-- EVENTS_LOST (R294). At a ring's next free slot, one EVENTS_LOST completion reports the events counted as lost. -/
  | eventsLost (ring : Fin 1024)
  /-- RING_DRAIN_END (R287). A ring awaiting RING_RESET or RING_DELETE has no tag left in flight, so the reset or deletion acts. -/
  | ringDrainEnd (ring : Fin 1024)
  /-- QSPI_READ (R262). A quad-SPI READ transaction returns bytes from the mapped address. -/
  | qspiRead (addr : BitVec 24) (len : Nat) (frameErr : Bool)
  /-- QSPI_WRITE (R262). A quad-SPI WRITE transaction writes bytes to the mapped address, with width, alignment and address
  checks. -/
  | qspiWrite (addr : BitVec 24) (data : List Byte) (frameErr : Bool)
  /-- QSPI_STATUS (R262). A quad-SPI STATUS transaction returns the status of the last READ or WRITE. -/
  | qspiStatus
  /-- RING_CREATE (R288). Creates a ring pair with its attributes, and a secure ring with owner authentication. -/
  | ringCreate (tag : Tag)
  /-- RING_DELETE (R287). Starts the deletion of a ring once its tags drain, and aborts its open stage. -/
  | ringDelete (tag : Tag)
  /-- RING_RESET (R287). Resets an ERROR ring's pointers and phase once its tags drain. -/
  | ringReset (tag : Tag)
  /-- RING_MODIFY (R287). Changes a ring's quota, masks, privileges, vector or coalescing. -/
  | ringModify (tag : Tag)
  /-- ABORT (R285). Aborts a named descriptor according to the state word of its tag. -/
  | abortCmd (tag : Tag) (posted : BitVec 16)
  /-- EVENT_SUBSCRIBE (R302). Replaces the ring's 256-bit event subscription. -/
  | eventSubscribe (tag : Tag)
  /-- STAGE_BEGIN (R223). Opens the device stage for the submitting ring. -/
  | stageBegin (tag : Tag)
  /-- STAGE_COMMIT (R224). Commits the stage, to be applied in steps from the next charge-frame boundary. -/
  | stageCommit (tag : Tag)
  /-- STAGE_ABORT (R226). Discards the stage before step 0, or reports COMMIT_IN_PROGRESS. -/
  | stageAbort (tag : Tag)
  /-- PATH_MAP_LOAD (R28). Checks a path map and places it in the stage. -/
  | pathMapLoad (tag : Tag)
  /-- MITTEN_CONFIG (R66). Merges mitten parameter records into the staged set and checks them. -/
  | mittenConfig (tag : Tag)
  /-- SOURCE_CONFIG (R94). Merges source parameter records into the staged set and checks them. -/
  | sourceConfig (tag : Tag)
  /-- STRING_CONFIG (R127). Merges string parameter records into the staged set and checks them. -/
  | stringConfig (tag : Tag)
  /-- STRING_PROGRAM (R135). Checks a charge program and places it in the stage. -/
  | stringProgram (tag : Tag)
  /-- PROFILE_SET (R228). Stages the four service-profile weights. -/
  | profileSet (tag : Tag)
  /-- MEAS_SEQUENCE (R163). Checks a unit's measurement sequence and places it in the stage. -/
  | measSequence (tag : Tag)
  /-- ACC_CONFIG (R192). Stages an accumulator's mode and parameters. -/
  | accConfig (tag : Tag)
  /-- MMX_CONFIG (R200). Stages a tracker's window test. -/
  | mmxConfig (tag : Tag)
  /-- MITTEN_START (R86). Requests a start of a STOPPED mitten, which begins its gauntlet. -/
  | mittenStart (tag : Tag)
  /-- MITTEN_STOP (R86). Stops a mitten within one tick plus one PERIOD. -/
  | mittenStop (tag : Tag)
  /-- STRING_START (R151). Starts a string's program. -/
  | stringStart (tag : Tag)
  /-- STRING_STOP (R305). Stops a string's program. -/
  | stringStop (tag : Tag)
  /-- RETURN_TO_SERVICE (R240). Returns a retired unit, or the measurement reference, to service when its cause has gone. -/
  | returnToService (tag : Tag)
  /-- LEND_START (R117). Starts a lend on a lend edge after the refusal checks. -/
  | lendStart (tag : Tag)
  /-- LEND_STOP (R119). Ends a running lend with reason HOST_STOP. -/
  | lendStop (tag : Tag)
  /-- MOTION_SET (R305). Sets the host MOVING flag. -/
  | motionSet (tag : Tag)
  /-- SHED (R222). Class-0 command that drives every member of the named mittens low through the protection latch and stops them. -/
  | shed (tag : Tag)
  /-- DISCONNECT (R307). Class-0 command that demands the named switches OFF and holds the named mittens STOPPED, or lifts that
  demand. -/
  | disconnect (tag : Tag)
  /-- HOLD (R307). Class-0 command that freezes the named switches, strings and mittens, or lifts that demand. -/
  | hold (tag : Tag)
  /-- MEAS_FILTER_SYNC (R188). Schedules synchronising resets of the named filter entries. -/
  | measFilterSync (tag : Tag)
  /-- MEAS_PAIR_CAPTURE (R180). Starts an equivalent-time capture on a unit pair. -/
  | measPairCapture (tag : Tag)
  /-- ACC_CLEAR (R198). Clears a range of accumulators at once. -/
  | accClear (tag : Tag)
  /-- MMX_READ (R202). Returns tracker records and optionally clears the trackers. -/
  | mmxRead (tag : Tag)
  /-- IMPEDANCE_RUN (R204). Accepts an impedance run on a string after the refusal checks. -/
  | impedanceRun (tag : Tag)
  /-- IMPEDANCE_ABORT (R308). Ends a string's impedance run with reason HOST_ABORT. -/
  | impedanceAbort (tag : Tag)
  /-- IMPEDANCE_READ (R208). Returns the result record of a string's latest run. -/
  | impedanceRead (tag : Tag)
  /-- SELF_TEST (R249). Starts the cold-start diagnostic set on the idle units. -/
  | selfTest (tag : Tag)
  /-- SELF_TEST_DONE (R249). Every self-test has ended, so the command completes with the number of findings. -/
  | selfTestDone (conv : List TestConv) (scrub : Nat := 0)
  /-- STATUS_READ (R309). Returns status records of the device, mittens, sources, strings or buses. -/
  | statusRead (tag : Tag)
  /-- RECORD_READ (R310). Returns log records from FROM_SEQ onward. -/
  | recordRead (tag : Tag) (cut : Option Nat := none)
  /-- BRIM_READ (R310). Returns the brim table. -/
  | brimRead (tag : Tag)
  /-- BRIM_FLOOR_SET (R256). Sets the FLOOR of the named brim rows. -/
  | brimFloorSet (tag : Tag)
  /-- AGEING_REBASE (R250). Discards an aged item's baseline so that a new one is formed. -/
  | ageingRebase (tag : Tag)
  /-- POWER_STATE (R312). Accepts a transition to SLEEP, DEEP or SHIP at the next policy frame. -/
  | powerState (tag : Tag)
  /-- POWER_STATE_ENTRY (R385). At the policy-frame boundary the device enters SLEEP, DEEP or SHIP in the stated order. -/
  | powerStateEntry (aonCount : Nat)
  /-- WAKE_N_LOW (R386). WAKE_N stays low for 10 ms on the AON clock and wakes the device. -/
  | wakeNLow
  /-- SOURCE_WAKE_COMPARATOR (R121). An armed source stays above its wake threshold for WAKE_DEB in DEEP or SHIP, which wakes the
  device. -/
  | sourceWakeComparator (src : Fin 12) (ballUv : Nat := 0) (fell : Bool := false)
  /-- DEVICE_RESTART (R311). Performs a hitless warm start, or a cold reset 1 ms after completion. -/
  | deviceRestart (tag : Tag) (start : StartIn)
  /-- TIME_READ (R311). Returns device time, epoch, quality and anchor. -/
  | timeRead (tag : Tag)
  /-- TIME_ANCHOR (R311). Stores the host time with the device time and clears the uncertainty. -/
  | timeAnchor (tag : Tag)
  /-- UPDATE_MANIFEST (R414). Checks an update manifest and records it for the target slot. -/
  | updateManifest (tag : Tag)
  /-- UPDATE_PIECE (R416). Verifies, programs and marks update pieces. -/
  | updatePiece (tag : Tag) (badRead : Option Nat) (cut : Option Nat := none)
  /-- UPDATE_STATUS (R417). Returns the update state and bitmap. -/
  | updateStatus (tag : Tag)
  /-- UPDATE_ACTIVATE (R419). Tests the activation conditions and starts activation of the target slot. -/
  | updateActivate (tag : Tag) (start : StartIn)
  /-- ACTIVATION_RESUME (R420). After the stepping commit ends, the waiting activation verifies the slot, switches ACTIVE_SLOT and
  warm-starts. -/
  | activationResume (start : StartIn)
  /-- UPDATE_CANCEL (R415). Discards the held manifest and bitmap. -/
  | updateCancel (tag : Tag)
  /-- OWNER_LOCK (R428). Sets or clears the owner lock under owner authentication. -/
  | ownerLock (tag : Tag)
  /-- KEY_UPDATE (R427). Writes a new owner key record into the inactive key slot. -/
  | keyUpdate (tag : Tag)
  /-- MBX_PTR_STAGE (R320). A write stages the pointer of the next notice. -/
  | mbxPtrStage (agent : Fin 128) (secure : Bool) (box : Fin 64) (val : Word)
  /-- MBX_SEND (R320). A write sends a notice into an empty mailbox, or is rejected with a bus error when it is full. -/
  | mbxSend (agent : Fin 128) (secure : Bool) (box : Fin 64) (val : Word)
  /-- MBX_RECV (R321). A receiver's read takes the pending notice and clears FULL. -/
  | mbxRecv (agent : Fin 128) (secure : Bool) (box : Fin 64) (wide : Bool := false)
  /-- LCK_TAKE (R325). A read takes a free lock or reports its owner, or returns 127 for an order violation. -/
  | lckTake (agent : Fin 128) (secure : Bool) (lock : Fin 64)
  /-- LCK_RELEASE (R327). The owner's RELEASE write frees the lock and clears BROKEN. -/
  | lckRelease (agent : Fin 128) (secure : Bool) (lock : Fin 64) (val : Word)
  /-- ACC_SUM_LO_READ (R196). A read of SUM_LO latches the rest of the accumulator for that reader. -/
  | accSumLoRead (reader : Fin 128) (acc : Fin 512)
  /-- MMX_MIN_READ (R201). A read of MIN latches the tracker's other registers for that reader. -/
  | mmxMinRead (reader : Fin 128) (mmx : Fin 256)
  /-- RC_READ (R437). A full-width read of a register with RC fields returns and clears those fields. -/
  | rcRead (off : BitVec 24) (bytes : Nat) (agent : Fin 128 := 98) (secure : Bool := false)
  /-- W1C_WRITE (R7). A write of 1 clears W1C bits such as GLB_EVSTAT, pending vectors and timer flags. -/
  | w1cWrite (off : BitVec 24) (val : Word)
  /-- BEHAVIOUR_LEVEL_WRITE (R442). A write of GLB_BEHAV requests a behaviour level, which is judged by lock and range. -/
  | behaviourLevelWrite (val : Word)
  /-- AUXMODE_WRITE (R443). A GLB_AUXMODE write sets the AUX port modes, and is ignored whole if it changes a port in use. -/
  | auxmodeWrite (hi : Bool) (val : Word)
  /-- PH_SETUP_WRITE (R48). A write to a phase's static set-up takes effect according to the phase state. -/
  | phSetupWrite (ph : Fin 64) (reg : Fin 6) (val : Word)
  /-- BUF_EN_WRITE (R176). A write of MU_REF_CTRL.BUF_EN enables the reference buffer, or is refused while mittens or strings are
  active. -/
  | bufEnWrite (val : Word)
  /-- HIF_ENABLE (R293). A write of ENABLE = 1 creates ring 0 from the HIF registers, or is ignored with ADMIN_CONFIG_INVALID. -/
  | hifEnable (val : Word)
  /-- HIF_DISABLE (R293). A write of ENABLE = 0 deletes all rings, writing the completions of tags in flight. -/
  | hifDisable (val : Word)
  /-- TWC_TIMING_WRITE (R346). A write of a controller timing field is raised to the grade minimum, or capped for TDH. -/
  | twcTimingWrite (port : Fin 4) (reg : Fin 4) (val : Word)
  /-- CAN_ENABLE_WRITE (R349). A write of EN = 1 enables a CAN controller, or is ignored with CAN_CONFIG_INVALID. -/
  | canEnableWrite (can : Fin 2) (val : Word)
  /-- CHAIN_ENABLE (R355). A write of CHN_CTRL.EN starts training of the chain port. -/
  | chainEnable (val : Word)
  /-- SETUP_REGISTER_WRITE (R439). A write to a register with no row of its own is applied, or ignored with ACCESS_WIDTH,
  ACCESS_ALIGN, SETUP_WRITE_IGNORED or SETUP_VALUE_INVALID. -/
  | setupRegisterWrite (off : BitVec 24) (data : List Byte)
  /-- JTAG_INSTRUCTION (R235). A boundary-scan instruction is accepted while RESET_N is low, and otherwise runs as BYPASS with
  JTAG_REFUSED. -/
  | jtagInstruction (ir : BitVec 8) (drives : Bool) (resetLow : Bool)
  /-- TWT_WRITE_TRANSFER (R337). A two-wire write to a target port sets the pointer and writes window bytes. -/
  | twtWriteTransfer (port : Fin 2) (addr : BitVec 7) (data : List Byte)
  /-- TWT_READ_TRANSFER (R337). A two-wire read snapshots the target window and returns bytes from the pointer. -/
  | twtReadTransfer (port : Fin 2) (addr : BitVec 7) (len : Nat)
  /-- IN_BAND_REQUEST (R340). With events pending, the hatband holds SDA low after the bus has been idle for 50 µs. -/
  | inBandRequest
  /-- REQUEST_ACKNOWLEDGE (R340). The controller holds SCL low for 4 µs, so the hatband releases SDA and counts the request
  served. -/
  | requestAcknowledge
  /-- REQUEST_TIMEOUT (R340). No acknowledge arrives within 2 ms, so SDA is released and the next request waits 10 ms. -/
  | requestTimeout
  /-- HATBAND_STATUS (R343). Hatband command that returns a STATUS_READ record. -/
  | hatbandStatus
  /-- HATBAND_TIME (R343). Hatband command that returns the TIME_READ data. -/
  | hatbandTime
  /-- HATBAND_MOTION (R343). Hatband command that acts as MOTION_SET. -/
  | hatbandMotion
  /-- HATBAND_POWER (R343). Hatband command that acts as POWER_STATE. -/
  | hatbandPower
  /-- HATBAND_WAKE (R343). Hatband command that wakes the device to RUN. -/
  | hatbandWake
  /-- HATBAND_UPDATE_CHUNK (R343). Hatband command that adds 16 bytes to a manifest or piece and passes whole items to the update
  process. -/
  | hatbandUpdateChunk (readOk : Bool)
  /-- PACK_MONITOR_POLL (R344). At each PM_PERIOD, a controller port polls a pack monitor's record. -/
  | packMonitorPoll (port : Fin 4) (str : Fin 16) (reply : PollReply)
  /-- TWC_ARBITRATION_LOST (R345). A controller loses arbitration on a bit, releases the bus and retries after T_ID. -/
  | twcArbitrationLost (port : Fin 4)
  /-- TWC_ARB_LOST_COND (R345). A controller loses arbitration while driving a STOP or repeated START, and the poll is missed. -/
  | twcArbLostCond (port : Fin 4)
  /-- TWC_TIMEOUT (R345). SCL is stretched beyond STRETCH_TO, so the port releases the bus and recovers SDA. -/
  | twcTimeout (port : Fin 4)
  /-- CAN_FRAME_RECEIVED (R350). A filtered CAN frame is stored in its buffer, or discarded as short. -/
  | canFrameReceived (can : Fin 2) (ident : BitVec 29) (ide : Bool) (data : List Byte)
  /-- CAN_STATUS_FRAME (R351). At each TX_PERIOD, the controller sends the status frame. -/
  | canStatusFrame (can : Fin 2)
  /-- CAN_ERROR_PASSIVE (R352). The controller becomes error passive. -/
  | canErrorPassive (can : Fin 2)
  /-- CAN_BUS_OFF (R352). The controller goes bus-off. -/
  | canBusOff (can : Fin 2)
  /-- CAN_BUS_OFF_RECOVERY (R352). After 128 occurrences of 11 recessive bits, the controller rejoins the bus. -/
  | canBusOffRecovery (can : Fin 2)
  /-- CHAIN_SYMBOL_LOCK (R355). The receiver gains symbol lock, so the device leaves TRAINING for ELECTING. -/
  | chainSymbolLock
  /-- CHAIN_FORMED (R355). Election and position counting end, the crown starts tick frames and the chain is FORMED. -/
  | chainFormed (form : Formation)
  /-- CHAIN_FRAME (R356). A chain tick frame is received whole, checked, updated in the device's own slot and forwarded. -/
  | chainFrame (frame : List Byte) (codeErr : Bool) (side : ChainSide := {})
  /-- CHAIN_INTERLEAVE (R358). An INTERLEAVE message sets a shared mitten's total count, bases and switch tick. -/
  | chainInterleave (msg : List Byte)
  /-- CHAIN_ORDER (R358). An ORDER message schedules a power-state change at a named tick. -/
  | chainOrder (msg : List Byte)
  /-- CHAIN_CONFIG_CHECK (R358). A CONFIG_CHECK message lets each device compare a shared mitten's hash. -/
  | chainConfigCheck (msg : List Byte)
  /-- CHAIN_EVENT (R358). An EVENT message carries an event across the chain and is re-sent by the crown. -/
  | chainEvent (msg : List Byte)
  /-- MANIFEST_CHUNK (R358). A relayed manifest chunk is assembled, and a whole manifest is checked as UPDATE_MANIFEST. -/
  | manifestChunk (msg : List Byte)
  /-- PIECE_CHUNK (R358). A relayed piece chunk is assembled, and a whole piece is handled as UPDATE_PIECE. -/
  | pieceChunk (msg : List Byte) (readOk : Bool)
  /-- CHAIN_LOST (R360). No valid marker or frame arrives for 2 ticks, so a follower becomes ISOLATED or the crown clears PART. -/
  | chainLost
  /-- CHAIN_FRAMES_RETURN (R360). Frames return, so devices are re-admitted and a follower re-locks and steps its grid. -/
  | chainFramesReturn (present : BitVec 16)
  /-- SYNC_EDGE (R362). A SYNC input edge locks the grid, and bad or good edge runs raise SYNC_LOST or SYNC_RELOCKED. -/
  | syncEdge (period : Nat) (off : Int) (width : Nat := 0)
  /-- ROM_HELLO (R432). Recovery ROM command that returns identity, BOOT_FAILS, SEC_STATUS and slot states. -/
  | romHello (pkt : List Byte) (att : RomAtt := .window)
  /-- ROM_MANIFEST (R432). Recovery ROM command that assembles a manifest for a slot and checks it when whole. -/
  | romManifest (pkt : List Byte) (att : RomAtt := .window)
  /-- ROM_PIECE (R432). Recovery ROM command that programs a piece into the named slot. -/
  | romPiece (pkt : List Byte) (readOk : Bool) (att : RomAtt := .window)
  /-- ROM_BITMAP (R432). Recovery ROM command that returns the slot's piece bitmap. -/
  | romBitmap (pkt : List Byte) (att : RomAtt := .window)
  /-- ROM_COMMIT (R432). Recovery ROM command that verifies a slot, makes it active and starts a cold start. -/
  | romCommit (pkt : List Byte) (verified : Bool) (boot : BootIn) (att : RomAtt := .window)
  /-- ROM_RESET (R432). Recovery ROM command that clears BOOT_FAILS and starts a cold start. -/
  | romReset (pkt : List Byte) (boot : BootIn) (att : RomAtt := .window)
  /-- IDEAL_DIODE_TURN_OFF (R14). The port hardware turns an IDEAL_DIODE pair off within 1 µs when reverse current exceeds IREV. -/
  | idealDiodeTurnOff (port : Fin 28)
  /-- IDEAL_DIODE_TURN_ON (R14). The port hardware turns an IDEAL_DIODE pair on when the terminal exceeds the tied bus by more
  than VON. -/
  | idealDiodeTurnOn (port : Fin 28)
  /-- QUAD_SUPPLY_RECOVERY (R61). A quad supply returns into its window, which lets the retry of its four FAULTED phases proceed. -/
  | quadSupplyRecovery (quad : Fin 16)
  /-- LINER_SOFT_START_REPEAT (R393). The 1 s low hold after a BUS0 collapse expires and the liner's soft start repeats. -/
  | linerSoftStartRepeat (busUv : Int := 0)
  /-- LINER_OVERVOLTAGE_RELEASE (R393). BUS0 falls back below the target after a liner overvoltage hold, so the liner outputs
  resume. -/
  | linerOvervoltageRelease (busUv : Int := 0)
  /-- TMR_COUNTED_EDGE (R365). A counted edge increments COUNT of a running timer, from the divided clock, the AON clock, an AUX
  input or the master's compare. -/
  | tmrCountedEdge (tmr : Fin 16)
  /-- PCIE_LINK_L0 (R284). The PCI Express link reaches L0, so the device releases WAKE#. -/
  | pcieLinkL0 (wide : Bool) (speed : Fin 3) (msixEn : Bool) (msixMask : Bool) (bme : Bool := true)
  /-- PCIE_CONVENTIONAL_RESET (R259). A conventional PCI Express reset arrives on PCIE_PERST_N. -/
  | pcieConventionalReset
  deriving DecidableEq, Repr

end Sys2Proof
end

