-- ==== Sys2Proof/Config.lean ====
section
/-! DEFINITION. What one part fixes (fuses, image) and the values the spec leaves open (free values, no body). -/

namespace Sys2Proof.Config

/-- DESIGN CHOICE (log 10): OTP fuse WDT_HW_START of R372, here 0: firmware starts the watchdog. -/
def wdtHwStart : Bool := false
/-- DESIGN CHOICE (log 10): OTP fuse WDT_WINDOW[1:0] of R372, here 0: the service window opens at 0 %. -/
def wdtWindow : Nat := 0
/-- DESIGN CHOICE (log 10): OTP bit LINER_PAIRS of R390. -/
def linerPairs : Bool := false
/-- DESIGN CHOICE (log 10): OTP field LINER_OTP_V of R390, mV. -/
def linerOtpV : Nat := 28000
/-- DESIGN CHOICE (log 10): OTP field LINER_OTP_RATIO of R390. -/
def linerOtpRatio : Nat := 25
/-- The silicon revision letter, C (R440). -/
def siliconRev : Nat := 0x43
/-- The running release of the image, 4.2.0 (R9, R440). -/
def fwMajor : Nat := 4
/-- Minor release number (R440). -/
def fwMinor : Nat := 2
/-- Patch release number (R440). -/
def fwPatch : Nat := 0
/-- Highest behaviour level of release 4.2.0 (R441). -/
def behaviourMax : Nat := 3

/-- A free 32-bit value: one the spec leaves open after a command that goes on (log 6). -/
opaque freeValue : Nat → Word
/-- The duty (0.1 %) a control law forms in one cycle from its inputs, `Dev.lawInputs`: R53 names them and gives the laws no
arithmetic (log 6). -/
opaque freeDuty : Nat → List Int → Nat
/-- The predicted phase current, mA, from the inputs of `Dev.predInputs` (R53): the prediction's arithmetic is not given
(log 6). -/
opaque freePrediction : Nat → List Int → Int
/-- A late sample as the law corrects it with the predicted slope (R55): the sample, how late it is in engine clocks, and the
inputs of the prediction; the arithmetic is not given (log 6). -/
opaque freeCorrected : Nat → List Int → Int
/-- A mitten's measured efficiency in percent before clamping (R74): how it is measured is not given (log 6). -/
opaque freeEta : Nat → Nat
/-- The version byte of the recovery ROM (R432 HELLO): not given (log 6). -/
opaque freeRomVersion : Nat → Byte
/-- SHA-256 (R412), taken as an uninterpreted function (log 9). -/
opaque sha256 : List Byte → BitVec 256
/-- ECDSA P-256 verification of a digest under a key (R414, R425), uninterpreted (log 9). -/
opaque ecdsaVerify : List Byte → BitVec 256 → List Byte → Bool
/-- The first 8 bytes of the GMAC tag of a secure descriptor (R268): key, IV, data; uninterpreted (log 9). -/
opaque gmac : List Byte → List Byte → List Byte → BitVec 64
/-- AES-256-GCM decryption (R411, R423, R425): key, IV, ciphertext, tag; none on a tag mismatch (log 9). -/
opaque gcmDecrypt : List Byte → List Byte → List Byte → List Byte → Option (List Byte)
/-- SHA-256 of the vendor root key, an OTP value (R414 UM03), uninterpreted (log 9). -/
opaque vendorKeyHash : Nat → BitVec 256

/-- The offset, from 0x8008 on, of the word of the FRM status block that reports MAP_ID (R31): R220 gives it no place (log 84). -/
opaque mapIdWord : Nat → Fin 62

/-- The direction code in the data of MMX_WINDOW (R200): its coding is not given (log 6). -/
opaque windowDir : Bool → BitVec 16
/-- The reason codes of MEAS_CAPTURE_DONE (R180, R181), by 0 complete, 1 no trigger, 2 MODE, 3 FAULT: their coding is not
given (log 6). -/
opaque captureReason : Nat → BitVec 16

/-- The 8-byte hash of the items of a shared mitten (R358): its function is not given (log 6). -/
opaque sharedHash : List Byte → BitVec 64
/-- The crown's sense of a shared mitten's regulated node, mV (R91): no field of a frame carries it (log 6). -/
opaque freeCrownSense : Nat → Int

end Sys2Proof.Config
end

