-- ==== Sys2Proof/Machine/State.lean ====
section
/-! DEFINITION. The state of the AT9640 as plain data; a field's default is its value right after reset. -/

namespace Sys2Proof.Machine

/-! ### Enumerations -/

/-- Phase states in the row order of R41. -/
inductive PhaseSt where
  | unpowered | idle | gauntlet | active | shed | faulted | retired
  deriving DecidableEq, Repr

/-- Mitten states in the row order of R69. -/
inductive MittenSt where
  | stopped | gauntlet | softstart | run | standby | faulted | retired
  deriving DecidableEq, Repr

/-- Source states in the row order of R96. -/
inductive SourceSt where
  | disabled | absent | qualifying | available | selected | rideThrough | lending | holdoff | faulted | retired
  deriving DecidableEq, Repr

/-- String states in the row order of R129. -/
inductive StringSt where
  | disabled | absent | precharge | running | paused | lent | stopped | faulted | retired
  deriving DecidableEq, Repr

/-- Path switch modes (R14), coded as DEFAULT_MODE (R23). -/
inductive SwMode where
  | off | on | idealDiode
  deriving DecidableEq, Repr

/-- Power states in the code order of R309. -/
inductive PowerSt where
  | off | ship | deep | sleep | liner | run | limp | recovery
  deriving DecidableEq, Repr

/-- Kinds of start (R396), coded as PWR_STATUS.START_KIND (R406). -/
inductive StartKind where
  | cold | wake | warm
  deriving DecidableEq, Repr

/-- Per-cycle control laws (R53), in the code order of R299. -/
inductive Law where
  | peak | avg | pred | burst
  deriving DecidableEq, Repr

/-- Mismatch-correction states (R173). -/
inductive CorrSt where
  | off | acquiring | converged | reacquiring | degraded
  deriving DecidableEq, Repr

/-- Direction change of a mitten (R77): none, zero commanded, waiting for the members' swap. -/
inductive DirSt where
  | none | zeroing | swapping
  deriving DecidableEq, Repr

/-- The liner (R392, R393). -/
inductive LinerSt where
  | off | test | running | heldHigh | collapsed | failed
  deriving DecidableEq, Repr

/-- Quality of SOC (R145), in the code order of R309. -/
inductive SocQ where
  | anchored | drifting | stale
  deriving DecidableEq, Repr

/-- Ring states (R286). -/
inductive RingSt where
  | none | active | error | deleting
  deriving DecidableEq, Repr

/-- The stages of a tag (R285): admitted, executed and awaiting its checkpoint, completion due. -/
inductive TagSt where
  | admitted | executing | awaiting | due
  deriving DecidableEq, Repr

/-- The stage of the staged configuration (R220 STAGE). -/
inductive StageSt where
  | none | opened | stepping
  deriving DecidableEq, Repr

/-- Update states (R417). -/
inductive UpdSt where
  | none | receiving | ready | activating
  deriving DecidableEq, Repr

/-- Chain port states (R363). -/
inductive ChainSt where
  | off | training | electing | formed | isolated
  deriving DecidableEq, Repr

/-- Accumulator modes (R193). -/
inductive AccMode where
  | sum | sumsq | windowMean | demod | demodQ
  deriving DecidableEq, Repr

/-- What holds a converter slice (R167). -/
inductive SliceUse where
  | background | urgent (ph : Nat) | correction | window
  deriving DecidableEq, Repr

/-- Whether a use is an urgent conversion. -/
def SliceUse.isUrgent : SliceUse → Bool
  | .urgent _ => true
  | _ => false

/-- A converter slice (R152): what holds it or held it last, the engine clocks of device time at which that began and ends, and the
interval of its samples in a pair window. -/
structure Slice where
  use   : SliceUse := .background
  start : Nat := 0
  till  : Nat := 0
  every : Nat := 0
  deriving DecidableEq, Repr

/-- An urgent request that waits for a slice (R55): its phase, the clocks it takes, when it was made, and its trigger. -/
structure Urgent where
  ph   : Nat
  dur  : Nat
  at0  : Nat
  trig : Nat := 0
  deriving DecidableEq, Repr

/-- In-band service request of the hatband (R340). -/
inductive ReqSt where
  | idle | holding | served | backoff
  deriving DecidableEq, Repr

/-! ### The retry record -/

/-- The retry record of a unit (R238): start times (ns) of its retries, the backoff in force (ms), and the event
number of the fault that started it; and the time at which a fault retired the unit. -/
structure Ladder where
  retries : List Nat := []
  backoff : Option Nat := .none
  cause   : Nat := 0
  gone    : Option Nat := .none
  deriving DecidableEq, Repr

/-! ### The path map (R20-R26) -/

/-- A source or string entry (R23). -/
structure PortEntry where
  type     : Nat := 0
  place    : Nat := 0
  tieBus   : Nat := 0
  allowed  : BitVec 3 := 0
  defMode  : Nat := 0
  share    : Nat := 0
  vMin     : Int := 0
  vMax     : Int := 0
  iRated   : Int := 0
  vClose   : Nat := 0
  von      : Nat := 0
  irev     : Nat := 0
  cells    : Nat := 0
  chem     : Nat := 0
  capacity : Int := 0
  deriving DecidableEq, Repr

/-- A bus entry (R24). -/
structure BusEntry where
  enable  : Bool := false
  vTarget : Int := 0
  vMin    : Int := 0
  vMax    : Int := 0
  vSupp   : Int := 0
  cBus    : Nat := 0
  deriving DecidableEq, Repr

/-- A mitten entry (R25). -/
structure MitEntry where
  topo   : Nat := 0
  fromN  : Nat := 0
  toN    : Nat := 0
  lend   : Bool := false
  shared : Bool := false
  phases : BitVec 64 := 0
  iMax   : Int := 0
  lNom   : Nat := 0
  deriving DecidableEq, Repr

/-- A sense entry (R26). -/
structure SenseEntry where
  mode   : Nat := 0
  invert : Bool := false
  unit   : Nat := 0
  fsEng  : Int := 0
  offset : Int := 0
  deriving DecidableEq, Repr

/-- The path map in force or staged (R20); the default map is R31's. -/
structure PathMap where
  mapId : Nat := 0
  srcs  : List PortEntry := List.replicate 12 {}
  buses : List BusEntry := List.replicate 4 {}
  strs  : List PortEntry := List.replicate 16 {}
  mits  : List MitEntry := List.replicate 16 {}
  sense : List SenseEntry := List.replicate 176 {}
  deriving DecidableEq, Repr

/-! ### Parameter sets -/

/-- A unit's parameter set as commands gave it: (ID of R299, value); an ID not listed has its default. -/
abbrev ParamSet := List (Nat × Int)

/-- One exit condition of a program step (R131). -/
structure ExitCond where
  code    : Nat := 0
  next    : Nat := 0
  confirm : Nat := 0
  a       : Int := 0
  b       : Int := 0
  deriving DecidableEq, Repr

/-- One step of a charge program (R131). -/
structure Step where
  type  : Nat := 0
  comp  : Bool := false
  imp   : Bool := false
  tieOk : Bool := false
  vCell : Int := 0
  iStep : Int := 0
  pStep : Int := 0
  exits : List ExitCond := []
  deriving DecidableEq, Repr

/-- A charge program (R130). -/
structure Program where
  start   : Nat := 0
  tcomp   : Int := 0
  tRef    : Int := 2500
  tcompLo : Int := 0
  tcompHi : Int := 4000
  tChgLo  : Int := 0
  tChgHi  : Int := 0
  progId  : Nat := 0
  steps   : List Step := []
  deriving DecidableEq, Repr

/-- The four service-profile weights (R228). -/
structure Profile where
  e : Nat := 40
  r : Nat := 30
  p : Nat := 20
  m : Nat := 10
  deriving DecidableEq, Repr

/-- One entry of a measurement sequence (R160). -/
structure SeqEntry where
  input   : Nat := 0
  ts      : Nat := 4
  gain    : Nat := 0
  precise : Bool := false
  tap     : Bool := false
  samples : Nat := 0
  accA    : Nat := 0xFFFF
  accB    : Nat := 0xFFFF
  mmx     : Nat := 0xFFFF
  shiftOrd : Nat := 0
  decim   : Nat := 0
  deriving DecidableEq, Repr

/-- A measurement sequence (R159). -/
structure Sequence where
  period   : Nat := 0
  crossSel : Nat := 0xFF
  entries  : List SeqEntry := []
  deriving DecidableEq, Repr

/-- ACC_CONFIG parameters (R192). -/
structure AccCfg where
  mode    : AccMode := .sum
  window  : Nat := 1000
  ref     : Nat := 0
  refFreq : Nat := 0
  periods : Nat := 0
  deriving DecidableEq, Repr

/-- MMX_CONFIG parameters (R200). -/
structure MmxCfg where
  winEn   : Bool := false
  lo      : Int := 0
  hi      : Int := 0
  hyst    : Int := 0
  persist : Nat := 1
  deriving DecidableEq, Repr

/-! ### Phases and mittens -/

/-- The writable set-up registers of a phase (R444), at their reset values. -/
structure PhRegs where
  dt   : Word := 0x0014FFFF
  ocp  : Word := 0
  prot : Word := 0x08001028
  t1   : Word := 0
  t2   : Word := 0
  t3   : Word := 0
  deriving DecidableEq, Repr

/-- One phase and its engine (R38-R65). The outputs of the running cycle are the high intervals of PWMH (`onTime`) and PWML
(`lowTime`) with the separations before each rises (`riseGap`, `fallGap`), in steps of 125 ps; PWML comes first where it is the
control switch (`lowFirst`); the cycle began at `cycAt` of device time and lasts `cycLen`. Both intervals are 0 while both outputs
are low. `sample` and `sampleB` are the law's samples at T0 and T1, `lastOk` the last valid one; `changes` counts the range-change
cycles; `calAt` and `calTemp` are the time and the die temperature of the delay line's last calibration (R398). `late` is by how
many engine clocks the latest sample was late, `idledAt` the tick in which a fault of its mitten made the
phase IDLE (R89). -/
structure Phase where
  st         : PhaseSt := .unpowered
  regs       : PhRegs := {}
  held       : PhRegs := {}
  range      : Nat := 0
  rangeNext  : Nat := 0
  mark       : Bool := false
  changes    : Nat := 0
  coarse     : Bool := false
  calOk      : Bool := false
  calAt      : Nat := 0
  calTemp    : Int := 0
  code       : Nat := 1023
  clamped    : Bool := false
  flt        : Bool := false
  latch      : Bool := false
  trip       : Bool := false
  ocRun      : Nat := 0
  senseRun   : Nat := 0
  suppressed : Nat := 0
  skipped    : Nat := 0
  missed     : Nat := 0
  ocTrips    : Nat := 0
  target     : Int := 0
  targetNext : Int := 0
  period     : Nat := 80000
  periodNext : Nat := 80000
  offset     : Nat := 0
  offGoal    : Nat := 0
  cycLen     : Nat := 80000
  cycAt      : Nat := 0
  revSw      : Bool := false
  sample     : Int := 0
  sampleB    : Int := 0
  lastOk     : Int := 0
  pred       : Int := 0
  late       : Nat := 0
  duty       : Nat := 0
  onTime     : Nat := 0
  lowTime    : Nat := 0
  riseGap    : Nat := 0
  fallGap    : Nat := 0
  lowFirst   : Bool := false
  burstN     : Nat := 0
  law        : Law := .avg
  peak       : Nat := 0
  cyc        : Nat := 64
  gntPass    : Bool := false
  lowRun     : Nat := 0
  badCyc     : Bool := false
  rejoin     : Bool := false
  idledAt    : Option Nat := .none
  lad        : Ladder := {}
  deriving DecidableEq, Repr

/-- A running gauntlet (R82): the timed step to end next (0 sense check, 1 step 1, 2 + i the pulse of member i),
whether it is a retry, whether it checks phases that
join a running mitten (R30), whether it is a self-test that starts nothing (R249), and the members under test, ascending. -/
structure Gauntlet where
  step    : Nat := 0
  retry   : Bool := false
  join    : Bool := false
  test    : Bool := false
  members : List Nat := []
  deriving DecidableEq, Repr

/-- What the ticks of one policy frame gather for an ageing measurement (R251): whether its condition held in all of them, sums,
and the extremes of one quantity. -/
structure AgeFrame where
  ok : Bool := true
  n  : Nat := 0
  v  : Int := 0
  i  : Int := 0
  vi : Int := 0
  ii : Int := 0
  lo : Int := 0
  hi : Int := 0
  deriving DecidableEq, Repr

/-- One mitten (R66-R93); the ramps are kept in 10^-6 of their unit, the integral term in 10^-6 / 256 mA. -/
structure Mitten where
  st         : MittenSt := .stopped
  cfg        : ParamSet := []
  lim        : Nat := 0
  iCmd       : Int := 0
  pub        : Int := 0
  pubOld     : Int := 0
  integ      : Int := 0
  rev        : Bool := false
  dir        : DirSt := .none
  fsbb       : Nat := 0
  vSet       : Int := 0
  iSet       : Int := 0
  glide      : Bool := false
  vRamp      : Int := 0
  iRamp      : Int := 0
  engineSet  : Bool := false
  dHost      : Bool := false
  dProg      : Bool := false
  dSupp      : Bool := false
  suppCond   : Bool := false
  back       : Bool := false
  dLend      : Bool := false
  dChange    : Bool := false
  changeDue  : Bool := false
  hostStop   : Bool := false
  held       : Bool := false
  disc       : Bool := false
  lending    : Bool := false
  gnt        : Option Gauntlet := .none
  eta        : Nat := 90
  demandIn   : Int := 0
  limLast    : Nat := 0
  limFrame   : Nat := 0
  rationFrame : Bool := false
  rationWhole : Bool := false
  iSum       : Int := 0
  iN         : Nat := 0
  iAvg       : Int := 0
  agf        : AgeFrame := {}
  restAt     : Option Nat := .none
  tCold      : Option Int := .none
  zeroFrames : Nat := 0
  freq       : Nat := 100000
  dither     : Nat := 0
  syncP      : Option Nat := .none
  respread   : Bool := false
  lead       : Option Nat := .none
  nTotal     : Nat := 0
  switchTick : Nat := 0
  baseIx     : Nat := 0
  keep       : Option Nat := .none
  mismatch   : Bool := false
  peerT      : Option Nat := .none
  peerB      : Option Nat := .none
  peerL      : Option Nat := .none
  recallAt   : Option Nat := .none
  noSet      : Nat := 2
  senseBad   : Bool := false
  stopBlk    : Bool := false
  retiredAt  : Nat := 0
  retiredBy  : Nat := 0
  perturb    : Int := 0
  lad        : Ladder := {}
  deriving DecidableEq, Repr

/-! ### Sources, switches and buses -/

/-- A running lend (R116-R119). -/
structure Lend where
  mit     : Nat := 0
  vLend   : Int := 0
  iLend   : Int := 0
  eLend   : Int := 0
  tLend   : Int := 0
  rxMin   : Int := 0
  vFloor  : Int := 0
  iEnd    : Int := 0
  tEnd    : Int := 0
  donor   : Nat := 0
  charge  : Nat := 0
  startAt : Nat := 0
  stopTag : Option Nat := .none
  deriving DecidableEq, Repr

/-- A running solar scan (R109): the step (0-19), the best mean power and its current. -/
structure Scan where
  step  : Nat := 0
  bestP : Int := 0
  bestI : Int := 0
  deriving DecidableEq, Repr

/-- One source port and its engine (R94-R121); iDroop is kept in 10^-6 mA. -/
structure Source where
  st        : SourceSt := .disabled
  cfg       : ParamSet := []
  iAvail    : Int := 0
  iDroop    : Int := 0
  iTrim     : Int := 0
  iUnctrl   : Int := 0
  unSum     : Int := 0
  unN       : Nat := 0
  base      : Int := 0
  rations   : List Int := List.replicate 16 0
  surge     : Bool := false
  selAt     : Option Nat := .none
  entAt     : Option Nat := .none
  deselAt   : Option Nat := .none
  iMpp      : Option Int := .none
  mppUp     : Bool := true
  mppPrev   : Int := 0
  pAcc      : Int := 0
  pN        : Nat := 0
  scan      : Option Scan := .none
  scanAt    : Option Nat := .none
  warming   : Bool := false
  wanted    : Bool := false
  startOut  : Bool := false
  wakeAbove : Bool := false
  lend      : Option Lend := .none
  rxMin     : Int := 0
  ripHi     : Int := 0
  ripLo     : Int := 0
  ripAny    : Bool := false
  ripBad    : Nat := 0
  lost      : Bool := false
  pendClose : Bool := false
  switchFlt : Bool := false
  agf       : AgeFrame := {}
  lad       : Ladder := {}
  deriving DecidableEq, Repr

/-- The path switch of one port (R13-R16, R32): ports 0-11 are the sources, 12-27 the strings. -/
structure Switch where
  mode    : SwMode := .off
  conduct : Bool := false
  want    : Option SwMode := .none
  blocked : Bool := false
  disc    : Bool := false
  hold    : Bool := false
  offTick : Nat := 0
  openFlt : Bool := false
  agf     : AgeFrame := {}
  lad     : Ladder := {}
  deriving DecidableEq, Repr

/-- A running capacitance measurement of a bus (R251): its mitten, the steps taken, the voltage at the last tick, the charge of the
steps (mA·ns) and the voltage they moved (mV), each by the sign of its step. -/
structure CapRun where
  mit  : Nat := 0
  n    : Nat := 0
  last : Int := 0
  q    : Int := 0
  dv   : Int := 0
  deriving DecidableEq, Repr

/-- One bus (R33, R36, R111). -/
structure Bus where
  below    : Bool := false
  uv       : Bool := false
  uvOk     : Nat := 0
  okFrames : Nat := 0
  demand   : Int := 0
  pSum     : Int := 0
  pN       : Nat := 0
  capRun   : Option CapRun := .none
  capAt    : Option Nat := .none
  deriving DecidableEq, Repr

/-! ### Strings -/

/-- An accepted pack-monitor record (R146). -/
structure PmRec where
  vMax     : Nat := 0
  vMin     : Nat := 0
  tMax     : Int := 0
  tMin     : Int := 0
  chgLim   : Nat := 0xFFFF
  dsgLim   : Nat := 0xFFFF
  chgInh   : Bool := false
  dsgInh   : Bool := false
  seq      : Nat := 0
  deriving DecidableEq, Repr

/-- One string port and its engine (R123-R151); charges are kept in mA·ns. -/
structure Str where
  st         : StringSt := .disabled
  cfg        : ParamSet := []
  loaded     : Option Program := .none
  prog       : Option Program := .none
  progNew    : Bool := false
  step       : Nat := 0
  stepNs     : Nat := 0
  cnt        : List Nat := [0, 0, 0, 0]
  pTemp      : Bool := false
  pPack      : Bool := false
  pNoPath    : Bool := false
  pSupp      : Bool := false
  pHost      : Bool := false
  suppNew    : Bool := false
  vSum       : Int := 0
  iSum       : Int := 0
  tSum       : Int := 0
  fN         : Nat := 0
  vMean      : Int := 0
  iMean      : Int := 0
  tMean      : Int := 0
  frames     : List Int := []
  secPeak    : Option Int := .none
  voltAll    : Bool := true
  tieAll     : Bool := true
  q          : Int := 0
  ahIn       : Nat := 0
  ahOut      : Nat := 0
  inFrac     : Nat := 0
  outFrac    : Nat := 0
  ahStep     : Int := 0
  qStored    : Int := 0
  qFull      : Option Int := .none
  socQ       : SocQ := .stale
  anchorAt   : Option Nat := .none
  emptyOk    : Bool := false
  compClamp  : Bool := false
  vTgt       : Int := 0
  iCeil      : Int := 0
  vPrev      : Option Int := .none
  iPrev      : Option Int := .none
  tieRearm   : Bool := false
  chgMit     : Option Nat := .none
  preMit     : Option Nat := .none
  noPre      : Bool := false
  preNs      : Nat := 0
  preOk      : Nat := 0
  pm         : Option PmRec := .none
  pmPending  : Option PmRec := .none
  pmSeq      : Option Nat := .none
  pmLost     : Bool := false
  pmLast     : Nat := 0
  pmMiss     : Nat := 0
  pmFold     : Option Int := .none
  tFault     : Bool := false
  floored    : Bool := false
  zBase      : List (Option Nat) := List.replicate 32 .none
  zLast      : List (Option Nat) := List.replicate 32 .none
  lad        : Ladder := {}
  deriving DecidableEq, Repr

/-! ### Brim and ageing -/

/-- One row of the brim table (R252), with the FLOOR to come (R256), its falls of the last hour as (time, points), and the
time of its last rise (R255). -/
structure BrimRow where
  pct     : Nat := 100
  floor   : Nat := 60
  target  : Nat := 100
  cause   : Nat := 0
  changed : Nat := 0
  atFloor : Bool := false
  floorNext : Option Nat := .none
  falls   : List (Nat × Nat) := []
  riseAt  : Option Nat := .none
  deriving DecidableEq, Repr

/-- An aged item (R250): its measurements towards the baseline, the baseline, the latest value, the count, and
whether its alert has been raised. -/
structure AgeItem where
  item     : Nat := 0
  num      : Nat := 0
  first    : List Int := []
  baseline : Option Int := .none
  value    : Int := 0
  count    : Nat := 0
  alerted  : Bool := false
  deriving DecidableEq, Repr

/-! ### Stage (R223-R226) -/

/-- The staged content and the progress of its commit; `step` outlives the stage (R220). -/
structure Stage where
  st      : StageSt := .none
  owner   : Nat := 0
  tag     : Option Nat := .none
  map     : Option PathMap := .none
  mitCfg  : List (Nat × ParamSet) := []
  srcCfg  : List (Nat × ParamSet) := []
  strCfg  : List (Nat × ParamSet) := []
  progs   : List (Nat × Program) := []
  profile : Option Profile := .none
  seqs    : List (Nat × Sequence) := []
  accs    : List (Nat × AccCfg) := []
  mmxs    : List (Nat × MmxCfg) := []
  step    : Nat := 0
  begun   : Bool := false
  todo    : List Nat := []
  oldMap  : Option PathMap := .none
  oldMit  : List (Nat × ParamSet) := []
  oldSrc  : List (Nat × ParamSet) := []
  oldStr  : List (Nat × ParamSet) := []
  deriving DecidableEq, Repr

/-- The power path: map, units, brim, profile and stage. -/
structure Power where
  map      : PathMap := {}
  src      : List Source := List.replicate 12 {}
  sw       : List Switch := List.replicate 28 {}
  bus      : List Bus := List.replicate 4 {}
  str      : List Str := List.replicate 16 {}
  mit      : List Mitten := List.replicate 16 {}
  ph       : List Phase := List.replicate 64 {}
  quadOn   : List Bool := List.replicate 16 false
  quadBad  : List Bool := List.replicate 16 false
  brim     : List BrimRow := List.replicate 32 {}
  ages     : List AgeItem := []
  profile  : Profile := {}
  profNext : Option Profile := .none
  moving   : Bool := true
  arbDue   : Bool := false
  stage    : Stage := {}
  deriving DecidableEq, Repr

/-! ### Measurement -/

/-- The marks of a result (R170). -/
structure Marks where
  unsettled : Bool := false
  range     : Bool := false
  cm        : Bool := false
  skipped   : Bool := false
  ovr      : Bool := false
  suspect   : Bool := false
  deriving DecidableEq, Repr

/-- The filter of one PRECISE entry (R186-R190): integrators and differentiators, the marks of the block being filled and
of the last blocks, inputs since the last output, outputs since the synchronising reset, a pending reset, and the
previous input. -/
structure Filter where
  integ    : List Int := [0, 0, 0, 0, 0]
  comb     : List Int := [0, 0, 0, 0, 0]
  block    : Marks := {}
  marks    : List Marks := []
  count    : Nat := 0
  outputs  : Nat := 0
  resetDue : Bool := false
  last     : Int := 0
  deriving DecidableEq, Repr

/-- One measurement unit (R152-R183): its slices and the queue of four; `urg` lists the phases whose urgent conversion has a
slice, with its lateness and trigger; `plan` the visits of the pass still to sample (samples, sampling time) and `due` the clock
of the next sample; `bgCount` the background samples since a correction slot fell due, `corrNext` the rotation, `corrRun` the
slices whose correction slot has been taken; `corrAt` is when the correction began anew; `devRun` and `in12Run` count bad charge
frames; `rangeAt` is the count of range-change cycles that had ended as the visit in progress began (R51). -/
structure MUnit where
  corr     : CorrSt := .off
  corrAt   : Nat := 0
  sliceOk  : List Bool := [true, true, true, true]
  slices   : List Slice := [{}, {}, {}, {}]
  queue    : List Urgent := []
  urg      : List (Nat × Nat × Nat) := []
  plan     : List (Nat × Nat) := []
  due      : Nat := 0
  bgCount  : Nat := 0
  corrNext : Nat := 0
  corrDue  : Option Nat := .none
  corrRun  : List Nat := []
  devRun   : Nat := 0
  in12Run  : Nat := 0
  seq      : Option Sequence := .none
  seqNext  : Option (Option Sequence) := .none
  active   : Bool := false
  entry    : Nat := 0
  rangeAt  : Nat := 0
  pass     : Nat := 0
  inPass   : Bool := false
  noted    : Bool := false
  dropped  : Nat := 0
  late     : Nat := 0
  skips    : Nat := 0
  owner    : Nat := 0
  leased   : Bool := false
  leaseDue : Bool := false
  unleaseDue : Bool := false
  dev      : Int := 0
  in12     : Int := 125000
  coefs    : List (Int × Int × Int) := List.replicate 4 (0, 0, 0)
  filters  : List Filter := []
  syncNow  : BitVec 16 := 0
  syncChg  : BitVec 16 := 0
  syncPol  : BitVec 16 := 0
  dieT     : Int := 0
  dieT0    : Int := 0
  calTemp  : Int := 0
  calAt    : Nat := 0
  fault    : Bool := false
  retired  : Bool := false
  lad      : Ladder := {}
  deriving DecidableEq, Repr

/-- One engine tap (R171): the newest completed result, the latched value and marks, the stale count, and the consecutive latches
with a bad sense (R114, R149). -/
structure Tap where
  newest : Option (Int × Marks) := .none
  value  : Int := 0
  marks  : Marks := {}
  pubVal : Int := 0
  stale  : Nat := 0
  bad    : Nat := 0
  deriving DecidableEq, Repr

/-- One accumulator (R192-R198): the readable registers and the open window. -/
structure Acc where
  cfg     : AccCfg := {}
  sum     : Int := 0
  count   : Nat := 0
  ovr    : Bool := false
  sat     : Bool := false
  full    : Bool := false
  new     : Bool := false
  syncW   : Nat := 0
  markW   : Nat := 0
  windows : Nat := 0
  wSum    : Int := 0
  wCount  : Nat := 0
  wOpen   : Bool := false
  wTurns  : Nat := 0
  wSat    : Bool := false
  satSent : Bool := false
  deriving DecidableEq, Repr

/-- What a latching read of an accumulator holds for one reader (R196); `byMate`: taken by the read of its DEMOD mate. -/
structure AccLatch where
  reader : Nat
  acc    : Nat
  lo     : Word
  hi     : Word
  count  : Word
  status : Word
  byMate : Bool := false
  deriving DecidableEq, Repr

/-- One min-max tracker (R199-R202). -/
structure Mmx where
  cfg     : MmxCfg := {}
  min     : Int := 0x7FFFFFFF
  max     : Int := -0x80000000
  minT    : Nat := 0
  maxT    : Nat := 0
  count   : Nat := 0
  ovr    : Bool := false
  out     : Bool := false
  persist : Nat := 0
  syncW   : Nat := 0
  markW   : Nat := 0
  deriving DecidableEq, Repr

/-- What a latching read of a tracker holds for one reader (R201). -/
structure MmxLatch where
  reader : Nat
  mmx    : Nat
  max    : Word
  minT   : Word
  maxT   : Word
  deriving DecidableEq, Repr

/-- A sine reference generator (R194): frequency (0.001 Hz) and the device time of its phase 0. -/
structure Gen where
  freq : Nat := 0
  at0  : Nat := 0
  deriving DecidableEq, Repr

/-- One entry of an impedance frequency list (R203). -/
structure ImpFreq where
  freq    : Nat
  settle  : Nat
  measure : Nat
  deriving DecidableEq, Repr

/-- One entry of an impedance record (R208). -/
structure ImpPoint where
  freq   : Nat := 0
  zRe    : Int := 0
  zIm    : Int := 0
  iAmpl  : Nat := 0
  valid  : Bool := false
  clipped : Bool := false
  low    : Bool := false
  notRun : Bool := true
  deriving DecidableEq, Repr

/-- An impedance run (R205). -/
structure ImpRun where
  ampl    : Nat := 5
  accBase : Nat := 0
  rep     : Nat := 0
  freqs   : List ImpFreq := []
  running : Bool := false
  point   : Nat := 0
  measure : Bool := false
  i0      : Int := 0
  amp     : Int := 0
  clipped : Bool := false
  points  : List ImpPoint := []
  startAt : Nat := 0
  mitten  : Nat := 0
  rest    : Bool := false
  ring    : Nat := 0
  abortTag : Option Nat := .none
  deriving DecidableEq, Repr

/-- The record of a string's latest run (R208). -/
structure ImpRec where
  reason  : Nat := 0
  runNo   : Nat := 0
  startAt : Nat := 0
  points  : List ImpPoint := []
  deriving DecidableEq, Repr

/-- Impedance spectroscopy of one string. -/
structure Imp where
  run     : Option ImpRun := .none
  ended   : Option ImpRun := .none
  record  : Option ImpRec := .none
  runs    : Nat := 0
  deriving DecidableEq, Repr

/-- A pair capture (R180); `idle` counts the ticks without a window. -/
structure Capture where
  odd       : Bool := false
  input     : Nat := 0
  ts        : Nat := 4
  gain      : Nat := 0
  trigPhase : Nat := 0xFF
  trigRef   : Nat := 1
  delay     : Nat := 0
  window    : Nat := 64
  rep       : Nat := 1000
  accBase   : Nat := 0
  mmx       : Nat := 0xFFFF
  taken     : Nat := 0
  tickDone  : Bool := false
  idle      : Nat := 0
  deriving DecidableEq, Repr

/-- The reference and the MU set-up registers (R176-R178); `over5` and `over20` count consecutive charge frames beyond 5,000 and
20,000 ppm. -/
structure Reference where
  bufEn    : Bool := false
  settled  : Bool := false
  suspect  : Bool := false
  fault    : Bool := false
  timeout  : Bool := false
  dev      : Int := 0
  okFrames : Nat := 0
  over5    : Nat := 0
  over20   : Nat := 0
  goneAt   : Option Nat := .none
  pairEn   : BitVec 8 := 0
  frSum    : Int := 0
  frN      : Nat := 0
  hrSum    : Int := 0
  hrN      : Nat := 0
  hrAt     : Nat := 0
  trend    : Bool := false
  deriving DecidableEq, Repr

/-- The measurement fabric; `accNext` and `mmxNext` hold committed set-ups with the unit whose next pass start puts them in force
(R192, R200). -/
structure Meas where
  mu       : List MUnit := List.replicate 16 {}
  tap      : List Tap := List.replicate 112 {}
  acc      : List Acc := List.replicate 512 {}
  accL     : List AccLatch := []
  mmx      : List Mmx := List.replicate 256 {}
  mmxL     : List MmxLatch := []
  accNext  : List (Nat × Nat × AccCfg) := []
  mmxNext  : List (Nat × Nat × MmxCfg) := []
  gen      : List Gen := List.replicate 32 {}
  imp      : List Imp := List.replicate 16 {}
  cap      : List (Option Capture) := List.replicate 8 .none
  ref      : Reference := {}
  deriving DecidableEq, Repr

/-! ### Host side -/

/-- The GLB registers (R441). EVSTAT is held as the list of the set event numbers, ascending. -/
structure Glb where
  behav   : Nat := 0
  inForce : Nat := 1
  locked  : Bool := false
  accLog  : Word := 0
  accCnt  : Nat := 0
  auxMode0 : Word := 0
  auxMode1 : Word := 0
  auxIn   : BitVec 32 := 0
  auxOut  : Word := 0
  evstat  : List Nat := []
  evcond  : List Nat := []
  evvec   : List Word := (List.range 64).map (fun i => BitVec.ofNat 32 (((i + 4) / 8) * 0x01010101))
  deriving DecidableEq, Repr

/-- The HIF registers and the PCI Express function (R258-R261, R282-R284, R293). -/
structure Hif where
  enable   : Bool := false
  intnEn   : Bool := false
  asqLo    : Word := 0
  asqHi    : Word := 0
  acqLo    : Word := 0
  acqHi    : Word := 0
  acfg     : Word := 0x00010066
  pendLo   : Word := 0
  pendHi   : Word := 0
  link     : Nat := 0
  inL2     : Bool := false
  bme      : Bool := false
  wakeLow  : Bool := false
  msixEn   : Bool := false
  msixMask : Bool := false
  vecMask  : BitVec 64 := 0xFFFFFFFFFFFFFFFF
  vecAddr  : List (Nat × List Byte) := []
  pba      : BitVec 64 := 0
  deriving DecidableEq, Repr

/-- A raised event (R303, R310, R448): number, unit, sequence number, frame, device time and data bytes. -/
structure EventRec where
  ev    : Nat
  inst  : Option Nat
  seq   : Nat
  frame : Nat
  time  : Nat
  data  : List Byte
  deriving DecidableEq, Repr

/-- One ring pair (R265-R287). -/
structure Ring where
  st        : RingSt := .none
  cls       : Nat := 2
  sqExp     : Nat := 6
  cqExp     : Nat := 6
  sqBase    : Nat := 0
  cqBase    : Nat := 0
  maxPay    : Nat := 65535
  quota     : Nat := 32
  nodeMask  : BitVec 64 := 0xFFFFFFFFFFFFFFFF
  mitMask   : BitVec 16 := 0xFFFF
  priv      : BitVec 4 := 0xF
  vector    : Nat := 0
  coalN     : Nat := 1
  coalT     : Nat := 0
  secure    : Bool := false
  claim     : Bool := false
  sessKey   : List Byte := []
  seq       : Nat := 0
  sqTail    : Nat := 0
  head      : Nat := 0
  cqTail    : Nat := 0
  cqHead    : Nat := 0
  unrel     : Nat := 0
  phaseBit  : Bool := true
  arm       : Bool := true
  subs      : List Nat := []
  subscribed : Bool := false
  lost      : Nat := 0
  evWait    : List EventRec := []
  marked    : List Nat := []
  slots     : List (Nat × Nat) := []
  fence     : Option Nat := .none
  resetTag  : Option Nat := .none
  deleteTag : Option Nat := .none
  deriving DecidableEq, Repr

/-- A tag in flight (R267, R285): its ring, slot, descriptor and payload, stage and outcome; `after` names the ring and slot
whose completion must be written before this one (R285), `key` is a session key to put in force at completion (R425). -/
structure TagRec where
  tag     : Nat
  ring    : Nat
  cls     : Nat := 2
  slot    : Nat
  desc    : List Byte
  payload : List Byte
  seq     : Nat := 0
  st      : TagSt := .admitted
  status  : Nat := 0
  result  : Nat := 0
  resp    : List Byte := []
  ckAt    : Nat := 0
  drop    : Bool := false
  after   : Option (Nat × Nat) := .none
  key     : List Byte := []
  deriving DecidableEq, Repr

/-- A log record (R310). -/
structure LogRec where
  seq  : Nat
  time : Nat
  code : Nat
  inst : Nat
  data : List Byte
  deriving DecidableEq, Repr

/-- What the device posts on the PCI Express link, in order (R271): data, or the message of a vector with the address and data of
its MSI-X table entry. -/
inductive Posted where
  | data (addr : Nat) (bytes : List Byte)
  | msix (vector : Nat) (entry : List Byte)
  deriving DecidableEq, Repr

/-- The ring window as a list of cells, addresses strictly rising, no zero byte listed (log 8). -/
abbrev Window := List Host.Cell

/-- Fetch arbitration (R280): fetch slots left to classes 1, 2 and 3 in the round, and the ring of each served last. -/
structure FetchArb where
  left : List Nat := [8, 4, 1]
  last : List Nat := [0, 0, 0]
  deriving DecidableEq, Repr

/-- The host side: GLB, HIF, rings, tags, events, logs and the ring window. -/
structure HostSt where
  arb    : FetchArb := {}
  glb    : Glb := {}
  hif    : Hif := {}
  rings  : List (Nat × Ring) := []
  tags   : List TagRec := []
  evSeq  : Nat := 0
  heldEv : List EventRec := []
  log    : List (List LogRec) := [[], [], [], []]
  logSeq : List Nat := [0, 0, 0, 0]
  win    : Window := []
  qspi   : BitVec 8 := 0
  posted : List Posted := []
  deriving DecidableEq, Repr

/-! ### System -/

/-- The liner (R390-R395). The record is the BUS0 and source sense entries and MAP_ID (R391); the findings are phases with the
gauntlet step that found them; `v0` is BUS0 in mV as a soft start began, `softNs` the ns it has run (R392). -/
structure LinerS where
  st      : LinerSt := .off
  passed  : BitVec 4 := 0
  fltLow  : BitVec 4 := 0
  record  : Option (SenseEntry × SenseEntry × Nat) := .none
  findings : List (Nat × Nat) := []
  v0      : Int := 0
  softNs  : Nat := 50000000
  deriving DecidableEq, Repr

/-- One level of the tick grid (R210-R212, R217, R218). -/
structure Level where
  count   : Nat := 0
  last    : Nat := 0
  lag     : Nat := 0
  dt      : Nat := 0
  lagRun  : Nat := 0
  episode : Bool := false
  epoch   : Int := 0
  deriving DecidableEq, Repr

/-- What a checkpoint contains (R400 BODY): the supervisor-held state, and the shadow state of the source and string
engines. -/
structure CkBody where
  stage    : Stage := {}
  swDisc   : List (Bool × Bool) := []
  mitDisc  : List (Bool × Bool) := []
  phLad    : List Ladder := []
  mitLad   : List Ladder := []
  srcLad   : List Ladder := []
  strLad   : List Ladder := []
  muLad    : List Ladder := []
  supLad   : List Ladder := []
  selected : List (Option Nat × Option Nat) := []
  profile  : Profile := {}
  moving   : Bool := true
  effects  : List (Nat × Nat × Nat) := []
  src      : List Source := []
  str      : List Str := []
  deriving DecidableEq, Repr

/-- A checkpoint buffer (R400). -/
structure CkBuf where
  openSeq  : Nat := 0
  closeSeq : Nat := 0
  cframe   : Nat := 0
  length   : Nat := 0
  writer   : Nat := 0
  bad      : Bool := false
  body     : CkBody := {}
  deriving DecidableEq, Repr

/-- Device time and its AON companions (R379-R381). UNC is kept in ns. -/
structure TimeS where
  now      : Nat := 0
  te       : Nat := 0
  ae       : Nat := 0
  anchor   : Nat := 0
  anchorT  : Nat := 0
  uncNs    : Nat := 0
  rcUsed   : Bool := false
  rcSpan   : Bool := false
  epochNew : Bool := false
  aonRc    : Bool := false
  marker   : Bool := true
  deriving DecidableEq, Repr

/-- The watchdog (R372-R378); the time since the last service is kept in ns. -/
structure Wdt where
  en        : Bool := Config.wdtHwStart
  clkSel    : Bool := false
  period    : Nat := 2000
  countNs   : Nat := 0
  opened    : Bool := false
  heldCnt   : Bool := false
  heldNs    : Nat := 0
  keyOpen   : Bool := false
  lapsed    : Bool := false
  lastCause : Nat := 0
  resets    : Nat := 0
  deriving DecidableEq, Repr

/-- A general timer (R365-R370, R378); `atCmp` and `atTop` say that COUNT has just become equal to CMP or TOP. -/
structure Timer where
  ctrl    : Word := 0
  mode    : Word := 0
  count   : Word := 0
  cmp     : Word := 0xFFFFFFFF
  top     : Word := 0xFFFFFFFF
  cap     : Word := 0
  run     : Bool := false
  hits    : Nat := 0
  cmpFlag : Bool := false
  endFlag : Bool := false
  capVal  : Bool := false
  capOvr  : Bool := false
  cmpDis  : Bool := false
  atCmp   : Bool := false
  atTop   : Bool := false
  out     : Bool := false
  deriving DecidableEq, Repr

/-- Motion detection (R371, R378). -/
structure Motion where
  ctl     : Word := 0x0001E140
  thr     : Word := 4
  moving  : Bool := false
  hist    : List Word := []
  pulses  : Nat := 0
  calmNs  : Nat := 0
  deriving DecidableEq, Repr

/-- A mailbox (R319). -/
structure Mailbox where
  staged   : Word := 0
  ptr      : Word := 0
  type     : Nat := 0
  full     : Bool := false
  sender   : Nat := 0
  receiver : Nat := 0
  revoked  : Bool := false
  lastType : Nat := 0
  deriving DecidableEq, Repr

/-- A lock (R324). -/
structure Lock where
  owner    : Nat := 0
  broken   : Bool := false
  brokenBy : Nat := 0
  deriving DecidableEq, Repr

/-- The coulomb counts of a string that stored settings keep (R145, R385). -/
structure Counts where
  q       : Int := 0
  ahIn    : Nat := 0
  ahOut   : Nat := 0
  qStored : Int := 0
  qFull   : Option Int := .none
  deriving DecidableEq, Repr

/-- Stored settings (R446, R31, R252, R145). -/
structure Settings where
  valid    : Bool := false
  map      : PathMap := {}
  mitCfg   : List ParamSet := List.replicate 16 []
  srcCfg   : List ParamSet := List.replicate 12 []
  strCfg   : List ParamSet := List.replicate 16 []
  progs    : List (Option Program) := List.replicate 16 .none
  seqs     : List (Option Sequence) := List.replicate 16 .none
  accs     : List (Nat × AccCfg) := []
  mmxs     : List (Nat × MmxCfg) := []
  profile  : Profile := {}
  level    : Option Nat := .none
  brim     : List BrimRow := List.replicate 32 {}
  counts   : List Counts := List.replicate 16 {}
  auxMode0 : Word := 0
  auxMode1 : Word := 0
  auxOut   : Word := 0
  evvec    : List Word := (List.range 64).map (fun i => BitVec.ofNat 32 (((i + 4) / 8) * 0x01010101))
  motCtl   : Word := 0x0001E140
  motThr   : Word := 4
  twt1     : List Word := []
  twc      : List (List Word) := List.replicate 4 [0x00056408, 0x01A401F4, 0x01A401F4, 0x01F401A4, 0x001E001E]
  can      : List (List Word) := List.replicate 2 [0x00000008, 0x004081A4, 0x000111A0, 0]
  chnCtrl  : Word := 0x00000100
  cable    : Nat := 0
  pairEn   : BitVec 8 := 0
  phRegs   : List PhRegs := List.replicate 64 {}
  updCtrl  : Word := 0x00001E3F
  deriving DecidableEq, Repr

/-- An update piece that arrived over the hatband or the chain and waits for frames without lag (R216, R235): where from, its
ORIGIN and number, its bytes, and whether its read-back matches. -/
structure LatePiece where
  chain  : Bool := false
  origin : Nat := 0
  num    : Nat := 0
  bytes  : List Byte := []
  readOk : Bool := true
  deriving DecidableEq, Repr

/-- The system: power states, starts, frames, supervisors, time, timers, mailboxes and locks. -/
structure Sys where
  power     : PowerSt := .liner
  pwrEn     : Bool := true
  startKind : StartKind := .cold
  activeSup : Nat := 1
  standbyOk : Bool := false
  holdOn    : Bool := false
  holdOut   : Bool := false
  noSup     : Bool := false
  imageOk   : Bool := true
  slot      : Nat := 0
  wakeCause : Nat := 0
  wakeSrc   : Nat := 0
  warmStarts : Nat := 0
  takeovers : Nat := 0
  lastTake  : Nat := 0
  tookAt    : Option Nat := .none
  domains   : BitVec 24 := 0x000001
  straps    : BitVec 12 := 0
  order     : Option PowerSt := .none
  orderAt   : Nat := 0
  sleepNext : Bool := false
  waitAct   : Option Nat := .none
  actDue    : Option Bool := .none
  selfTest  : List Nat := []
  testFinds : Nat := 0
  takeover  : Bool := false
  liner     : LinerS := {}
  stall     : List Nat := []
  stalls    : Nat := 0
  revokes   : Nat := 0
  supLad    : List Ladder := List.replicate 4 {}
  supRetired : List Bool := List.replicate 4 false
  tick      : Level := {}
  cframe    : Level := {}
  pframe    : Level := {}
  gridNew   : Bool := true
  overruns  : Nat := 0
  limpCount : Nat := 0
  limpCause : BitVec 4 := 0
  cleanP    : Nat := 0
  pDirty    : Bool := false
  deferred  : List (List AgeMeas) := []
  lateB     : Bool := false
  pieceQ    : List LatePiece := []
  ck        : List CkBuf := [{}, {}]
  ckNext    : Nat := 1
  ckOpen    : Bool := false
  time      : TimeS := {}
  wdt       : Wdt := {}
  tmr       : List Timer := List.replicate 16 {}
  motion    : Motion := {}
  mbx       : List Mailbox := (List.range 64).map (fun n => { receiver :=
    if n < 8 then 3 else if n < 16 then 5 else if n < 20 then 1 else if n < 24 then 2 else if n < 32 then 4
    else if n < 36 then 3 else if n < 44 then 5 else if n < 48 then 99 else 0 })
  lck       : List Lock := List.replicate 64 {}
  lckOrder  : Nat := 0
  lckBroken : Nat := 0
  set       : Settings := {}
  jtagIr    : BitVec 8 := 0xFF
  deriving DecidableEq, Repr

/-! ### Side links -/

/-- A two-wire target port (R336-R343, R347). -/
structure Twt where
  addr     : Word := 0x00000048
  timing   : Word := 0x0000051E
  hb       : Word := 0
  nackBusy : Nat := 0
  stretch  : Nat := 0
  reqs     : Nat := 0
  reqTo    : Nat := 0
  ptr      : BitVec 8 := 0
  deriving DecidableEq, Repr

/-- The hatband's window areas and request state (R340-R343). -/
structure Hatband where
  evMask  : List Word := List.replicate 8 0
  pending : Nat := 0
  newest  : List (Nat × Nat × Nat) := []
  req     : ReqSt := .idle
  cmd     : List Byte := List.replicate 64 0
  resp    : List Byte := List.replicate 64 0
  go      : Bool := false
  wait    : Option Nat := .none
  man     : List (Nat × List Byte) := []
  piece   : Option Nat := .none
  chunks  : List (Nat × List Byte) := []
  late    : Bool := false
  deriving DecidableEq, Repr

/-- A two-wire controller port (R344-R348). -/
structure Twc where
  regs    : List Word := [0x00056408, 0x01A401F4, 0x01A401F4, 0x01F401A4, 0x001E001E]
  arbLost : Nat := 0
  arbCond : Nat := 0
  nack    : Nat := 0
  timeout : Nat := 0
  tries   : Nat := 0
  polled  : List Byte := []
  deriving DecidableEq, Repr

/-- A CAN FD controller (R349-R353). -/
structure Can where
  ctrl  : Word := 0x00000008
  nbt   : Word := 0x004081A4
  dbt   : Word := 0x000111A0
  txid  : Word := 0
  tec   : Nat := 0
  rxErr : Nat := 0
  st    : Nat := 0
  short : Nat := 0
  bufs  : List (List Byte) := List.replicate 16 []
  txSeq : Nat := 0
  sent  : List Byte := []
  sentId : Word := 0
  sentBrs : Bool := false
  deriving DecidableEq, Repr

/-- A crown block of a chain frame (R356). -/
structure CrownBlk where
  mit     : Nat := 0xFF
  nTotal  : Nat := 0
  part    : BitVec 16 := 0
  target  : Int := 0
  phaseSt : Nat := 0
  period  : Nat := 0
  limiter : Nat := 0
  flags   : Nat := 0
  deriving DecidableEq, Repr

/-- A report slot of a chain frame (R356), and for how many ticks the report has been missing (R93). -/
structure Slot where
  flags  : Nat := 0
  lagC   : Nat := 0
  lagP   : Nat := 0
  mit    : Nat := 0xFF
  nAct   : Nat := 0
  iT     : Nat := 0xFFFF
  iB     : Nat := 0xFFFF
  iL     : Nat := 0xFFFF
  missed : Nat := 2
  deriving DecidableEq, Repr

/-- A received chain frame (R356, R357): its TICK, crown blocks and report slots, and what came beside it (log 14). -/
structure RxFrame where
  tick   : Nat
  blocks : List CrownBlk
  slots  : List Slot
  side   : ChainSide
  deriving DecidableEq, Repr

/-- The chain port and SYNC (R354-R363); `dueC` and `dueP` are the times of the crown's charge and policy boundaries that a
follower has not yet taken (R219), `edgeAt` and `syncPer` the latest edge the grid is locked to and its period (R362), `quiet` the
ticks since a follower last saw a marker or a crown its frame back (R360). -/
structure Chain where
  ctrl    : Word := 0x00000100
  st      : ChainSt := .off
  role    : Nat := 0
  pos     : Nat := 0
  count   : Nat := 0
  crownId : Nat := 0
  syncLock : Bool := false
  loopNs  : Nat := 0
  cable   : Nat := 0
  frameErr : Nat := 0
  losses  : Nat := 0
  formed  : Nat := 0
  lost    : Bool := false
  rx      : List RxFrame := []
  off     : Nat := 0
  slots   : List Slot := List.replicate 16 {}
  side    : ChainSide := {}
  orderKind : Nat := 0
  orderTick : Nat := 0
  dly     : Nat := 0
  edgeAt  : Nat := 0
  syncPer : Nat := 1000000
  syncBad : Nat := 0
  syncGood : Nat := 0
  gridStep : Bool := false
  dueC    : List Nat := []
  dueP    : List Nat := []
  man     : List (Nat × List Byte) := []
  piece   : Option Nat := .none
  chunks  : List (Nat × List Byte) := []
  relay   : List (Nat × List Byte) := []
  outMsg  : List (List Byte) := []
  outFrame : List Byte := []
  aux     : List Byte := []
  auxPrev : List Byte := []
  bases   : List Nat := []
  serv    : List Nat := []
  servTill : Nat := 0
  shedTo  : Option Nat := .none
  limpers : BitVec 16 := 0
  known   : Bool := false
  quiet   : Nat := 0
  pulse   : Nat := 0
  deriving DecidableEq, Repr

/-- Update and security registers, hash engine, recovery ROM (R412, R418, R429, R431, R432). -/
structure UpdSec where
  ctrl      : Word := 0x00001E3F
  rejects   : Nat := 0
  relayRej  : Nat := 0
  authFails : Nat := 0
  ctxBusy   : BitVec 4 := 0
  waiters   : Nat := 0
  romSeq    : Option Nat := .none
  romResp   : List Byte := []
  romMan    : List (Nat × Byte) := []
  romSlot   : Option Nat := .none
  romAsm    : Nat := 0
  romWin    : List Host.Cell := []
  romAtt    : Option RomAtt := .none
  deriving DecidableEq, Repr

/-- The side links. -/
structure Links where
  twt : List Twt := [{ addr := 0x80000048 }, {}]
  hb  : Hatband := {}
  twc : List Twc := List.replicate 4 {}
  can : List Can := List.replicate 2 {}
  chn : Chain := {}
  upd : UpdSec := {}
  deriving DecidableEq, Repr

/-! ### Non-volatile state -/

/-- The parsed header of a manifest (R413) and its piece table. -/
structure Manifest where
  pieces   : Nat := 0
  imageLen : Nat := 0
  release  : Nat := 0
  setFmt   : Nat := 0
  behMax   : Nat := 0
  revMin   : Nat := 0
  revMax   : Nat := 0
  encrypted : Bool := false
  secVer   : Nat := 0
  imgHash  : List Byte := []
  imgIv    : List Byte := []
  imgTag   : List Byte := []
  table    : List (List Byte) := []
  deriving DecidableEq, Repr

/-- An image slot of the external flash (R408): its manifest and the pieces programmed. -/
structure FlashSlot where
  man    : Option Manifest := .none
  pieces : List (Nat × List Byte) := []
  deriving DecidableEq, Repr

/-- A key slot (R424): generation, record and whether its marker and CRC stand. -/
structure KeySlot where
  gen   : Nat := 0
  record : List Byte := []
  wrap  : List Byte := []
  image : List Byte := []
  valid : Bool := false
  deriving DecidableEq, Repr

/-- The non-volatile state: bookkeeping area, key slots and flash slots (R399, R408-R432). -/
structure Nv where
  activeSlot : Nat := 0
  bootFails  : Nat := 0
  timeEpoch  : Nat := 0
  upd        : UpdSt := .none
  held       : Option Manifest := .none
  bitmap     : List Nat := []
  ownerCnt   : Nat := 0
  secMin     : Nat := 0
  ownerLock  : Bool := false
  activated  : List (List Byte) := []
  keyA       : KeySlot := {}
  keyB       : KeySlot := {}
  erasePend  : Bool := false
  eraseReady : Bool := false
  slotA      : FlashSlot := {}
  slotB      : FlashSlot := {}
  runSecVer  : Nat := 0
  runRel     : Nat := Config.fwMajor + 256 * Config.fwMinor + 65536 * Config.fwPatch
  runBeh     : Nat := Config.behaviourMax
  setFmt     : Nat := 0
  deriving DecidableEq, Repr

/-- What the last read or transaction returned to its sender (log 7): bytes, and whether it met a bus error. -/
structure BusOut where
  bytes  : List Byte := []
  busErr : Bool := false
  deriving DecidableEq, Repr

/-- Everything of the device but its non-volatile bookkeeping. -/
structure Dev where
  pw     : Power := {}
  ms     : Meas := {}
  ho     : HostSt := {}
  sy     : Sys := {}
  ln     : Links := {}
  freeIx : Nat := 0
  out    : BusOut := {}
  deriving DecidableEq, Repr

/-- The machine: the device, its non-volatile state, and the commands that wait. -/
structure State where
  dev     : Dev := {}
  nv      : Nv := {}
  pending : List Instr := []
  deriving DecidableEq, Repr

/-- Why the model stops. -/
inductive Fault where
  /-- Raised by a meaning whose operand list has a length the command cannot have (`Instr.wf` refuses it); safe:
  the hardware never meets such a command. -/
  | illFormed
  deriving DecidableEq, Repr

/-- Why the model has no meaning to give. -/
inductive Refusal where
  /-- Answered by an arm of `exec` whose command has no meaning yet; safe. -/
  | notModelled (mnemonic : String)
  deriving DecidableEq, Repr

/-- The machine right after reset: every field at its default, the queue empty (R388, R406, R446; log 4, 5). -/
def State.reset : State := {}

end Sys2Proof.Machine
end

