-- ==== Sys2Proof/Machine/Bits.lean ====
section
/-! DEFINITION. Bit fields, byte order, rounding and checksums (R5, R27, R146, R468). -/

namespace Sys2Proof.Machine

/-- Bits `lo + n - 1 : lo` of a number. -/
def bits (v lo n : Nat) : Nat := (v >>> lo) % 2 ^ n

/-- Field of a register word. -/
def fld (w : Word) (lo n : Nat) : Nat := bits w.toNat lo n

/-- One bit of a register word. -/
def bit (w : Word) (i : Nat) : Bool := w.getLsbD i

/-- A word from a number. -/
def wd (n : Nat) : Word := BitVec.ofNat 32 n

/-- The number of a flag. -/
def b2n (b : Bool) : Nat := if b then 1 else 0

/-- Little-endian number of bytes (R5). -/
def leNat : List Byte → Nat
  | [] => 0
  | b :: t => b.toNat + 256 * leNat t

/-- The n low bytes of a number, little-endian (R5). -/
def leBytes : Nat → Nat → List Byte
  | 0, _ => []
  | n + 1, v => BitVec.ofNat 8 v :: leBytes n (v / 256)

/-- A signed 32-bit reading of a number. -/
def s32 (n : Nat) : Int := (BitVec.ofNat 32 n).toInt

/-- A signed 16-bit reading of a number. -/
def s16 (n : Nat) : Int := (BitVec.ofNat 16 n).toInt

/-- The n-byte two's complement encoding of an integer, as a number. -/
def enc (n : Nat) (v : Int) : Nat := (BitVec.ofInt (8 * n) v).toNat

/-- Byte field of a buffer at an offset: `n` bytes read little-endian, absent bytes as 0. -/
def leAt (b : List Byte) (off n : Nat) : Nat := leNat ((b.drop off).take n)

/-- One byte of a buffer. -/
def byteAt (b : List Byte) (off : Nat) : Nat := (b.getD off 0).toNat

/-- Signed 32-bit field of a buffer. -/
def s32At (b : List Byte) (off : Nat) : Int := s32 (leAt b off 4)

/-- Whether every byte of a span of a buffer is zero. -/
def zeroSpan (b : List Byte) (off n : Nat) : Bool := ((b.drop off).take n).all (· == 0)

/-- Replace bytes of a buffer from an offset on, keeping its length. -/
def putBytes : List Byte → Nat → List Byte → List Byte
  | [], _, _ => []
  | _ :: t, 0, n :: ns => n :: putBytes t 0 ns
  | b :: t, 0, [] => b :: t
  | b :: t, k + 1, ns => b :: putBytes t k ns

/-- Saturating increment. -/
def satInc (cap n : Nat) : Nat := if n < cap then n + 1 else cap

/-- Clamp an integer to a span. -/
def clampI (lo hi x : Int) : Int := if x < lo then lo else if hi < x then hi else x

/-- Division rounded half away from zero (R27); the divisor is positive. -/
def roundDiv (n : Int) (d : Nat) : Int :=
  if 0 ≤ n then ((2 * n.toNat + d) / (2 * d) : Nat) else - ((2 * (-n).toNat + d) / (2 * d) : Nat)

/-- Division rounded towards minus infinity. -/
def floorDiv (n d : Int) : Int := Int.fdiv n d

/-- A percentage of a value, exact, rounded down (R468). -/
def pctOf (p v : Int) : Int := floorDiv (v * p) 100

/-- Division rounded up. -/
def ceilDiv (n d : Nat) : Nat := (n + d - 1) / d

/-- Signed saturation to 32 bits (R4). -/
def sat32 (x : Int) : Int := clampI (-2147483648) 2147483647 x

/-- One bit-step of the CRC-16 of R146. -/
def crc16Bit (c : BitVec 16) : BitVec 16 := if c.getLsbD 15 then (c <<< 1) ^^^ 0x1021 else c <<< 1

/-- One byte of the CRC-16 of R146, most significant bit first. -/
def crc16Byte (c : BitVec 16) (b : Byte) : BitVec 16 :=
  let x := c ^^^ ((b.setWidth 16) <<< 8)
  crc16Bit (crc16Bit (crc16Bit (crc16Bit (crc16Bit (crc16Bit (crc16Bit (crc16Bit x)))))))

/-- The CRC-16 of R146: polynomial 0x1021, initial value 0xFFFF, no reflection, no final XOR. -/
def crc16 (bs : List Byte) : BitVec 16 := bs.foldl crc16Byte 0xFFFF

/-- One bit-step of the reflected CRC-32. -/
def crc32Bit (c : Word) : Word := if c.getLsbD 0 then (c >>> 1) ^^^ 0xEDB88320 else c >>> 1

/-- One byte of the CRC-32. -/
def crc32Byte (c : Word) (b : Byte) : Word :=
  let x := c ^^^ b.setWidth 32
  crc32Bit (crc32Bit (crc32Bit (crc32Bit (crc32Bit (crc32Bit (crc32Bit (crc32Bit x)))))))

/-- The CRC-32 of IEEE 802.3 (R21, R130, R159). -/
def crc32 (bs : List Byte) : Word := (bs.foldl crc32Byte 0xFFFFFFFF) ^^^ 0xFFFFFFFF

/-- An object with its CRC field set to zero (R21). -/
def zeroAt (b : List Byte) (off n : Nat) : List Byte := putBytes b off (List.replicate n 0)

/-- Look a key up in a list of pairs. -/
def look {α : Type} (k : Nat) : List (Nat × α) → Option α
  | [] => none
  | (j, a) :: t => if j = k then some a else look k t

/-- Set a key in a list of pairs kept in rising key order. -/
def assign {α : Type} (k : Nat) (a : α) : List (Nat × α) → List (Nat × α)
  | [] => [(k, a)]
  | (j, b) :: t => if k < j then (k, a) :: (j, b) :: t else if j = k then (k, a) :: t else (j, b) :: assign k a t

/-- Remove a key from a list of pairs. -/
def unassign {α : Type} (k : Nat) (l : List (Nat × α)) : List (Nat × α) := l.filter (fun p => p.1 ≠ k)

/-- Insert a number into a rising list without repeats. -/
def insertN (k : Nat) : List Nat → List Nat
  | [] => [k]
  | j :: t => if k < j then k :: j :: t else if j = k then j :: t else j :: insertN k t

/-- Integer square root, by structural search from a bound. -/
def isqrtUpTo : Nat → Nat → Nat
  | 0, _ => 0
  | b + 1, n => if (b + 1) * (b + 1) ≤ n then b + 1 else isqrtUpTo b n

/-- Integer square root by binary refinement over `k` bits. -/
def isqrtBits : Nat → Nat → Nat → Nat
  | 0, acc, _ => acc
  | k + 1, acc, n => let c := acc + 2 ^ k; isqrtBits k (if c * c ≤ n then c else acc) n

/-- Integer square root of a number below 2^128. -/
def isqrt (n : Nat) : Nat := isqrtBits 64 0 n

/-- The numbers of the set bits of a mask of `w` bits, ascending. -/
def bitsSet (w v : Nat) : List Nat := (List.range w).filter (fun i => v.testBit i)

end Sys2Proof.Machine
end

