-- ==== Sys2Proof/Machine/Events.lean ====
section
/-! DEFINITION. The event sources (R449), the status codes (R313) and the opcodes (R301-R311) by number. -/

namespace Sys2Proof.Machine

/-- EVENTS_LOST: R294; clearing class E (R449). -/
def evEventsLost : Nat := 0
/-- ACCESS_WIDTH: R436; clearing class E (R449). -/
def evAccessWidth : Nat := 1
/-- ACCESS_ALIGN: R436; clearing class E (R449). -/
def evAccessAlign : Nat := 2
/-- SETUP_WRITE_IGNORED: R318, R373, R439; clearing class E (R449). -/
def evSetupWriteIgnored : Nat := 3
/-- SETUP_VALUE_INVALID: R439, R443; clearing class E (R449). -/
def evSetupValueInvalid : Nat := 4
/-- BEHAVIOUR_LEVEL_IGNORED: R10, R442; clearing class E (R449). -/
def evBehaviourLevelIgnored : Nat := 5
/-- ADMIN_CONFIG_INVALID: R293; clearing class E (R449). -/
def evAdminConfigInvalid : Nat := 6
/-- RING_DOORBELL_INVALID: R275; clearing class E (R449). -/
def evRingDoorbellInvalid : Nat := 7
/-- RING_ERROR: R286; clearing class E (R449). -/
def evRingError : Nat := 8
/-- JTAG_REFUSED: R235; clearing class E (R449). -/
def evJtagRefused : Nat := 9
/-- SETTINGS_DEFAULTED: R248, R421; clearing class E (R449). -/
def evSettingsDefaulted : Nat := 10
/-- ECC_CORRECTED: R248; clearing class E (R449). -/
def evEccCorrected : Nat := 11
/-- LIMP_ENTERED: R231; clearing class E (R449). -/
def evLimpEntered : Nat := 16
/-- LIMP_LEFT: R233; clearing class E (R449). -/
def evLimpLeft : Nat := 17
/-- FRAME_OVERRUN: R217; clearing class E (R449). -/
def evFrameOverrun : Nat := 18
/-- POWER_ENTRY_ABANDONED: R385; clearing class E (R449). -/
def evPowerEntryAbandoned : Nat := 19
/-- LINER_FAILED: R392; clearing class E (R449). -/
def evLinerFailed : Nat := 20
/-- LINER_STOPPED: R395; clearing class E (R449). -/
def evLinerStopped : Nat := 21
/-- SUP_TAKEOVER: R402; clearing class E (R449). -/
def evSupTakeover : Nat := 22
/-- HOLD_EXPIRED: R403; holds until a supervisor resumes; clearing class C (R449). -/
def evHoldExpired : Nat := 23
/-- IMAGE_SLOT_SWITCHED: R399; clearing class E (R449). -/
def evImageSlotSwitched : Nat := 24
/-- AGENT_DECLARED: R243; clearing class E (R449). -/
def evAgentDeclared : Nat := 25
/-- REVOKED: R244; clearing class E (R449). -/
def evRevoked : Nat := 26
/-- ENGINE_STALL: R246; clearing class E (R449). -/
def evEngineStall : Nat := 27
/-- PORT_ESCALATED: R241; clearing class E (R449). -/
def evPortEscalated : Nat := 28
/-- TIME_EPOCH_NEW: R381; clearing class E (R449). -/
def evTimeEpochNew : Nat := 29
/-- MOTION_CHANGED: R371; clearing class E (R449). -/
def evMotionChanged : Nat := 30
/-- PHASE_OVERCURRENT: R61; clearing class E (R449). -/
def evPhaseOvercurrent : Nat := 48
/-- PHASE_DRIVER_FAULT: R61; clearing class E (R449). -/
def evPhaseDriverFault : Nat := 49
/-- PHASE_SENSE_FAULT: R61, R70; clearing class E (R449). -/
def evPhaseSenseFault : Nat := 50
/-- QUAD_SUPPLY_FAULT: R61, quad supply row; INSTANCE is the quad; clearing class E (R449). -/
def evQuadSupplyFault : Nat := 51
/-- DLY_CAL_FAIL: R46; clearing class E (R449). -/
def evDlyCalFail : Nat := 52
/-- PH_THRESHOLD_CLAMPED: R57; clearing class E (R449). -/
def evPhThresholdClamped : Nat := 53
/-- GAUNTLET_FINDING: R83; clearing class E (R449). -/
def evGauntletFinding : Nat := 54
/-- GAUNTLET_NO_SUPPLY: R81; clearing class E (R449). -/
def evGauntletNoSupply : Nat := 55
/-- MITTEN_SHORT: R79; clearing class E (R449). -/
def evMittenShort : Nat := 56
/-- MITTEN_OVERVOLTAGE: R87; clearing class E (R449). -/
def evMittenOvervoltage : Nat := 57
/-- MITTEN_OVERTEMP: R87; clearing class E (R449). -/
def evMittenOvertemp : Nat := 58
/-- MITTEN_UNDERSTAFFED: R83, R87; clearing class E (R449). -/
def evMittenUnderstaffed : Nat := 59
/-- MITTEN_RETIRED: R88; clearing class E (R449). -/
def evMittenRetired : Nat := 60
/-- MITTEN_LIMITED: R75; clearing class E (R449). -/
def evMittenLimited : Nat := 61
/-- SHARED_MISMATCH: R90; clearing class E (R449). -/
def evSharedMismatch : Nat := 62
/-- SHARED_SENSE_MISMATCH: R91; clearing class E (R449). -/
def evSharedSenseMismatch : Nat := 63
/-- PHASE_RETIRED: Entry of a phase into RETIRED, with the fault number; clearing class E (R449). -/
def evPhaseRetired : Nat := 64
/-- SOURCE_QUALIFIED: R98; clearing class E (R449). -/
def evSourceQualified : Nat := 80
/-- SOURCE_LOST: R99; clearing class E (R449). -/
def evSourceLost : Nat := 81
/-- SOURCE_OVERVOLTAGE: R100; clearing class E (R449). -/
def evSourceOvervoltage : Nat := 82
/-- SOURCE_OVERCURRENT: R114; clearing class E (R449). -/
def evSourceOvercurrent : Nat := 83
/-- SOURCE_REVERSE: R114; clearing class E (R449). -/
def evSourceReverse : Nat := 84
/-- SOURCE_SENSE_FAULT: R114, R172; clearing class E (R449). -/
def evSourceSenseFault : Nat := 85
/-- SOURCE_SWITCH_FAULT: R114; clearing class E (R449). -/
def evSourceSwitchFault : Nat := 86
/-- SOURCE_RETIRED: Entry of a source into RETIRED; clearing class E (R449). -/
def evSourceRetired : Nat := 87
/-- SWITCH_BLOCKED: R15; holds until the switch closes or the demand ends; clearing class C (R449). -/
def evSwitchBlocked : Nat := 88
/-- SWITCH_OPEN: R248; clearing class E (R449). -/
def evSwitchOpen : Nat := 89
/-- BUS_UNDERVOLTAGE: R33; holds until the bus has been at or above V_MIN for 10 control ticks; clearing class C (R449). -/
def evBusUndervoltage : Nat := 90
/-- LEND_ENDED: R119; clearing class E (R449). -/
def evLendEnded : Nat := 91
/-- STRING_STEP: R134; clearing class E (R449). -/
def evStringStep : Nat := 112
/-- CHARGE_PROGRAM_FAULT: R134; clearing class E (R449). -/
def evChargeProgramFault : Nat := 113
/-- STRING_ABSENT: R34; clearing class C (R449). -/
def evStringAbsent : Nat := 114
/-- PRECHARGE_NO_PATH: R35; clearing class C (R449). -/
def evPrechargeNoPath : Nat := 115
/-- STRING_FLOOR: R36; clearing class E (R449). -/
def evStringFloor : Nat := 116
/-- STRING_TIE_LIMIT: R140; clearing class E (R449). -/
def evStringTieLimit : Nat := 117
/-- STRING_PRECHARGE_TIMEOUT: R142; clearing class E (R449). -/
def evStringPrechargeTimeout : Nat := 118
/-- STRING_CAPACITY_SUSPECT: R144; clearing class E (R449). -/
def evStringCapacitySuspect : Nat := 119
/-- PACK_MONITOR_LOST: R148; clearing class C (R449). -/
def evPackMonitorLost : Nat := 120
/-- STRING_CELL_OVERVOLTAGE: R147; clearing class E (R449). -/
def evStringCellOvervoltage : Nat := 121
/-- STRING_DISCHARGE_LIMIT: R147; clearing class E (R449). -/
def evStringDischargeLimit : Nat := 122
/-- STRING_OVERVOLTAGE: R149; clearing class E (R449). -/
def evStringOvervoltage : Nat := 123
/-- STRING_OVERCURRENT: R149; clearing class E (R449). -/
def evStringOvercurrent : Nat := 124
/-- STRING_OVERTEMP: R149; clearing class E (R449). -/
def evStringOvertemp : Nat := 125
/-- STRING_SENSE_FAULT: R149, R172; clearing class E (R449). -/
def evStringSenseFault : Nat := 126
/-- STRING_TEMP_FAULT: R149; clearing class E (R449). -/
def evStringTempFault : Nat := 127
/-- STRING_SWITCH_FAULT: R149; clearing class E (R449). -/
def evStringSwitchFault : Nat := 128
/-- STRING_RETIRED: Entry of a string into RETIRED; clearing class E (R449). -/
def evStringRetired : Nat := 129
/-- IMPEDANCE_DONE: R205; clearing class E (R449). -/
def evImpedanceDone : Nat := 130
/-- MEAS_REF_TIMEOUT: R176; clearing class C (R449). -/
def evMeasRefTimeout : Nat := 144
/-- MEAS_REF_BUSY: R176; clearing class E (R449). -/
def evMeasRefBusy : Nat := 145
/-- MEAS_REF_MISMATCH: R177; holds while REF_SUSPECT stands; clearing class C (R449). -/
def evMeasRefMismatch : Nat := 146
/-- MEAS_REF_FAULT: R177; clearing class E (R449). -/
def evMeasRefFault : Nat := 147
/-- MU_SLICE_FAULT: R182; clearing class E (R449). -/
def evMuSliceFault : Nat := 148
/-- MU_UNIT_FAULT: R182; clearing class E (R449). -/
def evMuUnitFault : Nat := 149
/-- MEAS_SEQ_OVERRUN: R169; clearing class E (R449). -/
def evMeasSeqOverrun : Nat := 150
/-- MEAS_TAP_STALE: R172; clearing class E (R449). -/
def evMeasTapStale : Nat := 151
/-- MEAS_CAPTURE_DONE: R180; clearing class E (R449). -/
def evMeasCaptureDone : Nat := 152
/-- ACC_SATURATED: R197; clearing class E (R449). -/
def evAccSaturated : Nat := 153
/-- MMX_WINDOW: R200; clearing class E (R449). -/
def evMmxWindow : Nat := 154
/-- AGEING_ALERT: R251; clearing class E (R449). -/
def evAgeingAlert : Nat := 155
/-- BRIM_CHANGED: R255; clearing class E (R449). -/
def evBrimChanged : Nat := 156
/-- BRIM_AT_FLOOR: R255; clearing class C (R449). -/
def evBrimAtFloor : Nat := 157
/-- LOCK_ORDER_VIOLATION: R325; clearing class E (R449). -/
def evLockOrderViolation : Nat := 176
/-- LOCK_BROKEN: R328; clearing class E (R449). -/
def evLockBroken : Nat := 177
/-- TWC_ARB_LOST_COND: R345; clearing class E (R449). -/
def evTwcArbLostCond : Nat := 178
/-- TWC_TIMEOUT: R345; clearing class E (R449). -/
def evTwcTimeout : Nat := 179
/-- CAN_CONFIG_INVALID: R349; clearing class E (R449). -/
def evCanConfigInvalid : Nat := 180
/-- CAN_ERROR_PASSIVE: R352; holds while STATE is 1; clearing class C (R449). -/
def evCanErrorPassive : Nat := 181
/-- CAN_BUS_OFF: R352; holds while STATE is 2; clearing class C (R449). -/
def evCanBusOff : Nat := 182
/-- CHAIN_FORMED: R355; clearing class E (R449). -/
def evChainFormed : Nat := 183
/-- CHAIN_ID_CONFLICT: R355; clearing class E (R449). -/
def evChainIdConflict : Nat := 184
/-- CHAIN_LOOP_TOO_LONG: R355; clearing class E (R449). -/
def evChainLoopTooLong : Nat := 185
/-- CHAIN_LOST: R360; holds until frames return; clearing class C (R449). -/
def evChainLost : Nat := 186
/-- CROWN_CHANGED: R360; clearing class E (R449). -/
def evCrownChanged : Nat := 187
/-- SYNC_LOST: R362; holds until re-lock; clearing class C (R449). -/
def evSyncLost : Nat := 188
/-- SYNC_RELOCKED: R362; clearing class E (R449). -/
def evSyncRelocked : Nat := 189
/-- TMR_COMPARE: R367; clearing class E (R449). -/
def evTmrCompare : Nat := 190
/-- TMR_END: R367; clearing class E (R449). -/
def evTmrEnd : Nat := 191
/-- TMR_CONFIG_INVALID: R370; clearing class E (R449). -/
def evTmrConfigInvalid : Nat := 192
/-- UPDATE_MANIFEST_ACCEPTED: R415; clearing class E (R449). -/
def evUpdateManifestAccepted : Nat := 208
/-- UPDATE_COMPLETE: R416; clearing class E (R449). -/
def evUpdateComplete : Nat := 209
/-- UPDATE_ACTIVATED: R420; clearing class E (R449). -/
def evUpdateActivated : Nat := 210
/-- UPDATE_RELAY_REJECTED: R422; clearing class E (R449). -/
def evUpdateRelayRejected : Nat := 211
/-- KEY_UPDATED: R427; clearing class E (R449). -/
def evKeyUpdated : Nat := 212
/-- OWNER_LOCK_CHANGED: R428; clearing class E (R449). -/
def evOwnerLockChanged : Nat := 213

/-- The sources of clearing class C (R447, R449). -/
def evClassC : List Nat := [23, 88, 90, 114, 115, 120, 144, 146, 157, 181, 182, 186, 188]
/-- The defined event numbers (R449); every other number is reserved (R450). -/
def evDefined : List Nat :=
  [0, 1, 2, 3, 4, 5, 6, 7, 8, 9, 10, 11, 16, 17, 18, 19, 20, 21, 22, 23, 24, 25, 26, 27, 28]
  ++ [29, 30, 48, 49, 50, 51, 52, 53, 54, 55, 56, 57, 58, 59, 60, 61, 62, 63, 64, 80, 81, 82, 83, 84, 85]
  ++ [86, 87, 88, 89, 90, 91, 112, 113, 114, 115, 116, 117, 118, 119, 120, 121, 122, 123, 124, 125, 126, 127, 128, 129, 130]
  ++ [144, 145, 146, 147, 148, 149, 150, 151, 152, 153, 154, 155, 156, 157, 176, 177, 178, 179, 180, 181, 182, 183, 184, 185, 186]
  ++ [187, 188, 189, 190, 191, 192, 208, 209, 210, 211, 212, 213]

/-- Status SUCCESS (R313). -/
def stSuccess : Nat := 0x0000
/-- Status NO_CHANGE (R313). -/
def stNoChange : Nat := 0x0001
/-- Status ALREADY_DONE (R313). -/
def stAlreadyDone : Nat := 0x0002
/-- Status ABORTED (R313). -/
def stAborted : Nat := 0x0003
/-- Status SELF_TEST_DONE (R313). -/
def stSelfTestDone : Nat := 0x0004
/-- Status UNSUPPORTED_OPCODE (R313). -/
def stUnsupportedOpcode : Nat := 0x0010
/-- Status WRONG_CLASS (R313). -/
def stWrongClass : Nat := 0x0011
/-- Status INVALID_PARAMETER (R313). -/
def stInvalidParameter : Nat := 0x0012
/-- Status LENGTH_TOO_LARGE (R313). -/
def stLengthTooLarge : Nat := 0x0013
/-- Status BUFFER_TOO_SMALL (R313). -/
def stBufferTooSmall : Nat := 0x0014
/-- Status PERMISSION_DENIED (R313). -/
def stPermissionDenied : Nat := 0x0015
/-- Status DMA_ERROR (R313). -/
def stDmaError : Nat := 0x0016
/-- Status AUTH_FAILED (R313). -/
def stAuthFailed : Nat := 0x0017
/-- Status NOT_FOUND (R313). -/
def stNotFound : Nat := 0x0018
/-- Status RESOURCE_LIMIT (R313). -/
def stResourceLimit : Nat := 0x0019
/-- Status RING_BUSY (R313). -/
def stRingBusy : Nat := 0x001A
/-- Status MAP_INVALID (R313). -/
def stMapInvalid : Nat := 0x0020
/-- Status PROGRAM_INVALID (R313). -/
def stProgramInvalid : Nat := 0x0021
/-- Status MEAS_SEQ_INVALID (R313). -/
def stMeasSeqInvalid : Nat := 0x0022
/-- Status NO_STAGE (R313). -/
def stNoStage : Nat := 0x0030
/-- Status STAGE_BUSY (R313). -/
def stStageBusy : Nat := 0x0031
/-- Status COMMIT_IN_PROGRESS (R313). -/
def stCommitInProgress : Nat := 0x0032
/-- Status WRONG_STATE (R313). -/
def stWrongState : Nat := 0x0040
/-- Status UNIT_RETIRED (R313). -/
def stUnitRetired : Nat := 0x0041
/-- Status CAUSE_PRESENT (R313). -/
def stCausePresent : Nat := 0x0042
/-- Status ACTIVATION_REFUSED (R313). -/
def stActivationRefused : Nat := 0x0050
/-- Status OWNER_LOCKED (R313). -/
def stOwnerLocked : Nat := 0x0051
/-- Status MANIFEST_INVALID (R313). -/
def stManifestInvalid : Nat := 0x0052
/-- Status PIECE_INVALID (R313). -/
def stPieceInvalid : Nat := 0x0053

/-- Opcode RING_CREATE. -/
def opRingCreate : Nat := 0x01
/-- Opcode RING_DELETE. -/
def opRingDelete : Nat := 0x02
/-- Opcode RING_RESET. -/
def opRingReset : Nat := 0x03
/-- Opcode RING_MODIFY. -/
def opRingModify : Nat := 0x04
/-- Opcode ABORT. -/
def opAbort : Nat := 0x05
/-- Opcode EVENT_SUBSCRIBE. -/
def opEventSubscribe : Nat := 0x06
/-- Opcode STAGE_BEGIN. -/
def opStageBegin : Nat := 0x10
/-- Opcode STAGE_COMMIT. -/
def opStageCommit : Nat := 0x11
/-- Opcode STAGE_ABORT. -/
def opStageAbort : Nat := 0x12
/-- Opcode PATH_MAP_LOAD. -/
def opPathMapLoad : Nat := 0x20
/-- Opcode MITTEN_CONFIG. -/
def opMittenConfig : Nat := 0x21
/-- Opcode SOURCE_CONFIG. -/
def opSourceConfig : Nat := 0x22
/-- Opcode STRING_CONFIG. -/
def opStringConfig : Nat := 0x23
/-- Opcode STRING_PROGRAM. -/
def opStringProgram : Nat := 0x24
/-- Opcode PROFILE_SET. -/
def opProfileSet : Nat := 0x25
/-- Opcode MEAS_SEQUENCE. -/
def opMeasSequence : Nat := 0x26
/-- Opcode ACC_CONFIG. -/
def opAccConfig : Nat := 0x27
/-- Opcode MMX_CONFIG. -/
def opMmxConfig : Nat := 0x28
/-- Opcode MITTEN_START. -/
def opMittenStart : Nat := 0x30
/-- Opcode MITTEN_STOP. -/
def opMittenStop : Nat := 0x31
/-- Opcode STRING_START. -/
def opStringStart : Nat := 0x32
/-- Opcode STRING_STOP. -/
def opStringStop : Nat := 0x33
/-- Opcode RETURN_TO_SERVICE. -/
def opReturnToService : Nat := 0x34
/-- Opcode LEND_START. -/
def opLendStart : Nat := 0x35
/-- Opcode LEND_STOP. -/
def opLendStop : Nat := 0x36
/-- Opcode MOTION_SET. -/
def opMotionSet : Nat := 0x37
/-- Opcode SHED. -/
def opShed : Nat := 0xC0
/-- Opcode DISCONNECT. -/
def opDisconnect : Nat := 0xC1
/-- Opcode HOLD. -/
def opHold : Nat := 0xC2
/-- Opcode MEAS_FILTER_SYNC. -/
def opMeasFilterSync : Nat := 0x40
/-- Opcode MEAS_PAIR_CAPTURE. -/
def opMeasPairCapture : Nat := 0x41
/-- Opcode ACC_CLEAR. -/
def opAccClear : Nat := 0x42
/-- Opcode MMX_READ. -/
def opMmxRead : Nat := 0x43
/-- Opcode IMPEDANCE_RUN. -/
def opImpedanceRun : Nat := 0x44
/-- Opcode IMPEDANCE_ABORT. -/
def opImpedanceAbort : Nat := 0x45
/-- Opcode IMPEDANCE_READ. -/
def opImpedanceRead : Nat := 0x46
/-- Opcode SELF_TEST. -/
def opSelfTest : Nat := 0x47
/-- Opcode STATUS_READ. -/
def opStatusRead : Nat := 0x50
/-- Opcode RECORD_READ. -/
def opRecordRead : Nat := 0x51
/-- Opcode BRIM_READ. -/
def opBrimRead : Nat := 0x52
/-- Opcode BRIM_FLOOR_SET. -/
def opBrimFloorSet : Nat := 0x53
/-- Opcode AGEING_REBASE. -/
def opAgeingRebase : Nat := 0x54
/-- Opcode POWER_STATE. -/
def opPowerState : Nat := 0x60
/-- Opcode DEVICE_RESTART. -/
def opDeviceRestart : Nat := 0x61
/-- Opcode TIME_READ. -/
def opTimeRead : Nat := 0x62
/-- Opcode TIME_ANCHOR. -/
def opTimeAnchor : Nat := 0x63
/-- Opcode UPDATE_MANIFEST. -/
def opUpdateManifest : Nat := 0x70
/-- Opcode UPDATE_PIECE. -/
def opUpdatePiece : Nat := 0x71
/-- Opcode UPDATE_STATUS. -/
def opUpdateStatus : Nat := 0x72
/-- Opcode UPDATE_ACTIVATE. -/
def opUpdateActivate : Nat := 0x73
/-- Opcode UPDATE_CANCEL. -/
def opUpdateCancel : Nat := 0x74
/-- Opcode OWNER_LOCK. -/
def opOwnerLock : Nat := 0x78
/-- Opcode KEY_UPDATE. -/
def opKeyUpdate : Nat := 0x79

end Sys2Proof.Machine
end

