-- ==== Sys2Proof/Machine/Ops.lean ====
section
/-! DEFINITION. The named operations every meaning is made of: banks, ring window, tags, events, retry records. -/

namespace Sys2Proof.Machine

/-! ### Banks -/

/-- Phase n. -/
def Dev.phase (d : Dev) (n : Nat) : Phase := d.pw.ph.getD n {}
/-- Mitten m. -/
def Dev.mitten (d : Dev) (m : Nat) : Mitten := d.pw.mit.getD m {}
/-- Source k. -/
def Dev.source (d : Dev) (k : Nat) : Source := d.pw.src.getD k {}
/-- String k. -/
def Dev.string (d : Dev) (k : Nat) : Str := d.pw.str.getD k {}
/-- Bus j. -/
def Dev.busOf (d : Dev) (j : Nat) : Bus := d.pw.bus.getD j {}
/-- The switch of port p (0-11 sources, 12-27 strings). -/
def Dev.switch (d : Dev) (p : Nat) : Switch := d.pw.sw.getD p {}
/-- Measurement unit k. -/
def Dev.unit (d : Dev) (k : Nat) : MUnit := d.ms.mu.getD k {}
/-- Device time in ns (R379). -/
def Dev.now (d : Dev) : Nat := d.sy.time.now

/-- Change the power path. -/
def Dev.onPw (d : Dev) (f : Power → Power) : Dev := { d with pw := f d.pw }
/-- Change the measurement fabric. -/
def Dev.onMs (d : Dev) (f : Meas → Meas) : Dev := { d with ms := f d.ms }
/-- Change the host side. -/
def Dev.onHo (d : Dev) (f : HostSt → HostSt) : Dev := { d with ho := f d.ho }
/-- Change the system part. -/
def Dev.onSy (d : Dev) (f : Sys → Sys) : Dev := { d with sy := f d.sy }
/-- Change the side links. -/
def Dev.onLn (d : Dev) (f : Links → Links) : Dev := { d with ln := f d.ln }

/-- Change phase n. -/
def Dev.modPh (d : Dev) (n : Nat) (f : Phase → Phase) : Dev := d.onPw fun p => { p with ph := p.ph.modify n f }
/-- Change mitten m. -/
def Dev.modMit (d : Dev) (m : Nat) (f : Mitten → Mitten) : Dev := d.onPw fun p => { p with mit := p.mit.modify m f }
/-- Change source k. -/
def Dev.modSrc (d : Dev) (k : Nat) (f : Source → Source) : Dev := d.onPw fun p => { p with src := p.src.modify k f }
/-- Change string k. -/
def Dev.modStr (d : Dev) (k : Nat) (f : Str → Str) : Dev := d.onPw fun p => { p with str := p.str.modify k f }
/-- Change bus j. -/
def Dev.modBus (d : Dev) (j : Nat) (f : Bus → Bus) : Dev := d.onPw fun p => { p with bus := p.bus.modify j f }
/-- Change the switch of port p. -/
def Dev.modSw (d : Dev) (p : Nat) (f : Switch → Switch) : Dev := d.onPw fun q => { q with sw := q.sw.modify p f }
/-- Change unit k. -/
def Dev.modMu (d : Dev) (k : Nat) (f : MUnit → MUnit) : Dev := d.onMs fun m => { m with mu := m.mu.modify k f }
/-- Change tap t. -/
def Dev.modTap (d : Dev) (t : Nat) (f : Tap → Tap) : Dev := d.onMs fun m => { m with tap := m.tap.modify t f }
/-- Change accumulator n. -/
def Dev.modAcc (d : Dev) (n : Nat) (f : Acc → Acc) : Dev := d.onMs fun m => { m with acc := m.acc.modify n f }
/-- Change tracker m. -/
def Dev.modMmx (d : Dev) (n : Nat) (f : Mmx → Mmx) : Dev := d.onMs fun m => { m with mmx := m.mmx.modify n f }
/-- Change the impedance record of string k. -/
def Dev.modImp (d : Dev) (k : Nat) (f : Imp → Imp) : Dev := d.onMs fun m => { m with imp := m.imp.modify k f }
/-- Change timer t. -/
def Dev.modTmr (d : Dev) (t : Nat) (f : Timer → Timer) : Dev := d.onSy fun s => { s with tmr := s.tmr.modify t f }
/-- Change mailbox n. -/
def Dev.modMbx (d : Dev) (n : Nat) (f : Mailbox → Mailbox) : Dev := d.onSy fun s => { s with mbx := s.mbx.modify n f }
/-- Change lock n. -/
def Dev.modLck (d : Dev) (n : Nat) (f : Lock → Lock) : Dev := d.onSy fun s => { s with lck := s.lck.modify n f }
/-- Change target port i. -/
def Dev.modTwt (d : Dev) (i : Nat) (f : Twt → Twt) : Dev := d.onLn fun l => { l with twt := l.twt.modify i f }
/-- Change controller port c. -/
def Dev.modTwc (d : Dev) (c : Nat) (f : Twc → Twc) : Dev := d.onLn fun l => { l with twc := l.twc.modify c f }
/-- Change CAN controller k. -/
def Dev.modCan (d : Dev) (k : Nat) (f : Can → Can) : Dev := d.onLn fun l => { l with can := l.can.modify k f }
/-- Change the chain port. -/
def Dev.modChn (d : Dev) (f : Chain → Chain) : Dev := d.onLn fun l => { l with chn := f l.chn }
/-- Change the hatband. -/
def Dev.modHb (d : Dev) (f : Hatband → Hatband) : Dev := d.onLn fun l => { l with hb := f l.hb }
/-- Change the update and security registers. -/
def Dev.modUpd (d : Dev) (f : UpdSec → UpdSec) : Dev := d.onLn fun l => { l with upd := f l.upd }
/-- Change the GLB registers. -/
def Dev.modGlb (d : Dev) (f : Glb → Glb) : Dev := d.onHo fun h => { h with glb := f h.glb }
/-- Change the HIF registers. -/
def Dev.modHif (d : Dev) (f : Hif → Hif) : Dev := d.onHo fun h => { h with hif := f h.hif }
/-- Change the stage. -/
def Dev.modStage (d : Dev) (f : Stage → Stage) : Dev := d.onPw fun p => { p with stage := f p.stage }
/-- Change the reference. -/
def Dev.modRef (d : Dev) (f : Reference → Reference) : Dev := d.onMs fun m => { m with ref := f m.ref }

/-- Apply a change to the device for each number of a list, in order. -/
def Dev.each (d : Dev) (l : List Nat) (f : Nat → Dev → Dev) : Dev := l.foldl (fun e n => f n e) d

/-- Apply a change where a condition holds. -/
def Dev.when (d : Dev) (c : Bool) (f : Dev → Dev) : Dev := if c then f d else d

/-- Advance the index of free values (log 6). -/
def Dev.tickFree (d : Dev) : Dev := { d with freeIx := d.freeIx + 1 }

/-- Set what the command returns to its sender (log 7). -/
def Dev.reply (d : Dev) (b : List Byte) : Dev := { d with out := { bytes := b, busErr := false } }
/-- A 32-bit value returned to the reader. -/
def Dev.replyW (d : Dev) (w : Word) : Dev := d.reply (leBytes 4 w.toNat)
/-- A bus error to the sender (R317, R320, R327). -/
def Dev.busError (d : Dev) : Dev := { d with out := { bytes := [], busErr := true } }

/-- A meaning that changes the device and nothing else. -/
def State.onDev (s : State) (f : Dev → Dev) : Host.Outcome State Fault Refusal := .next { s with dev := f s.dev }
/-- A meaning that changes the device and its non-volatile state. -/
def State.onBoth (s : State) (f : Dev → Nv → Dev × Nv) : Host.Outcome State Fault Refusal :=
  let r := f s.dev s.nv
  .next { s with dev := r.1, nv := r.2 }

/-! ### The ring window (R262, R263) -/

/-- One byte of the window; an unlisted byte reads 0 (DESIGN CHOICE, log 8). -/
def winGet : Window → Nat → Byte
  | [], _ => 0
  | (x, y) :: t, a => if x = a then y else winGet t a

/-- Write one byte of the window, keeping the canonical form. -/
def winSet : Window → Nat → Byte → Window
  | [], a, b => if b = 0 then [] else [(a, b)]
  | (x, y) :: t, a, b =>
    if a < x then (if b = 0 then (x, y) :: t else (a, b) :: (x, y) :: t)
    else if a = x then (if b = 0 then t else (a, b) :: t)
    else (x, y) :: winSet t a b

/-- Write bytes at ascending addresses; bytes beyond the 256 KiB window are not written (R262). -/
def winWrite : Window → Nat → List Byte → Window
  | m, _, [] => m
  | m, a, b :: t => winWrite (if a < 262144 then winSet m a b else m) (a + 1) t

/-- Read n bytes at ascending addresses. -/
def winRead (m : Window) (a n : Nat) : List Byte := (List.range n).map (fun i => winGet m (a + i))

/-- The canonical form: addresses strictly rising and below 256 Ki, no zero byte listed. -/
def winWf : Window → Bool
  | [] => true
  | [(a, b)] => decide (a < 262144) && b != 0
  | (a, b) :: (c, e) :: t => decide (a < c) && b != 0 && winWf ((c, e) :: t)

/-! ### Host memory and interrupts -/

/-- Quad-SPI mode, by the sampled strap (R258). -/
def Dev.qspiMode (d : Dev) : Bool := d.sy.straps.getLsbD 0

/-- A write of the device into host memory: the ring window in quad-SPI mode (R263), else a posted write (R271). -/
def Dev.hostWrite (d : Dev) (addr : Nat) (b : List Byte) : Dev :=
  if b.isEmpty then d
  else if d.qspiMode then d.onHo fun h => { h with win := winWrite h.win addr b }
  else d.onHo fun h => { h with posted := h.posted ++ [.data addr b] }

/-- Assert WAKE# while the link is in L2 (R284). -/
def Dev.wakeSideband (d : Dev) : Dev :=
  if d.ho.hif.inL2 && !d.qspiMode then d.modHif fun h => { h with wakeLow := true } else d

/-- Set the pending bit of a vector that sends no message (R283). -/
def Hif.pend (h : Hif) (v : Nat) : Hif :=
  if v < 32 then { h with pendLo := h.pendLo ||| (1#32 <<< v) } else { h with pendHi := h.pendHi ||| (1#32 <<< (v - 32)) }

/-- RUN or LIMP. -/
def Dev.inRun (d : Dev) : Bool := d.sy.power = .run || d.sy.power = .limp

/-- Whether the device can write host memory and interrupt the host now (R261, R284, R291). -/
def Dev.linkUp (d : Dev) : Bool :=
  (d.inRun || d.sy.power == .sleep) && (d.qspiMode || (d.ho.hif.bme && !d.ho.hif.inL2))

/-- Whether the set-up window and BAR2 answer: not in OFF, SHIP, DEEP, nor under the recovery ROM (R291, R383, R431). -/
def Dev.windowUp (d : Dev) : Bool :=
  d.sy.power == .liner || d.sy.power == .run || d.sy.power == .limp || d.sy.power == .sleep

/-- Address and data of an entry of the MSI-X table (R260). -/
def Hif.vecEntry (h : Hif) (v : Nat) : List Byte := (look v h.vecAddr).getD (List.replicate 12 0)

/-- Send the message of a vector; its pending bit clears (R259, R282). -/
def Dev.sendMsix (d : Dev) (v : Nat) : Dev :=
  (d.modHif fun h => { h with pba := h.pba &&& ~~~(1#64 <<< v) }).onHo fun h => { h with posted := h.posted ++ [.msix v (h.hif.vecEntry v)] }

/-- A vector fires (R282, R283): a message, a masked vector's pending bit, or an INT_PEND bit where no message can be sent, as in a
power state without interrupts (R291; DEDUCED, log 179). -/
def Dev.fire (d : Dev) (v : Nat) : Dev :=
  (if d.qspiMode || !d.ho.hif.msixEn || d.ho.hif.msixMask || !d.linkUp then d.modHif (·.pend v)
   else if d.ho.hif.vecMask.getLsbD v then d.modHif fun h => { h with pba := h.pba ||| (1#64 <<< v) }
   else d.sendMsix v).wakeSideband

/-- INT_N is asserted (low) (R283). -/
def Hif.intAsserted (h : Hif) : Bool := h.intnEn && (h.pendLo != 0 || h.pendHi != 0)

/-- INT_N of the device: no interrupt in LINER, DEEP, SHIP and RECOVERY (R283, R291). -/
def Dev.intN (d : Dev) : Bool := (d.inRun || d.sy.power == .sleep) && d.ho.hif.intAsserted

/-! ### Rings and tags -/

/-- Ring r; a ring not listed is in NONE. -/
def Dev.ring (d : Dev) (r : Nat) : Ring := (look r d.ho.rings).getD {}

/-- Store ring r; a ring in NONE is not listed. -/
def Dev.setRing (d : Dev) (r : Nat) (v : Ring) : Dev :=
  d.onHo fun h => { h with rings := if v.st = .none then unassign r h.rings else assign r v h.rings }

/-- Change ring r where it exists. -/
def Dev.modRing (d : Dev) (r : Nat) (f : Ring → Ring) : Dev :=
  match look r d.ho.rings with
  | none => d
  | some v => d.setRing r (f v)

/-- The record of a tag in flight. -/
def Dev.tagOf (d : Dev) (t : Nat) : Option TagRec := d.ho.tags.find? (fun x => x.tag == t)

/-- Change the record of a tag. -/
def Dev.modTag (d : Dev) (t : Nat) (f : TagRec → TagRec) : Dev :=
  d.onHo fun h => { h with tags := h.tags.map (fun x => if x.tag = t then f x else x) }

/-- Free a tag. -/
def Dev.freeTag (d : Dev) (t : Nat) : Dev := d.onHo fun h => { h with tags := h.tags.filter (fun x => x.tag != t) }

/-- Tags in flight of a ring; each holds one reserved completion slot (R276). A tag whose completion is discarded belongs to a ring
that is gone (R261). -/
def Dev.inFlight (d : Dev) (r : Nat) : Nat := (d.ho.tags.filter (fun x => x.ring == r && !x.drop)).length

/-- Completion entries of a ring (R273). -/
def Ring.cqLen (r : Ring) : Nat := 2 ^ r.cqExp
/-- Submission slots of a ring (R272). -/
def Ring.sqLen (r : Ring) : Nat := 2 ^ r.sqExp

/-- Write one 16-byte entry at CQ_TAIL and advance it, inverting PHASE at the wrap (R273). -/
def Dev.writeEntry (d : Dev) (r : Nat) (lo : Nat) (w6 : Nat) (hi : Nat) : Dev :=
  let g := d.ring r
  let b := leBytes 6 lo ++ leBytes 2 (w6 % 0x8000 + 0x8000 * b2n g.phaseBit) ++ leBytes 8 hi
  let last := g.cqTail + 1 == g.cqLen
  ((d.hostWrite (g.cqBase + 16 * g.cqTail) b).modRing r fun x =>
    { x with cqTail := if last then 0 else x.cqTail + 1, phaseBit := if last then !x.phaseBit else x.phaseBit,
             unrel := x.unrel + 1 }).wakeSideband

/-- What an event names (R302, R303): a phase, a mitten, a node, or another unit. -/
inductive EvKind where
  | phase | mitten | node | other
  deriving DecidableEq, Repr

/-- The kind of unit in an event's INSTANCE (R303, R449); a brim row is a mitten or a string. -/
def evKind (ev inst : Nat) : EvKind :=
  if ev = evQuadSupplyFault then .other
  else if ev = evGauntletNoSupply then .mitten
  else if 48 ≤ ev ∧ ev ≤ 54 then .phase
  else if ev = evPhaseRetired then .phase
  else if 56 ≤ ev ∧ ev ≤ 63 then .mitten
  else if 80 ≤ ev ∧ ev ≤ 91 then .node
  else if 112 ≤ ev ∧ ev ≤ 130 then .node
  else if ev = evPortEscalated ∨ ev = evMeasTapStale then .node
  else if ev = evBrimChanged ∨ ev = evBrimAtFloor then (if inst < 16 then .mitten else .node)
  else .other

/-- The mitten that holds a phase in a map. -/
def PathMap.mitOf (m : PathMap) (ph : Nat) : Option Nat :=
  (List.range 16).find? fun i => let e := m.mits.getD i {}; e.topo != 0 && e.phases.getLsbD ph

/-- The kind of unit that an aged item names: a phase for a delay line, a mitten, a node, or a measurement unit (R251, R309). -/
def ageKind (item : Nat) : EvKind :=
  if item = 2 then .phase else if item = 4 ∨ item = 5 then .mitten else if item ≤ 1 then .other else .node

/-- The kind of unit that a raised event names; AGEING_ALERT carries its item in its data. -/
def EventRec.kind (e : EventRec) (inst : Nat) : EvKind :=
  if e.ev = evAgeingAlert then ageKind (leAt e.data 0 2) else evKind e.ev inst

/-- Whether a subscribed ring receives an event (R302). -/
def Ring.takes (r : Ring) (m : PathMap) (e : EventRec) : Bool :=
  r.subs.contains e.ev &&
  match e.inst with
  | none => true
  | some i => match e.kind i with
    | .node => r.nodeMask.getLsbD i
    | .mitten => r.mitMask.getLsbD i
    | .phase => match m.mitOf i with | none => true | some k => r.mitMask.getLsbD k
    | .other => true

/-- The event completion of one ring (R303), or one more lost event where no slot is free (R294). -/
def Dev.putEvent (d : Dev) (e : EventRec) (r : Nat) : Dev :=
  let g := d.ring r
  if d.inFlight r + g.unrel < g.cqLen && g.lost == 0 then
    d.writeEntry r (65536 * e.ev + 16777216 * (e.inst.getD 0xFF % 256) + 4294967296 * (e.seq % 65536))
      (e.frame % 4096 + 0x1000 + 0x2000 * b2n e.inst.isNone) (leNat (e.data.take 8))
  else d.modRing r fun x => { x with lost := x.lost + 1 }

/-- Write the event completions that wait for the link, in raising order (R284, R291). -/
def Dev.flushRing (d : Dev) (r : Nat) : Dev :=
  if d.linkUp then
    (d.ring r).evWait.foldl (fun x e => x.putEvent e r) (d.modRing r fun x => { x with evWait := [] })
  else d

/-- An event completion becomes due on a ring: it is written behind those that wait, or waits itself while no completion can be
written, WAKE# telling the host in L2 (R284, R291; DEDUCED, log 179). -/
def Dev.eventTo (d : Dev) (e : EventRec) (r : Nat) : Dev :=
  if d.linkUp then (d.flushRing r).putEvent e r
  else (d.modRing r fun x => { x with evWait := x.evWait ++ [e] }).wakeSideband

/-- Add a record to log n (R310). -/
def Dev.addLog (d : Dev) (n : Nat) (time code inst : Nat) (data : List Byte) : Dev :=
  d.onHo fun h => { h with
    log := h.log.modify n (· ++ [{ seq := h.logSeq.getD n 0, time := time, code := code, inst := inst,
                                   data := (data ++ List.replicate 12 0).take 12 }]),
    logSeq := h.logSeq.modify n (· + 1) }

/-- The hatband's record of an event whose mask bit is set (R341). -/
def Dev.hbEvent (d : Dev) (e : EventRec) : Dev :=
  if bit (d.ln.hb.evMask.getD (e.ev / 32) 0) (e.ev % 32) then
    d.modHb fun h => { h with pending := satInc 255 h.pending,
                              newest := ((e.ev, e.inst.getD 0xFF, e.seq) :: h.newest).take 7 }
  else d

/-- Deliver a raised event to the subscribed rings and the event log (R447 steps 3 and 4). -/
def Dev.deliver (d : Dev) (e : EventRec) : Dev :=
  let rs := (d.ho.rings.filter fun p => p.2.takes d.pw.map e).map (·.1)
  (d.each rs fun r x => x.eventTo e r).addLog 0 e.time e.ev (e.inst.getD 0xFFFF) e.data

/-- The event's byte in GLB_EVVEC (R441). -/
def Glb.vecByte (g : Glb) (ev : Nat) : Nat := bits (g.evvec.getD (ev / 4) 0).toNat (8 * (ev % 4)) 8

/-- Put a message into the queue of the chain's AUX field (R358). -/
def Dev.chainSend (d : Dev) (msg : List Byte) : Dev := d.modChn fun c => { c with outMsg := c.outMsg ++ [msg] }

/-- Whether this device has a shared mitten. -/
def Dev.hasShared (d : Dev) : Bool := d.pw.map.mits.any fun e => e.topo != 0 && e.shared

/-- Whether an event names a shared mitten, LIMP or a chain role, and so goes over the chain (R358; DEDUCED, log 70). -/
def Dev.chainEvent (d : Dev) (ev : Nat) (inst : Option Nat) : Bool :=
  ev == evLimpEntered || ev == evLimpLeft || ev == evCrownChanged ||
  (decide (evMittenShort ≤ ev) && decide (ev ≤ evSharedSenseMismatch) &&
    match inst with
    | some m => (d.pw.map.mits.getD m {}).topo != 0 && (d.pw.map.mits.getD m {}).shared
    | none => false)

/-- Raise an event on this device (R447): status bit, direct vector, the hatband's record (R341), completions and log record. From
the stall of the active supervisor or the reset of a warm start to the first completed checkpoint after it, the completions and the
log record are held. -/
def Dev.raiseHere (d : Dev) (ev : Nat) (inst : Option Nat) (data : List Byte) : Dev :=
  let e : EventRec := { ev := ev, inst := inst, seq := d.ho.evSeq, frame := d.sy.cframe.count, time := d.now,
                        data := (data ++ List.replicate 12 0).take 12 }
  let d := d.onHo fun h => { h with glb := { h.glb with evstat := insertN ev h.glb.evstat },
                                    evSeq := (h.evSeq + 1) % 65536 }
  let vb := d.ho.glb.vecByte ev
  let d := if vb ≥ 128 then d.fire (vb % 64) else d
  let d := d.hbEvent e
  if d.sy.holdOn then d.onHo fun h => { h with heldEv := h.heldEv ++ [e] } else d.deliver e

/-- Raise an event (R447); in a formed chain one that concerns the chain is also sent as an EVENT message (R358). -/
def Dev.raise (d : Dev) (ev : Nat) (inst : Option Nat) (data : List Byte) : Dev :=
  let d := d.raiseHere ev inst data
  if d.ln.chn.st == .formed && d.chainEvent ev inst then
    d.chainSend ([4, BitVec.ofNat 8 d.ln.chn.pos, BitVec.ofNat 8 ev, BitVec.ofNat 8 (inst.getD 0xFF)] ++
      (data ++ List.replicate 8 0).take 8)
  else d

/-- The key of a standing condition of class C: event and unit. -/
def condKey (ev unit : Nat) : Nat := ev * 256 + unit

/-- The onset of a class C condition: raised once, at the onset (R447). -/
def Dev.onset (d : Dev) (ev unit : Nat) (inst : Option Nat) (data : List Byte) : Dev :=
  if d.ho.glb.evcond.contains (condKey ev unit) then d
  else (d.modGlb fun g => { g with evcond := insertN (condKey ev unit) g.evcond }).raise ev inst data

/-- The end of a class C condition; the status bit stays until it is cleared (R447). -/
def Dev.offset (d : Dev) (ev unit : Nat) : Dev :=
  d.modGlb fun g => { g with evcond := g.evcond.filter (· ≠ condKey ev unit) }

/-- Two-byte item of an event's data (R448). -/
def d2 (n : Nat) : List Byte := leBytes 2 n
/-- Four-byte signed item of an event's data (R448). -/
def d4 (v : Int) : List Byte := leBytes 4 (enc 4 (sat32 v))
/-- Four-byte unsigned saturating duration (R448). -/
def dDur (n : Nat) : List Byte := leBytes 4 (min n 0xFFFFFFFF)

/-- Node code of source k, bus j and string k (R22). -/
def srcNode (k : Nat) : Nat := k
/-- Node code of a bus. -/
def busNode (j : Nat) : Nat := 0x10 + j
/-- Node code of a string. -/
def strNode (k : Nat) : Nat := 0x20 + k

/-! ### Command outcomes -/

/-- Count an outcome: AUTH_FAILS and PIECE_REJECTS (R418, R429). -/
def Dev.countOutcome (d : Dev) (status : Nat) : Dev :=
  d.modUpd fun u =>
    { u with authFails := if status = stAuthFailed then satInc 65535 u.authFails else u.authFails,
             rejects := if status = stPieceInvalid then satInc 65535 u.rejects else u.rejects }

/-- A descriptor's outcome without waiting for a checkpoint (R278: refusals). -/
def Dev.refuse (d : Dev) (t : Nat) (status result : Nat) : Dev :=
  (d.modTag t fun x => { x with st := .due, status := status, result := result, resp := [] }).countOutcome status

/-- A command has executed; its completion waits for the next completed checkpoint (R278). -/
def Dev.done (d : Dev) (t : Nat) (status result : Nat) (resp : List Byte) : Dev :=
  d.modTag t fun x => { x with st := .awaiting, status := status, result := if resp.isEmpty then result else
    (if result = 0 then resp.length else result), resp := resp }

/-- SUCCESS with nothing to return. -/
def Dev.ok (d : Dev) (t : Nat) : Dev := d.done t stSuccess 0 []

/-- RESULT of WRONG_STATE (R298). -/
def wrongResult (reason unit detail : Nat) : Nat := reason + 65536 * unit + 4294967296 * detail

/-- WRONG_STATE (R298). -/
def Dev.wrong (d : Dev) (t reason unit detail : Nat) : Dev := d.refuse t stWrongState (wrongResult reason unit detail)

/-- RESULT of a check failure: check number and byte offset (R313). -/
def checkResult (check off : Nat) : Nat := check + 4294967296 * off

/-! ### Retry records (R238) -/

/-- Retries that started within the last 60 s. -/
def Ladder.recent (l : Ladder) (now : Nat) : List Nat := l.retries.filter fun t => now < t + 60000000000

/-- k ≥ 5: the fault is permanent. -/
def Ladder.spent (l : Ladder) (now : Nat) : Bool := 5 ≤ (l.recent now).length

/-- Enter the backoff of 10 ms x 2^k. -/
def Ladder.enter (l : Ladder) (now cause : Nat) : Ladder :=
  { l with retries := l.recent now, backoff := some (10 * 2 ^ (l.recent now).length), cause := cause }

/-- A retry without a backoff of its own, as that of a restarted engine (R246); one that runs goes on, and no retry is entered
(R257). -/
def Ladder.note (l : Ladder) (now : Nat) : Ladder := if l.backoff.isSome then l else { l with retries := l.recent now ++ [now] }
/-- A fault retires the unit: no backoff runs. -/
def Ladder.retire (l : Ladder) (now : Nat) : Ladder := { l with backoff := none, gone := some now }
/-- The retry starts: it counts from now. -/
def Ladder.start (l : Ladder) (now : Nat) : Ladder := { l with retries := l.recent now ++ [now], backoff := none }

/-! ### Power states -/

/-- Restart the watchdog's period from 0; a window of 0 % is open at once (R372, R373, R377). -/
def Wdt.restart (w : Wdt) : Wdt :=
  { w with countNs := 0, heldNs := 0, keyOpen := false, lapsed := false, opened := decide (Config.wdtWindow = 0) }

/-- A wake source before the boundary abandons an accepted entry (R385). -/
def Dev.abandon (d : Dev) : Dev :=
  (d.onSy fun s => { s with order := none, sleepNext := false }).raise evPowerEntryAbandoned none []

/-- ENGINE_STALL, counted (R246, R247). The sequencer of a measurement unit has no agent number, and its stall names none (DESIGN
CHOICE, log 162). -/
def Dev.stallSeen (d : Dev) (a : Option Nat) : Dev :=
  (d.onSy fun y => { y with stalls := satInc 65535 y.stalls }).raise evEngineStall a (d2 (a.getD 0xFFFF))

/-- Wake from SLEEP to RUN with its cause (R377, R386, R387); a crown with a shared mitten orders the chain to RUN (R358). -/
def Dev.wakeSleep (d : Dev) (cause : Nat) : Dev :=
  if d.sy.power = .sleep then
    let d := d.onSy fun s => { s with power := .run, wakeCause := cause, sleepNext := false, wdt := s.wdt.restart }
    if d.ln.chn.role == 1 && d.hasShared then d.chainSend ([2, 4] ++ leBytes 2 (d.sy.tick.count + 2)) else d
  else if d.sy.order = some .sleep || d.sy.sleepNext then d.abandon else d

/-- The current limit of R64. -/
def limitOf (iMax : Int) (nActive nMember : Nat) : Int := if nMember = 0 then 0 else floorDiv (iMax * nActive) nMember

end Sys2Proof.Machine
end

