-- ==== Sys2Proof/Machine/Operands.lean ====
section
/-! DEFINITION. The operands of commands: path-map queries, the path-map object and its checks (R20-R31), parameter
sets with their defaults and ranges (R53, R67, R95, R128, R299, R300). -/

namespace Sys2Proof.Machine

/-! ### Queries over a path map -/

/-- A node of the map (R12, R22). -/
inductive Node where
  | src (k : Nat) | bus (j : Nat) | str (k : Nat)
  deriving DecidableEq, Repr

/-- The node of a code (R22). -/
def nodeOf (c : Nat) : Option Node :=
  if c < 12 then some (.src c) else if 16 ≤ c ∧ c < 20 then some (.bus (c - 16))
  else if 32 ≤ c ∧ c < 48 then some (.str (c - 32)) else none

/-- The code of a node (R22). -/
def Node.code : Node → Nat
  | .src k => k
  | .bus j => 16 + j
  | .str k => 32 + k

/-- Source entry k. -/
def PathMap.srcE (m : PathMap) (k : Nat) : PortEntry := m.srcs.getD k {}
/-- String entry k. -/
def PathMap.strE (m : PathMap) (k : Nat) : PortEntry := m.strs.getD k {}
/-- Bus entry j. -/
def PathMap.busE (m : PathMap) (j : Nat) : BusEntry := m.buses.getD j {}
/-- Mitten entry i. -/
def PathMap.mitE (m : PathMap) (i : Nat) : MitEntry := m.mits.getD i {}
/-- Sense entry i, in the order of R26. -/
def PathMap.senseE (m : PathMap) (i : Nat) : SenseEntry := m.sense.getD i {}

/-- A port entry of number p (0-11 sources, 12-27 strings). -/
def PathMap.portE (m : PathMap) (p : Nat) : PortEntry := if p < 12 then m.srcE p else m.strE (p - 12)

/-- Whether a node is enabled (R12). -/
def PathMap.enabled (m : PathMap) : Node → Bool
  | .src k => (m.srcE k).type != 0
  | .bus j => (m.busE j).enable
  | .str k => (m.strE k).type != 0

/-- V_MIN of a node's entry. -/
def PathMap.nodeMin (m : PathMap) : Node → Int
  | .src k => (m.srcE k).vMin
  | .bus j => (m.busE j).vMin
  | .str k => (m.strE k).vMin

/-- V_MAX of a node's entry. -/
def PathMap.nodeMax (m : PathMap) : Node → Int
  | .src k => (m.srcE k).vMax
  | .bus j => (m.busE j).vMax
  | .str k => (m.strE k).vMax

/-- Sense index of a node's voltage (R26). -/
def Node.vIx : Node → Nat
  | .src k => 2 * k
  | .bus j => 24 + 2 * j
  | .str k => 32 + 3 * k
/-- Sense index of a node's current. -/
def Node.iIx (n : Node) : Nat := n.vIx + 1
/-- Sense index of AUX a. -/
def auxIx (a : Nat) : Nat := 80 + a
/-- Sense index of the current of phase n. -/
def phIx (n : Nat) : Nat := 112 + n

/-- The members of the shared terminal of source k (R16): itself and every source that shares its first member. -/
def PathMap.group (m : PathMap) (k : Nat) : List Nat :=
  let f := if (m.srcE k).share < 12 then (m.srcE k).share else k
  (List.range 12).filter fun i => i == f || (m.srcE i).type != 0 && (m.srcE i).share == f

/-- The first member of a source's group. -/
def PathMap.groupHead (m : PathMap) (k : Nat) : Nat := if (m.srcE k).share < 12 then (m.srcE k).share else k

/-- FROM node of an entry. -/
def MitEntry.fromNode (e : MitEntry) : Node := (nodeOf e.fromN).getD (.src 0)
/-- TO node of an entry. -/
def MitEntry.toNode (e : MitEntry) : Node := (nodeOf e.toN).getD (.src 0)
/-- Whether the entry is in use. -/
def MitEntry.used (e : MitEntry) : Bool := e.topo != 0
/-- BIDIR or FSBB (R18). -/
def MitEntry.bidir (e : MitEntry) : Bool := e.topo == 3 || e.topo == 4
/-- FSBB (R18). -/
def MitEntry.fsbb (e : MitEntry) : Bool := e.topo == 4
/-- The phases of an entry, ascending. -/
def MitEntry.members (e : MitEntry) : List Nat := bitsSet 64 e.phases.toNat
/-- n_member on this device (R64). -/
def MitEntry.nMember (e : MitEntry) : Nat := e.members.length

/-- Whether a mitten connects at the terminal of a port (R12, R16). -/
def PathMap.atPort (m : PathMap) (i p : Nat) : Bool :=
  let e := m.mitE i
  e.used && (if p < 12 then e.fromN == m.groupHead p || e.toN == m.groupHead p
             else e.fromN == 0x20 + (p - 12) || e.toN == 0x20 + (p - 12))

/-- The mittens that connect at a port, ascending. -/
def PathMap.mitsAt (m : PathMap) (p : Nat) : List Nat := (List.range 16).filter (m.atPort · p)

/-- The mittens that connect at a node, ascending. -/
def PathMap.mitsOn (m : PathMap) (n : Node) : List Nat :=
  match n with
  | .src k => m.mitsAt k
  | .str k => m.mitsAt (12 + k)
  | .bus j => (List.range 16).filter fun i => (m.mitE i).used && ((m.mitE i).fromN == 16 + j || (m.mitE i).toN == 16 + j)

/-! ### The path-map object (R20-R27) -/

/-- Parse the common part of a source or string entry, substituting selecting values (R23). -/
def parsePort (b : List Byte) (o : Nat) (isStr : Bool) : PortEntry :=
  let m := byteAt b (o + 1)
  let ir := s32At b (o + 12)
  let iv := leAt b (o + 20) 4
  { type := byteAt b o, place := bits m 0 2, tieBus := bits m 2 2, allowed := BitVec.ofNat 3 (bits m 4 3),
    defMode := byteAt b (o + 2), share := byteAt b (o + 3), vMin := s32At b (o + 4), vMax := s32At b (o + 8),
    iRated := ir, vClose := (if leAt b (o + 16) 2 = 0 then 500 else leAt b (o + 16) 2),
    von := (if leAt b (o + 18) 2 = 0 then 20 else leAt b (o + 18) 2),
    irev := (if iv = 0xFFFFFFFF then (pctOf 1 ir).toNat else iv),
    cells := if isStr then byteAt b (o + 24) else 0, chem := if isStr then byteAt b (o + 25) else 0,
    capacity := if isStr then s32At b (o + 28) else 0 }

/-- Parse a bus entry (R24). The default of V_SUPP, 97 % of V_TARGET, is not clamped to V_MIN (R468; MC14 judges it; DEDUCED,
log 184). -/
def parseBus (b : List Byte) (o : Nat) : BusEntry :=
  let vt := s32At b (o + 4)
  { enable := byteAt b o % 2 == 1, vTarget := vt, vMin := s32At b (o + 8), vMax := s32At b (o + 12),
    vSupp := if leAt b (o + 16) 4 = 0 then pctOf 97 vt else s32At b (o + 16), cBus := leAt b (o + 20) 4 }

/-- Parse a mitten entry (R25). -/
def parseMit (b : List Byte) (o : Nat) : MitEntry :=
  { topo := byteAt b o, fromN := byteAt b (o + 1), toN := byteAt b (o + 2), lend := (byteAt b (o + 3)).testBit 0,
    shared := (byteAt b (o + 3)).testBit 1, phases := BitVec.ofNat 64 (leAt b (o + 4) 8), iMax := s32At b (o + 12),
    lNom := leAt b (o + 16) 4 }

/-- Parse a sense entry (R26). -/
def parseSense (b : List Byte) (o : Nat) : SenseEntry :=
  { mode := byteAt b o, invert := (byteAt b (o + 1)).testBit 0, unit := byteAt b (o + 2), fsEng := s32At b (o + 4),
    offset := s32At b (o + 8) }

/-- Offset of source entry i (R20). -/
def offSrc (i : Nat) : Nat := 0x10 + 32 * i
/-- Offset of bus entry i. -/
def offBus (i : Nat) : Nat := 0x190 + 32 * i
/-- Offset of string entry i. -/
def offStr (i : Nat) : Nat := 0x210 + 32 * i
/-- Offset of mitten entry i. -/
def offMit (i : Nat) : Nat := 0x410 + 32 * i
/-- Offset of sense entry i. -/
def offSense (i : Nat) : Nat := 0x610 + 16 * i
/-- Offset of a node's entry. -/
def Node.off : Node → Nat
  | .src k => offSrc k
  | .bus j => offBus j
  | .str k => offStr k

/-- Parse a path map of 4,368 bytes (R20). -/
def parseMap (b : List Byte) : PathMap :=
  { mapId := leAt b 4 4, srcs := (List.range 12).map fun i => parsePort b (offSrc i) false,
    buses := (List.range 4).map fun i => parseBus b (offBus i),
    strs := (List.range 16).map fun i => parsePort b (offStr i) true,
    mits := (List.range 16).map fun i => parseMit b (offMit i),
    sense := (List.range 176).map fun i => parseSense b (offSense i) }

/-- What a map check needs beside the map: the map in force, the running mittens, whether a chain is formed and the shared mittens
its other devices report, the ports configured as digital I/O, the T_INPUTs in force or staged per mitten, and the ring's
masks (R28, R357). -/
structure MapCtx where
  old      : PathMap
  running  : Nat → Bool
  chain    : Bool
  chainMits : List Nat
  digital  : Nat → Bool
  tInputs  : Nat → List Nat
  nodeMask : BitVec 64
  mitMask  : BitVec 16

/-- First number below n at which a test holds. -/
def firstN (n : Nat) (p : Nat → Bool) : Option Nat := (List.range n).find? p

/-- A check over numbered entries: the offset of the first entry that fails. -/
def failAt (n : Nat) (off : Nat → Nat) (p : Nat → Bool) : Option Nat := (firstN n p).map off

/-- MC03 of a source or string entry (R28). -/
def mc03Port (b : List Byte) (o : Nat) (isStr : Bool) : Bool :=
  let m := byteAt b (o + 1)
  let res := m.testBit 7 || (if isStr then !zeroSpan b (o + 26) 2 else !zeroSpan b (o + 24) 8)
  let ty := byteAt b o
  let sh := byteAt b (o + 3)
  res || (ty != 0 && ((if isStr then 1 < ty else 6 < ty) || 1 < bits m 0 2 || 2 < byteAt b (o + 2) ||
    (!isStr && !(sh < 12 || sh == 15)) || (isStr && (byteAt b (o + 25) == 0 || 8 < byteAt b (o + 25)))))

/-- MC03 of a bus entry. -/
def mc03Bus (b : List Byte) (o : Nat) : Bool :=
  bits (byteAt b o) 1 7 != 0 || !zeroSpan b (o + 1) 3 || !zeroSpan b (o + 24) 8

/-- MC03 of a mitten entry. -/
def mc03Mit (b : List Byte) (o : Nat) : Bool :=
  bits (byteAt b (o + 3)) 2 6 != 0 || !zeroSpan b (o + 20) 12 ||
  (byteAt b o != 0 && (4 < byteAt b o || (nodeOf (byteAt b (o + 1))).isNone || (nodeOf (byteAt b (o + 2))).isNone))

/-- MC03 of a sense entry. -/
def mc03Sense (b : List Byte) (o : Nat) : Bool :=
  bits (byteAt b (o + 1)) 1 7 != 0 || !zeroSpan b (o + 3) 1 || !zeroSpan b (o + 12) 4 || 2 < byteAt b o ||
  (byteAt b o != 0 && 2 < byteAt b (o + 2))

/-- First of a list of optional offsets. -/
def firstOff (l : List (Option Nat)) : Option Nat := l.findSome? id

/-- MC03 over the whole object, in layout order (R28). -/
def mc03 (b : List Byte) : Option Nat :=
  firstOff [if zeroSpan b 12 4 then none else some 0, failAt 12 offSrc fun i => mc03Port b (offSrc i) false,
    failAt 4 offBus fun i => mc03Bus b (offBus i), failAt 16 offStr fun i => mc03Port b (offStr i) true,
    failAt 16 offMit fun i => mc03Mit b (offMit i), failAt 176 offSense fun i => mc03Sense b (offSense i)]

/-- MC04: a phase set in more than one mitten. -/
def mc04 (m : PathMap) : Option Nat :=
  failAt 16 offMit fun i => (m.mitE i).used &&
    (List.range i).any fun j => (m.mitE j).used && (m.mitE i).phases &&& (m.mitE j).phases != 0

/-- Whether a phase set is made of whole pairs (2j, 2j+1). -/
def wholePairs (p : BitVec 64) : Bool := (List.range 32).all fun j => p.getLsbD (2 * j) == p.getLsbD (2 * j + 1)

/-- MC05: an FSBB mitten without whole pairs, or a mitten with no phase. -/
def mc05 (m : PathMap) : Option Nat :=
  failAt 16 offMit fun i => let e := m.mitE i
    e.used && (e.phases == 0 || (e.fsbb && !wholePairs e.phases))

/-- MC06: FROM = TO, a disabled node, or TO a source without LEND. -/
def mc06 (m : PathMap) : Option Nat :=
  failAt 16 offMit fun i => let e := m.mitE i
    e.used && (e.fromN == e.toN || !m.enabled e.fromNode || !m.enabled e.toNode || (e.toN < 12 && !e.lend))

/-- The nodes a named node stands for in a voltage relation: every member in use of its shared terminal (R18, R28). -/
def PathMap.standsFor (m : PathMap) : Node → List Node
  | .src k => ((m.group k).filter fun i => (m.srcE i).type != 0).map .src
  | n => [n]

/-- MC07: the voltage relation of R18. -/
def mc07 (m : PathMap) : Option Nat :=
  failAt 16 offMit fun i => let e := m.mitE i
    let fs := m.standsFor e.fromNode
    let ts := m.standsFor e.toNode
    e.used && !(fs.all fun f => ts.all fun t =>
      if e.topo = 1 ∨ e.topo = 3 then decide (m.nodeMin f > m.nodeMax t)
      else if e.topo = 2 then decide (m.nodeMax f < m.nodeMin t) else true)

/-- The LEND_DC source at an end of a mitten (R19). -/
def PathMap.lendSrc (m : PathMap) (e : MitEntry) : Option Nat :=
  if e.fromN < 12 && (m.srcE e.fromN).type == 6 then some e.fromN
  else if e.toN < 12 && (m.srcE e.toN).type == 6 then some e.toN else none

/-- MC08: a LEND flag violates R19. -/
def mc08 (m : PathMap) : Option Nat :=
  failAt 16 offMit fun i => let e := m.mitE i
    e.used && e.lend && (!e.bidir || match m.lendSrc e with
      | none => true
      | some k => (List.range i).any fun j => (m.mitE j).used && (m.mitE j).lend && m.lendSrc (m.mitE j) == some k)

/-- MC09: an enabled bus no mitten can carry energy into. -/
def mc09 (m : PathMap) : Option Nat :=
  failAt 4 offBus fun j => (m.busE j).enable &&
    !(List.range 16).any fun i => let e := m.mitE i
      e.used && (e.toN == 16 + j || (e.bidir && e.fromN == 16 + j))

/-- MC10 of one port entry. -/
def mc10Port (m : PathMap) (e : PortEntry) : Bool :=
  e.type != 0 && (!e.allowed.getLsbD 0 || (e.place == 0 && (e.allowed.getLsbD 2 || e.tieBus != 0)) ||
    (e.place == 1 && !(m.busE e.tieBus).enable) || !e.allowed.getLsbD e.defMode)

/-- MC10: inconsistent switch set-up. -/
def mc10 (m : PathMap) : Option Nat :=
  firstOff [failAt 12 offSrc fun i => mc10Port m (m.srcE i), failAt 16 offStr fun i => mc10Port m (m.strE i)]

/-- MC11: sharing; of a group above four members the fifth fails (DEDUCED, log 35). -/
def mc11 (m : PathMap) : Option Nat :=
  firstOff [failAt 12 offSrc fun i => let e := m.srcE i
      e.type != 0 && e.share != 15 && (e.place != 0 || i ≤ e.share || (m.srcE e.share).type == 0 ||
        (m.srcE e.share).place != 0 || (m.srcE e.share).share != 15 ||
        4 < ((m.group e.share).filter (· ≤ i)).length),
    failAt 16 offStr fun i => (m.strE i).type != 0 && (m.strE i).share != 15]

/-- MC12: a mitten names a shared member other than the first. -/
def mc12 (m : PathMap) : Option Nat :=
  failAt 16 offMit fun i => let e := m.mitE i
    e.used && ((e.fromN < 12 && (m.srcE e.fromN).share != 15) || (e.toN < 12 && (m.srcE e.toN).share != 15))

/-- The unit an input's kind calls for (R26): 0 mV, 1 mA, 2 0.01 °C; AUX entries take any. -/
def senseKind (i : Nat) : Option Nat :=
  if i < 32 then some (i % 2) else if i < 80 then some ((i - 32) % 3) else if i < 112 then none else some 1

/-- The node a sense entry serves, for the first 80 entries of R26. -/
def senseNode (i : Nat) : Node :=
  if i < 24 then .src (i / 2) else if i < 32 then .bus ((i - 24) / 2) else .str ((i - 32) / 3)

/-- Whether a mitten's T_INPUT, in force or staged, names AUX port a. -/
def MapCtx.names (c : MapCtx) (a : Nat) : Bool := (List.range 16).any fun k => (c.tInputs k).contains a

/-- Whether sense entry i has to be used (MC13): its node is enabled, its phase is in a used mitten, or its AUX is a T_INPUT. -/
def PathMap.needsSense (m : PathMap) (c : MapCtx) (i : Nat) : Bool :=
  if i < 80 then m.enabled (senseNode i)
  else if i < 112 then c.names (i - 80)
  else (List.range 16).any fun k => (m.mitE k).used && (m.mitE k).phases.getLsbD (i - 112)

/-- MC13: sense entries; the failing entry is the sense entry (DEDUCED, log 35). -/
def mc13 (m : PathMap) (c : MapCtx) : Option Nat :=
  failAt 176 offSense fun i => let e := m.senseE i
    if e.mode = 0 then m.needsSense c i
    else e.fsEng == 0 || 21474836470 < e.fsEng.natAbs * 18 + e.offset.natAbs * 10 ||
      (match senseKind i with
       | some u => e.unit != u
       | none => c.names (i - 80) && e.unit != 2)

/-- MC14 of one port entry; CAPACITY, I_RATED and I_MAX are signed (R4), and a negative one fails like 0 (DESIGN CHOICE,
log 28). -/
def mc14Port (e : PortEntry) (isStr : Bool) : Bool :=
  e.type != 0 && (decide (e.vMax ≤ e.vMin) || decide (e.iRated ≤ 0) || e.vClose < 50 || 5000 < e.vClose || e.von < 5 ||
    200 < e.von || decide (e.iRated < (e.irev : Int)) || (isStr && (e.cells == 0 || decide (e.capacity ≤ 0))))

/-- MC14: values out of range. -/
def mc14 (m : PathMap) : Option Nat :=
  firstOff [failAt 12 offSrc fun i => mc14Port (m.srcE i) false,
    failAt 4 offBus fun j => let e := m.busE j
      e.enable && !(decide (e.vMin < e.vTarget) && decide (e.vTarget < e.vMax) && decide (e.vMin < e.vSupp) &&
        decide (e.vSupp < e.vMax) && decide (e.vSupp < e.vTarget)),
    failAt 16 offStr fun i => mc14Port (m.strE i) true,
    failAt 16 offMit fun i => (m.mitE i).used && decide ((m.mitE i).iMax ≤ 0)]

/-- The ports of a mitten end: every member of a shared terminal. -/
def PathMap.endPorts (m : PathMap) : Node → List Nat
  | .src k => m.group k
  | .bus _ => []
  | .str k => [12 + k]

/-- MC15: a running mitten's edge or the placement of its ports changes. The ports at which it connects are those of the map in
force: a source that only the new map places in the group of such a port is not judged (DESIGN CHOICE, log 28). -/
def mc15 (m : PathMap) (c : MapCtx) : Option Nat :=
  let run := (List.range 16).filter c.running
  let ports := run.flatMap fun i => c.old.endPorts (c.old.mitE i).fromNode ++ c.old.endPorts (c.old.mitE i).toNode
  let diff (p : Nat) : Bool := let a := c.old.portE p; let b := m.portE p
    ports.contains p && b.type != 0 &&
      (a.place != b.place || a.tieBus != b.tieBus || a.share != b.share)
  firstOff [failAt 12 offSrc diff, failAt 16 offStr fun i => diff (12 + i),
    failAt 16 offMit fun i => let a := c.old.mitE i; let b := m.mitE i
      c.running i && (a.topo != b.topo || a.fromN != b.fromN || a.toN != b.toN || a.lend != b.lend)]

/-- MC16: SHARED without a formed chain; a second shared mitten on one device, or a third in the chain (R28, R357). -/
def mc16 (m : PathMap) (c : MapCtx) : Option Nat :=
  let sh (i : Nat) : Bool := (m.mitE i).used && (m.mitE i).shared
  failAt 16 offMit fun i => sh i && (!c.chain || (List.range i).any sh ||
    2 ≤ ((List.range 16).filter fun j => j != i && c.chainMits.contains j).length)

/-- MC17: a used sense entry of a digital AUX port. -/
def mc17 (m : PathMap) (c : MapCtx) : Option Nat :=
  failAt 32 (fun a => offSense (auxIx a)) fun a => (m.senseE (auxIx a)).mode != 0 && c.digital a

/-- Whether two port entries differ in anything a check may judge: an entry not in use differs from no other such (R28). -/
def PortEntry.differs (a b : PortEntry) : Bool := (a.type != 0 || b.type != 0) && a != b
/-- Whether two bus entries differ (R28). -/
def BusEntry.differs (a b : BusEntry) : Bool := (a.enable || b.enable) && a != b
/-- Whether two mitten entries differ (R28). -/
def MitEntry.differs (a b : MitEntry) : Bool := (a.used || b.used) && a != b
/-- Whether two sense entries differ (R28). -/
def SenseEntry.differs (a b : SenseEntry) : Bool := (a.mode != 0 || b.mode != 0) && a != b

/-- MC18: the ring's masks lack a changed unit. -/
def mc18 (m : PathMap) (c : MapCtx) : Option Nat :=
  let noNode (n : Node) : Bool := !c.nodeMask.getLsbD n.code
  let noMit (i : Nat) : Bool := !c.mitMask.getLsbD i
  let holds (x : PathMap) (i p : Nat) : Bool := (x.mitE i).used && (x.mitE i).phases.getLsbD p
  firstOff [failAt 12 offSrc fun i => (m.srcE i).differs (c.old.srcE i) && noNode (.src i),
    failAt 4 offBus fun i => (m.busE i).differs (c.old.busE i) && noNode (.bus i),
    failAt 16 offStr fun i => (m.strE i).differs (c.old.strE i) && noNode (.str i),
    failAt 16 offMit fun i => (m.mitE i).differs (c.old.mitE i) && noMit i,
    failAt 176 offSense fun i => (m.senseE i).differs (c.old.senseE i) &&
      (if i < 80 then noNode (senseNode i)
       else if i < 112 then (List.range 16).any fun k => (c.tInputs k).contains (i - 80) && noMit k
       else (List.range 16).any fun k => (holds c.old k (i - 112) || holds m k (i - 112)) && noMit k)]

/-- The checks of R28 in order: none for a valid map, else the check number and the offset of the failing entry; for MC02 that of
the CRC field (DEDUCED, log 35). -/
def checkMap (b : List Byte) (c : MapCtx) : Option (Nat × Nat) :=
  if b.length < 4368 ∨ leAt b 0 2 ≠ 1 ∨ leAt b 2 2 ≠ 4368 then some (1, 0)
  else
    let b := b.take 4368
    if crc32 (zeroAt b 8 4) ≠ BitVec.ofNat 32 (leAt b 8 4) then some (2, 8)
    else
      let m := parseMap b
      let l := [mc03 b, mc04 m, mc05 m, mc06 m, mc07 m, mc08 m, mc09 m, mc10 m, mc11 m, mc12 m, mc13 m c, mc14 m, mc15 m c,
        mc16 m c, mc17 m c, mc18 m c]
      (l.zip (List.range' 3 16)).findSome? fun p => p.1.map fun o => (p.2, o)

/-! ### Parameter sets (R299, R300) -/

/-- Range of one parameter in a set: least, greatest, and the parameters its range depends on; `map` says whether it
depends on the map entry. -/
structure PRange where
  lo  : Int
  hi  : Int
  deps : List Nat := []

/-- The default of a mitten parameter (R53, R67) of a mitten with `n` member phases in all (R64). The SLOPE default depends on
the direction and mode in force: `slopeDefault` gives it. -/
def mitDefault (e : MitEntry) (n : Nat) (id : Nat) : Int :=
  if id = 1 then 1 else if id = 2 then 100000 else if id = 3 ∨ id = 5 then e.iMax else if id = 4 ∨ id = 6 then 0
  else if id = 7 then 256 else if id = 8 then 16 else if id = 9 then 20 else if id = 10 then 70 else if id = 11 then 20
  else if id = 12 then 10 else if id = 13 then 255 else if id = 14 then 9000 else if id = 15 then 11000
  else if id = 16 then max 1 (floorDiv (floorDiv e.iMax n) 50) else if id = 17 then 200 else if id = 18 then 1
  else if id = 19 then 1 else if id = 0x102 then 900 else if id = 0x103 then 256 else if id = 0x104 then 32
  else if id = 0x105 then 100 else if id = 0x106 then 50 else if id = 0x107 then 200 else if id = 0x108 then 8 else 0

/-- The parameter identifiers of MITTEN_CONFIG (R299). -/
def mitIds : List Nat := [1, 2, 3, 4, 5, 6, 7, 8, 9, 10, 11, 12, 13, 14, 15, 16, 17, 18, 19, 0x101, 0x102, 0x103, 0x104,
  0x105, 0x106, 0x107, 0x108]

/-- A mitten parameter in force: the set value or the default (R67). -/
def mitP (e : MitEntry) (n : Nat) (c : ParamSet) (id : Nat) : Int := (look id c).getD (mitDefault e n id)

/-- Ranges of R67 and R53 of a mitten with `n` member phases in all. -/
def mitRange (e : MitEntry) (n : Nat) (c : ParamSet) (id : Nat) : PRange :=
  if id = 1 then ⟨0, 3, []⟩ else if id = 2 then ⟨20000, 2000000, []⟩ else if id = 3 ∨ id = 5 then ⟨0, e.iMax, []⟩
  else if id = 4 ∨ id = 6 then ⟨0, 2147483647, []⟩ else if id = 7 ∨ id = 8 then ⟨0, 65535, []⟩
  else if id = 9 then ⟨1, 1000, []⟩ else if id = 10 then ⟨20, 95, []⟩ else if id = 11 then ⟨5, 100, []⟩
  else if id = 12 then ⟨1, 100, []⟩ else if id = 13 then ⟨0, 255, []⟩ else if id = 14 then ⟨-4000, 15000, []⟩
  else if id = 15 then ⟨mitP e n c 14 + 500, 15000, [14]⟩ else if id = 16 then ⟨1, e.iMax, []⟩
  else if id = 17 then ⟨50, 500, []⟩ else if id = 18 then ⟨1, n, []⟩ else if id = 19 then ⟨0, 1, []⟩
  else if id = 0x101 ∨ id = 0x103 ∨ id = 0x104 then ⟨0, 65535, []⟩ else if id = 0x102 then ⟨0, 1000, []⟩
  else if id = 0x105 then ⟨50, 150, []⟩ else if id = 0x106 then ⟨5, 500, []⟩ else if id = 0x107 then ⟨1, 900, []⟩
  else ⟨1, 64, []⟩

/-- The parameter identifiers of SOURCE_CONFIG (R299). -/
def srcIds : List Nat := List.range' 1 40

/-- A source parameter in force (R95); the defaults of one parameter follow the values of others (R468). -/
def srcP (e : PortEntry) (c : ParamSet) (id : Nat) : Int :=
  let g (i : Nat) (d : Int) : Int := (look i c).getD d
  let lo := g 1 e.vMin
  let hi := g 2 e.vMax
  if id = 1 then lo else if id = 2 then hi else if id = 3 then g 3 (clampI 0 10000 (pctOf 1 hi)) else if id = 4 then g 4 1000
  else if id = 5 then g 5 0 else if id = 6 then g 6 20 else if id = 7 then g 7 e.iRated else if id = 8 then g 8 0
  else if id = 9 then g 9 (lo + pctOf 10 (hi - lo))
  else if id = 10 then g 10 (if e.type = 3 then 100 else if e.type = 5 then 20 else 0)
  else if id = 11 then g 11 8 else if id = 12 then g 12 128 else if id = 13 then g 13 16 else if id = 14 then g 14 10
  else if 15 ≤ id ∧ id ≤ 30 then g id 16 else if id = 31 then g 31 100 else if id = 32 then g 32 10
  else if id = 33 then g 33 15 else if id = 34 then g 34 60 else if id = 35 then g 35 50 else if id = 36 then g 36 255
  else if id = 37 then g 37 120 else if id = 38 then g 38 0 else if id = 39 then g 39 (clampI 0 e.vMax lo) else if id = 40 then g 40 50 else 0

/-- Ranges of R95. -/
def srcRange (e : PortEntry) (c : ParamSet) (id : Nat) : PRange :=
  if id = 1 then ⟨e.vMin, srcP e c 2, [2]⟩ else if id = 2 then ⟨srcP e c 1, e.vMax, [1]⟩ else if id = 3 then ⟨0, 10000, []⟩
  else if id = 4 then ⟨10, 60000, []⟩ else if id = 5 then ⟨0, 100000, []⟩ else if id = 6 then ⟨0, 500, []⟩
  else if id = 7 then ⟨1, e.iRated, []⟩ else if id = 8 then ⟨0, 2147483647, []⟩
  else if id = 9 then ⟨srcP e c 1, srcP e c 2, [1, 2]⟩ else if id = 10 then ⟨0, 1000000, []⟩ else if id = 11 then ⟨0, 15, []⟩
  else if id = 12 ∨ id = 13 then ⟨0, 255, []⟩ else if id = 14 then ⟨0, 3600, []⟩
  else if 15 ≤ id ∧ id ≤ 30 then ⟨0, 255, []⟩ else if id = 31 then ⟨10, 1000, []⟩ else if id = 32 then ⟨1, 100, []⟩
  else if id = 33 then ⟨0, 240, []⟩ else if id = 34 then ⟨0, 600, []⟩ else if id = 35 then ⟨10, 100, []⟩
  else if id = 36 then ⟨0, 255, []⟩ else if id = 37 then ⟨0, 3600, []⟩ else if id = 38 then ⟨0, 1, []⟩
  else if id = 39 then ⟨0, e.vMax, []⟩ else ⟨1, 1000, []⟩

/-- A chemistry preset (R125): V_NOM, V_PRE, V_CHG, V_FLOAT in mV (-1 for none), TCOMP in 0.1 mV/°C, the charge window
in 0.01 °C, the CC current in 0.01 C, CHG_EFF. -/
structure Preset where
  vNom   : Int
  vPre   : Int
  vChg   : Int
  vFloat : Int
  tcomp  : Int
  tLo    : Int
  tHi    : Int
  cc     : Int
  eff    : Int

/-- The presets of R125. -/
def preset (chem : Nat) : Preset :=
  if chem = 1 then ⟨2000, 1750, 2450, 2230, -50, -2000, 5000, 10, 900⟩
  else if chem = 2 then ⟨2000, 1750, 2400, 2270, -40, -2000, 5000, 20, 950⟩
  else if chem = 3 then ⟨2000, 1750, 2350, 2250, -40, -2000, 4500, 15, 950⟩
  else if chem = 4 then ⟨1200, 900, 1550, 1400, -30, -2000, 4500, 20, 850⟩
  else if chem = 5 then ⟨3200, 2500, 3600, 3375, 0, 0, 4500, 50, 995⟩
  else if chem = 6 then ⟨3650, 3000, 4150, -1, 0, 0, 4500, 50, 995⟩
  else if chem = 7 then ⟨2300, 1800, 2700, 2550, 0, -3000, 5500, 100, 995⟩
  else ⟨0, 0, -1, -1, 0, -2000, 4500, 0, 950⟩

/-- The parameter identifiers of STRING_CONFIG (R299). -/
def strIds : List Nat := List.range' 1 18

/-- A string parameter in force (R128). -/
def strP (e : PortEntry) (c : ParamSet) (id : Nat) : Int :=
  let g (i : Nat) (d : Int) : Int := (look i c).getD d
  let p := preset e.chem
  let custom := decide (e.chem = 8)
  let n : Int := e.cells
  let hi := g 16 (if custom then clampI 500 5000 (floorDiv e.vMax n) else p.vChg + 50)
  if id = 1 then g 1 0 else if id = 2 then g 2 1
  else if id = 3 then g 3 (if custom then clampI 500 5000 (floorDiv (e.vMin + e.vMax) (2 * n)) else p.vNom)
  else if id = 4 then g 4 (if custom then clampI 0 5000 (floorDiv e.vMin n) else p.vPre)
  else if id = 5 then g 5 50 else if id = 6 then g 6 (max 1 (pctOf 5 e.capacity)) else if id = 7 then g 7 120
  else if id = 8 then g 8 p.eff else if id = 9 then g 9 10 else if id = 10 then g 10 1 else if id = 11 then g 11 60
  else if id = 12 then g 12 0 else if id = 13 then g 13 0 else if id = 14 then g 14 100 else if id = 15 then g 15 5
  else if id = 16 then hi else if id = 17 then g 17 (min 5100 (hi + 100)) else g id 0

/-- Ranges of R128. -/
def strRange (e : PortEntry) (c : ParamSet) (id : Nat) : PRange :=
  if id = 1 ∨ id = 2 ∨ id = 10 then ⟨0, 1, []⟩ else if id = 3 then ⟨500, 5000, []⟩ else if id = 4 then ⟨0, 5000, []⟩
  else if id = 5 then ⟨10, 500, []⟩ else if id = 6 then ⟨1, max 1 (pctOf 5 e.capacity), []⟩ else if id = 7 then ⟨1, 1440, []⟩
  else if id = 8 then ⟨500, 1000, []⟩ else if id = 9 then ⟨0, 100, []⟩ else if id = 11 then ⟨1, 3600, []⟩
  else if id = 12 then ⟨0, 6, []⟩
  else if id = 13 then
    (let l := strP e c 12
     if l = 0 then ⟨0, 1073741823, [12]⟩ else if l ≤ 4 then ⟨0, 127, [12]⟩
     else if strP e c 13 < 536870912 then ⟨0, 0x7FF, [12]⟩ else ⟨536870912, 1073741823, [12]⟩)
  else if id = 14 then ⟨10, 1000, []⟩ else if id = 15 then ⟨3, 10, []⟩ else if id = 16 then ⟨500, 5000, []⟩
  else if id = 17 then ⟨strP e c 16 + 10, 5100, [16]⟩ else ⟨0, 31, []⟩

/-- The records of a configuration payload: (offset, ID, value) (R299). -/
def records (p : List Byte) : List (Nat × Nat × Int) :=
  (List.range (p.length / 8)).map fun i => (8 * i, leAt p (8 * i) 2, s32At p (8 * i + 4))

/-- Offset at which a failed range over some parameters is reported: the record of the greatest listed ID (R300). -/
def failOff (rs : List (Nat × Nat × Int)) (ids : List Nat) : Nat :=
  ((rs.filter fun r => ids.contains r.2.1).foldl (fun a r => if a.1 ≤ r.2.1 then (r.2.1, r.1) else a) (0, 0xFFFF)).2

/-- Least of a list of offsets. -/
def minOff (l : List Nat) : Option Nat := l.foldl (fun a x => some (match a with | none => x | some y => min x y)) none

/-- The parameters whose default derives from another parameter of a source (R95) or a string (R128), with those it derives
from. -/
def srcDerived : List (Nat × List Nat) := [(3, [2]), (9, [1, 2]), (39, [1])]
/-- CELL_V_ABS derives from CELL_V_HI. -/
def strDerived : List (Nat × List Nat) := [(17, [16])]

/-- Build and check a parameter set (R300): the set, or the offset of the failing record. Only listed parameters change, so a
default that derives from a listed one keeps its value (step 2; DEDUCED, log 50). `extra` gives the parameters of each
condition that ties them to the map or another unit and fails. -/
def buildSet (start : ParamSet) (p : List Byte) (ids : List Nat) (range : ParamSet → Nat → PRange)
    (value : ParamSet → Nat → Int) (derived : List (Nat × List Nat)) (extra : ParamSet → List (List Nat)) :
    Except Nat ParamSet :=
  if p.length % 8 ≠ 0 then .error (p.length / 8 * 8)
  else
    let rs := records p
    let bad := rs.filterMap fun r =>
      if !ids.contains r.2.1 || (rs.any fun q => q.1 < r.1 && q.2.1 == r.2.1) || !zeroSpan p (r.1 + 2) 2 then some r.1
      else none
    match bad with
    | o :: _ => .error o
    | [] =>
      let base := derived.foldl (fun a x =>
        if (look x.1 start).isNone && rs.any (fun r => x.2.contains r.2.1) then assign x.1 (value start x.1) a else a) start
      let c := rs.foldl (fun a r => assign r.2.1 r.2.2 a) base
      let fails := ids.filterMap fun i =>
        let r := range c i
        let v := value c i
        if v < r.lo ∨ r.hi < v then some (failOff rs (i :: r.deps)) else none
      match minOff (fails ++ (extra c).map (failOff rs)) with
      | some o => .error o
      | none => .ok c

/-- Twice the nominal voltage of a node (R53), so that the mean of V_MIN and V_MAX stays exact (R468). -/
def PathMap.nominal2 (m : PathMap) : Node → Int
  | .bus j => 2 * (m.busE j).vTarget
  | n => m.nodeMin n + m.nodeMax n

/-- The SLOPE default of R53 from twice the nominal voltages of the input and output nodes of the direction in force: half the
down-slope, exact, rounded down and taken into the range (R468). An L_NOM of 0, for which the formula has no value, counts as
1 nH (DESIGN CHOICE, log 28). -/
def slopeDefault (buckLike : Bool) (vIn2 vOut2 : Int) (lNom : Nat) : Int :=
  let down := if buckLike then 1000 * vOut2 else 1000 * (vOut2 - vIn2)
  clampI 0 65535 (floorDiv down (4 * (max 1 lNom)))

/-- PERIOD of a frequency, in steps of 125 ps (R67). -/
def periodOf (fsw : Nat) : Nat := (roundDiv 8000000000 (max 1 fsw)).toNat

end Sys2Proof.Machine
end

