-- ==== Sys2Proof/Machine/Ageing.lean ====
section
/-! DEFINITION. Ageing (R250, R251) and the brim (R252-R256). Values are in the units of the aged item: ppm for the references, percent
of the correction range for slices, taps for delay lines, µΩ for switches and sources, nH for inductance, µ°C per watt for stages, µF for
capacitance, mAh for string capacity, µΩ for string impedance (DESIGN CHOICE, log 32). -/

namespace Sys2Proof.Machine

/-- Insert into an ascending list. -/
def insertSorted (v : Int) : List Int → List Int
  | [] => [v]
  | x :: t => if v ≤ x then v :: x :: t else x :: insertSorted v t

/-- The median of a list; of an even count the mean of the two middle values, rounded down (DEDUCED, log 33). -/
def median (l : List Int) : Int :=
  let s := l.foldl (fun a v => insertSorted v a) []
  let n := s.length
  if n = 0 then 0 else if n % 2 = 1 then s.getD (n / 2) 0 else floorDiv (s.getD (n / 2 - 1) 0 + s.getD (n / 2) 0) 2

/-- The entry of an aged item. -/
def Power.age (p : Power) (item num : Nat) : Option AgeItem := p.ages.find? fun a => a.item == item && a.num == num

/-- Store the entry of an aged item. -/
def Dev.setAge (d : Dev) (a : AgeItem) : Dev :=
  d.onPw fun p => { p with ages := a :: p.ages.filter fun x => !(x.item == a.item && x.num == a.num) }

/-- Whether the map in force defines an aged item (R250). -/
def PathMap.defines (m : PathMap) (item num : Nat) : Bool :=
  if item ≤ 2 then true
  else if item = 3 then
    (match nodeOf num with
     | some (.src k) => (m.srcE k).type != 0 && (m.srcE k).place == 1
     | some (.str k) => (m.strE k).type != 0 && (m.strE k).place == 1
     | _ => false)
  else if item ≤ 5 then (m.mitE num).used
  else if item = 6 then (m.busE num).enable
  else if item = 7 then (m.srcE num).type != 0
  else (m.strE num).type != 0

/-- Whether a value crosses its alert limit (R251). -/
def ageAlert (m : PathMap) (item num : Nat) (value : Int) (base : Option Int) : Bool :=
  let ovr (pct : Int) : Bool := match base with | some b => decide (pct * b < 100 * value) | none => false
  if item = 0 then decide (3000 < value.natAbs)
  else if item = 1 then decide (50 < value)
  else if item = 2 then decide (19 ≤ value)
  else if item = 3 ∨ item = 7 ∨ item = 9 then ovr 150
  else if item = 4 then decide (100 * value < 80 * (m.mitE num).lNom)
  else if item = 5 then ovr 125
  else if item = 6 then decide (100 * value < 70 * (m.busE num).cBus)
  else decide (100 * value < 80 * (m.strE num).capacity)

/-- A measurement towards the baseline of an item: the median of the first ten forms it (R250). -/
def AgeItem.take (a : AgeItem) (value : Int) : AgeItem :=
  let first := if a.baseline.isSome then a.first else a.first ++ [value]
  { a with first := first, count := a.count + 1,
           baseline := match a.baseline with
             | some b => some b
             | none => if 10 ≤ first.length then some (median first) else none }

/-- The INSTANCE of an alert: the phase, mitten, unit or node code of an aged item (R303, R309). -/
def ageInst (item num : Nat) : Option Nat :=
  if item = 0 then none else if item = 6 then some (busNode num) else if 8 ≤ item then some (strNode num) else some num

/-- The value of an item goes to the trend log; an alert is raised once until a rebase (R251). -/
def Dev.ageNote (d : Dev) (a : AgeItem) (value : Int) : Dev :=
  let alert := !a.alerted && ageAlert d.pw.map a.item a.num value a.baseline
  let d := (d.setAge { a with value := value, alerted := a.alerted || alert }).addLog 2 d.now a.item ((ageInst a.item a.num).getD 0xFFFF)
    (leBytes 4 (enc 4 (sat32 value)) ++ leBytes 4 (enc 4 (sat32 (a.baseline.getD 0))))
  d.when alert fun e => e.raise evAgeingAlert (ageInst a.item a.num) (d2 a.item ++ d4 (enc 4 (sat32 value)))

/-- The entry of an aged item, or a new one. -/
def Dev.ageOf (d : Dev) (item num : Nat) : AgeItem := (d.pw.age item num).getD { item := item, num := num }

/-- One valid measurement of an aged item (R250, R251). -/
def Dev.ageMeasure (d : Dev) (item num : Nat) (value : Int) : Dev :=
  if !d.pw.map.defines item num || 9 < item then d
  else d.ageNote ((d.ageOf item num).take value) value

/-- The references at a policy frame (R250, R251): the mean of REF_DEV over the frame is the measurement, the mean of an hour's
frames its trend, which is stored, tested and used hourly. -/
def Dev.ageRef (d : Dev) : Dev :=
  let r := d.ms.ref
  if r.frN = 0 then d
  else
    let mean := floorDiv r.frSum r.frN
    let d := d.modRef fun x => { x with frSum := 0, frN := 0, hrSum := x.hrSum + mean, hrN := x.hrN + 1, hrAt := if x.hrN = 0 then d.now else x.hrAt }
    let d := d.setAge ((d.ageOf 0 0).take mean)
    let r := d.ms.ref
    if d.now < r.hrAt + 3600000000000 then d
    else (d.ageNote (d.ageOf 0 0) (floorDiv r.hrSum r.hrN)).modRef fun x => { x with hrSum := 0, hrN := 0, trend := true }

/-- AGEING_REBASE of an item: its baseline is discarded and formed anew (R250, R257). -/
def Dev.ageRebase (d : Dev) (item num : Nat) : Dev := d.setAge { item := item, num := num }

/-! ### The brim -/

/-- The value of an item that has a baseline and ten measurements, with its baseline (R254). -/
def Power.ageReady (p : Power) (item num : Nat) : Option (Int × Int) :=
  match p.age item num with
  | some a => match a.baseline with
    | some b => if 10 ≤ a.count then some (a.value, b) else none
    | none => none
  | none => none

/-- The contributors of a row that are ready: (code, value in percent, at most 100) (R254); that of the references once an hour has
given a trend. -/
def Power.contributors (p : Power) (row : Nat) (trend : Bool) : List (Nat × Nat) :=
  let k := row - 16
  let c1 := match (if row < 16 then p.ageReady 4 row else none) with
    | some (l, _) => if (p.map.mitE row).lNom = 0 then [] else [(1, 10000 * l.toNat / (90 * (p.map.mitE row).lNom))]
    | none => []
  let c2 := match (if row < 16 then p.ageReady 5 row else none) with
    | some (t, b) => [(2, isqrt (11000 * b.toNat / max 1 t.toNat))]
    | none => []
  let c3 := match (if trend then p.ageReady 0 0 else none) with
    | some (r, _) => [(3, 100 - ceilDiv r.natAbs 1000)]
    | none => []
  let c4 := match (if row < 16 then none else p.ageReady 8 k) with
    | some (q, _) => [(4, 100 * q.toNat / max 1 (p.map.strE k).capacity.toNat)]
    | none => []
  let c5 := match (if row < 16 then none else p.ageReady 9 k) with
    | some (z, b) => [(5, 125 * b.toNat / max 1 z.toNat)]
    | none => []
  (c1 ++ c2 ++ c3 ++ c4 ++ c5).map fun q => (q.1, min 100 q.2)

/-- TARGET and CAUSE of a row: the lowest value and its lowest code; 100 and 0 with no contributor (R254). -/
def brimTarget (l : List (Nat × Nat)) : Nat × Nat :=
  l.foldl (fun a q => if a.2 = 0 ∨ q.2 < a.1 then (q.2, q.1) else a) (100, 0)

/-- An hour of device time. -/
def hourNs : Nat := 3600000000000

/-- The PCT of a row after one re-plan (R255): down by at most 5 points per hour, up by 1 point per 24 h, never outside
FLOOR-100; a FLOOR above PCT raises it at once (R256). -/
def BrimRow.plan (r : BrimRow) (now : Nat) : BrimRow :=
  let dest := max r.target r.floor
  let falls := r.falls.filter fun f => now < f.1 + hourNs
  let spent := falls.foldl (fun a f => a + f.2) 0
  if r.pct < r.floor then { r with pct := r.floor, falls := falls, changed := now }
  else if dest < r.pct then
    let n := min (r.pct - dest) (5 - spent)
    if n = 0 then { r with falls := falls } else { r with pct := r.pct - n, falls := falls ++ [(now, n)], changed := now }
  else if decide (r.pct < dest) && (match r.riseAt with | some t => decide (t + 24 * hourNs ≤ now) | none => true) then
    { r with pct := r.pct + 1, falls := falls, riseAt := some now, changed := now }
  else { r with falls := falls }

/-- The unit a brim row names in an event: a mitten or a string's node code. -/
def rowUnit (row : Nat) : Nat := if row < 16 then row else strNode (row - 16)

/-- Re-plan one row (R255): BRIM_CHANGED at each change, BRIM_AT_FLOOR while TARGET is below FLOOR. -/
def Dev.brimRow (d : Dev) (row : Nat) : Dev :=
  let r := d.pw.brim.getD row {}
  let (t, c) := brimTarget (d.pw.contributors row d.ms.ref.trend)
  let n := BrimRow.plan { r with target := t, cause := c } d.now
  let n := { n with atFloor := decide (t < n.floor) }
  let d := d.onPw fun p => { p with brim := p.brim.set row n }
  let data := d2 row ++ d2 r.pct ++ d2 n.pct ++ d2 n.cause
  let d := d.when (n.pct != r.pct) fun e =>
    (e.raise evBrimChanged (some (rowUnit row)) data).addLog 3 e.now evBrimChanged (rowUnit row) data
  if n.atFloor then d.onset evBrimAtFloor row (some (rowUnit row)) [] else d.offset evBrimAtFloor row

/-- The FLOORs that act at this policy frame (R256), re-planned or not: PCT never stays below FLOOR. -/
def Dev.brimFloors (d : Dev) : Dev :=
  d.each (List.range 32) fun row e =>
    match (e.pw.brim.getD row {}).floorNext with
    | none => e
    | some f =>
      let r := e.pw.brim.getD row {}
      let n := { r with floor := f, floorNext := .none, pct := max r.pct f, changed := if r.pct < f then e.now else r.changed }
      let data := d2 row ++ d2 r.pct ++ d2 n.pct ++ d2 n.cause
      (e.onPw fun p => { p with brim := p.brim.set row n }).when (n.pct != r.pct) fun c =>
        (c.raise evBrimChanged (some (rowUnit row)) data).addLog 3 c.now evBrimChanged (rowUnit row) data

end Sys2Proof.Machine
end

