-- ==== Sys2Proof/Machine/MbxLck.lean ====
section
/-! DEFINITION. Mailboxes and locks (R316-R332), agent numbers, declaration and revocation (R243, R244), and the meanings of
their rows. -/

namespace Sys2Proof.Machine

/-- Agent numbers (R316). -/
def agSource (k : Nat) : Nat := 6 + k
/-- Agent of a string engine. -/
def agString (k : Nat) : Nat := 18 + k
/-- Agent of a phase engine. -/
def agPhase (p : Nat) : Nat := 34 + p
/-- The host set-up window. -/
def agHost : Nat := 98
/-- Whether a number is an agent's (R316). -/
def isAgent (a : Nat) : Bool := decide (1 ≤ a) && decide (a ≤ 99)
/-- Whether an access carries the secure attribute (R317). -/
def isSecure (a : Nat) (secure : Bool) : Bool := a == 3 || (a == 5 && secure)

/-- The standby control supervisor. -/
def Sys.standby (s : Sys) : Nat := if s.activeSup = 1 then 2 else 1

/-- The receiver role of a mailbox (R323); roles named by function follow the active supervisor. -/
def Sys.role (s : Sys) (n : Nat) : Nat :=
  if n < 8 then 3 else if n < 16 then 5 else if n < 20 then s.activeSup else if n < 24 then s.standby else if n < 32 then 4
  else if n < 36 then 3 else if n < 44 then 5 else if n < 48 then 99 else 0

/-- The receiver of a mailbox takes its notice (R321). -/
def Mailbox.take (x : Mailbox) : Mailbox :=
  if x.full then { x with full := false, sender := 0, lastType := x.type, ptr := 0 } else x

/-- Free a lock whose owner is reset or revoked (R328). -/
def Dev.breakLock (d : Dev) (n a : Nat) : Dev :=
  ((d.modLck n fun _ => { owner := 0, broken := true, brokenBy := a }).onSy fun s =>
    { s with lckBroken := satInc 65535 s.lckBroken }).raise evLockBroken (some a) (d2 n ++ d2 a)

/-- Free every lock of an agent that is reset (R328). -/
def Dev.breakLocks (d : Dev) (a : Nat) : Dev :=
  d.each ((List.range 64).filter fun n => (d.sy.lck.getD n {}).owner == a) fun n e => e.breakLock n a

/-- One revocation, counted and raised with the agent, the step and the resource (R244, R247). -/
def Dev.revoked (d : Dev) (a step res : Nat) : Dev :=
  (d.onSy fun s => { s with revokes := satInc 65535 s.revokes }).raise evRevoked (some a) (d2 a ++ d2 step ++ d2 res)

/-- The fault manager logs a notice it takes: mailbox, type and sender (R244, R330). -/
def Dev.logNotice (d : Dev) (n type sender : Nat) : Dev := d.addLog 1 d.now evRevoked sender (d2 n ++ d2 type ++ d2 sender)

/-- Step 1 of R244: the lead duty of an agent. -/
def Dev.revokeLead (d : Dev) (a : Nat) : Dev :=
  d.each ((List.range 16).filter fun m => match (d.pw.mit.getD m {}).lead with
    | some p => agPhase p == a
    | none => false) fun m e => (e.modMit m fun x => { x with lead := .none }).revoked a 1 m

/-- Step 2: the ownership of sequences passes to the active control supervisor. -/
def Dev.revokeSeqs (d : Dev) (a : Nat) : Dev :=
  d.each ((List.range 16).filter fun k => (d.unit k).owner == a) fun k e =>
    (e.modMu k fun u => { u with owner := e.sy.activeSup }).revoked a 2 k

/-- Step 3: the fault manager becomes the receiver, and takes and logs each pending notice. At a takeover the roles that MBX20-MBX23
change to stay, with their notices (R323, R331; DEDUCED, log 180). -/
def Dev.revokeBoxes (d : Dev) (a : Nat) : Dev :=
  d.each ((List.range 64).filter fun n => (d.sy.mbx.getD n {}).receiver == a && !(d.sy.mbx.getD n {}).revoked &&
      !(d.sy.takeover && 20 ≤ n && n < 24)) fun n e =>
    let x := e.sy.mbx.getD n {}
    let e := e.modMbx n fun y => { y.take with receiver := e.sy.activeSup, revoked := true }
    (if x.full then e.logNotice n x.type x.sender else e).revoked a 3 n

/-- Step 4: the locks of an agent are released, broken. -/
def Dev.revokeLocks (d : Dev) (a : Nat) : Dev :=
  d.each ((List.range 64).filter fun n => (d.sy.lck.getD n {}).owner == a) fun n e => (e.breakLock n a).revoked a 4 n

/-- Declare agents faulty and revoke what they hold, each step for all of them, in ascending number, before the next step (R243,
R244, R257); an agent already declared stays so. Declarations by separate rows of one tick follow one another (DESIGN CHOICE, log
178). -/
def Dev.declareAll (d : Dev) (l : List Nat) : Dev :=
  let l := l.filter fun a => !d.sy.stall.contains a
  let d := d.each l fun a e => (e.onSy fun s => { s with stall := insertN a s.stall }).raise evAgentDeclared (some a) (d2 a)
  (((d.each l fun a e => e.revokeLead a).each l fun a e => e.revokeSeqs a).each l fun a e => e.revokeBoxes a).each l fun a e =>
    e.revokeLocks a

/-- Declare one agent faulty (R243, R244). -/
def Dev.declare (d : Dev) (a : Nat) : Dev := d.declareAll [a]

/-- The agent's recovery ends: its bit of HLT_STALL clears and its receiver roles return (R244, R247). -/
def Dev.recoverAgent (d : Dev) (a : Nat) : Dev :=
  d.onSy fun s =>
    { s with stall := s.stall.filter (· ≠ a),
             mbx := ((List.range s.mbx.length).zip s.mbx).map fun p =>
               if p.2.revoked && s.role p.1 == a then { p.2 with receiver := a, revoked := false } else p.2 }

/-- The mailboxes and locks of a cold or wake start (R331). -/
def Sys.coldBoxes (s : Sys) : Sys :=
  { s with mbx := (List.range 64).map fun n => { receiver := s.role n }, lck := List.replicate 64 {} }

/-- A warm start empties the mailboxes of supervisors and returns their roles (R331), but for the roles of a RETIRED one, which the
fault manager keeps (R330). -/
def Sys.warmBoxes (s : Sys) : Sys :=
  { s with mbx := ((List.range s.mbx.length).zip s.mbx).map fun p =>
      if p.1 < 8 || (16 ≤ p.1 && p.1 < 36) then
        let out := p.2.revoked && s.supRetired.getD (s.role p.1 - 1) false
        { staged := p.2.staged, receiver := if out then s.activeSup else s.role p.1, revoked := out, lastType := p.2.lastType }
      else p.2 }

/-- The role change of a takeover (R323); the fault manager, which the active supervisor is, keeps what it has revoked (R330). -/
def Sys.takeoverBoxes (s : Sys) : Sys :=
  { s with mbx := ((List.range s.mbx.length).zip s.mbx).map fun p =>
      if p.2.revoked then { p.2 with receiver := s.activeSup }
      else if 16 ≤ p.1 && p.1 < 24 then { p.2 with receiver := s.role p.1 } else p.2 }

/-! ### Rows -/

/-- Register offset of a mailbox's word. -/
def mbxOff (n reg : Nat) : Nat := 0x1400 + 16 * n + 4 * reg
/-- Register offset of a lock's word. -/
def lckOff (n reg : Nat) : Nat := 0x1800 + 8 * n + 4 * reg

/-- An access that is ignored: logged in GLB_ACCLOG with its kind and space, counted, and raised (R436, R439, R441). -/
def Dev.accessError (d : Dev) (kind space off ev : Nat) (data : List Byte) : Dev :=
  (d.modGlb fun g => { g with accLog := wd (off % 65536 + 65536 * kind + 524288 * space), accCnt := satInc 65535 g.accCnt }).raise
    ev .none data

/-- A write of the host set-up window that is ignored, with its offset (R318, R439). -/
def Dev.ignoredWrite (d : Dev) (off : Nat) : Dev := d.accessError 2 0 off evSetupWriteIgnored (d2 off)

/-- A register value outside its range: the write is ignored, raised and logged (R439). -/
def Dev.invalidValue (d : Dev) (off : Nat) : Dev := d.accessError 3 0 off evSetupValueInvalid (d2 off)

/-- A write to a mailbox or lock of an agent: the host's is ignored, a non-secure one to a secure object is a bus
error, else the write acts (R317, R318). -/
def Dev.guardWrite (d : Dev) (a : Nat) (secure secureObj : Bool) (off : Nat) (f : Dev → Dev) : Dev :=
  if !isAgent a then d
  else if a = agHost then (d.ignoredWrite off).reply []
  else if secureObj && !isSecure a secure then d.busError
  else f (d.reply [])

/-- MBX_PTR_STAGE (R319, R320): always accepted. -/
def execMbxPtrStage (agent : Fin 128) (secure : Bool) (box : Fin 64) (val : Word) (s : State) :
    Host.Outcome State Fault Refusal :=
  s.onDev fun d => d.guardWrite agent secure (decide (box.val < 16)) (mbxOff box 0) fun e =>
    e.modMbx box fun x => { x with staged := val }

/-- MBX_SEND (R320, R330): a full mailbox is a bus error; the fault manager takes, logs and discards a notice to a
revoked one. A reserved bit makes the value invalid (R439). -/
def execMbxSend (agent : Fin 128) (secure : Bool) (box : Fin 64) (val : Word) (s : State) :
    Host.Outcome State Fault Refusal :=
  s.onDev fun d => d.guardWrite agent secure (decide (box.val < 16)) (mbxOff box 1) fun e =>
    let x := e.sy.mbx.getD box {}
    let t := fld val 0 8
    if fld val 8 24 ≠ 0 then e.invalidValue (mbxOff box 1)
    else if x.full then e.busError
    else if x.revoked then (e.modMbx box fun y => { y with lastType := t }).logNotice box t agent
    else e.modMbx box fun y => { y with full := true, ptr := y.staged, type := t, sender := agent }

/-- MBXn_STATUS (R319). -/
def Mailbox.statusWord (x : Mailbox) (n : Nat) : Word :=
  wd (b2n x.full + 2 * b2n (decide (n < 16)) + 4 * b2n x.revoked + 256 * x.sender + 65536 * x.receiver + 16777216 * x.lastType)

/-- LCKn_STATUS (R324). -/
def Lock.statusWord (x : Lock) : Word := wd (x.owner + 256 * b2n x.broken + 65536 * x.brokenBy)

/-- An agent reads MBXn_RECV: the receiver takes the notice, another reader sees the pending pointer (R318, R319, R321). -/
def Dev.recvBox (d : Dev) (a n : Nat) : Dev × Word :=
  let x := d.sy.mbx.getD n {}
  (if x.receiver = a ∧ a ≠ agHost then d.modMbx n Mailbox.take else d, if x.full then x.ptr else 0)

/-- The highest lock an agent owns above n. -/
def Sys.higherLock (s : Sys) (a n : Nat) : Option Nat :=
  ((List.range 64).reverse.find? fun i => decide (n < i) && (s.lck.getD i {}).owner == a)

/-- An agent reads LCKn_TAKE (R318, R325). -/
def Dev.takeLock (d : Dev) (a n : Nat) : Dev × Word :=
  let x := d.sy.lck.getD n {}
  if a = agHost then (d, wd x.owner)
  else match d.sy.higherLock a n with
    | some h =>
      ((d.onSy fun t => { t with lckOrder := satInc 65535 t.lckOrder }).raise evLockOrderViolation (some a) (d2 a ++ d2 n ++ d2 h), 127)
    | none =>
      if x.owner = 0 then (d.modLck n fun y => { y with owner := a }, 0)
      else if x.owner = a then (d, 0)
      else (d, wd x.owner)

/-- A word of the MBX and LCK blocks as an agent other than the host set-up window reads it (R317-R325): a secure object answers a
non-secure agent with 0 and no side effect, WO fields read 0, and LCK_COUNT clears. -/
def Dev.boxWord (d : Dev) (a : Nat) (secure : Bool) (off : Nat) : Dev × Word :=
  if 0x1400 ≤ off ∧ off < 0x1800 then
    let n := (off - 0x1400) / 16
    if n < 16 ∧ !isSecure a secure then (d, 0)
    else match (off % 16) / 4 with
      | 2 => d.recvBox a n
      | 3 => (d, (d.sy.mbx.getD n {}).statusWord n)
      | _ => (d, 0)
  else if 0x1800 ≤ off ∧ off < 0x1A00 then
    let n := (off - 0x1800) / 8
    if n < 8 ∧ !isSecure a secure then (d, 0)
    else if off % 8 = 0 then d.takeLock a n
    else (d, (d.sy.lck.getD n {}).statusWord)
  else if off = 0x1A00 then
    (d.onSy fun s => { s with lckOrder := 0, lckBroken := 0 }, wd (d.sy.lckOrder + 65536 * d.sy.lckBroken))
  else (d, 0)

/-- An aligned read of 4 or 8 bytes of the MBX and LCK blocks by an agent, 8 bytes as two words, low address first (R321); any other
changes nothing. -/
def Dev.boxRead (d : Dev) (a : Nat) (secure : Bool) (off bytes : Nat) : Dev :=
  if off < 0x1400 ∨ 0x1A04 ≤ off ∨ off % bytes ≠ 0 then d
  else if bytes = 4 then
    let r := d.boxWord a secure off
    r.1.replyW r.2
  else if bytes = 8 then
    let r := d.boxWord a secure off
    let q := r.1.boxWord a secure (off + 4)
    q.1.reply (leBytes 4 r.2.toNat ++ leBytes 4 q.2.toNat)
  else d

/-- MBX_RECV (R318, R319, R321): a read of 32 bits, or with `wide` of 64: the pointer, then the status that holds its type. -/
def execMbxRecv (agent : Fin 128) (secure : Bool) (box : Fin 64) (s : State) (wide : Bool := false) :
    Host.Outcome State Fault Refusal :=
  s.onDev fun d =>
    if !isAgent agent then d
    else if box.val < 16 ∧ !isSecure agent secure then d.reply (List.replicate (if wide then 8 else 4) 0)
    else
      let r := d.recvBox agent box
      let st := (r.1.sy.mbx.getD box {}).statusWord box
      if wide then r.1.reply (leBytes 4 r.2.toNat ++ leBytes 4 st.toNat) else r.1.replyW r.2

/-- LCK_TAKE (R318, R325). -/
def execLckTake (agent : Fin 128) (secure : Bool) (lock : Fin 64) (s : State) : Host.Outcome State Fault Refusal :=
  s.onDev fun d =>
    if !isAgent agent then d
    else if lock.val < 8 ∧ !isSecure agent secure then d.replyW 0
    else
      let r := d.takeLock agent lock
      r.1.replyW r.2

/-- LCK_RELEASE (R327): bit 31 by the owner frees the lock and clears BROKEN; by another agent it is a bus error.
A reserved bit makes the value invalid (R439). -/
def execLckRelease (agent : Fin 128) (secure : Bool) (lock : Fin 64) (val : Word) (s : State) :
    Host.Outcome State Fault Refusal :=
  s.onDev fun d => d.guardWrite agent secure (decide (lock.val < 8)) (lckOff lock 1) fun e =>
    if val &&& 0x7F00FE80#32 ≠ 0 then e.invalidValue (lckOff lock 1)
    else if !bit val 31 then e
    else if (e.sy.lck.getD lock {}).owner = agent.val then e.modLck lock fun _ => {}
    else e.busError

end Sys2Proof.Machine
end

