-- ==== Sys2Proof/Machine/Programs.lean ====
section
/-! DEFINITION. Charge programs: presets (R125, R126), the program object and its checks (R130, R131, R135), and the
targets a step asks for (R132, R137). -/

namespace Sys2Proof.Machine

/-- An exit condition by code, next step, confirm count and operands (R131). -/
def exitC (code next confirm : Nat) (a : Int) (b : Int := 0) : ExitCond :=
  { code := code, next := next, confirm := confirm, a := a, b := b }

/-- Hours of T_CC, I_END in 0.01 C and hours of T_CV of a preset (R126). -/
def presetTimes (chem : Nat) : Nat × Nat × Nat :=
  if chem = 1 then (12, 1, 4) else if chem = 2 then (8, 1, 4) else if chem = 3 then (8, 1, 6) else if chem = 4 then (7, 2, 4)
  else if chem = 5 then (3, 5, 2) else if chem = 6 then (3, 5, 2) else (2, 5, 1)

/-- The preset program of a string (R126); none for CUSTOM. -/
def presetProgram (e : PortEntry) (c : ParamSet) : Option Program :=
  if e.chem = 0 ∨ 7 < e.chem then none
  else
    let p := preset e.chem
    let (tcc, iend, tcv) := presetTimes e.chem
    let vpre := strP e c 4 + strP e c 5
    let cc := pctOf p.cc e.capacity
    let hold := decide (p.vFloat < 0)
    let head : Program := { tcomp := p.tcomp, tcompHi := 4000, tChgLo := p.tLo, tChgHi := p.tHi }
    some { head with

      steps := [
        { type := 1, vCell := vpre, iStep := strP e c 6,
          exits := [exitC 2 1 1000 vpre, exitC 3 0xFF 1 (60 * strP e c 7)] },
        { type := 2, comp := true, imp := true, vCell := p.vChg, iStep := cc,
          exits := [exitC 2 2 1000 p.vChg, exitC 3 0xFF 1 (3600 * tcc)] ++
            (if e.chem = 4 then [exitC 7 2 1000 10] else []) },
        { type := if e.chem ≤ 3 then 5 else 4, comp := true, tieOk := true, vCell := p.vChg, iStep := cc,
          exits := [exitC 1 3 60000 (pctOf iend e.capacity), exitC 3 3 1 (3600 * tcv)] },
        { type := if hold then 10 else 6, comp := true, tieOk := true, vCell := if hold then 0 else p.vFloat,
          iStep := if hold then 0 else cc,
          exits := if hold then [] else [exitC 4 1 1 (pctOf 5 e.capacity)] }] }

/-- The exits of a step of the object, at a byte offset (R131); unused conditions are kept so that indexes stand. -/
def parseExits (b : List Byte) (o : Nat) : List ExitCond :=
  (List.range 4).map fun c =>
    let p := o + 16 + 12 * c
    { code := byteAt b p, next := byteAt b (p + 1), confirm := leAt b (p + 2) 2, a := s32At b (p + 4), b := s32At b (p + 8) }

/-- Parse one step entry (R131). -/
def parseStep (b : List Byte) (o : Nat) : Step :=
  let f := byteAt b (o + 1)
  { type := byteAt b o, comp := f.testBit 0, imp := f.testBit 1, tieOk := f.testBit 2, vCell := s32At b (o + 4),
    iStep := s32At b (o + 8), pStep := s32At b (o + 12), exits := parseExits b o }

/-- Parse a program object (R130). -/
def parseProgram (b : List Byte) : Program :=
  { start := byteAt b 5, tcomp := s16 (leAt b 8 2), tRef := s16 (leAt b 10 2), tcompLo := s16 (leAt b 12 2),
    tcompHi := s16 (leAt b 14 2), tChgLo := s16 (leAt b 16 2), tChgHi := s16 (leAt b 18 2), progId := leAt b 24 4,
    steps := (List.range (byteAt b 4)).map fun i => parseStep b (32 + 64 * i) }

/-- First failing field of a check over steps: its offset. -/
def failStep (p : Program) (f : Nat → Step → Option Nat) : Option Nat :=
  ((List.range p.steps.length).zip p.steps).findSome? fun x => f x.1 x.2

/-- Offset of condition c of step i. -/
def condOff (i c : Nat) : Nat := 32 + 64 * i + 16 + 12 * c

/-- First condition of a step that fails a test: its offset within the object. -/
def failCond (i : Nat) (s : Step) (off : Nat) (p : ExitCond → Bool) : Option Nat :=
  (((List.range 4).zip s.exits).find? fun x => p x.2).map fun x => condOff i x.1 + off

/-- PC03: reserved fields and undefined codes (R135). -/
def pc03 (b : List Byte) (p : Program) : Option Nat :=
  firstOff [if zeroSpan b 6 2 then none else some 6, if zeroSpan b 20 4 then none else some 20,
    failStep p fun i s =>
      let o := 32 + 64 * i
      if s.type = 0 ∨ 10 < s.type then some o
      else if bits (byteAt b (o + 1)) 3 5 ≠ 0 then some (o + 1)
      else if !zeroSpan b (o + 2) 2 then some (o + 2)
      else if s.type ≠ 3 ∧ s.pStep ≠ 0 then some (o + 12)
      else firstOff [failCond i s 0 fun c => 8 < c.code,
        failCond i s 1 fun c => c.code != 0 && (15 < c.next && c.next < 0xFE)]]

/-- The checks of R135 in order: none, or the check number and the offset of the failing field. -/
def checkProgram (b : List Byte) (e : PortEntry) (masked : Bool) : Option (Nat × Nat) :=
  if leAt b 0 2 ≠ 1 then some (1, 0)
  else if byteAt b 4 = 0 ∨ 16 < byteAt b 4 then some (1, 4)
  else if leAt b 2 2 ≠ 32 + 64 * byteAt b 4 ∨ b.length < leAt b 2 2 then some (1, 2)
  else
    let b := b.take (leAt b 2 2)
    if crc32 (zeroAt b 28 4) ≠ BitVec.ofNat 32 (leAt b 28 4) then some (2, 28)
    else
      let p := parseProgram b
      let n := p.steps.length
      let pc04 := firstOff [if n ≤ p.start then some 5 else none,
        failStep p fun i s => failCond i s 1 fun c => c.code != 0 && c.next < 0xFE && n ≤ c.next]
      let pc05 := firstOff [
        failStep p fun i s => if s.type ≠ 1 ∧ s.type ≠ 9 ∧ s.type ≠ 10 ∧
          (s.vCell * e.cells < e.vMin ∨ e.vMax < s.vCell * e.cells) then some (32 + 64 * i + 4) else none,
        if p.tcompHi ≤ p.tcompLo then some 12 else none, if p.tChgHi ≤ p.tChgLo then some 16 else none]
      let pc06 := failStep p fun i s =>
        if e.iRated < s.iStep then some (32 + 64 * i + 8)
        else if s.type = 3 ∧ s.pStep = 0 then some (32 + 64 * i + 12)
        else if s.type = 1 ∧ pctOf 5 e.capacity < s.iStep then some (32 + 64 * i + 8) else none
      let pc07 := failStep p fun i s =>
        if [1, 2, 3, 4, 5, 7, 8].contains s.type && !s.exits.any (·.code == 3) then some (32 + 64 * i) else none
      let pc08 := failStep p fun i s =>
        firstOff [if s.imp && !(s.type == 2 || s.type == 9) then some (32 + 64 * i + 1) else none,
          failCond i s 0 fun c => ((c.code == 6 || c.code == 7) && !(s.type == 2 || s.type == 3 || s.type == 8)) ||
            (c.code == 8 && !(s.type == 2 || s.type == 9)) ||
            (c.code == 1 && (s.type == 1 || s.type == 9 || s.type == 10)),
          failCond i s 4 fun c => c.code == 5 && decide (c.b ≤ c.a)]
      let pc09 := failStep p fun i s =>
        if s.type = 7 ∧ ¬ (e.chem = 1 ∨ e.chem = 8) then some (32 + 64 * i) else none
      let pc10 : Option Nat := if masked then none else some 0
      (([pc03 b p, pc04, pc05, pc06, pc07, pc08, pc09, pc10]).zip (List.range' 3 8)).findSome? fun x =>
        x.1.map fun o => (x.2, o)

/-- Whether a step asks for current into the string (R132). -/
def Step.charging (s : Step) : Bool := s.type != 9 && s.type != 10

/-- The compensation temperature of R137. -/
def Program.tc (p : Program) (t : Int) (faulted : Bool) : Int :=
  if faulted then (if p.tcomp < 0 then p.tcompHi else p.tcompLo) else min (max t p.tcompLo) p.tcompHi

/-- The clamp of voltage targets (R137). -/
def vClamp (e : PortEntry) (c : ParamSet) : Int := floorDiv (e.vMax * (1000 - strP e c 9)) 1000

/-- A per-cell voltage as a pack target: compensated where asked, clamped; with whether the clamp acted (R137). -/
def packTarget (e : PortEntry) (c : ParamSet) (p : Program) (comp : Bool) (vCell t : Int) (faulted : Bool) : Int × Bool :=
  let n : Int := e.cells
  let v := if comp then floorDiv (n * (vCell * 1000 + p.tcomp * (p.tc t faulted - p.tRef))) 1000 else n * vCell
  (min v (vClamp e c), decide (vClamp e c < v))

/-- The voltage target of a step and whether the clamp acted; PRECHARGE is not compensated (R132). -/
def stepV (e : PortEntry) (c : ParamSet) (p : Program) (s : Step) (t : Int) (faulted : Bool) : Int × Bool :=
  if s.charging then packTarget e c p (s.comp && s.type != 1) s.vCell t faulted else (0, false)

/-- The current ceiling of a step (R132). -/
def stepI (e : PortEntry) (c : ParamSet) (s : Step) (v : Int) : Int :=
  if s.type = 1 then min s.iStep (strP e c 6)
  else if s.type = 3 then floorDiv (s.pStep * 1000) (max 1 v)
  else if s.charging then s.iStep else 0

end Sys2Proof.Machine
end

