-- ==== Sys2Proof/Machine/Units.lean ====
section
/-! DEFINITION. Operations on the units of the power path: readings, phases, mittens, sources, strings, their faults,
and who decides a switch (R12-R37, R41, R57-R69, R86-R89, R96-R115, R129, R149, R237-R243). -/

namespace Sys2Proof.Machine

/-! ### The lag of the frames, and class C work (R215, R216, R219) -/

/-- The greatest lag that other devices report to a crown, in ns (R219, R356). -/
def Dev.chainLag (d : Dev) (l : Nat) : Nat :=
  if d.ln.chn.role ≠ 1 ∨ l = 0 then 0
  else d.ln.chn.slots.foldl (fun a s => if 2 ≤ s.missed then a else max a (if l = 1 then s.lagC * 10000 else s.lagP * 1000000)) 0

/-- Whether SUP-L has class C work: not in LIMP, not while it is retired or declared (R232). -/
def Dev.classC (d : Dev) : Bool := d.sy.power == .run && !d.sy.supRetired.getD 3 false && !d.sy.stall.contains 4

/-- Whether a policy frame is not late, so that its class C work is done in it (R216, R219, R255). -/
def Dev.policyOnTime (d : Dev) : Bool := d.sy.pframe.lag == 0 && d.chainLag 2 == 0

/-- Whether the lag of the charge and policy frames is 0 (R216, R219). -/
def Dev.onTime (d : Dev) : Bool :=
  d.sy.cframe.lag == 0 && d.sy.pframe.lag == 0 && d.chainLag 1 == 0 && d.chainLag 2 == 0

/-- A measurement of an aged item as class C work (R250): none while SUP-L has none to do; kept in a late frame (R216). -/
def Dev.ageWork (d : Dev) (item num : Nat) (value : Int) : Dev :=
  if !d.classC then d
  else if !d.policyOnTime then d.onSy fun s => { s with deferred := s.deferred ++ [[{ item := item, num := num, value := value }]] }
  else d.ageMeasure item num value

/-! ### Readings -/

/-- The latched value of a tap. -/
def Dev.tapV (d : Dev) (i : Nat) : Int := (d.ms.tap.getD i {}).value
/-- Voltage of a node by its own sense entry. -/
def Dev.nodeV (d : Dev) (n : Node) : Int := d.tapV n.vIx
/-- Current of a node by its own sense entry. -/
def Dev.nodeI (d : Dev) (n : Node) : Int := d.tapV n.iIx
/-- Temperature of string k. -/
def Dev.strT (d : Dev) (k : Nat) : Int := d.tapV (34 + 3 * k)

/-- The member of a shared terminal that connects it: the one whose switch is on, else the first member (DEDUCED,
log 13). -/
def Dev.liveMember (d : Dev) (k : Nat) : Nat :=
  ((d.pw.map.group k).find? fun i => (d.switch i).mode != .off).getD (d.pw.map.groupHead k)

/-- Voltage at a mitten's end (R12, R16). -/
def Dev.endV (d : Dev) : Node → Int
  | .src k => d.nodeV (.src (d.liveMember k))
  | n => d.nodeV n
/-- Current at a mitten's end. -/
def Dev.endI (d : Dev) : Node → Int
  | .src k => d.nodeI (.src (d.liveMember k))
  | n => d.nodeI n

/-- Mitten entry of the map in force. -/
def Dev.mitE (d : Dev) (m : Nat) : MitEntry := d.pw.map.mitE m
/-- Source entry of the map in force. -/
def Dev.srcE (d : Dev) (k : Nat) : PortEntry := d.pw.map.srcE k
/-- String entry of the map in force. -/
def Dev.strE (d : Dev) (k : Nat) : PortEntry := d.pw.map.strE k

/-- How a limit is taken during the transition of a commit (R225): the lower value (0 of a ceiling that may be absent
counts as none), the higher, or the value in force. -/
inductive Cons where
  | lower | lowerOrNone | higher | asIs
  deriving DecidableEq, Repr

/-- The more conservative of an old and a new value. -/
def Cons.pick (c : Cons) (old new cur : Int) : Int :=
  match c with
  | .lower => min old new
  | .lowerOrNone => if old = 0 then new else if new = 0 then old else min old new
  | .higher => max old new
  | .asIs => cur

/-- Mitten parameters under R225: I_SET, REV_I_SET, T_DERATE, T_STOP and T_SHORT lower; P_SET, REV_P_SET lower. -/
def mitCons (id : Nat) : Cons :=
  if id = 3 ∨ id = 5 ∨ id = 14 ∨ id = 15 ∨ id = 12 then .lower else if id = 4 ∨ id = 6 then .lowerOrNone else .asIs
/-- Source parameters under R225: I_IN_MAX, QUAL_V_HI, T_RIDE lower; P_IN_MAX lower; QUAL_V_LO higher. -/
def srcCons (id : Nat) : Cons :=
  if id = 7 ∨ id = 2 ∨ id = 6 then .lower else if id = 8 then .lowerOrNone else if id = 1 then .higher else .asIs
/-- String parameters under R225: CELL_V_HI, CELL_V_ABS lower; V_MARGIN higher. -/
def strCons (id : Nat) : Cons := if id = 16 ∨ id = 17 then .lower else if id = 9 then .higher else .asIs

/-- The map before the commit that is stepping. -/
def Dev.oldMap (d : Dev) : PathMap := d.pw.stage.oldMap.getD d.pw.map
/-- The map after the commit that is stepping. -/
def Dev.newMap (d : Dev) : PathMap := d.pw.stage.map.getD d.pw.map

/-- Whether a node is in transition (R225): enabled before and after a commit that is stepping, so that both values are limits. -/
def Dev.nodeMoves (d : Dev) (n : Node) : Bool := d.pw.stage.begun && d.oldMap.enabled n && d.newMap.enabled n
/-- Whether a mitten is in transition (R225). -/
def Dev.mitMoves (d : Dev) (m : Nat) : Bool := d.pw.stage.begun && (d.oldMap.mitE m).used && (d.newMap.mitE m).used

/-- n_member of mitten m under an entry (R64, R90): the entry's own phases, and for a shared mitten of a formed chain those of
every other device that does not report SHARED_MISMATCH. -/
def Dev.nOf (d : Dev) (m : Nat) (e : MitEntry) : Nat :=
  if e.shared && d.ln.chn.st == .formed then
    (d.ln.chn.side.phases.filter fun x => x.1 == m && x.2.1 != d.ln.chn.pos &&
      !(d.ln.chn.slots.getD x.2.1 {}).flags.testBit 2).foldl (fun a x => a + x.2.2) e.nMember
  else e.nMember

/-- A mitten parameter in force, conservative during a transition (R67, R225). -/
def Dev.mp (d : Dev) (m id : Nat) : Int :=
  let p (e : MitEntry) (c : ParamSet) : Int := mitP e (d.nOf m e) c id
  let cur := p (d.mitE m) (d.mitten m).cfg
  let g := d.pw.stage
  if d.mitMoves m then (mitCons id).pick (p (d.oldMap.mitE m) ((look m g.oldMit).getD (d.mitten m).cfg))
    (p (d.newMap.mitE m) ((look m g.mitCfg).getD (d.mitten m).cfg)) cur
  else cur
/-- A source parameter in force, conservative during a transition (R95, R225). -/
def Dev.sp (d : Dev) (k id : Nat) : Int :=
  let cur := srcP (d.srcE k) (d.source k).cfg id
  let g := d.pw.stage
  if d.nodeMoves (.src k) then (srcCons id).pick (srcP (d.oldMap.srcE k) ((look k g.oldSrc).getD (d.source k).cfg) id)
    (srcP (d.newMap.srcE k) ((look k g.srcCfg).getD (d.source k).cfg) id) cur
  else cur
/-- A string parameter in force, conservative during a transition (R128, R225). -/
def Dev.stp (d : Dev) (k id : Nat) : Int :=
  let cur := strP (d.strE k) (d.string k).cfg id
  let g := d.pw.stage
  if d.nodeMoves (.str k) then (strCons id).pick (strP (d.oldMap.strE k) ((look k g.oldStr).getD (d.string k).cfg) id)
    (strP (d.newMap.strE k) ((look k g.strCfg).getD (d.string k).cfg) id) cur
  else cur

/-- V_MAX of a node: the lower one during a transition (R225). -/
def Dev.nMax (d : Dev) (n : Node) : Int :=
  if d.nodeMoves n then min (d.oldMap.nodeMax n) (d.newMap.nodeMax n) else d.pw.map.nodeMax n
/-- V_MIN of a node: the higher one during a transition (R225). -/
def Dev.nMin (d : Dev) (n : Node) : Int :=
  if d.nodeMoves n then max (d.oldMap.nodeMin n) (d.newMap.nodeMin n) else d.pw.map.nodeMin n
/-- V_TARGET of a bus for a mitten: the new one from the mitten's own step on (R225). -/
def Dev.busTarget (d : Dev) (m j : Nat) : Int :=
  let b := if d.pw.stage.todo.contains m && d.nodeMoves (.bus j) then d.oldMap.busE j else d.pw.map.busE j
  b.vTarget

/-- V_SUPP of a bus: the higher one during a transition (R225). -/
def Dev.vSupp (d : Dev) (j : Nat) : Int :=
  if d.nodeMoves (.bus j) then max (d.oldMap.busE j).vSupp (d.newMap.busE j).vSupp else (d.pw.map.busE j).vSupp
/-- I_MAX of a mitten: the lower one during a transition (R225). -/
def Dev.iMax (d : Dev) (m : Nat) : Int :=
  if d.mitMoves m then min (d.oldMap.mitE m).iMax (d.newMap.mitE m).iMax else (d.mitE m).iMax

/-! ### Phases of a mitten -/

/-- The phases of a mitten in a state. -/
def Dev.phasesIn (d : Dev) (m : Nat) (st : PhaseSt) : List Nat := (d.mitE m).members.filter fun p => (d.phase p).st = st
/-- A shared mitten whose loop does not run here: only the crown's lead runs it (R91). -/
def Dev.remote (d : Dev) (m : Nat) : Bool := (d.mitE m).shared && d.ln.chn.role != 1
/-- A shared mitten that the crown of a formed chain runs. -/
def Dev.crowned (d : Dev) (m : Nat) : Bool := (d.mitE m).shared && d.ln.chn.role == 1 && d.ln.chn.st == .formed

/-- Active phases on this device (R41). -/
def Dev.active (d : Dev) (m : Nat) : List Nat := d.phasesIn m .active
/-- The lead phase: the lowest active one (R59). -/
def Dev.leadOf (d : Dev) (m : Nat) : Option Nat := (d.active m).head?
/-- n_active: over the whole chain for a shared mitten of a formed chain (R64, R92). -/
def Dev.nActive (d : Dev) (m : Nat) : Nat :=
  if (d.mitE m).shared && d.ln.chn.st == .formed then (d.mitten m).nTotal else (d.active m).length
/-- n_member (R64, R90). -/
def Dev.nMember (d : Dev) (m : Nat) : Nat := d.nOf m (d.mitE m)
/-- I_LIMIT of a mitten (R64). -/
def Dev.iLimit (d : Dev) (m : Nat) : Int := limitOf (d.iMax m) (d.nActive m) (d.nMember m)

/-- Whether a mitten is running for MC15 and commits: neither STOPPED nor RETIRED (R28). -/
def Mitten.running (m : Mitten) : Bool := m.st != .stopped && m.st != .retired
/-- Whether the members of a mitten hold both outputs low (R15). -/
def Mitten.quiet (m : Mitten) : Bool := m.st == .stopped || m.st == .faulted || m.st == .retired || m.st == .standby
/-- SOFTSTART, RUN or STANDBY: the outer loop runs. -/
def Mitten.looping (m : Mitten) : Bool := m.st == .softstart || m.st == .run || m.st == .standby

/-- The full scale of a range in mA (R50): the scaled value (R27) at +1,000 / 2^c mV at the ball. -/
def Dev.fullScale (d : Dev) (p c : Nat) : Int :=
  let e := d.pw.map.senseE (phIx p)
  roundDiv (if e.invert then -e.fsEng else e.fsEng) (2 ^ c) + e.offset

/-- Comparator code and whether it was capped (R57). A full scale of 0 or below, for which the formula has no value, counts as
exceeded: code 1,023, capped (DESIGN CHOICE, log 145). -/
def ocpCode (ocp fs : Int) : Nat × Bool :=
  if ocp = 0 then (1023, false)
  else if fs ≤ 0 ∨ fs < ocp then (1023, true) else ((floorDiv (ocp * 1023) fs).toNat, false)

/-- Recompute the threshold code of a phase; PH_THRESHOLD_CLAMPED is raised at the first that caps (R57). -/
def Dev.rethreshold (d : Dev) (p : Nat) : Dev :=
  let x := d.phase p
  let (c, cl) := ocpCode (fld x.regs.ocp 0 31) (d.fullScale p x.range)
  (d.modPh p fun y => { y with code := c, clamped := cl }).when (cl && !x.clamped) fun e =>
    e.raise evPhThresholdClamped (some p) []

/-- CS_RANGE as written (R47). -/
def Phase.csRange (x : Phase) : Nat := fld x.regs.prot 20 2
/-- AUTORANGE (R47). -/
def Phase.autorange (x : Phase) : Bool := bit x.regs.prot 22
/-- Apply the written set-up of a phase, and the range it selects (R48, R51): the threshold code is recomputed. At a cycle
boundary (`cycle`) a changed range marks the samples of the cycle that begins; where no cycle runs there is none to mark. An
automatic change counts for the one in 64 cycles (R52). -/
def Dev.applySetup (d : Dev) (p : Nat) (cycle : Bool) : Dev :=
  let d := d.modPh p fun x =>
    let x := { x with regs := x.held }
    let r := if x.autorange then x.rangeNext else x.csRange
    let new := r != x.range
    { x with range := r, rangeNext := r, mark := cycle && new, changes := x.changes + b2n (cycle && new), cyc := if x.autorange && new then 0 else x.cyc,
             lowRun := if new then 0 else x.lowRun }
  d.rethreshold p

/-- Ask a mitten to re-spread at its lead's next cycle start (R62); a shared one at the cycle two ticks on that the crown
names, so that a follower waits for the crown's message (R92). -/
def Dev.respread (d : Dev) (m : Nat) : Dev :=
  if (d.mitE m).shared && d.ln.chn.st == .formed then
    (if d.ln.chn.role == 2 then d
     else d.modMit m fun x => { x with respread := true, switchTick := d.sy.tick.count + 2 })
  else d.modMit m fun x => { x with respread := true }

/-- Both outputs low at once: a fault, or hardware protection (R45, R57, R58). -/
def Phase.low (x : Phase) : Phase := { x with duty := 0, onTime := 0, lowTime := 0, burstN := 0 }

/-- A phase taken out of service by command or by shedding: no further target, and its running cycle is finished with the
intervals it started with (R45, R62). -/
def Phase.park (x : Phase) (st : PhaseSt) : Phase :=
  { x with st := st, target := 0, targetNext := 0, duty := 0, burstN := 0, gntPass := false }

/-- The mate of a phase in its pair (R70). -/
def mateOf (p : Nat) : Nat := if p % 2 = 0 then p + 1 else p - 1

/-- A phase that leaves ACTIVE (R62, R72): its new state, at the end of its cycle unless a fault takes it out (`atOnce`); an
ACTIVE FSBB partner is placed in SHED; the mitten re-spreads. -/
def Dev.leave (d : Dev) (p : Nat) (st : PhaseSt) (atOnce : Bool) : Dev :=
  let was := (d.phase p).st
  let d := d.modPh p fun x => if atOnce then (x.park st).low else x.park st
  match d.pw.map.mitOf p with
  | none => d
  | some m =>
    if was = .active then
      (if (d.mitE m).fsbb && (d.phase (mateOf p)).st = .active then d.modPh (mateOf p) (·.park .shed) else d).respread m
    else d

/-- The state of a member whose mitten stops: a phase that has failed in a gauntlet transiently enters FAULTED, the others go IDLE
(R58, R69). -/
def Phase.stopSt (x : Phase) : PhaseSt := if x.st = .gauntlet ∧ !x.gntPass then .faulted else .idle

/-- Put the member phases of a stopping mitten in IDLE; each finishes its running cycle (R69, R86). FAULTED and RETIRED members
keep their state. -/
def Dev.idleMembers (d : Dev) (m : Nat) : Dev :=
  d.each (d.mitE m).members fun p e =>
    let s := (e.phase p).st
    if s = .active ∨ s = .shed ∨ s = .gauntlet then
      e.modPh p fun x => { x.park x.stopSt with revSw := false, rejoin := false }
    else e

/-- Drive the members of a mitten that faults low, and put them in IDLE; the tick is kept for a phase fault of the same tick
(R87, R89). -/
def Dev.dropMembers (d : Dev) (m : Nat) : Dev :=
  let t := d.sy.tick.count
  let act := (d.mitE m).members.filter fun p => (d.phase p).st = .active || (d.phase p).st = .shed
  ((d.idleMembers m).each act fun p e => e.modPh p fun x => { x with idledAt := some t }).each (d.mitE m).members fun p e =>
    e.modPh p Phase.low

/-- Whether a phase is in service for a fault of its own: ACTIVE, SHED or GAUNTLET, or made IDLE by a mitten fault of the same
tick (R58, R89). -/
def Dev.inService (d : Dev) (p : Nat) : Bool :=
  let x := d.phase p
  x.st == .active || x.st == .shed || x.st == .gauntlet || (x.st == .idle && x.idledAt == some d.sy.tick.count)

/-- Reset a mitten's loop state as it leaves service. -/
def Mitten.clearLoop (x : Mitten) : Mitten :=
  { x with lim := 0, iCmd := 0, pub := 0, integ := 0, dir := .none, gnt := .none, rev := false, iRamp := 0, vRamp := 0, glide := false,
           zeroFrames := 0, lead := .none, dSupp := false, demandIn := 0 }

/-! ### Faults -/

/-- Raise a fault event and keep it in the fault log (log 1 of R310); a fault of any unit wakes from SLEEP (R386). -/
def Dev.fault (d : Dev) (ev : Nat) (inst : Option Nat) (data : List Byte) : Dev :=
  ((d.raise ev inst data).addLog 1 d.now ev (inst.getD 0xFFFF) data).wakeSleep 6

/-- A phase enters RETIRED (R61, R83). -/
def Dev.enterRetired (d : Dev) (p fault : Nat) : Dev :=
  ((d.leave p .retired true).modPh p fun x => { x with lad := x.lad.retire d.now }).fault evPhaseRetired (some p) (d2 fault)

/-- A phase is retired, and its engine is declared faulty (R243). -/
def Dev.retirePhase (d : Dev) (p fault : Nat) : Dev := (d.enterRetired p fault).declare (agPhase p)

/-- A transient fault of a phase (R61, R238): FAULTED with a backoff, or RETIRED after five retries. A FAULTED phase
enters no further retry (R257); an IDLE or RETIRED phase does not change (R58). -/
def Dev.phaseTransient (d : Dev) (p ev : Nat) : Dev :=
  let x := d.phase p
  if d.inService p then
    if x.lad.spent d.now then d.retirePhase p ev
    else (d.leave p .faulted true).modPh p fun y => { y with lad := y.lad.enter d.now ev, rejoin := false, idledAt := .none }
  else d

/-- Delivered charge of a lend in mAh; the charge is counted in mA·ns. -/
def Lend.mAh (l : Lend) : Int := l.charge / 3600000000000

/-- The source engine's rations go to 0. -/
def Source.noRations (x : Source) : Source := { x with rations := List.replicate 16 0, base := 0, iAvail := 0 }

/-- The step a string runs. -/
def Str.cur (x : Str) : Option (Program × Step) :=
  match x.prog with
  | none => none
  | some p => (p.steps[x.step]?).map fun s => (p, s)

/-- Enter a step: step time, charge and confirm counts start from 0 (R134). -/
def Str.enter (x : Str) (n : Nat) : Str :=
  { x with step := n, stepNs := 0, cnt := [0, 0, 0, 0], ahStep := 0, secPeak := .none }

/-- Whether a string runs the substitute of R150 in LIMP: its step is neither FLOAT nor HOLD. -/
def Dev.substitute (d : Dev) (s : Step) : Bool := d.sy.power = .limp && s.type != 6 && s.type != 10

/-- The step a string runs now: its program's, or in LIMP the substitute FLOAT at the preset V_FLOAT and 0.05C; a string without a
preset V_FLOAT holds (R150). The substitute may be bus-tied like the preset's FLOAT (R126; DEDUCED, log 152). -/
def Dev.stepNow (d : Dev) (k : Nat) : Option (Program × Step) :=
  let e := d.strE k
  match (d.string k).cur with
  | none => none
  | some (p, s) =>
    if !d.substitute s then some (p, s)
    else
      let v := (preset e.chem).vFloat
      match (if v < 0 then none else presetProgram e (d.string k).cfg) with
      | some q => some (q, { type := 6, comp := true, tieOk := true, vCell := v, iStep := pctOf 5 e.capacity })
      | none => some (p, { type := 10, tieOk := true })

/-- Whether a string's step asks for current into it (R132, R150). -/
def Dev.asksCharge (d : Dev) (k : Nat) : Bool := match d.stepNow k with
  | some (_, s) => s.charging
  | none => false

/-- End an impedance run on a string with a reason: the record, the ceilings at the next frame, the leases, and
IMPEDANCE_DONE (R205 step 5, R207, R208). A waiting IMPEDANCE_ABORT completes. -/
def Dev.endImp (d : Dev) (k reason : Nat) : Dev :=
  match (d.ms.imp.getD k {}).run with
  | none => d
  | some r =>
    let pts := r.points ++ (r.freqs.drop r.points.length).map fun f => { freq := f.freq }
    let d := d.modImp k fun i =>
      { i with run := .none, ended := some r, record := some { reason := reason, runNo := i.runs, startAt := r.startAt,
                                                               points := pts } }
    let d := d.modMu k fun u => { u with leaseDue := false, unleaseDue := u.leased }
    let d := d.modMit r.mitten fun m => { m with perturb := 0 }
    let d := match r.abortTag with
      | some t => d.done t stSuccess 0 []
      | none => d
    let zs : List (Option Nat) := (List.range 32).map fun i => match pts[i]? with
      | some p => if p.valid then some (isqrt (p.zRe.natAbs ^ 2 + p.zIm.natAbs ^ 2)) else .none
      | none => .none
    let z := zs.getD (d.stp k 18).toNat .none
    let d := if reason = 1 then (d.modStr k fun x =>
        { x with zLast := zs, zBase := if x.zBase.all (·.isNone) then zs else x.zBase }).when z.isSome fun e =>
          e.ageWork 9 k (z.getD 0 : Nat) else d
    d.raise evImpedanceDone (some (strNode k)) (d2 reason)

/-- STRING_STEP at a step change (R134). -/
def Dev.stepEvent (d : Dev) (k : Nat) : Dev := d.raise evStringStep (some (strNode k)) []

/-- The program source in force for string k: preset or loaded (R128). -/
def Dev.program (d : Dev) (k : Nat) : Option Program :=
  if d.stp k 1 = 0 then presetProgram (d.strE k) (d.string k).cfg else (d.string k).loaded

/-- A lend's donor returns (R119, R129): RUNNING at its held step; at START of a program committed meanwhile (R136); STOPPED where
it has no program. -/
def Dev.returnDonor (d : Dev) (k : Nat) : Dev :=
  let x := d.string k
  if x.st ≠ .lent then d
  else match (if x.progNew then d.program k else none) with
    | some p =>
      (d.modStr k fun y => { (y.enter p.start) with prog := some p, st := .running, progNew := false, cnt := [0, 0, 0, 0] }).stepEvent k
    | none =>
      if x.cur.isNone then d.modStr k fun y => { y with st := .stopped, progNew := false }
      else d.modStr k fun y => { y with st := .running, progNew := false, cnt := [0, 0, 0, 0] }

/-- End the lend on a source (R119): the edge's current goes to 0, the source enters HOLDOFF, the donor's program resumes, the
edge stops unless that program asks for its forward direction or a HOLD keeps it running (R307), LEND_ENDED is raised, and a
waiting LEND_STOP completes. -/
def Dev.endLend (d : Dev) (k : Nat) (reason : Nat) : Dev :=
  match (d.source k).lend with
  | none => d
  | some l =>
    let d := d.modSrc k fun x => { x with lend := .none, st := if x.st = .lending then .holdoff else x.st }
    let d := if l.donor ≥ 32 then d.returnDonor (l.donor - 32) else d
    let asks := 32 ≤ l.donor && (d.string (l.donor - 32)).st = .running && d.asksCharge (l.donor - 32) &&
      (d.mitE l.mit).toN == l.donor
    let run := (d.mitten l.mit).looping || (d.mitten l.mit).st == .gauntlet
    let d := if run && !asks && !(d.mitten l.mit).held then
        (d.idleMembers l.mit).modMit l.mit fun y => { y.clearLoop with st := .stopped, lending := false, dLend := false }
      else d.modMit l.mit fun x => { x with lending := false, dLend := false, iCmd := 0, pub := 0 }
    let d := match l.stopTag with
      | some t => d.done t stSuccess (enc 4 l.mAh + 4294967296 * reason) []
      | none => d
    d.raise evLendEnded (some (srcNode k)) (d2 reason ++ d4 l.mAh)

/-- End the lend that runs on a mitten. -/
def Dev.endLendOn (d : Dev) (m reason : Nat) : Dev :=
  d.each (List.range 12) fun k e => match (e.source k).lend with
    | some l => if l.mit = m then e.endLend k reason else e
    | none => e

/-- Stop a mitten: members IDLE, STOPPED, loop cleared; a lend on it ends with reason 8, for which R119 has no code where the host
stops or sheds the edge (R86, R119; DESIGN CHOICE, log 150). -/
def Dev.stopMit (d : Dev) (m : Nat) : Dev :=
  ((d.idleMembers m).modMit m fun x => { x.clearLoop with st := .stopped, dHost := false, dProg := false,
                                                          dChange := false, changeDue := false }).endLendOn m 8

/-- Stop a running mitten for a changeover: it will receive a start demand when a switch next closes (R113). -/
def Dev.stopForChange (d : Dev) (m : Nat) : Dev :=
  let x := d.mitten m
  let d := d.modMit m fun y => { y with changeDue := false }
  if x.quiet && x.st != .standby then d
  else ((d.idleMembers m).modMit m fun y => { y.clearLoop with st := .stopped, dChange := true }).endLendOn m 8

/-- The ports at a terminal that an escalation retires: the owner, or every source of the group (R241). -/
def PathMap.escalate (m : PathMap) : Node → List Nat
  | .src k => m.group k
  | .str k => [12 + k]
  | .bus _ => []

/-- Step 2 of a selection change for one mitten (R113): it stops with a start demand to come, a held one once the HOLD is lifted. -/
def Dev.changeMit (d : Dev) (m : Nat) : Dev :=
  if (d.mitten m).held then d.modMit m fun y => { y with changeDue := true } else d.stopForChange m

/-- Steps 1 and 2 of a selection change (R113): rations of 0, and every mitten at a SERIES terminal stops. -/
def Dev.outgoing (d : Dev) (k : Nat) : Dev :=
  let d := d.modSrc k Source.noRations
  if (d.pw.map.srcE k).place = 0 then d.each (d.pw.map.mitsAt k) fun m e => e.changeMit m else d

/-- The lends that a string donates end with a reason (R119). -/
def Dev.endDonor (d : Dev) (k reason : Nat) : Dev :=
  d.each (List.range 12) fun s e => match (e.source s).lend with
    | some l => if l.donor = 32 + k then e.endLend s reason else e
    | none => e

/-- Retire the port of a source (R114, R241); its engine is declared faulty (R243). -/
def Dev.retireSource (d : Dev) (k fault : Nat) : Dev :=
  let sel := (d.source k).st = .selected ∨ (d.source k).st = .rideThrough
  let d := (d.endLend k 8).modSrc k fun x => { x.noRations with
    st := .retired, lad := x.lad.retire d.now,
    selAt := .none, scan := .none, surge := false, pendClose := false }
  ((d.when sel fun e => (e.outgoing k).onPw fun p => { p with arbDue := true }).fault evSourceRetired (some (srcNode k))
    (d2 fault)).declare (agSource k)

/-- A precharge ends or is given up (R35, R142): no precharge mitten, and PRECHARGE_NO_PATH ends. -/
def Dev.endPre (d : Dev) (k : Nat) : Dev :=
  (d.modStr k fun x => { x with preMit := .none, noPre := false, preOk := 0 }).when (d.string k).noPre fun e =>
    e.offset evPrechargeNoPath k

/-- Retire a string (R149, R207, R241); its engine is declared faulty (R243). A lend it donates ends with MITTEN_FAULT (DESIGN
CHOICE, log 150). -/
def Dev.retireString (d : Dev) (k fault : Nat) : Dev :=
  (((((d.endImp k 8).endDonor k 8).endPre k).modStr k fun x => { x with
    st := .retired, lad := x.lad.retire d.now, chgMit := .none,
    vTgt := 0, iCeil := 0 }).fault evStringRetired (some (strNode k)) (d2 fault)).declare (agString k)

/-- Escalation (R241): two mittens at one terminal retired within 60 s, both for the same of MITTEN_OVERVOLTAGE and
MITTEN_SHORT, retire the port at that terminal. -/
def Dev.escalate (d : Dev) (m ev : Nat) : Dev :=
  if ev ≠ evMittenOvervoltage ∧ ev ≠ evMittenShort then d
  else
    let e := d.mitE m
    d.each (d.pw.map.escalate e.fromNode ++ d.pw.map.escalate e.toNode) fun p c =>
      let hit := (c.pw.map.mitsAt p).any fun i => i != m && (c.mitten i).st = .retired && (c.mitten i).retiredBy == ev &&
        decide (c.now ≤ (c.mitten i).retiredAt + 60000000000)
      if !hit then c
      else if p < 12 then
        if (c.source p).st = .retired then c
        else (c.retireSource p ev).raise evPortEscalated (some (srcNode p)) []
      else if (c.string (p - 12)).st = .retired then c
      else (c.retireString (p - 12) ev).raise evPortEscalated (some (strNode (p - 12))) []

/-- A transient mitten fault (R87, R88): members low, FAULTED with a backoff, or RETIRED after five retries with
MITTEN_RETIRED and the escalation of R241. The event of the fault is raised first. -/
def Dev.mittenFault (d : Dev) (m ev : Nat) (data : List Byte) : Dev :=
  let d := d.fault ev (some m) data
  let lad := (d.mitten m).lad
  let d := (d.dropMembers m).endLendOn m 8
  if lad.spent d.now then
    ((d.modMit m fun x => { x.clearLoop with
        st := .retired, retiredAt := d.now, retiredBy := ev,
        lad := x.lad.retire d.now }).fault evMittenRetired (some m) []).escalate m ev
  else d.modMit m fun x => { x.clearLoop with st := .faulted, lad := x.lad.enter d.now ev }

/-- A transient source fault (R114): rations 0, FAULTED with a backoff, or RETIRED. A lend ends with reason 8: the table of R119 has
none for a fault, a retirement or a disabling of the source, nor for a fault of the donor string (DESIGN CHOICE, log 150). -/
def Dev.sourceFault (d : Dev) (k ev : Nat) (announce : Bool) : Dev :=
  let d := d.when announce fun e => e.fault ev (some (srcNode k)) []
  let x := d.source k
  if x.lad.spent d.now then d.retireSource k ev
  else
    let sel := x.st = .selected ∨ x.st = .rideThrough
    ((d.endLend k 8).modSrc k fun y => { y.noRations with
      st := .faulted, lad := y.lad.enter d.now ev, selAt := .none,
      scan := .none, surge := false, pendClose := false }).when sel fun e =>
        (e.outgoing k).onPw fun p => { p with arbDue := true }

/-- Stop every mitten that connects at a port and is not already stopped, faulted or retired. -/
def Dev.stopAt (d : Dev) (p : Nat) : Dev :=
  d.each (d.pw.map.mitsAt p) fun m e =>
    if (e.mitten m).st = .stopped ∨ (e.mitten m).st = .faulted ∨ (e.mitten m).st = .retired then e else e.stopMit m

/-- Set a switch's mode: OFF notes its tick; IDEAL_DIODE starts conducting as the comparison stands (R14). -/
def Dev.setSwitch (d : Dev) (p : Nat) (m : SwMode) : Dev :=
  let s := d.switch p
  if s.mode = m then d
  else
    let e := d.pw.map.portE p
    let t := if p < 12 then d.nodeV (.src p) else d.nodeV (.str (p - 12))
    let c := match m with
      | .off => false
      | .on => true
      | .idealDiode => s.conduct || decide (d.nodeV (.bus e.tieBus) + e.von < t)
    d.modSw p fun x => { x with mode := m, conduct := c,
                                offTick := if m = .off then d.sy.tick.count else x.offTick }

/-- End a blocked closing: the condition of SWITCH_BLOCKED ends (R15, R449). -/
def Dev.unblock (d : Dev) (p : Nat) : Dev :=
  if (d.switch p).blocked then (d.modSw p fun x => { x with blocked := false }).offset evSwitchBlocked p else d

/-- Open a switch at once: a demand of rank 1 does not wait for a control-tick boundary (R32). -/
def Dev.openNow (d : Dev) (p : Nat) : Dev := (d.setSwitch p .off).unblock p

/-- Cause mark of a current sense fault of a string, whose reaction is that of STRING_OVERCURRENT (R149). -/
def causeSenseI : Nat := evStringSenseFault + 256

/-- A transient string fault (R149): charge ceiling 0, charging or precharge mitten stopped (`all`: every mitten at the terminal),
impedance run and lend ended, FAULTED with a backoff, or RETIRED. A reaction with the tie OFF opens it at once (R32). -/
def Dev.stringFault (d : Dev) (k ev cause : Nat) (all : Bool) : Dev :=
  let d := (d.endImp k 8).fault ev (some (strNode k)) []
  let x := d.string k
  let d := if all then d.stopAt (12 + k)
    else d.each (x.chgMit.toList ++ x.preMit.toList) fun m e =>
      if (e.mitten m).looping || (e.mitten m).st = .gauntlet then e.stopMit m else e
  let d := ((d.modStr k fun y => { y with iCeil := 0, chgMit := .none }).endPre k).endDonor k 8
  let d := if cause = evStringOvercurrent ∨ cause = causeSenseI then d.openNow (12 + k) else d
  if x.lad.spent d.now then d.retireString k ev
  else d.modStr k fun y => { y with st := .faulted, lad := y.lad.enter d.now cause, cnt := [0, 0, 0, 0] }

/-- A transient fault of a port by its number: SWITCH_OPEN of R248. -/
def Dev.portTransient (d : Dev) (p ev : Nat) : Dev :=
  if p < 12 then (d.openNow p).sourceFault p ev true else d.stringFault (p - 12) ev evStringOvercurrent false

/-! ### Nodes that are live, joined or absent -/

/-- Whether a node is live at the other end of a charging mitten (R138). -/
def Dev.live (d : Dev) : Node → Bool
  | .src k => (d.pw.map.group k).any fun i => (d.source i).st = .selected
  | .bus j => (d.pw.map.busE j).enable && decide (d.nMin (.bus j) < d.nodeV (.bus j))
  | .str k => (d.string k).st = .running

/-- Whether the terminal of a mitten end is joined to a bus (R17); a bus end counts as joined to itself (DEDUCED,
log 15). -/
def Dev.joined (d : Dev) (n : Node) (j : Nat) : Bool :=
  match n with
  | .bus b => b == j
  | .src k => (d.pw.map.group k).any fun i => let e := d.srcE i; let s := d.switch i
      e.place == 1 && e.tieBus == j && (s.mode = .on || (s.mode = .idealDiode && s.conduct))
  | .str k => let e := d.strE k; let s := d.switch (12 + k)
      e.type != 0 && e.place == 1 && e.tieBus == j && (s.mode = .on || (s.mode = .idealDiode && s.conduct))

/-- R17: both ends of a mitten joined to the same bus. -/
def Dev.bothJoined (d : Dev) (m : Nat) : Bool :=
  let e := d.mitE m
  (List.range 4).any fun j => d.joined e.fromNode j && d.joined e.toNode j

/-- The end of a mitten other than a node. -/
def MitEntry.other (e : MitEntry) (n : Node) : Node := if e.toNode = n then e.fromNode else e.toNode

/-- Whether a mitten can carry energy into a node at one of its ends (R18). -/
def MitEntry.into (e : MitEntry) (n : Node) : Bool := e.used && (e.toNode = n || (e.fromNode = n && e.bidir))

/-- The charging mitten of string k (R138). -/
def Dev.chargingMit (d : Dev) (k : Nat) : Option Nat :=
  (List.range 16).find? fun i =>
    let e := d.mitE i
    let m := d.mitten i
    e.into (.str k) && m.st != .faulted && m.st != .retired && !m.lending && d.live (e.other (.str k))

/-- The precharge mitten of string k: the lowest-numbered one at the terminal whose other end is live (R35). R35 asks for no
more, so a FAULTED or lending mitten may be chosen, and then delivers nothing. -/
def Dev.prechargeMit (d : Dev) (k : Nat) : Option Nat :=
  (List.range 16).find? fun i => let e := d.mitE i; e.into (.str k) && d.live (e.other (.str k))

/-- The bus at the other end of a mitten, if any. -/
def Dev.busAcross (d : Dev) (m k : Nat) : Option Nat :=
  match (d.mitE m).other (.str k) with
  | .bus j => some j
  | _ => none

/-- Nominal string voltage level of R34: 10 % of CELLS x V_NOM_CELL. -/
def Dev.absentLevel (d : Dev) (k : Nat) : Int := pctOf 10 ((d.strE k).cells * d.stp k 3)
/-- The precharge threshold of string k (R142). -/
def Dev.preThreshold (d : Dev) (k : Nat) : Int := (d.strE k).cells * d.stp k 4
/-- The precharge target of string k (R142). -/
def Dev.preTarget (d : Dev) (k : Nat) : Int := (d.strE k).cells * (d.stp k 4 + d.stp k 5)

/-! ### Start requests -/

/-- The direction that carries energy into a node: true for reverse. -/
def MitEntry.revInto (e : MitEntry) (n : Node) : Bool := e.toNode ≠ n

/-- Whether a mitten may be started: STOPPED, used, neither held nor disconnected, its ports not retired, and the
device permits a gauntlet (R69, R234, R307, R315). -/
def Dev.startable (d : Dev) (m : Nat) : Bool :=
  let e := d.mitE m
  let x := d.mitten m
  let portRetired (n : Node) : Bool := match n with
    | .src k => (d.source k).st = .retired
    | .str k => (d.string k).st = .retired
    | .bus _ => false
  e.used && x.st = .stopped && !x.held && !x.disc && !x.mismatch && !portRetired e.fromNode && !portRetired e.toNode && d.inRun

/-- Put a phase of a gauntlet under its control, with the driver latch released (R58). -/
def Phase.beginTest (x : Phase) : Phase :=
  { x with st := .gauntlet, latch := false, flt := false, gntPass := true,
           lad := if x.st = .faulted then { x.lad with backoff := .none } else x.lad }

/-- The members a gauntlet tests: the IDLE ones; on a retry after MITTEN_UNDERSTAFFED all that are not RETIRED (R87). -/
def Dev.testees (d : Dev) (m : Nat) (retry : Bool) : List Nat :=
  (d.mitE m).members.filter fun p => let s := (d.phase p).st
    s = .idle || (retry && (d.mitten m).lad.cause == evMittenUnderstaffed && s = .faulted)

/-- A liner that runs on after hand-over (R395). -/
def LinerS.runs (l : LinerS) : Bool := l.st == .running || l.st == .heldHigh || l.st == .collapsed

/-- The strapped source of the liner, below 12 (R390). -/
def Sys.linerSrc (s : Sys) : Nat := bits s.straps.toNat 1 4

/-- The LINER_V code (R390). -/
def Sys.linerV (s : Sys) : Nat := bits s.straps.toNat 5 3
/-- The BUS0 target of the liner in mV (R390). -/
def Sys.linerTarget (s : Sys) : Int :=
  ([12000, 24000, 28000, 36000, 48000, 72000, 110000].getD s.linerV Config.linerOtpV : Nat)

/-- The per-phase peak threshold of LINER_I at CSP/CSN, in µV (R390). -/
def Sys.linerI (s : Sys) : Int := [100000, 200000, 400000, 800000].getD (bits s.straps.toNat 8 2) 0

/-- How long a soft start of the liner takes (R392). -/
def linerSoft : Nat := 50000000

/-- The voltage that the liner holds BUS0 at now: in a soft start it rises from the measured voltage to the target (R392). -/
def Sys.linerRef (s : Sys) : Int :=
  let l := s.liner
  if linerSoft ≤ l.softNs then s.linerTarget else l.v0 + floorDiv ((s.linerTarget - l.v0) * l.softNs) linerSoft

/-- Whether a phase of the liner switches: it passed the gauntlet, and no FLT has taken it out; of an FSBB pair both phases do
(R390, R392, R393; for pairs DEDUCED, log 181). -/
def LinerS.drives (l : LinerS) (p : Nat) : Bool :=
  let ok (q : Nat) : Bool := l.passed.getLsbD q && !l.fltLow.getLsbD q
  decide (p < 4) && l.st == .running && ok p && (!Config.linerPairs || ok (p ^^^ 1))

/-- PH0-PH3 low: no output of the liner (R393, R395). -/
def Dev.linerLow (d : Dev) : Dev :=
  d.each (List.range 4) fun p e => if (e.phase p).st == .active then e else e.modPh p Phase.low

/-! ### Power domains -/

/-- Whether a quad's domain is powered: a phase of an enabled mitten, or the liner on quad 0 (R40, R383). -/
def Dev.quadWanted (d : Dev) (q : Nat) : Bool :=
  let liner := q == 0 && d.sy.liner.st != .off && d.sy.liner.st != .failed
  let map := (d.sy.power = .run || d.sy.power = .limp || d.sy.power = .sleep) &&
    (List.range 16).any fun m => (d.mitE m).used && (List.range' (4 * q) 4).any fun p => (d.mitE m).phases.getLsbD p
  liner || map

/-- Power a quad up or down: its phases become IDLE or UNPOWERED; RETIRED ones stay (R40, R41). -/
def Dev.powerQuad (d : Dev) (q : Nat) : Dev :=
  let on := d.quadWanted q
  if d.pw.quadOn.getD q false == on then d
  else
    let d := d.onPw fun p => { p with quadOn := p.quadOn.set q on, quadBad := p.quadBad.set q false }
    let d := d.onSy fun s => { s with domains := if on then s.domains ||| (1#24 <<< (1 + q)) else s.domains &&& ~~~(1#24 <<< (1 + q)) }
    d.each (List.range' (4 * q) 4) fun p e =>
      let ret := (e.phase p).st == .retired
      if on then (if ret then e else (e.modPh p fun y => { y with st := .idle }).applySetup p false)
      else e.modPh p fun y => { (y.park (if ret then .retired else .unpowered)).low with
        flt := false, latch := false, trip := false, calOk := false, coarse := false }

/-- Power every quad as R40 asks. -/
def Dev.powerQuads (d : Dev) : Dev := d.each (List.range 16) fun q e => e.powerQuad q

/-- Whether an enabled node has an input on unit k (R154, R155); a used AUX sense entry counts (DEDUCED, log 26). -/
def Dev.nodeOnUnit (d : Dev) (k : Nat) : Bool :=
  (d.strE k).type != 0 || (if k < 12 then (d.srcE k).type != 0 else (d.pw.map.busE (k - 12)).enable) ||
  (d.pw.map.senseE (auxIx (2 * k))).mode != 0 || (d.pw.map.senseE (auxIx (2 * k + 1))).mode != 0

/-- Whether the MEAS domain of units 8g to 8g + 7 is powered (R154). -/
def Dev.measWanted (d : Dev) (g : Nat) : Bool :=
  let us := List.range' (8 * g) 8
  d.sy.power != .off && d.sy.power != .ship && d.sy.power != .deep &&
  (us.any (fun k => d.pw.quadOn.getD k false || d.nodeOnUnit k) ||
    (List.range' (4 * g) 4).any fun j => (d.ms.cap.getD j .none).isSome)

/-- A unit with free slices and its sequence before entry 0, its filters empty (R182, R188). -/
def MUnit.reset (u : MUnit) : MUnit :=
  { u with slices := [{}, {}, {}, {}], queue := [], urg := [], plan := [], due := 0, bgCount := 0, corrNext := 0, corrDue := .none,
           corrRun := [], entry := 0, inPass := false, active := false, filters := [] }

/-- A unit at power-up: its correction state entered now, its sequence from the start (R164, R173). -/
def MUnit.start (u : MUnit) (c : CorrSt) (now : Nat) : MUnit := { u.reset with corr := c, corrAt := now, pass := 0, active := true }

/-- Power the two MEAS domains as R154 asks; a unit without power is OFF (R173). -/
def Dev.powerUnits (d : Dev) : Dev :=
  d.each [0, 1] fun g e =>
    let on := e.measWanted g
    let e := e.onSy fun s => { s with domains := if on then s.domains ||| (1#24 <<< (17 + g)) else s.domains &&& ~~~(1#24 <<< (17 + g)) }
    e.each (List.range' (8 * g) 8) fun k c =>
      if on && (c.unit k).corr == .off then c.modMu k (·.start .acquiring c.now)
      else if !on then c.modMu k fun u => { u.start .off c.now with active := false }
      else c

/-- Power every quad and MEAS domain as R40 and R154 ask. -/
def Dev.powerDomains (d : Dev) : Dev := d.powerQuads.powerUnits

/-- The liner gives PH0-PH3 back: the set-up writes that were stored take effect (R48), and quad 0 stays powered only where the
map asks for it (R40). -/
def Dev.linerFree (d : Dev) : Dev :=
  ((d.onSy fun s => { s with liner := { s.liner with st := .off } }).linerLow.each (List.range 4) fun p e => e.applySetup p false).powerDomains

/-- Stop the liner, or its source test (R395): PH0-PH3 low and LINER_STOPPED. -/
def Dev.linerStop (d : Dev) : Dev :=
  if d.sy.liner.runs || d.sy.liner.st == .test then d.linerFree.raise evLinerStopped none [] else d

/-- Begin a gauntlet over a list of members (R69, R82): a start of a mitten with one of PH0-PH3 stops the liner (R395). A member
whose delay line is not yet calibrated leaves IDLE when it is (R46). -/
def Dev.gauntletOf (d : Dev) (m : Nat) (rev retry : Bool) (l : List Nat) : Dev :=
  let d := if (d.mitE m).phases &&& 15#64 != 0 then d.linerStop else d
  (d.each (l.filter fun p => (d.phase p).calOk) fun p e => e.modPh p Phase.beginTest).modMit m fun x =>
    { x with st := .gauntlet, rev := rev, dir := .none, gnt := some { step := 0, retry := retry, members := l },
             lim := 0, iCmd := 0, pub := 0, integ := 0, zeroFrames := 0 }

/-- The gauntlet of a start or a retry: over every member that may be tested. -/
def Dev.beginGauntlet (d : Dev) (m : Nat) (rev retry : Bool) : Dev := d.gauntletOf m rev retry (d.testees m retry)

/-- The direction a starting mitten takes from its demands (R77: a start with a reverse demand starts in reverse;
DEDUCED, log 16). -/
def Dev.startRev (d : Dev) (m : Nat) : Bool :=
  let e := d.mitE m
  let x := d.mitten m
  if x.dLend then (match d.pw.map.lendSrc e with | some k => e.revInto (.src k) | none => false)
  else if x.dSupp then (match e.toNode with | .bus _ => false | _ => true)
  else if x.dProg then (match e.toNode with | .str _ => false | _ => true)
  else false

/-- A start request for a mitten that may start; nothing otherwise (R69). In SLEEP it wakes the device first (R386). -/
def Dev.startMit (d : Dev) (m : Nat) : Dev :=
  let w := d.wakeSleep 6
  let d := if w.startable m then w else d
  if d.startable m then (d.modMit m fun x => { x with hostStop := false }).beginGauntlet m (d.startRev m) false else d

/-! ### Switches (R13-R16, R32) -/

/-- Whether a port's entry allows a mode (R23). -/
def PortEntry.allows (e : PortEntry) : SwMode → Bool
  | .off => true
  | .on => e.allowed.getLsbD 1
  | .idealDiode => e.allowed.getLsbD 2

/-- The mode taken for a demanded one: the next more conservative mode that ALLOWED holds (R32). -/
def PortEntry.conservative (e : PortEntry) : SwMode → SwMode
  | .on => if e.allows .on then .on else if e.allows .idealDiode then .idealDiode else .off
  | .idealDiode => if e.allows .idealDiode then .idealDiode else .off
  | .off => .off

/-- DEFAULT_MODE of an entry. -/
def PortEntry.default (e : PortEntry) : SwMode := if e.defMode = 1 then .on else if e.defMode = 2 then .idealDiode else .off

/-- IDEAL_DIODE if allowed, else OFF; a disabled port's switch is held off (R12). -/
def PortEntry.diodeOrOff (e : PortEntry) : SwMode := if e.type != 0 && e.allows .idealDiode then .idealDiode else .off

/-- Whether a string is charged bus-tied now (R140). -/
def Dev.tied (d : Dev) (k : Nat) (s : Step) : Bool :=
  (d.strE k).place == 1 && s.charging && s.type != 1 && d.stp k 10 == 1 && s.tieOk && (d.string k).chgMit.isNone

/-- The tie demand of a RUNNING string (R138-R140). A SERIES string's path switch is demanded ON while its mitten charges: R138
speaks of a tie, which a SERIES string does not have (DESIGN CHOICE, log 151). -/
def Dev.tieDemand (d : Dev) (k : Nat) : SwMode :=
  let x := d.string k
  let e := d.strE k
  match d.stepNow k with
  | none => e.default
  | some (_, s) =>
    if x.chgMit.isSome && s.charging then (if e.place = 0 then .on else .off)
    else if d.tied k s then
      (if !x.tieRearm && decide ((d.pw.map.busE e.tieBus).vTarget ≤ x.vTgt) then .on else e.diodeOrOff)
    else if s.charging then e.diodeOrOff else e.default

/-- Whether the record of a string forbids discharge (R147). -/
def Str.dsgInh (x : Str) : Bool := match x.pm with | some r => r.dsgInh | none => false

/-- Whether the switch of a port is that of a liner which runs on: ranks 4-7 do not act on it (R395). -/
def Dev.linerPort (d : Dev) (p : Nat) : Bool := d.sy.liner.runs && d.sy.linerSrc == p

/-- Whether a demand of rank 1, 2 or 3 stands on a source's switch (R32). -/
def Dev.topDemand (d : Dev) (p : Nat) : Bool :=
  let s := d.switch p
  let x := (d.source p).st
  x == .faulted || x == .retired || s.openFlt || s.disc || s.hold

/-- The mode demanded of a port's switch by rank (R32); none keeps the present mode. -/
def Dev.demand (d : Dev) (p : Nat) : Option SwMode :=
  let s := d.switch p
  let e := d.pw.map.portE p
  if d.linerPort p && !d.topDemand p then none
  else if e.type = 0 then some .off
  else if p < 12 then
    let x := d.source p
    if x.st = .faulted || x.st = .retired || s.openFlt then some .off
    else if s.disc then some .off
    else if s.hold then none
    else if x.st = .lending then some .off
    else if (d.pw.map.group p).any (fun i => i != p && ((d.switch i).mode != .off ||
        ((d.source i).st = .selected && x.st != .selected && x.st != .rideThrough))) then some .off
    else if x.st = .selected || x.st = .rideThrough then
      (if e.place = 0 then some (e.conservative .on)
       else if e.allows .idealDiode then some .idealDiode else some (e.conservative .on))
    else if x.st = .disabled then some (e.conservative e.default) else some .off
  else
    let x := d.string (p - 12)
    let cut := x.st = .faulted && (x.lad.cause = evStringOvercurrent || x.lad.cause = causeSenseI)
    if s.openFlt || cut || x.st = .retired then some .off
    else if s.disc then some .off
    else if s.hold then none
    else if x.st = .absent || x.st = .precharge then some .off
    else if x.floored || x.dsgInh then some .off
    else if x.st = .lent then none
    else if x.st = .paused || x.st = .faulted then some e.diodeOrOff
    else if x.st = .running then some (e.conservative (d.tieDemand (p - 12)))
    else some (e.conservative e.default)

/-- The closing condition of R15 (and R16: no other switch of the group is on). -/
def Dev.mayClose (d : Dev) (p : Nat) : Bool :=
  let e := d.pw.map.portE p
  if e.place = 1 then
    let t := if p < 12 then d.nodeV (.src p) else d.nodeV (.str (p - 12))
    decide ((t - d.nodeV (.bus e.tieBus)).natAbs ≤ e.vClose)
  else ((d.pw.map.mitsAt p).all fun m => (d.mitten m).quiet) &&
    (12 ≤ p || (d.pw.map.group p).all fun i => i == p || ((d.switch i).mode = .off &&
      (d.switch i).offTick < d.sy.tick.count))

/-- Node code of a port. -/
def portNode (p : Nat) : Nat := if p < 12 then srcNode p else strNode (p - 12)

/-- Try to close a switch into ON: the closing, or SWITCH_BLOCKED with the mode kept (R15). -/
def Dev.tryClose (d : Dev) (p : Nat) : Dev :=
  if d.mayClose p then (d.setSwitch p .on).unblock p
  else (d.modSw p fun x => { x with blocked := true }).onset evSwitchBlocked p (some (portNode p)) []

/-- Apply the demand of one switch at a tick or charge-frame boundary; a blocked closing is re-tested at charge frames
only (`retest`), and a changeover's closing waits for its own step (R15, R32, R113). A demand of rank 1-3 on its switch stops
a liner that runs on or tests its source (R395). -/
def Dev.applySwitch (d : Dev) (p : Nat) (retest : Bool) : Dev :=
  let d := if (d.linerPort p || (d.sy.liner.st == .test && d.sy.linerSrc == p)) && d.topDemand p then d.linerStop else d
  match d.demand p with
  | none => d
  | some m =>
    let d := d.modSw p fun x => { x with want := some m }
    if (d.switch p).mode = m then d.unblock p
    else match m with
      | .on =>
        if p < 12 && (d.source p).pendClose then d
        else if (d.switch p).blocked && !retest then d else d.tryClose p
      | _ => (d.setSwitch p m).unblock p

/-- Resolve every switch. -/
def Dev.applySwitches (d : Dev) (retest : Bool) : Dev := d.each (List.range 28) fun p e => e.applySwitch p retest

end Sys2Proof.Machine
end

