-- ==== Sys2Proof/Machine/Loop.lean ====
section
/-! DEFINITION. The outer loop of a mitten (R71-R78, R84, R85), the rations of a source (R101-R104) and their phases of
a control tick. -/

namespace Sys2Proof.Machine

/-- What a mitten is asked to do: direction, voltage target, current ceiling, and whether the string engine sets the
targets (R68). -/
structure Goal where
  rev    : Bool
  vSet   : Int
  ceil   : Int
  engine : Bool

/-- A published value: the tap's value of the tick before (R73, R171, R213). -/
def Dev.tapP (d : Dev) (i : Nat) : Int := (d.ms.tap.getD i {}).pubVal
/-- Published voltage at a mitten's end. -/
def Dev.endVp (d : Dev) : Node → Int
  | .src k => d.tapP (Node.vIx (.src (d.liveMember k)))
  | n => d.tapP n.vIx

/-- The string a mitten serves as charging or precharge mitten. -/
def Dev.serves (d : Dev) (m : Nat) : Option Nat :=
  (List.range 16).find? fun k => (d.string k).chgMit == some m || (d.string k).preMit == some m

/-- The string and the bus a mitten can supplement between (R36). -/
def MitEntry.suppEnds (e : MitEntry) : Option (Nat × Nat) :=
  if !e.bidir then none
  else match e.fromNode, e.toNode with
    | .str k, .bus j => some (k, j)
    | .bus j, .str k => some (k, j)
    | _, _ => none

/-- The ceiling of a direction by MITTEN_CONFIG: I_SET or REV_I_SET (R67, R74). -/
def Dev.dirCeil (d : Dev) (m : Nat) (rev : Bool) : Int := if rev then d.mp m 5 else d.mp m 3

/-- The discharge limit of a string's record (R147). -/
def Str.dsgCeil (x : Str) (c : Int) : Int :=
  match x.pm with
  | some r => if r.dsgLim = 0xFFFF then c else min c (100 * r.dsgLim)
  | none => c

/-- The mittens that supplement a bus. -/
def Dev.suppliers (d : Dev) (j : Nat) : List (Nat × Nat) :=
  (List.range 16).filterMap fun i => match (d.mitE i).suppEnds with
    | some (k, b) => if b = j && (d.mitten i).dSupp then some (i, k) else none
    | none => none

/-- The supplement ceiling of a mitten: its share in proportion to CAPACITY, the largest total that fits every ceiling
(R36; DEDUCED, log 17). -/
def Dev.suppCeil (d : Dev) (m k j : Nat) : Int :=
  let own (i s : Nat) : Int :=
    (d.string s).dsgCeil (min (d.iLimit i) (d.dirCeil i ((d.mitE i).revInto (.bus j))))
  let cap (s : Nat) : Int := (d.strE s).capacity
  (d.suppliers j).foldl (fun a p => min a (floorDiv (cap k * own p.1 p.2) (max 1 (cap p.2)))) (own m k)

/-- The demand a mitten follows, highest first: lend, supplement, string engine, bus (R68, R236). -/
def Dev.goal (d : Dev) (m : Nat) : Option Goal :=
  let e := d.mitE m
  let x := d.mitten m
  match (if x.dLend then d.pw.map.lendSrc e else none) with
  | some k => match (d.source k).lend with
    | some l =>
      let rev := e.revInto (.src k)
      some { rev := rev, vSet := l.vLend, ceil := min l.iLend (min (d.dirCeil m rev) (d.srcE k).iRated), engine := false }
    | none => none
  | none =>
    match (if x.dSupp then e.suppEnds else none) with
    | some (k, j) => some { rev := e.revInto (.bus j), vSet := d.vSupp j, ceil := d.suppCeil m k j, engine := false }
    | none =>
      match (if x.dProg then d.serves m else none) with
      | some k => some { rev := e.revInto (.str k), vSet := (d.string k).vTgt, ceil := (d.string k).iCeil, engine := true }
      | none => match e.toNode with
        | .bus j => if x.dHost then
            some { rev := false, vSet := d.busTarget m j, ceil := d.dirCeil m false, engine := false } else none
        | _ => none

/-- The brim percentage a mitten works with (R253). -/
def Dev.brimPct (d : Dev) (m : Nat) : Nat :=
  let p := (d.pw.brim.getD m {}).pct
  match (if (d.mitten m).dProg then d.serves m else none) with
  | some k => min p (d.pw.brim.getD (16 + k) {}).pct
  | none => p

/-- The cuff ceiling (R78): I_FLOOR + (I_LIMIT - I_FLOOR) x V / V_KNEE, rounded down. -/
def cuffCeil (iLim floorPct knee vSet v : Int) : Int :=
  let k := knee * vSet
  floorDiv (floorPct * iLim * k + (100 - floorPct) * iLim * v * 100) (max 1 (100 * k))

/-- What the sources of other devices ration to a shared mitten that the crown runs (R91, R105; log 14). -/
def Dev.sideRation (d : Dev) (m : Nat) : Int := if d.crowned m then (look m d.ln.chn.side.rations).getD 0 else 0

/-- The limiter candidates of R74 but VOLTAGE: (code, ceiling). -/
def Dev.ceilings (d : Dev) (m : Nat) (g : Goal) (vOut vIn vSet : Int) : List (Nat × Int) :=
  let e := d.mitE m
  let x := d.mitten m
  let iLim := d.iLimit m
  let vDiv := max 1000 vOut
  let tIn := (d.mp m 13).toNat
  let t := d.tapP (auxIx tIn)
  let inNode := if g.rev then e.toNode else e.fromNode
  let pSet := if g.rev then d.mp m 6 else d.mp m 4
  let ceil := if x.st = .softstart && g.engine then min g.ceil (floorDiv x.iRamp 1000000) else g.ceil
  let pct := d.brimPct m
  (if vOut * 100 < d.mp m 10 * vSet then [(1, cuffCeil iLim (d.mp m 11) (d.mp m 10) vSet vOut)] else []) ++
  (if tIn < 32 ∧ d.mp m 14 < t then
    [(2, clampI 0 iLim (floorDiv (iLim * (d.mp m 15 - t)) (max 1 (d.mp m 15 - d.mp m 14))))] else []) ++
  (if pct < 100 then [(3, floorDiv (iLim * pct) 100)] else []) ++
  (match inNode with
   | .src k =>
     let r := (d.pw.map.group k).foldl (fun a i => a + (d.source i).rations.getD m 0) (d.sideRation m)
     [(4, floorDiv (r * vIn * x.eta) (100 * vDiv))]
   | _ => []) ++
  [(5, iLim)] ++ (if pSet = 0 then [] else [(6, floorDiv (pSet * 1000) vDiv)]) ++ [(7, ceil)]

/-- Least value of a list of candidates. -/
def leastOf (l : List (Nat × Int)) : Int :=
  match l with
  | [] => 0
  | (_, v) :: t => t.foldl (fun a p => min a p.2) v

/-- The lowest code whose candidate, clamped at 0, equals the command (R75). -/
def codeOf (l : List (Nat × Int)) (iCmd : Int) : Nat :=
  match l.find? fun p => max 0 p.2 == iCmd with
  | some p => p.1
  | none => 8

/-- FSBB mode with hysteresis (R71): 0 BUCK_MODE, 1 BUCK_BOOST_MODE, 2 BOOST_MODE. -/
def fsbbMode (mode : Nat) (vOut vIn : Int) : Nat :=
  let r := vOut * 100
  if mode = 0 then (if r > 86 * vIn then (if r > 116 * vIn then 2 else 1) else 0)
  else if mode = 1 then (if r > 116 * vIn then 2 else if r < 84 * vIn then 0 else 1)
  else (if r < 114 * vIn then (if r < 84 * vIn then 0 else 1) else 2)

/-- FSBB mode at a start (R71). -/
def fsbbStart (vOut vIn : Int) : Nat := if vOut * 100 < 85 * vIn then 0 else if vOut * 100 > 115 * vIn then 2 else 1

/-- Advance the soft-start ramps by dt (R84), and the move from the liner's voltage to the target at V_SET / SS_TIME (R394). -/
def Dev.ramp (d : Dev) (m : Nat) (g : Goal) (x : Mitten) : Mitten :=
  let dt : Int := d.sy.tick.dt
  let ss := max 1 (d.mp m 9)
  if x.st = .softstart then
    { x with vRamp := min (g.vSet * 1000000) (x.vRamp + floorDiv (g.vSet * dt) ss),
             iRamp := min (g.ceil * 1000000) (x.iRamp + floorDiv (g.ceil * dt) ss), glide := false }
  else if x.glide then
    let goal := g.vSet * 1000000
    let step := floorDiv (g.vSet * dt) ss
    let v := if x.vRamp ≤ goal then min goal (x.vRamp + step) else max goal (x.vRamp - step)
    { x with vRamp := v, glide := v != goal && !g.engine }
  else x

/-- Q8.8 gains in 10^-6: the scale of the integral term. -/
def loopScale : Int := 256000000

/-- Begin or end a standby, or keep the state (R17, R69, R85). R17 also holds a mitten whose soft start is under way. -/
def Dev.standbyRule (d : Dev) (m : Nat) (g : Option Goal) (x : Mitten) : Mitten :=
  let hold := d.bothJoined m || g.isNone
  if hold then (if x.st = .run ∨ (x.st = .softstart ∧ d.bothJoined m) then { x with st := .standby, integ := 0, vSet := 0 } else x)
  else if x.st = .standby then
    match g with
    | some q =>
      let e := d.mitE m
      let v := d.endVp (if q.rev then e.fromNode else e.toNode)
      if (v - q.vSet).natAbs * 10 ≤ q.vSet.natAbs then { x with st := .run }
      else { x with st := .softstart, vRamp := v * 1000000, iRamp := 0 }
    | none => x
  else x

/-- Begin or abandon a direction change (R77): a demand withdrawn before the swap abandons it. A mitten that no demand drives
returns to its forward direction once its supplement has ended (R36). -/
def dirRule (bidir : Bool) (g : Option Goal) (x : Mitten) : Mitten :=
  match (match g with | some q => some q.rev | none => if x.back && x.rev then some false else none) with
  | none => if x.dir = .none then x else { x with dir := .none, integ := 0 }
  | some rev =>
    if !bidir || x.held then x
    else if x.dir ≠ .none then
      (if rev = x.rev then { x with dir := .none, integ := 0 } else { x with dir := .swapping })
    else if rev ≠ x.rev then { x with dir := .zeroing } else x

/-- The current an I_CMD asks of one phase, or of one pair of an FSBB mitten (R74). -/
def perPhase (fsbb : Bool) (iCmd : Int) (n : Nat) : Int :=
  let k := if fsbb then n / 2 else n
  if k = 0 then 0 else floorDiv iCmd k

/-- The phase index (0-4,095) of a generator at a time: a 48-bit phase stepped by each timer-clock cycle (R194). -/
def Gen.index (g : Gen) (t : Nat) : Nat :=
  ((t - g.at0) / 10 * (g.freq * 281474976710656 / 100000000000)) % 281474976710656 / 68719476736
/-- The phase-0 crossings of a generator up to a time (R194). -/
def Gen.turns (g : Gen) (t : Nat) : Nat :=
  (t - g.at0) / 10 * (g.freq * 281474976710656 / 100000000000) / 281474976710656

/-- The perturbation p = A x sin of the impedance run on a string at this tick (R205 step 3). -/
def Dev.impP (d : Dev) (k : Nat) (r : ImpRun) : Int := roundDiv (r.amp * sinAt ((d.ms.gen.getD k {}).index d.now)) 32767

/-- The final command with the perturbation of an impedance run superimposed (R205 step 3). -/
def Dev.perturbed (d : Dev) (m : Nat) (iCmd iLim : Int) : Int :=
  match d.serves m with
  | none => iCmd
  | some k => match (d.ms.imp.getD k {}).run with
    | none => iCmd
    | some r => if r.running && r.mitten == m then clampI 0 (max 0 iLim) (iCmd + d.impP k r) else iCmd

/-- Phases, or pairs of an FSBB mitten, that share a command (R74). -/
def Dev.shares (d : Dev) (m : Nat) : Nat := max 1 (if (d.mitE m).fsbb then d.nActive m / 2 else d.nActive m)

/-- The candidates TEMPERATURE, BRIM and I_LIMIT of a shared mitten on its crown: the smallest per-phase value of all devices,
times the count (R91); the others are the crown's own. -/
def Dev.withPeers (d : Dev) (m : Nat) (l : List (Nat × Int)) : List (Nat × Int) :=
  if !d.crowned m then l
  else
    let x := d.mitten m
    let n : Int := d.shares m
    let one (c : Nat) (peer : Option Nat) : List (Nat × Int) :=
      match look c l, peer with
      | some v, some p => [(c, n * min (floorDiv v n) (10 * p))]
      | some v, none => [(c, n * floorDiv v n)]
      | none, some p => [(c, n * (10 * p))]
      | none, none => []
    l.filter (·.1 == 1) ++ one 2 x.peerT ++ one 3 x.peerB ++ l.filter (·.1 == 4) ++ one 5 x.peerL ++ l.filter (fun p => 5 < p.1)

/-- The integral term while VOLTAGE is not in charge (R76): I_V equals I_CMD plus 2 % of I_LIMIT; once the output is past
V_SET it is I_CMD itself, so that I_V falls below the ceiling in charge at the next run (DEDUCED, log 37). -/
def trackInteg (cmd iLim err pTerm : Int) : Int :=
  if err < 0 then cmd * loopScale else (cmd + pctOf 2 iLim) * loopScale - pTerm

/-- What a mitten that nothing asks for current regulates towards (R68): a string's targets, a bus's V_TARGET, and otherwise a
current ceiling of 0. The candidates of STANDBY are computed from it (R85; DEDUCED, log 149). -/
def Dev.idleGoal (d : Dev) (m : Nat) : Goal :=
  let e := d.mitE m
  let rev := (d.mitten m).rev
  match d.serves m, (if rev then e.fromNode else e.toNode) with
  | some k, _ => { rev := rev, vSet := (d.string k).vTgt, ceil := (d.string k).iCeil, engine := true }
  | none, .bus j => { rev := rev, vSet := d.busTarget m j, ceil := d.dirCeil m rev, engine := false }
  | none, _ => { rev := rev, vSet := 0, ceil := 0, engine := false }

/-- Whether one limiter has been in charge in the whole policy frame so far (R75): its code, or 9 for none. -/
def limWhole (was now : Nat) : Nat := if now = 0 then 9 else if was = 0 ∨ was = now then now else 9

/-- The regulated node of a mitten (R68). -/
def Dev.outNode (d : Dev) (m : Nat) : Node := if (d.mitten m).rev then (d.mitE m).fromNode else (d.mitE m).toNode
/-- The input node of a mitten in the direction in force. -/
def Dev.inNode (d : Dev) (m : Nat) : Node := if (d.mitten m).rev then (d.mitE m).toNode else (d.mitE m).fromNode

/-- The stage temperature of a mitten with a T_INPUT (R67). -/
def Dev.stageT (d : Dev) (m : Nat) : Option Int :=
  let t := (d.mp m 13).toNat
  if t < 32 then some (d.tapV (auxIx t)) else none

/-- Whether an impedance run holds a mitten's levers (R235). -/
def Dev.impHolds (d : Dev) (m : Nat) : Bool :=
  (List.range 16).any fun k => match (d.ms.imp.getD k {}).run with
    | some r => r.running && r.mitten == m
    | none => false

/-- Whether a capacitance measurement of a bus may run on a mitten (R251): it regulates the bus with VOLTAGE in charge, without
supplement, lend or impedance run. -/
def Dev.capFits (d : Dev) (j m : Nat) : Bool :=
  let x := d.mitten m
  (d.mitE m).used && x.st == .run && x.lim == 8 && d.outNode m == .bus j && !x.dSupp && !x.lending && !d.impHolds m

/-- The current step of a capacitance measurement on a mitten in a tick (R251): ±2 % of I_LIMIT, of alternating sign. -/
def Dev.capStep (d : Dev) (m : Nat) (iLim : Int) : Int :=
  match (if (d.mitten m).rev then (d.mitE m).fromNode else (d.mitE m).toNode) with
  | .bus j => match (d.busOf j).capRun with
    | some r => if r.mit ≠ m ∨ 100 ≤ r.n then 0 else if r.n % 2 = 0 then pctOf 2 iLim else - pctOf 2 iLim
    | none => 0
  | _ => 0

/-- The outer loop of one mitten in one tick (R73-R77): it reads the published values and answers the mitten. In STANDBY, and while
nothing asks for current, the limiters are computed and zero is commanded (R85). -/
def Dev.loopRun (d : Dev) (m : Nat) : Mitten :=
  let e := d.mitE m
  let g := d.goal m
  let x := dirRule e.bidir g (d.standbyRule m g (d.mitten m))
  let x := { x with lead := d.leadOf m, back := x.back && x.rev && g.isNone }
  let dt : Int := d.sy.tick.dt
  if x.dir ≠ .none then
    { x with lim := 0, iCmd := 0, pub := 0, integ := 0, demandIn := 0, perturb := 0, limFrame := limWhole x.limFrame 0,
             rationWhole := false, iN := x.iN + 1 }
  else
    let q := { g.getD (d.idleGoal m) with rev := x.rev }
    let vOut := d.endVp (if x.rev then e.fromNode else e.toNode)
    let vIn := d.endVp (if x.rev then e.toNode else e.fromNode)
    let x := d.ramp m q x
    let vSet := if (x.st = .softstart || x.glide) && !q.engine then floorDiv x.vRamp 1000000 else q.vSet
    let err := vSet - vOut
    let pTerm := d.mp m 7 * err * 1000000
    let integ := x.integ + d.mp m 8 * err * dt
    let iV := floorDiv (pTerm + integ) loopScale
    let l := d.withPeers m (d.ceilings m q vOut vIn vSet) ++ [(8, iV)]
    let cmd := max 0 (leastOf l)
    let lim := codeOf l cmd
    let iLim := d.iLimit m
    let demand := max 0 (leastOf (l.filter fun p => p.1 ≠ 4))
    let stand := x.st == .standby || g.isNone
    let fin := if stand then 0 else clampI 0 (max 0 iLim) (d.perturbed m cmd iLim + d.capStep m iLim)
    { x with
      vSet := q.vSet, iSet := q.ceil, engineSet := q.engine, lim := lim, iCmd := fin,
      perturb := fin - (if stand then 0 else cmd),
      pub := perPhase e.fsbb fin (d.nActive m),
      integ := if stand then 0 else if lim = 8 then integ else trackInteg cmd iLim err pTerm,
      fsbb := if e.fsbb then fsbbMode x.fsbb vOut vIn else 0,
      demandIn := if stand then 0 else floorDiv (demand * vOut * 100) (max 1 (vIn * x.eta)),
      limFrame := limWhole x.limFrame lim,
      rationWhole := x.rationWhole && lim == 4,
      iSum := x.iSum + fin, iN := x.iN + 1, zeroFrames := if fin = 0 then x.zeroFrames else 0 }

/-- MITTEN_LIMITED when a different one of CUFF, TEMPERATURE and BRIM takes charge (R75). -/
def Dev.limitedRule (d : Dev) (m : Nat) : Dev :=
  let x := d.mitten m
  if x.lim = 0 ∨ 3 < x.lim then d.modMit m fun y => { y with limLast := 0 }
  else if x.limLast ≠ 0 ∧ x.limLast ≠ x.lim then
    (d.modMit m fun y => { y with limLast := x.lim }).raise evMittenLimited (some m) []
  else d

/-- How many phases the crown leaves active of its shared mitten, or none where it sheds none (R92, R229). Until what it says has
come back in the reports, two ticks out and two back and a cycle between, it counts what it asked for (DESIGN CHOICE, log 85). -/
def Dev.shedChain (d : Dev) (m : Nat) (n : Option Nat) : Dev :=
  if (d.mitE m).shared && d.ln.chn.role == 1 && d.ln.chn.shedTo != n then
    d.modChn fun c => { c with shedTo := n, servTill := d.sy.tick.count + 10 }
  else d

/-- Recall every SHED phase of a mitten, on every device of a shared one; an FSBB phase only with its mate (R65, R72, R229). -/
def Dev.recall (d : Dev) (m : Nat) : Dev :=
  let d := d.shedChain m none
  let l := (d.phasesIn m .shed).filter fun p =>
    !(d.mitE m).fsbb || (d.phase (mateOf p)).st = .shed || (d.phase (mateOf p)).st = .active
  if l.isEmpty then d
  else (d.each l fun p e => e.modPh p fun x => { x with st := .active }).respread m

/-- Set the number of active phases of a mitten on this device: the lowest in service stay, or are recalled (R229). -/
def Dev.setActive (d : Dev) (m n : Nat) : Dev :=
  let fs := (d.mitE m).fsbb
  let serve (p : Nat) : Bool := (d.phase p).st = .active || (d.phase p).st = .shed
  let l := (d.mitE m).members.filter fun p => serve p && (!fs || serve (if p % 2 = 0 then p + 1 else p - 1))
  let keep := l.take n
  let more := keep.filter fun p => (d.phase p).st = .shed
  let less := (l.drop n).filter fun p => (d.phase p).st = .active
  let d := d.each more fun p e => e.modPh p fun x => { x with st := .active }
  let d := d.each less fun p e => e.modPh p (·.park .shed)
  if more.isEmpty && less.isEmpty then d else d.respread m

/-- R229 recall: I_CMD at or above 90 % of I_LIMIT; not for a held mitten nor during an impedance run (R235, R307). No phase is
SHED in SOFTSTART or STANDBY (R69). -/
def Dev.recallRule (d : Dev) (m : Nat) : Dev :=
  let x := d.mitten m
  let imp := match d.serves m with
    | some k => (d.ms.imp.getD k {}).run.isSome
    | none => false
  let full := decide (90 * d.iLimit m ≤ 100 * x.iCmd) && decide (0 < x.iCmd)
  if x.looping && !d.remote m && !x.held && !imp && (full || x.st != .run) then d.recall m else d

/-- Members receive the targets published in the tick before; those of a shared mitten one tick later (R73, R91). -/
def Dev.deliverTargets (d : Dev) (m : Nat) : Dev :=
  let x := d.mitten m
  let t := if d.crowned m then x.pubOld else x.pub
  let d := d.modMit m fun y => { y with pubOld := x.pub }
  if x.looping && !d.remote m then d.each (d.active m) fun p e => e.modPh p fun y => { y with targetNext := t } else d

/-! ### Rations (R101-R104) -/

/-- The mittens that draw from a source's terminal or group (R103): every one that the map connects so in its direction, whatever
its state; one that asks for nothing takes its share of what is left over (DESIGN CHOICE, log 172). -/
def Dev.drawers (d : Dev) (k : Nat) : List Nat :=
  (d.pw.map.mitsAt k).filter fun m =>
    let e := d.mitE m
    let h := d.pw.map.groupHead k
    0 < d.sp k (15 + m) && (if (d.mitten m).rev then e.toN == h else e.fromN == h)

/-- The sharing loop of R103: what is left and the mittens still unserved, after every mitten whose demand fits its fair
share has been served. -/
def shareLoop (demand weight : Nat → Int) : Nat → Int → List Nat → List (Nat × Int) → Int × List Nat × List (Nat × Int)
  | 0, left, set, acc => (left, set, acc)
  | n + 1, left, set, acc =>
    let wsum := set.foldl (fun a m => a + weight m) 0
    let full := set.filter fun m => decide (demand m * wsum ≤ left * weight m)
    if full.isEmpty then (left, set, acc)
    else
      let rest := set.filter fun m => !full.contains m
      let left' := full.foldl (fun a m => a - demand m) left
      let acc' := acc ++ full.map fun m => (m, demand m)
      if rest.isEmpty then (left', rest, acc') else shareLoop demand weight n left' rest acc'

/-- The rations of R103 over a base: served demands, then the rest by weight, the remainder to the lowest-numbered
drawing mitten. -/
def splitBase (base : Int) (draw : List Nat) (demand weight : Nat → Int) : List (Nat × Int) :=
  match draw with
  | [] => []
  | first :: _ =>
    let (left, _, acc) := shareLoop demand weight 17 base draw []
    let wsum := draw.foldl (fun a m => a + weight m) 0
    let part (m : Nat) : Int := if wsum = 0 then 0 else floorDiv (left * weight m) wsum
    let used := draw.foldl (fun a m => a + part m) 0
    draw.map fun m => (m, (look m acc).getD 0 + part m + (if m = first then left - used else 0))

/-- I_TYPE of a source (R106-R108). -/
def Dev.iType (d : Dev) (k : Nat) : Int :=
  let x := d.source k
  let top := d.sp k 7
  if (d.srcE k).type = 4 then x.iMpp.getD top
  else if (d.srcE k).type = 5 && x.warming then floorDiv (d.sp k 35 * top) 100 else top

/-- The estimated input current of a mitten (R104), from what the crossbar carries of its ends (R213). -/
def Dev.inputCurrent (d : Dev) (m : Nat) : Int :=
  let e := d.mitE m
  let x := d.mitten m
  let vOut := d.endVp (if x.rev then e.fromNode else e.toNode)
  let vIn := d.endVp (if x.rev then e.toNode else e.fromNode)
  if x.looping then floorDiv (x.iCmd * vOut * 100) (max 1 (vIn * x.eta)) else 0

/-- The droop integrator after one tick (R102), in 10^-6 mA. -/
def droopStep (i v vDroop hyst iMax ramp dt : Int) : Int :=
  let top := iMax * 1000000
  let n := if v < vDroop then i - floorDiv (top * 2) 100
    else if vDroop + hyst < v then (if ramp = 0 then top else i + ramp * dt) else i
  clampI 0 top n

/-- The current a source or a string gives its bus through its tie: the port current less what the mittens at the terminal draw or
put in (R111, R147); `n` is the port's node and `out` the port current that leaves the port. -/
def Dev.tieOut (d : Dev) (n : Node) (out : Int) : Int :=
  (d.pw.map.mitsOn n).foldl (fun a m =>
    let e := d.mitE m
    let x := d.mitten m
    if !x.looping then a
    else if (if x.rev then e.toNode else e.fromNode) = n then a - d.inputCurrent m else a + x.iCmd) out

/-- Whether a lend runs at the terminal of a source: every ration from it is then 0 (R118). -/
def Dev.lendsAt (d : Dev) (k : Nat) : Bool := (d.pw.map.group k).any fun i => (d.source i).lend.isSome

/-- The source engine's tick (R101-R104): only a SELECTED source gives rations, and none while it is disconnected (R115) or while
its terminal lends (R118). -/
def Dev.sourceRun (d : Dev) (k : Nat) : Source :=
  let x := d.source k
  if x.st ≠ .selected ∨ (d.switch k).disc ∨ d.lendsAt k then x.noRations
  else
    let v := d.nodeV (.src k)
    let i := d.nodeI (.src k)
    let top := d.sp k 7
    let dt : Int := d.sy.tick.dt
    let droop := droopStep x.iDroop v (d.sp k 9) (d.sp k 3) top (d.sp k 10) dt
    let p := d.sp k 8
    let avail := min top (min (floorDiv droop 1000000) (d.iType k))
    let avail := if p = 0 then avail else min avail (floorDiv (p * 1000) (max 1 v))
    let trim := if i * 100 > avail * 102 then x.iTrim + (i - avail) else max 0 (x.iTrim - pctOf 1 top)
    let draw := d.drawers k
    let un := i - draw.foldl (fun a m => a + d.inputCurrent m) 0
    let base := max 0 (avail - x.iUnctrl - trim)
    let rs := splitBase base draw (fun m => (d.mitten m).demandIn) (fun m => d.sp k (15 + m))
    { x with iDroop := droop, iAvail := avail, iTrim := trim, base := base,
             rations := (List.range 16).map fun m => (look m rs).getD 0,
             unSum := x.unSum + un, unN := x.unN + 1, pAcc := x.pAcc + floorDiv (v * i) 1000, pN := x.pN + 1 }

end Sys2Proof.Machine
end

