-- ==== Sys2Proof/Machine/Tick.lean ====
section
/-! DEFINITION. CONTROL_TICK: the tick grid (R210-R214), tap latch (R171), string engines (R143), supplement (R36),
sources (R96-R100), outer loops, and the switches (R32). -/

namespace Sys2Proof.Machine

/-! ### The tick grid -/

/-- Periods of the three levels in ns (R3). -/
def levelPeriod (l : Nat) : Nat := if l = 0 then 10000 else if l = 1 then 1000000 else 100000000

/-- Whether a boundary may fall now: not earlier than the period less the catch-up step after the last one (R211). -/
def Level.mayFall (v : Level) (l now : Nat) : Bool :=
  v.last + levelPeriod l - min v.lag (levelPeriod l / 8) ≤ now

/-- One boundary of a level: count, dt and lag (R210-R212). The lag counts from the nominal time, or from `due` where that is
given; `rep` is the greatest lag that other devices of the chain report (R219). -/
def Level.boundary (v : Level) (l now rep : Nat) (due : Option Nat) : Level :=
  let n := v.count + 1
  let lag := match due with
    | some t => now - t
    | none => ((now : Int) - (v.epoch + n * levelPeriod l)).toNat
  let late := lag != 0 || rep != 0
  { v with count := n, dt := now - v.last, last := now, lag := lag, lagRun := if late then v.lagRun + 1 else 0,
           episode := v.episode && late }

/-- The nominal grid of a level with its present count at a time (R210). -/
def Level.startAt (v : Level) (l now : Nat) : Level := { v with epoch := (now : Int) - v.count * levelPeriod l }

/-- A level goes on alone at nominal lengths from its latest boundary (R360, R362). -/
def Level.goOn (v : Level) (l : Nat) : Level := { v.startAt l v.last with lag := 0 }

/-- The nominal grid of a level with the boundary nearest to a time at that time (R362). -/
def Level.lockTo (v : Level) (l now : Nat) : Level :=
  let k := if 2 * (now - v.last) < levelPeriod l then v.count else v.count + 1
  { v with epoch := (now : Int) - k * levelPeriod l }

/-- The level of a number. -/
def Sys.level (s : Sys) (l : Nat) : Level := if l = 0 then s.tick else if l = 1 then s.cframe else s.pframe
/-- Store a level. -/
def Sys.setLevel (s : Sys) (l : Nat) (v : Level) : Sys :=
  if l = 0 then { s with tick := v } else if l = 1 then { s with cframe := v } else { s with pframe := v }

/-- Whether this device takes its boundaries from a crown (R219). -/
def Chain.follows (c : Chain) : Bool := c.role == 2 && c.st == .formed

/-- The time of the crown's boundary that a follower takes next (R219): its ticks are the crown's; its charge and policy frames
begin once the crown has begun one. -/
def Dev.crownDue (d : Dev) (l now : Nat) : Option Nat :=
  if l = 0 then some now else if l = 1 then d.ln.chn.dueC.head? else d.ln.chn.dueP.head?

/-- The nominal time of boundary n of a level on a grid locked to SYNC (R362): from the latest edge, each charge frame lasting as
the last did and divided into 100 equal ticks, rounded to 10 ns. -/
def Dev.syncDue (d : Dev) (l n : Nat) : Nat :=
  let c := d.ln.chn
  let o := (d.sy.level l).epoch + n * levelPeriod l - c.edgeAt
  let o := if l = 0 then o else 1000000 * roundDiv o 1000000
  ((c.edgeAt : Int) + 10 * roundDiv (o * c.syncPer) 10000000).toNat

/-- Whether a level's boundary may fall at a time: a follower's falls with the crown's; a grid locked to SYNC may run up to
0.1 % fast (R211, R219, R362; log 18). A lag is never negative: no boundary falls before its nominal time (R210, R211). -/
def Dev.mayFall (d : Dev) (l now : Nat) : Bool :=
  let v := d.sy.level l
  let nominal := d.sy.gridNew || d.ln.chn.syncLock || 0 < d.chainLag l || decide (v.epoch + (v.count + 1 : Nat) * levelPeriod l ≤ now)
  if d.ln.chn.follows then (d.crownDue l now).isSome
  else (d.ln.chn.syncLock && decide (d.syncDue l (v.count + 1) ≤ now)) ||
    (nominal && { v with lag := max v.lag (d.chainLag l) }.mayFall l now)

/-- The grid goes on alone at nominal lengths (R360, R362). -/
def Dev.rebaseGrid (d : Dev) : Dev := d.onSy fun s =>
  { s with tick := s.tick.goOn 0, cframe := s.cframe.goOn 1, pframe := s.pframe.goOn 2 }
/-- A step of the grid (R188, R210, R362): the nominal grid of every level starts at the next tick, and every PRECISE entry
takes a synchronising reset; a crown tells the chain. -/
def Dev.stepGrid (d : Dev) : Dev :=
  ((d.onSy fun s => { s with gridNew := true }).onMs fun m => { m with mu := m.mu.map fun u => { u with syncNow := 0xFFFF } }).modChn
    fun c => { c with gridStep := c.role == 1 }

/-- The nominal grid of a frame level from E on; before its first boundary its first frame begins at E. -/
def Level.startFrame (v : Level) (l e : Nat) : Level := { v.startAt l e with last := if v.count = 0 then e else v.last }

/-- The first tick after a start or a re-lock is E of R210: every level's nominal grid starts at it. After a start it is boundary 0
of its level, so that boundary k lies at E + k × period. -/
def Dev.startGrid (d : Dev) : Dev :=
  if !d.sy.gridNew then d
  else d.onSy fun s =>
    let e := s.tick.last
    let v := { s.tick with lag := 0, lagRun := 0, episode := false, count := if s.tick.count = 1 then 0 else s.tick.count }
    { s with gridNew := false, tick := v.startAt 0 e, cframe := s.cframe.startFrame 1 e, pframe := s.pframe.startFrame 2 e }

/-- The chain port goes down: EN cleared, or DEEP, SHIP, RECOVERY (R355, R361). Its error counts and what it knows of the last
crown stay. -/
def Dev.leaveChain (d : Dev) : Dev :=
  if d.ln.chn.st = .off then d
  else
    let d := d.modChn fun c => { ctrl := c.ctrl, cable := c.cable, crownId := c.crownId, known := c.known, frameErr := c.frameErr,
                                 losses := c.losses, formed := c.formed, syncLock := c.syncLock, pulse := c.pulse }
    ((d.offset evChainLost 0).rebaseGrid).onSy fun s => { s with limpCause := s.limpCause &&& 7#4 }

/-- Place a boundary of a level now, with FRAME_OVERRUN once per episode (R217). -/
def Dev.boundary (d : Dev) (l : Nat) : Dev :=
  let due := if d.ln.chn.follows then d.crownDue l d.now
    else if d.ln.chn.syncLock then some (d.syncDue l ((d.sy.level l).count + 1)) else none
  let d := d.onSy fun s => s.setLevel l ((s.level l).boundary l d.now (d.chainLag l) due)
  let d := d.modChn fun c => if l = 1 then { c with dueC := c.dueC.drop 1 } else if l = 2 then { c with dueP := c.dueP.drop 1 } else c
  let d := if l = 0 then d.startGrid else d
  let v := d.sy.level l
  let d := d.onSy fun s => { s with pDirty := s.pDirty || v.lag != 0 || d.chainLag l != 0 }
  if 2 * levelPeriod l < max v.lag (d.chainLag l) ∧ v.episode = false then
    (d.onSy fun s => { s.setLevel l { v with episode := true } with overruns := satInc 255 s.overruns }).raise
      evFrameOverrun .none (d2 l ++ dDur (max v.lag (d.chainLag l)))
  else d

/-- The power states in which the crown ticks: LINER, RUN, LIMP, SLEEP and RECOVERY (R234; DEDUCED, log 18). -/
def Sys.ticking (s : Sys) : Bool :=
  s.power = .liner || s.power = .run || s.power = .limp || s.power = .sleep || s.power = .recovery

/-! ### Taps -/

/-- The consecutive latches of a tap whose result had its common mode or its range out of bounds (R114, R149, R170). -/
def Tap.badRun (t : Tap) (m : Marks) : Nat := if m.cm || m.ovr then satInc 16 t.bad else 0

/-- Whether a sense fault has lasted: sixteen bad latches, or sixteen stale ones (R114, R149, R172). -/
def Tap.senseBad (t : Tap) : Bool := decide (16 ≤ t.bad) || decide (16 ≤ t.stale)

/-- The counts of a tap start over once its sense fault has been taken. -/
def Tap.taken (t : Tap) : Tap := { t with bad := 0, stale := 0 }

/-- Latch a tap: the value of the last latch is published, the newest result is taken, or the latch is stale; an
UNSETTLED result counts as missing (R170-R172). -/
def Tap.latch (t : Tap) : Tap :=
  match t.newest with
  | some (v, m) => { t with newest := .none, pubVal := t.value, value := if m.unsettled then t.value else v, marks := m,
                            stale := 0, bad := t.badRun m }
  | none => { t with pubVal := t.value, stale := t.stale + 1, bad := t.badRun t.marks }

/-! ### Strings in a tick -/

/-- 1 mAh in mA·ns. -/
def mAhNs : Nat := 3600000000000

/-- One tick of coulomb counting (R143): the signed 64-bit charge count, AH_IN and AH_OUT with their fractions, the net charge in
since step entry (R133), Q_STORED with CHG_EFF, and the sums of the charge frame (R124). -/
def Str.count (x : Str) (v i t : Int) (dt : Nat) (eff : Int) : Str :=
  let c := i * dt
  let x := { x with q := (x.q + c).bmod 18446744073709551616, vSum := x.vSum + v, iSum := x.iSum + i, tSum := x.tSum + t,
                    fN := x.fN + 1, ahStep := x.ahStep + c }
  if 0 ≤ c then
    let f := x.inFrac + c.toNat
    { x with inFrac := f % mAhNs, ahIn := (x.ahIn + f / mAhNs) % 4294967296, qStored := x.qStored + floorDiv (c * eff) 1000 }
  else
    let f := x.outFrac + (-c).toNat
    { x with outFrac := f % mAhNs, ahOut := (x.ahOut + f / mAhNs) % 4294967296, qStored := x.qStored + c }

/-- The engine's tick of string k. -/
def Dev.stringTick (d : Dev) (k : Nat) : Dev :=
  let x := d.string k
  if x.st = .disabled then d
  else
    let m := x.chgMit
    let volt := match m with
      | some i => (d.mitten i).lim == 8
      | none => false
    d.modStr k fun y =>
      { (y.count (d.nodeV (.str k)) (d.nodeI (.str k)) (d.strT k) d.sy.tick.dt (d.stp k 8)) with
        voltAll := y.voltAll && volt, tieAll := y.tieAll && ((d.switch (12 + k)).mode = .on) }

/-- Whether string k can supply a bus, as the crossbar shows it (R213): enabled, present, in service, above V_MIN, allowed to
discharge (R36, R147). -/
def Dev.canSupply (d : Dev) (k : Nat) : Bool :=
  let x := d.string k
  x.st != .disabled && x.st != .absent && x.st != .precharge && x.st != .faulted && x.st != .retired && !x.floored &&
  !x.dsgInh && decide (d.nMin (.str k) < d.endVp (.str k))

/-- Pause a RUNNING or PAUSED string with a reason (R141); every confirm count restarts (R151). -/
def Dev.pauseNow (d : Dev) (k : Nat) (f : Str → Str) : Dev :=
  let x := d.string k
  if x.st = .running ∨ x.st = .paused then d.modStr k fun y => { f y with st := .paused, cnt := [0, 0, 0, 0], iCeil := 0 } else d

/-- A pause that is no fault's reaction: a class-0 HOLD of the string freezes it, and its state does not change (R141, R307). -/
def Dev.pause (d : Dev) (k : Nat) (f : Str → Str) : Dev := if (d.switch (12 + k)).hold then d else d.pauseNow k f

/-- The supplement pause of a string in a tick (R141): its counts stand until the charge frame has tested the exits of the frame, so
that a step change of that frame is still made (R151). -/
def Dev.pauseSupp (d : Dev) (k : Nat) : Dev :=
  let cnt := (d.string k).cnt
  let run := (d.string k).st == .running
  let d := d.pause k fun y => { y with pSupp := true }
  if run && (d.string k).st == .paused then d.modStr k fun y => { y with cnt := cnt, suppNew := true } else d

/-- Whether a string's supplement pause begins: its tied bus, or the bus across its charging mitten, is below V_SUPP
(R141). -/
def Dev.suppNeed (d : Dev) (k : Nat) : Bool :=
  let e := d.strE k
  (e.place == 1 && (d.busOf e.tieBus).below) ||
  (match (d.string k).chgMit with
   | some m => (match d.busAcross m k with | some j => (d.busOf j).below | none => false)
   | none => false)

/-- Whether a mitten supplements from string k. -/
def Dev.supplies (d : Dev) (k m : Nat) : Bool := (d.mitten m).dSupp && (match (d.mitE m).suppEnds with
  | some (a, _) => a == k
  | none => false)

/-- Supplement for one mitten: a bidirectional mitten between a string and a bus below V_SUPP reverses (R36); a lend on it ends with
BUS_PRIORITY (R119). A host stop overrides a demand that stands; only a new one, with the bus falling below V_SUPP or the string
becoming able to supply, lifts it (R86). A string whose record forbids discharge takes no further part (R147). -/
def Dev.supplementRule (d : Dev) (m : Nat) : Dev :=
  match (d.mitE m).suppEnds with
  | none => d
  | some (k, j) =>
    let x := d.mitten m
    let cond := (d.busOf j).below && d.canSupply k
    let d := d.modMit m fun y => { y with suppCond := cond, dSupp := y.dSupp && !(d.string k).dsgInh }
    if x.dSupp || x.held || x.disc || !cond || (x.hostStop && x.suppCond) || x.st = .faulted || x.st = .retired then d
    else
      let d := if x.lending then d.endLendOn m 6 else d
      (d.modMit m fun y => { y with dSupp := true, hostStop := false, zeroFrames := 0 }).pauseSupp k

/-- STRING_FLOOR: a supplying string at V_MIN stops supplying; its mitten stops reversing; the count is anchored empty
(R36, R144). -/
def Dev.floorRule (d : Dev) (k : Nat) : Dev :=
  let x := d.string k
  let s := d.switch (12 + k)
  let ms := (List.range 16).filter (d.supplies k)
  let tie := (d.strE k).place == 1 && s.conduct && decide (d.nodeI (.str k) < 0)
  let on := x.st = .running || x.st = .paused || x.st = .stopped || x.st = .lent || x.st = .faulted
  if on && !x.floored && (tie || !ms.isEmpty) && decide (d.nodeV (.str k) ≤ d.nMin (.str k)) then
    ((d.each ms fun m e => e.modMit m fun y => { y with dSupp := false }).modStr k fun y =>
      { y with floored := true, qStored := 0, anchorAt := some d.now, emptyOk := true, socQ := .anchored }).raise
      evStringFloor (some (strNode k)) []
  else if x.floored && !((d.strE k).place == 1 && (d.busOf (d.strE k).tieBus).below) && ms.isEmpty then
    d.modStr k fun y => { y with floored := false }
  else d

/-! ### Sources in a tick -/

/-- Window entry, failure while qualifying, ride-through recovery and the end of an alternator surge (R96, R98-R100). -/
def Dev.sourceWindow (d : Dev) (k : Nat) : Dev :=
  let x := d.source k
  let v := d.nodeV (.src k)
  let inWin := decide (d.sp k 1 ≤ v) && decide (v ≤ d.sp k 2)
  let d := if x.surge && decide (v ≤ d.sp k 2 + d.sp k 3) then d.modSrc k fun y => { y with surge := false } else d
  if x.st = .absent && inWin then d.modSrc k fun y => { y with st := .qualifying, ripBad := 0 }
  else if x.st = .qualifying && !inWin then d.modSrc k fun y => { y with st := .absent }
  else if x.st = .rideThrough && decide (d.sp k 1 < v) then d.modSrc k fun y =>
    { y with st := .selected, entAt := some d.now, iDroop := 0, warming := (d.srcE k).type == 5 && decide (0 < d.sp k 34) }
  else d

/-- The charge a running lend delivers, at the port's current sense (R118). -/
def Dev.lendTick (d : Dev) (k : Nat) : Dev :=
  match (d.source k).lend with
  | none => d
  | some _ =>
    let i := d.nodeI (.src k)
    if i < 0 then d.modSrc k fun x => { x with lend := x.lend.map fun l => { l with charge := l.charge + (-i).toNat * d.sy.tick.dt } }
    else d

/-! ### Buses in a tick -/

/-- The power a bus takes: mittens that feed it, ties of its sources, discharge of its tied strings (R111; DEDUCED,
log 19). -/
def Dev.busPower (d : Dev) (j : Nat) : Int :=
  let v := d.endVp (.bus j)
  let mits := (List.range 16).foldl (fun a m =>
    let e := d.mitE m
    let x := d.mitten m
    if e.used && x.looping && (if x.rev then e.fromN else e.toN) == 16 + j then a + x.iCmd else a) 0
  let srcs := (List.range 12).foldl (fun a k =>
    let e := d.srcE k
    if e.type != 0 && e.place == 1 && e.tieBus == j && (d.switch k).conduct then a + d.tieOut (.src k) (d.nodeI (.src k)) else a) 0
  let strs := (List.range 16).foldl (fun a k =>
    let e := d.strE k
    if e.type != 0 && e.place == 1 && e.tieBus == j && (d.switch (12 + k)).conduct then a + max 0 (d.tieOut (.str k) (- d.nodeI (.str k))) else a) 0
  floorDiv (v * (mits + srcs + strs)) 1000

/-- The bus's flags and demand in a tick, from the voltage that the crossbar carries (R213): below V_SUPP, which wakes from SLEEP
(R386); BUS_UNDERVOLTAGE ends after 10 ticks at or above V_MIN (R33, R449). -/
def Dev.busTick (d : Dev) (j : Nat) : Dev :=
  if !(d.pw.map.busE j).enable then d
  else
    let v := d.endVp (.bus j)
    let ok := if d.nMin (.bus j) ≤ v then (d.busOf j).uvOk + 1 else 0
    let p := d.busPower j
    let ends := (d.busOf j).uv && decide (10 ≤ ok)
    let d := d.modBus j fun b => { b with below := decide (v < d.vSupp j), okFrames := if v < d.vSupp j then 0 else b.okFrames, uvOk := ok, uv := b.uv && !ends,
                                          pSum := b.pSum + p, pN := b.pN + 1 }
    (d.when ends fun e => e.offset evBusUndervoltage j).when (decide (v < d.vSupp j)) fun e => e.wakeSleep 6

/-! ### Mitten demands -/

/-- The string engine's demand on a mitten: it serves a string that is RUNNING in a charging step, or in PRECHARGE
(R69, R138, R150). -/
def Dev.wantsCharge (d : Dev) (m : Nat) : Bool :=
  match d.serves m with
  | none => false
  | some k =>
    let x := d.string k
    let imp := match (d.ms.imp.getD k {}).run with
      | some r => r.running
      | none => false
    x.st = .precharge || (x.st = .running && (imp || d.asksCharge k))

/-- Update the program demand of a mitten and start it where a demand stands; a new demand lifts a host stop (R69,
R86). -/
def Dev.demandRule (d : Dev) (m : Nat) : Dev :=
  let x := d.mitten m
  let w := d.wantsCharge m
  let d := d.modMit m fun y => { y with dProg := w, hostStop := y.hostStop && !(w && !x.dProg) }
  let y := d.mitten m
  if y.st = .stopped && !y.hostStop && !y.dChange && (y.dProg || y.dSupp || y.dLend) then d.startMit m else d

/-- R60: a mitten with no active phase left, on any device of a formed chain, stops; in RUN that is the mitten fault
MITTEN_UNDERSTAFFED (R87; DEDUCED, log 22). -/
def Dev.emptyRule (d : Dev) (m : Nat) : Dev :=
  if !(d.mitten m).looping || d.remote m || !(d.active m).isEmpty || 0 < d.nActive m then d
  else if (d.mitten m).st = .run then d.mittenFault m evMittenUnderstaffed []
  else d.stopMit m

/-! ### Ageing in a tick (R251) -/

/-- One tick of a policy frame: what is summed, the quantity whose extremes are kept, and whether the condition holds. -/
def AgeFrame.add (a : AgeFrame) (v i t : Int) (ok : Bool) : AgeFrame :=
  { ok := a.ok && ok, n := a.n + 1, v := a.v + v, i := a.i + i, vi := a.vi + v * i, ii := a.ii + i * i,
    lo := if a.n = 0 then t else min a.lo t, hi := if a.n = 0 then t else max a.hi t }

/-- A tied port in a tick: terminal over bus, current from the terminal to the bus; its switch ON with at least 10 % of I_RATED. -/
def Dev.ageSwitch (d : Dev) (p : Nat) : AgeFrame :=
  let a := (d.switch p).agf
  let on := (d.switch p).mode == .on
  let go (n : Node) (place bus : Nat) (rated i : Int) : AgeFrame :=
    if place ≠ 1 then a else a.add (d.nodeV n - d.nodeV (.bus bus)) i i (on && decide (rated ≤ 10 * (i.natAbs : Int)))
  if p < 12 then let e := d.srcE p; go (.src p) e.place e.tieBus e.iRated (d.nodeI (.src p))
  else let e := d.strE (p - 12); go (.str (p - 12)) e.place e.tieBus e.iRated (- d.nodeI (.str (p - 12)))

/-- The ageing sums of a tick, in RUN: tied ports, sources, and mittens with their output power and stage temperature. -/
def Dev.ageTick (d : Dev) : Dev :=
  if d.sy.power ≠ .run then d
  else
    let d := d.each (List.range 28) fun p e => e.modSw p fun w => { w with agf := e.ageSwitch p }
    let d := d.each (List.range 12) fun k e => e.modSrc k fun x =>
      { x with agf := x.agf.add (e.nodeV (.src k)) (e.nodeI (.src k)) (e.nodeI (.src k)) (x.st == .selected) }
    d.each (List.range 16) fun m e =>
      let x := e.mitten m
      if !(e.mitE m).used then e
      else e.modMit m fun y => { y with agf := y.agf.add (e.nodeV (e.outNode m)) x.iCmd ((e.stageT m).getD 0) (x.st == .run) }

/-- The capacitance measurement of a bus in a tick (R251): the voltage that the steps moved, each step seen two ticks after it was
commanded, which has its sign (DESIGN CHOICE, log 177). A condition that ends in between ends the measurement without a result; the
hundredth step ends it with C = ΔI × dt / ΔV. -/
def Dev.capTick (d : Dev) (j : Nat) : Dev :=
  match (d.busOf j).capRun with
  | none => d
  | some r =>
    let v := d.nodeV (.bus j)
    if !(d.capFits j r.mit) then d.modBus j fun b => { b with capRun := none }
    else
      let s : Int := if r.n % 2 = 0 then 1 else -1
      let r := { r with n := r.n + 1, last := v, dv := if r.n < 2 then r.dv else r.dv + s * (v - r.last),
                        q := if r.n < 2 then r.q else r.q + pctOf 2 (d.iLimit r.mit) * d.sy.tick.dt }
      if r.n < 102 then d.modBus j fun b => { b with capRun := some r }
      else
        let d := d.modBus j fun b => { b with capRun := none, capAt := some d.now }
        if r.dv ≤ 0 then d else d.ageWork 6 j (floorDiv r.q (1000 * r.dv))

/-! ### Outputs -/

/-- Whether the engine drives a source's START_OUT output high (R107). -/
def Dev.startOuts (d : Dev) : Dev :=
  d.each (List.range 12) fun k e =>
    if (e.srcE k).type = 5 ∧ e.sp k 36 < 32 ∧ (e.source k).wanted then e.modSrc k fun x => { x with startOut := true } else e

/-! ### The tick -/

/-- Ports in a digital mode (R441). -/
def Glb.auxMode (g : Glb) (a : Nat) : Nat := if a < 16 then fld g.auxMode0 (2 * a) 2 else fld g.auxMode1 (2 * (a - 16)) 2
/-- The levels a read of GLB_AUXIN can show: 0 in analogue mode (R441). -/
def Glb.maskAux (g : Glb) (v : BitVec 32) : BitVec 32 :=
  BitVec.ofNat 32 ((List.range 32).foldl (fun a i => if g.auxMode i != 0 && v.getLsbD i then a + 2 ^ i else a) 0)

/-- Advance time by a number of 10 ns cycles and place the tick boundary. -/
def Dev.tickTime (d : Dev) (cycles : Nat) : Dev :=
  (d.onSy fun s => { s with time := { s.time with now := s.time.now + 10 * cycles } }).boundary 0

/-- The engines' work of one tick, in order: taps; buses; strings; sources; loops and rations from what was published
before; demands; switches (R73, R105, R171). -/
def Dev.tickWork (d : Dev) : Dev :=
  let d := d.onMs fun m => { m with tap := m.tap.map Tap.latch }
  let d := d.each (List.range 4) fun j e => (e.busTick j).capTick j
  let d := d.each (List.range 16) fun k e => e.stringTick k
  let d := d.each (List.range 12) fun k e => (e.sourceWindow k).lendTick k
  let d := d.each (List.range 16) fun m e =>
    (if (e.mitten m).changeDue && !(e.mitten m).held then e.stopForChange m else e).supplementRule m
  let d := d.each (List.range 16) fun k e => if (e.string k).st = .running && e.suppNeed k then e.pauseSupp k else e
  let d := d.each (List.range 16) fun k e => e.floorRule k
  let d := d.each (List.range 16) fun m e => e.deliverTargets m
  let mits := (List.range 16).map fun m =>
    let x := d.mitten m
    if x.looping && (d.mitE m).used && !d.remote m then d.loopRun m else x
  let srcs := (List.range 12).map d.sourceRun
  let d := d.onPw fun p => { p with mit := mits, src := srcs }
  let d := d.each (List.range 16) fun m e => ((e.emptyRule m).limitedRule m).recallRule m
  let d := d.each (List.range 16) fun m e => e.demandRule m
  (d.applySwitches false).startOuts.ageTick

end Sys2Proof.Machine
end

