-- ==== Sys2Proof/Machine/Strings.lean ====
section
/-! DEFINITION. String engines: program evaluation at a charge frame (R124, R131-R142), pack monitors (R146-R148), and the
meanings of the bus and string rows. -/

namespace Sys2Proof.Machine

/-! ### Steps -/


/-- The charge ceiling after the pack-monitor limits (R147). -/
def Str.packCeil (x : Str) (c : Int) : Int :=
  let c := match x.pm with
    | some r => if r.chgLim = 0xFFFF then c else min c (100 * r.chgLim)
    | none => c
  match x.pmFold with
  | some f => min c f
  | none => c

/-- The charge ceiling of a string before its pack-monitor limits: that of its step (R132), in PRECHARGE that of R142. -/
def Dev.stepCeil (d : Dev) (k : Nat) : Int :=
  let x := d.string k
  if x.st = .precharge then
    let pre := match x.prog with
      | some p => (p.steps.find? fun (s : Step) => s.type == 1).map fun (s : Step) => s.iStep
      | none => none
    min (d.stp k 6) (pre.getD (d.stp k 6))
  else match d.stepNow k with
    | some (_, s) => stepI (d.strE k) x.cfg s x.vMean
    | none => 0

/-- The targets of a string (R132, R137, R142, R150): voltage target, current ceiling, clamp flag. -/
def Dev.strTargets (d : Dev) (k : Nat) : Int × Int × Bool :=
  let x := d.string k
  let e := d.strE k
  if x.st = .precharge then
    (min (d.preTarget k) (vClamp e x.cfg), x.packCeil (d.stepCeil k), decide (vClamp e x.cfg < d.preTarget k))
  else if x.st ≠ .running then (x.vTgt, 0, x.compClamp)
  else match d.stepNow k with
    | none => (0, 0, false)
    | some (p, s) =>
      let (v, cl) := stepV e x.cfg p s x.tMean x.tFault
      (v, x.packCeil (d.stepCeil k), cl)

/-- The targets while an impedance run holds the string (R205 step 2): in CC the ceiling I_0 - A, in REST the ceiling A
under the voltage clamp. -/
def Dev.impTargets (d : Dev) (k : Nat) (t : Int × Int × Bool) : Int × Int × Bool :=
  let x := d.string k
  match (d.ms.imp.getD k {}).run, x.cur with
  | some r, some (_, s) =>
    if !r.running || x.st ≠ .running then t
    else if s.type = 9 then (vClamp (d.strE k) x.cfg, r.amp, t.2.2)
    else (t.1, min t.2.1 (r.i0 - r.amp), t.2.2)
  | _, _ => t

/-- Publish the targets of a string; the first frame of a new program takes the lower of old and new, and the ceiling does until
the commit ends (R136, R139, R225). -/
def Dev.publish (d : Dev) (k : Nat) : Dev :=
  let (v, i, c) := d.impTargets k (d.strTargets k)
  let old (x : Str) : Option Int := if d.pw.stage.begun then x.iPrev else none
  d.modStr k fun x =>
    { x with vTgt := (match x.vPrev with | some o => min o v | none => v),
             iCeil := if d.sy.holdOut then 0 else (match old x with | some o => min o i | none => i),
             compClamp := c, vPrev := .none, iPrev := old x }

/-- Change to a step: STRING_STEP, and a run of impedance spectroscopy ends with STEP (R134, R207). -/
def Dev.toStep (d : Dev) (k n : Nat) : Dev := (((d.modStr k fun x => x.enter n).endImp k 3).publish k).stepEvent k

/-- A RUNNING or PAUSED string enters the program in force at START; a new program takes the lower of old and new targets for the
first frame (R136, R149, R150). Under a class-0 HOLD it does so as the HOLD is lifted (R141; DEDUCED, log 175). -/
def Dev.toStart (d : Dev) (k : Nat) : Dev :=
  let x := d.string k
  match d.program k with
  | none => d
  | some p =>
    if x.st ≠ .running ∧ x.st ≠ .paused then d
    else if (d.switch (12 + k)).hold then d.modStr k fun y => { y with progNew := true }
    else
      (d.modStr k fun y => { y with prog := some p, progNew := false, vPrev := if x.prog = some p then y.vPrev else some y.vTgt,
                                    iPrev := if x.prog = some p then y.iPrev else some y.iCeil }).toStep k p.start

/-- Whether a string's terminal is below the precharge threshold and its dead-battery rule applies (R35, R142). -/
def Dev.deadBattery (d : Dev) (k : Nat) : Bool := decide (d.nodeV (.str k) < d.preThreshold k)

/-- Enter PRECHARGE (R129, R142): switch OFF by rank 4, the precharge mitten, its timer from 0, under the program in force. -/
def Dev.enterPre (d : Dev) (k : Nat) : Dev :=
  let d := d.modStr k fun x =>
    { x with st := .precharge, prog := d.program k, progNew := false, preNs := 0, preOk := 0, chgMit := .none, cnt := [0, 0, 0, 0], pTemp := false, pPack := false,
             pNoPath := false, pSupp := false }
  let m := d.prechargeMit k
  let d := d.modStr k fun x => { x with preMit := m, noPre := m.isNone }
  let d := if m.isNone then d.onset evPrechargeNoPath k (some (strNode k)) [] else d
  d.publish k

/-- Enter RUNNING at START of the program in force; a string below its threshold enters PRECHARGE at once (R129, R149;
DEDUCED, log 20). With no program in force the string stops. -/
def Dev.runFromStart (d : Dev) (k : Nat) : Dev :=
  match d.program k with
  | none => d.modStr k fun x => { x with st := .stopped, iCeil := 0 }
  | some p =>
    let d := d.modStr k fun x => { (x.enter p.start) with prog := some p, st := .running, progNew := false, pTemp := false,
                                                          pPack := false, pNoPath := false, pSupp := false, pHost := false }
    if d.deadBattery k then d.enterPre k
    else ((d.modStr k fun x => { x with chgMit := d.chargingMit k }).publish k).stepEvent k

/-- Stop a string: it asks for no current (R129). -/
def Dev.stopStr (d : Dev) (k : Nat) : Dev :=
  ((d.endImp k 3).endPre k).modStr k fun x =>
    { x with st := .stopped, iCeil := 0, chgMit := .none, cnt := [0, 0, 0, 0], pTemp := false, pPack := false, pNoPath := false,
             pSupp := false, pHost := false }

/-! ### Conditions -/

/-- The 1 s mean of charge-frame means, newest first: that of the last 1,000 (R124). -/
def secMean (l : List Int) : Option Int :=
  let t := l.take 1000
  if t.length < 1000 then .none else some (floorDiv (t.foldl (· + ·) 0) 1000)

/-- The 1 s means of the last seconds that are kept, newest first: one for each whole second before the present frame (R133 code 6;
the means are DEDUCED to follow one another second by second, log 154). -/
def secMeans : Nat → List Int → List Int
  | 0, _ => []
  | n + 1, l => match secMean l with
    | some m => m :: secMeans n (l.drop 1000)
    | none => []

/-- Least-squares slope of the 1 s means over the last b seconds below a limit in µV per minute (R133 code 6). -/
def slopeBelow (frames : List Int) (b : Nat) (limit : Int) : Bool :=
  let y := secMeans b frames
  let s := (y.zip (List.range b)).foldl (fun a p => a + p.1 * ((b - 1 : Int) - 2 * (p.2 : Int))) 0
  y.length == b && decide (6 * s * 60000 < limit * (b * (b * b - 1)))

/-- Whether an exit condition holds in this charge frame (R133). -/
def Dev.holds (d : Dev) (k : Nat) (p : Program) (s : Step) (c : ExitCond) : Bool :=
  let x := d.string k
  let e := d.strE k
  let n : Int := e.cells
  if c.code = 1 then decide (x.iMean < c.a) && (x.voltAll || x.tieAll)
  else if c.code = 2 then
    let t := if s.comp then (packTarget e x.cfg p true c.a x.tMean x.tFault).1 else n * c.a
    decide (floorDiv (t * 998) 1000 ≤ x.vMean)
  else if c.code = 3 then decide (c.a * 1000000000 ≤ (x.stepNs : Int))
  else if c.code = 4 then decide (c.a * mAhNs ≤ x.ahStep)
  else if c.code = 5 then decide (x.tMean < c.a) || decide (c.b < x.tMean)
  else if c.code = 6 then decide (c.b * 1000000000 ≤ (x.stepNs : Int)) && slopeBelow x.frames c.b.toNat (c.a * n)
  else if c.code = 7 then (match x.secPeak, secMean x.frames with
    | some pk, some l => decide (c.a * n ≤ pk - l)
    | _, _ => false)
  else if c.code = 8 then (match x.zLast.getD c.b.toNat .none, x.zBase.getD c.b.toNat .none with
    | some z, some b => decide (((b : Int) * (100 + c.a)) < (z : Int) * 100)
    | _, _ => false)
  else false

/-- The confirm counts after a frame (R134): one more where the condition holds, else 0. -/
def Dev.countConds (d : Dev) (k : Nat) (p : Program) (s : Step) : List Nat :=
  let x := d.string k
  (List.range 4).map fun i => match s.exits[i]? with
    | some c => if d.holds k p s c then x.cnt.getD i 0 + 1 else 0
    | none => 0

/-- The first condition whose count has reached its CONFIRM; TIME and AH_IN need one frame (R133, R134). -/
def firstReached (s : Step) (cnt : List Nat) : Option (Nat × ExitCond) :=
  ((List.range s.exits.length).zip s.exits).find? fun q =>
    q.2.code != 0 && (if q.2.code == 3 || q.2.code == 4 then 1 ≤ cnt.getD q.1 0 else q.2.confirm ≤ cnt.getD q.1 0 && 0 < cnt.getD q.1 0)

/-! ### The charge frame of a string -/

/-- The means of the frame that ended, those of the last hour, and the highest 1 s mean since step entry (R124, R133). -/
def Str.means (x : Str) : Str :=
  if x.fN = 0 then { x with voltAll := true, tieAll := true }
  else
    let n : Int := x.fN
    let v := floorDiv x.vSum n
    let f := (v :: x.frames).take 3600000
    { x with vMean := v, iMean := floorDiv x.iSum n, tMean := floorDiv x.tSum n, vSum := 0, iSum := 0, tSum := 0,
             fN := 0, frames := f, secPeak := match secMean f, x.secPeak with
               | some m, some p => some (max p m)
               | some m, none => some m
               | none, p => p }

/-- The fold-back of the highest cell (R147): down 10 % of the ceiling's present value each frame, up 1 % of the step's ceiling. -/
def Str.fold (x : Str) (hi stepCeil : Int) : Option Int :=
  match x.pm with
  | none => .none
  | some r =>
    let cur := x.packCeil stepCeil
    if hi ≤ (r.vMax : Int) then some (cur - pctOf 10 cur)
    else match x.pmFold with
      | none => .none
      | some f => if (r.vMax : Int) < hi - 20 then
          (let u := f + pctOf 1 stepCeil
           if stepCeil ≤ u then .none else some u) else some f

/-- Whether the TEMP reason stands: a temperature outside the charge window by a margin inwards (R141, R147, R149). -/
def Dev.tempBad (d : Dev) (k : Nat) (p : Program) (margin : Int) : Bool :=
  let x := d.string k
  let out (t : Int) : Bool := decide (t < p.tChgLo + margin) || decide (p.tChgHi - margin < t)
  let pmT := match x.pm with
    | some r => out r.tMax || out r.tMin
    | none => false
  (if x.tFault then x.pm.isNone else out x.tMean) || pmT

/-- Whether the PACK reason stands (R141, R148). -/
def Str.packBad (x : Str) : Bool := x.pmLost || (match x.pm with | some r => r.chgInh | none => false)

/-- Whether the SUPPLEMENT reason goes on (R36, R141). -/
def Dev.suppGoesOn (d : Dev) (k : Nat) : Bool :=
  let ok (j : Nat) : Bool := decide (10 ≤ (d.busOf j).okFrames)
  ((d.strE k).place == 1 && !ok (d.strE k).tieBus) ||
  (match (d.string k).chgMit with
   | some m => (match d.busAcross m k with | some j => !ok j | none => false)
   | none => false) || (List.range 16).any (d.supplies k)

/-- Pause reasons that begin at a charge frame (R141), and those that end without a time condition of their own. -/
def Dev.pauseRules (d : Dev) (k : Nat) : Dev :=
  let x := d.string k
  match x.cur, d.stepNow k with
  | some (p, _), some (_, s) =>
    let noPath := s.charging && x.chgMit.isNone && !d.tied k s
    let d := if x.st = .paused then d.modStr k fun y =>
        { y with pTemp := y.pTemp && d.tempBad k p 200, pNoPath := y.pNoPath && noPath, pSupp := y.pSupp && d.suppGoesOn k } else d
    let d := if s.charging && d.tempBad k p 0 then d.pause k fun y => { y with pTemp := true } else d
    let d := if x.packBad then d.pause k fun y => { y with pPack := true } else d
    let d := if noPath then d.pause k fun y => { y with pNoPath := true } else d
    let d := if d.suppNeed k || (List.range 16).any (d.supplies k) then d.pause k fun y => { y with pSupp := true } else d
    if (d.switch (12 + k)).disc then d.pause k fun y => { y with pHost := true } else d
  | _, _ => d

/-- The full anchor of R144: an I_BELOW exit out of a CV or ABSORB step sets Q_STORED to Q_FULL; after an empty anchor
the learned capacity is adopted within 50-110 % of CAPACITY. -/
def Dev.anchorFull (d : Dev) (k : Nat) : Dev :=
  let x := d.string k
  let cap := (d.strE k).capacity * mAhNs
  let learned := x.qStored
  let ok := decide (pctOf 50 cap ≤ learned) && decide (learned ≤ pctOf 110 cap)
  let d := if x.emptyOk && ok then
      (d.modStr k fun y => { y with qFull := some learned }).ageWork 8 k (floorDiv learned mAhNs) else d
  let d := d.modStr k fun y =>
    { y with qStored := y.qFull.getD cap, anchorAt := some d.now, emptyOk := false, socQ := .anchored }
  if x.emptyOk && !ok then d.raise evStringCapacitySuspect (some (strNode k)) [] else d

/-- The effect of an exit of a step on the count (R144), and the step it leads to, if any (R134). -/
def Dev.takeExit (d : Dev) (k : Nat) (q : Step) (c : ExitCond) : Dev :=
  let d := if c.code = 1 ∧ (q.type = 4 ∨ q.type = 5) then d.anchorFull k else d
  if c.next < 16 then d.toStep k c.next else d

/-- A fault row of R149 against a string: not DISABLED, ABSENT or RETIRED; while FAULTED the event alone (R257). -/
def Dev.strFaultRow (d : Dev) (k ev cause : Nat) (all : Bool) : Dev :=
  let st := (d.string k).st
  if st = .disabled ∨ st = .absent ∨ st = .retired then d
  else if st = .faulted then d.fault ev (some (strNode k)) []
  else d.stringFault k ev cause all

/-- The record received in the last frame acts (R147): STRING_CELL_OVERVOLTAGE where CELL_V_MAX is at or above CELL_V_ABS. -/
def Dev.pmAdopt (d : Dev) (k : Nat) : Dev :=
  match (d.string k).pmPending with
  | none => d
  | some r =>
    let d := d.modStr k fun y => { y with pm := some r, pmPending := .none }
    if d.stp k 17 ≤ (r.vMax : Int) then d.strFaultRow k evStringCellOvervoltage evStringCellOvervoltage false else d

/-- The precharge of a string over a charge frame (R35, R142): its mitten, its time, the frames at or above its target; with no
mitten PRECHARGE_NO_PATH. -/
def Dev.preFrame (d : Dev) (k : Nat) : Dev :=
  let x := d.string k
  let m := if x.noPre then .none else d.prechargeMit k
  let d := d.modStr k fun y =>
    { y with preMit := m, noPre := m.isNone, preNs := if y.preMit.isSome then y.preNs + d.sy.cframe.dt else y.preNs,
             preOk := if d.preTarget k ≤ y.vMean then satInc 1000 y.preOk else 0,
             pmFold := y.fold (d.stp k 16) (d.stepCeil k) }
  if m.isNone && !x.noPre then d.onset evPrechargeNoPath k (some (strNode k)) [] else d

/-- The exits of a string's step at a charge frame, and its fold-back (R134, R147, R150): step time and counts of the program's step
where that runs; `run` where its time runs. -/
def Dev.exitFrame (d : Dev) (k : Nat) (run : Bool) : Dev :=
  let y := d.string k
  let d := d.modStr k fun z => { z with pmFold := z.fold (d.stp k 16) (d.stepCeil k) }
  match y.cur with
  | none => d
  | some (p, s) =>
    if d.substitute s then d
    else
      let t := (stepV (d.strE k) y.cfg p s y.tMean y.tFault).1
      let near := s.type != 5 || decide ((t - y.vMean).natAbs * 100 ≤ t.natAbs)
      let d := d.modStr k fun z => { z with stepNs := if run && near then z.stepNs + d.sy.cframe.dt else z.stepNs }
      d.modStr k fun z => { z with cnt := d.countConds k p s }

/-- The exit that a string's counts have reached; none under the substitute of LIMP (R134, R150). -/
def Dev.reached (d : Dev) (k : Nat) : Option (Step × Nat × ExitCond) :=
  match (d.string k).cur with
  | some (_, s) => if d.substitute s then none else (firstReached s (d.string k).cnt).map fun q => (s, q)
  | none => none

/-- Whether a pause has no reason left (R141). -/
def Str.unpaused (x : Str) : Bool := !x.pTemp && !x.pPack && !x.pNoPath && !x.pSupp && !x.pHost

/-- Whether SUPPLEMENT is the only reason of a pause. -/
def Str.onlySupp (x : Str) : Bool := x.st == .paused && x.pSupp && !x.pTemp && !x.pPack && !x.pNoPath && !x.pHost

/-- The pauses of a string at a charge frame after its exits have been tested (R151): a pause governs over an exit, but for a
SUPPLEMENT pause the new step is entered first. -/
def Dev.pauseFrame (d : Dev) (k : Nat) (tested : Bool) : Dev :=
  let hit := if tested then d.reached k else none
  let d := d.pauseRules k
  let d := match hit with
    | some (s, _, c) => if (d.string k).onlySupp && decide (c.next < 16) then d.takeExit k s c else d
    | none => d
  d.modStr k fun z => if z.st = .paused then { z with cnt := [0, 0, 0, 0], suppNew := false } else z

/-- The charge frame of string k (R124, R134, R139-R142, R147). A HOLD freezes targets and step timers (R141). -/
def Dev.stringFrame (d : Dev) (k : Nat) : Dev :=
  if (d.string k).st = .disabled then d
  else
    let d := (d.modStr k Str.means).pmAdopt k
    let d := if (d.string k).progNew then d.toStart k else d
    let x := d.string k
    let d := if (d.switch (12 + k)).hold then d
      else
        let act := x.st = .running || x.st = .paused
        let d := d.modStr k fun y => { y with chgMit := if act then d.chargingMit k else .none }
        let tested := x.st = .running || (x.st = .paused && x.suppNew)
        let d := if x.st = .precharge then d.preFrame k else if tested then d.exitFrame k (x.st = .running) else d
        (d.pauseFrame k tested).publish k
    d.modStr k fun z => { z with voltAll := true, tieAll := true }

/-! ### Bus and string rows -/

/-- BUS_UNDERVOLTAGE (R33): the condition's onset for an enabled bus at or below V_MIN, once until it ends. -/
def execBusUndervoltage (bus : Fin 4) (s : State) : Host.Outcome State Fault Refusal :=
  s.onDev fun d =>
    if (d.pw.map.busE bus).enable && decide (d.nodeV (.bus bus) ≤ d.nMin (.bus bus)) then
      (d.modBus bus fun b => { b with uv := true, uvOk := 0 }).onset evBusUndervoltage bus (some (busNode bus)) []
    else d

/-- Whether a mitten still stands reversed from a supplement that no demand continues (R36). -/
def Dev.suppReversed (d : Dev) (m : Nat) : Bool :=
  (d.mitten m).rev && (d.goal m).isNone && match (d.mitE m).suppEnds with
    | some (_, j) => (d.mitE m).revInto (.bus j)
    | none => false

/-- SUPPLEMENT_RETURN (R36): ten charge frames of zero current end the reversal; the mitten returns to its forward
direction by the direction change of its loop, also where nothing else asks for current. -/
def execSupplementReturn (mit : Fin 16) (s : State) : Host.Outcome State Fault Refusal :=
  s.onDev fun d =>
    let x := d.mitten mit
    if (x.dSupp || d.suppReversed mit) && decide (10 ≤ x.zeroFrames) then
      d.modMit mit fun y => { y with dSupp := false, zeroFrames := 0, back := y.rev }
    else d

/-- A FAULTED string that leaves its state otherwise has no retry to come; one of its temperature input goes on (R149). -/
def Str.dropRetry (x : Str) : Str :=
  if x.st = .faulted ∧ !x.tFault then { x with lad := { x.lad with backoff := .none } } else x

/-- A string becomes ABSENT (R34): it runs no program, and a lend it donates ends (DESIGN CHOICE for the reason, log 150); a backoff
of it ends. -/
def Dev.enterAbsent (d : Dev) (k : Nat) : Dev :=
  ((((d.endDonor k 8).modStr k Str.dropRetry).stopStr k).modStr k fun y =>
    { y with st := .absent }).onset evStringAbsent k (some (strNode k)) []

/-- STRING_ABSENT (R34): an off string below 10 % of its nominal voltage becomes ABSENT. -/
def execStringAbsent (str : Fin 16) (s : State) : Host.Outcome State Fault Refusal :=
  s.onDev fun d =>
    let x := d.string str
    let live := x.st != .disabled && x.st != .absent && x.st != .retired
    if live && (d.switch (12 + str)).mode = .off && decide (d.nodeV (.str str) < d.absentLevel str) then
      d.enterAbsent str
    else d

/-- STRING_PRESENT (R34, R129): an ABSENT string above the 10 % level enters STOPPED, then as AUTOSTART where string engines run
(R234, R384). -/
def execStringPresent (str : Fin 16) (s : State) : Host.Outcome State Fault Refusal :=
  s.onDev fun d =>
    let x := d.string str
    if x.st = .absent && decide (d.absentLevel str < d.nodeV (.str str)) then
      let d := (d.modStr str fun y => { y with st := .stopped }).offset evStringAbsent str
      if d.stp str 2 = 1 && (d.inRun || d.sy.power == .sleep) then d.runFromStart str else d
    else d

/-- PRECHARGE_ENTRY (R129): a string in service below its precharge threshold enters PRECHARGE; a lend it donates ends first (its
reason DESIGN CHOICE, log 150). A class-0 HOLD freezes the state (R141). -/
def execPrechargeEntry (str : Fin 16) (s : State) : Host.Outcome State Fault Refusal :=
  s.onDev fun d =>
    let x := d.string str
    let live := x.st = .running || x.st = .paused || x.st = .stopped || x.st = .lent
    if live && !(d.switch (12 + str)).hold && d.deadBattery str then ((d.endImp str 3).endDonor str 8).enterPre str else d

/-- PRECHARGE_END (R142): after 1,000 charge frames at or above the target, the string enters the step named by the V_ABOVE exit of
the first PRECHARGE step, or START where the program has none. START also where that step has no V_ABOVE exit, or one that ends the
program (DESIGN CHOICE, log 155). A class-0 HOLD freezes the state (R141). -/
def execPrechargeEnd (str : Fin 16) (s : State) : Host.Outcome State Fault Refusal :=
  s.onDev fun d =>
    let x := d.string str
    if x.st = .precharge && decide (1000 ≤ x.preOk) && !(d.switch (12 + str)).hold then
      match (if x.progNew then d.program str else x.prog) with
      | none => d.stopStr str
      | some p =>
        let next := match p.steps.find? fun (q : Step) => q.type == 1 with
          | some q => (match q.exits.find? fun c => c.code == 2 with
            | some c => if c.next < p.steps.length then c.next else p.start
            | none => p.start)
          | none => p.start
        let d := (d.endPre str).modStr str fun y => { y with st := .running, prog := some p, progNew := false }
        (d.modStr str fun y => { y with chgMit := d.chargingMit str }).toStep str next
    else d

/-- STRING_PRECHARGE_TIMEOUT (R142, R149): PRE_TIMEOUT of running time, a permanent fault; the string is RETIRED. -/
def execStringPrechargeTimeout (str : Fin 16) (s : State) : Host.Outcome State Fault Refusal :=
  s.onDev fun d =>
    let x := d.string str
    if x.st = .precharge ∧ d.stp str 7 * 60000000000 ≤ (x.preNs : Int) then
      (d.fault evStringPrechargeTimeout (some (strNode str)) []).retireString str evStringPrechargeTimeout
    else d

/-- STEP_EXIT (R134): the first condition in index order whose count has reached its CONFIRM is taken. -/
def execStepExit (str : Fin 16) (s : State) : Host.Outcome State Fault Refusal :=
  s.onDev fun d =>
    let x := d.string str
    match (if x.st = .running && !(d.switch (12 + str)).hold then d.reached str else none) with
    | none => d
    | some (q, i, c) =>
      let d := d.takeExit str q c
      if c.next < 16 then d
      else if c.next = 0xFE then d.stopStr str
      else if q.type = 1 ∧ c.code = 3 then
        (d.fault evStringPrechargeTimeout (some (strNode str)) []).retireString str evStringPrechargeTimeout
      else (d.stopStr str).raise evChargeProgramFault (some (strNode str)) (d2 x.step ++ d2 i)

/-- STRING_TIE_LIMIT (R140): the tie is demanded IDEAL_DIODE until TIE_REARM has passed. -/
def execStringTieLimit (str : Fin 16) (s : State) : Host.Outcome State Fault Refusal :=
  s.onDev fun d =>
    let x := d.string str
    match d.stepNow str with
    | none => d
    | some (_, q) =>
      if x.st = .running && d.tied str q && !x.tieRearm && decide (x.iCeil < d.nodeI (.str str)) then
        (d.modStr str fun y => { y with tieRearm := true }).raise evStringTieLimit (some (strNode str)) []
      else d

/-- TIE_REARM_EXPIRY (R140): the lock-out ends. -/
def execTieRearmExpiry (str : Fin 16) (s : State) : Host.Outcome State Fault Refusal :=
  s.onDev fun d => d.modStr str fun y => { y with tieRearm := false }

/-- PAUSE_END (R141): a reason with a time condition (PACK) ends here, also while another stands; with no reason left the string
resumes at the same step. A class-0 HOLD freezes the state. -/
def execPauseEnd (str : Fin 16) (s : State) : Host.Outcome State Fault Refusal :=
  s.onDev fun d =>
    let x := d.string str
    let w := d.switch (12 + str)
    if x.st = .paused && !w.hold then
      let d := d.modStr str fun y => { y with pPack := y.pPack && y.packBad, pHost := y.pHost && w.disc }
      if (d.string str).unpaused then (d.modStr str fun y => { y with st := .running, cnt := [0, 0, 0, 0] }).publish str else d
    else d

/-- Parse a limit record (R146). -/
def parsePm (b : List Byte) : PmRec :=
  { vMax := leAt b 0 2, vMin := leAt b 2 2, tMax := s16 (leAt b 4 2), tMin := s16 (leAt b 6 2), chgLim := leAt b 8 2,
    dsgLim := leAt b 10 2, chgInh := (byteAt b 12).testBit 0, dsgInh := (byteAt b 12).testBit 1, seq := byteAt b 13 }

/-- Whether a record received whole is accepted: its CRC matches and its SEQ is new (R146). -/
def Dev.pmAccepts (d : Dev) (k : Nat) (b : List Byte) : Bool :=
  decide (16 ≤ b.length) && (crc16 (b.take 14)).toNat == leAt b 14 2 && (d.string k).pmSeq != some (parsePm b).seq &&
    (d.string k).st != .disabled

/-- A record received whole (R146, R147): an accepted one acts from the next charge frame. -/
def Dev.pmRecord (d : Dev) (k : Nat) (b : List Byte) : Dev :=
  let r := parsePm b
  if d.pmAccepts k b then
    (d.modStr k fun y => { y with pmPending := some r, pmSeq := some r.seq, pmLost := false, pmMiss := 0 }).offset evPackMonitorLost k
  else d

/-- PACK_MONITOR_RECORD (R146). -/
def execPackMonitorRecord (str : Fin 16) (rec : List Byte) (s : State) : Host.Outcome State Fault Refusal :=
  s.onDev fun d => if d.stp str 12 = 0 then d else d.pmRecord str (rec.take 16)

/-- The pack monitor of a string is lost (R148): the condition's onset, and the string pauses with reason PACK. -/
def Dev.packLost (d : Dev) (k : Nat) : Dev :=
  ((d.modStr k fun y => { y with pmLost := true }).pause k fun y => { y with pPack := true }).onset
    evPackMonitorLost k (some (strNode k)) []

/-- PACK_MONITOR_LOST (R148). -/
def execPackMonitorLost (str : Fin 16) (s : State) : Host.Outcome State Fault Refusal :=
  s.onDev fun d => if d.stp str 12 = 0 || (d.string str).st = .disabled then d else d.packLost str

/-- When the next poll of a string is due (R146). -/
def Dev.pmDue (d : Dev) (k : Nat) : Nat := (d.string k).pmLast + 1000000 * (d.stp k 14).toNat

/-- Whether a string's record is polled over a controller port (R128, R344). -/
def Dev.pollsOn (d : Dev) (port k : Nat) : Bool := d.stp k 12 == (port : Int) + 1 && (d.string k).st != .disabled

/-- The string whose poll runs next on a port: the earliest due, and of those due together the lowest-numbered (R344). -/
def Dev.pollNext (d : Dev) (port : Nat) : Option Nat :=
  ((List.range 16).filter (d.pollsOn port)).foldl (fun a k => match a with
    | some j => if d.pmDue k < d.pmDue j then some k else a
    | none => some k) none

/-- A poll that brings no record counts toward PM_TIMEOUT (R148, R344, R345). -/
def Dev.pollMissed (d : Dev) (k : Nat) : Dev :=
  let d := d.modStr k fun y => { y with pmLast := d.now, pmMiss := y.pmMiss + 1 }
  d.when (!(d.string k).pmLost && decide (d.stp k 15 ≤ (d.string k).pmMiss)) fun e => e.packLost k

/-- STRING_DISCHARGE_LIMIT (R147): an event on the current that leaves the string through its tie; the tie is not opened. -/
def execStringDischargeLimit (str : Fin 16) (s : State) : Host.Outcome State Fault Refusal :=
  s.onDev fun d =>
    match (d.string str).pm with
    | none => d
    | some r =>
      if r.dsgLim ≠ 0xFFFF ∧ (d.strE str).place = 1 ∧ (d.switch (12 + str)).mode ≠ .off ∧
          100 * (r.dsgLim : Int) < d.tieOut (.str str) (- d.nodeI (.str str)) then
        d.raise evStringDischargeLimit (some (strNode str)) [] else d


/-- STRING_OVERVOLTAGE (R149). -/
def execStringOvervoltage (str : Fin 16) (s : State) : Host.Outcome State Fault Refusal :=
  s.onDev fun d =>
    if d.nMax (.str str) < d.nodeV (.str str) then d.strFaultRow str evStringOvervoltage evStringOvervoltage false else d

/-- STRING_OVERCURRENT (R149): the tie goes OFF and every mitten at the terminal stops. -/
def execStringOvercurrent (str : Fin 16) (s : State) : Host.Outcome State Fault Refusal :=
  s.onDev fun d =>
    if pctOf 110 (d.strE str).iRated < ((d.nodeI (.str str)).natAbs : Int) then
      d.strFaultRow str evStringOvercurrent evStringOvercurrent true else d

/-- The charge window's upper edge of the program a string runs or ran last; of its preset before its first one (R149; DESIGN
CHOICE, log 186). -/
def Dev.tChgHi (d : Dev) (k : Nat) : Int :=
  match (d.string k).prog with
  | some p => p.tChgHi
  | none => (preset (d.strE k).chem).tHi

/-- STRING_OVERTEMP (R149). -/
def execStringOvertemp (str : Fin 16) (s : State) : Host.Outcome State Fault Refusal :=
  s.onDev fun d =>
    if d.tChgHi str + 1000 < d.strT str then d.strFaultRow str evStringOvertemp evStringOvertemp false else d

/-- STRING_SENSE_FAULT (R149, R172): voltage as an overvoltage, current as an overcurrent. -/
def execStringSenseFault (str : Fin 16) (current : Bool) (s : State) : Host.Outcome State Fault Refusal :=
  s.onDev fun d =>
    let i := 32 + 3 * str.val + b2n current
    if !(d.ms.tap.getD i {}).senseBad then d
    else
      let d := d.modTap i Tap.taken
      if current then d.strFaultRow str evStringSenseFault causeSenseI true
      else d.strFaultRow str evStringSenseFault evStringSenseFault false

/-- STRING_TEMP_FAULT (R149): conservative compensation; PAUSED TEMP, also under a HOLD (R307), unless a pack monitor supplies
temperatures; an entry in the retry record, or RETIRED. -/
def execStringTempFault (str : Fin 16) (s : State) : Host.Outcome State Fault Refusal :=
  s.onDev fun d =>
    let x := d.string str
    let t := d.strT str
    if x.st = .disabled || x.st = .retired || !(decide (t < -5000) || decide (15000 < t)) then d
    else
      let d := (d.endImp str 8).fault evStringTempFault (some (strNode str)) []
      if x.tFault then d
      else if x.lad.spent d.now then d.retireString str evStringTempFault
      else
        let d := d.modStr str fun y =>
          { y with tFault := true, lad := if y.st = .faulted then y.lad else y.lad.enter d.now evStringTempFault }
        if x.pm.isNone then d.pauseNow str fun y => { y with pTemp := true } else d

/-- STRING_SWITCH_FAULT (R149): permanent; every mitten at the terminal stops. -/
def execStringSwitchFault (str : Fin 16) (s : State) : Host.Outcome State Fault Refusal :=
  s.onDev fun d =>
    let p := 12 + str.val
    let idle := (d.pw.map.mitsAt p).all fun m => (d.mitten m).quiet
    if (d.string str).st ≠ .disabled ∧ (d.switch p).mode = .off ∧ idle ∧
        pctOf 2 (d.strE str).iRated < ((d.nodeI (.str str)).natAbs : Int) then
      (((d.fault evStringSwitchFault (some (strNode str)) []).endImp str 8).stopAt p).retireString str evStringSwitchFault
    else d

end Sys2Proof.Machine
end

