-- ==== Sys2Proof/Machine/Slices.lean ====
section
/-! DEFINITION. The slices of a measurement unit and who holds them (R152, R153, R167-R169, R173, R180): background samples,
urgent conversions, correction slots and pair windows, in engine clocks of device time. -/

namespace Sys2Proof.Machine

/-- The engine clock of device time now: 400 MHz, two clocks in 5 ns (R152). -/
def Dev.clk (d : Dev) : Nat := d.now * 2 / 5

/-- The engine clocks a conversion holds its slice for (R152). -/
def occupancy (ts : Nat) : Nat := ts + 16

/-- Spacing of consecutive samples on a number of slices (R153, R175). -/
def spacing (slices ts : Nat) : Nat := ceilDiv (occupancy ts) slices

/-- The sampling time of a correction slot (R173). -/
def correctionTs : Nat := 56

/-- The mismatch correction of a unit begins anew (R173). -/
def MUnit.reacquire (u : MUnit) (now : Nat) : MUnit := { u with corr := .reacquiring, corrAt := now }

/-- Whether a slice is in service. -/
def MUnit.sliceUp (u : MUnit) (i : Nat) : Bool := u.sliceOk.getD i false

/-- The slices in service. -/
def MUnit.up (u : MUnit) : List Nat := (List.range 4).filter u.sliceUp

/-- A slice of a unit. -/
def MUnit.slice (u : MUnit) (i : Nat) : Slice := u.slices.getD i {}

/-- Give slice i to a use from a clock on. -/
def MUnit.hold (u : MUnit) (i : Nat) (w : SliceUse) (t dur : Nat) : MUnit :=
  { u with slices := u.slices.set i { use := w, start := t, till := t + dur } }

/-- The slice in service that frees first: of free ones the one that has been free the longest, and the lowest-numbered of several
(R153). -/
def MUnit.firstFree (u : MUnit) : Option Nat :=
  u.up.foldl (fun best i => match best with
    | none => some i
    | some b => if (u.slice i).till < (u.slice b).till then some i else some b) none

/-- When the sample that a slice holds at a clock began: in a pair window the latest of its samples (R180), 0 before the first. -/
def Slice.began (s : Slice) (t : Nat) : Nat :=
  if s.every = 0 then s.start else if t < s.start then 0 else s.start + (t - s.start) / s.every * s.every

/-- The slice an urgent request may take from other work at a clock: the one whose sample started most recently, the
lowest-numbered on a tie (R167). -/
def MUnit.latest (u : MUnit) (t : Nat) : Option Nat :=
  (u.up.filter fun i => !(u.slice i).use.isUrgent).foldl (fun best i => match best with
    | none => some i
    | some b => if (u.slice b).began t < (u.slice i).began t then some i else some b) none

/-- The slice the next correction slot takes, in rotation (R173). -/
def MUnit.corrSlice (u : MUnit) : Nat := (u.up.filter (u.corrNext ≤ ·)).headD (u.up.headD 0)

/-- Serve the request that has waited longest, on the slice that frees first (R55). -/
def MUnit.serve (u : MUnit) : MUnit :=
  match u.queue, u.firstFree with
  | r :: l, some i =>
    let t := max r.at0 (u.slice i).till
    { u.hold i (.urgent r.ph) t r.dur with queue := l, urg := u.urg ++ [(r.ph, t - r.at0, r.trig)] }
  | _, _ => u

/-- Start a background sample at a clock (R153, R161); the 256th since the last correction slot makes one due (R173). -/
def MUnit.sample (u : MUnit) (i t : Nat) : MUnit :=
  match u.plan with
  | [] => u
  | (n, ts) :: l =>
    let full := 256 ≤ u.bgCount + 1
    { u.hold i .background t (occupancy ts) with
      plan := if n ≤ 1 then l else (n - 1, ts) :: l, due := t + spacing u.up.length ts,
      bgCount := if full then 0 else u.bgCount + 1, corrDue := if full then some t else u.corrDue }

/-- Start the correction slot that is due (R173). -/
def MUnit.correct (u : MUnit) (t : Nat) : MUnit :=
  let i := u.corrSlice
  { u.hold i .correction t (occupancy correctionTs) with
    corrDue := .none, corrNext := (i + 1) % 4, corrRun := u.corrRun.filter (· ≠ i) ++ [i] }

/-- The next start before a clock, none where there is none: a waiting request first, then the correction slot or the next
background sample, whichever comes first; of two at one clock the correction slot (DESIGN CHOICE, log 156). -/
def MUnit.startOne (u : MUnit) (stop : Nat) : Option MUnit :=
  match u.firstFree with
  | none => none
  | some i =>
    let free := (u.slice i).till
    if !u.queue.isEmpty then (if free ≤ stop then some u.serve else none)
    else
      let bg := if u.plan.isEmpty then stop else max u.due free
      match u.corrDue with
      | some t =>
        let c := max t (u.slice u.corrSlice).till
        if c < stop ∧ c ≤ bg then some (u.correct c) else if bg < stop then some (u.sample i bg) else none
      | none => if bg < stop then some (u.sample i bg) else none

/-- Every start before a clock, at most n of them. -/
def MUnit.startAll (stop : Nat) : Nat → MUnit → MUnit
  | 0, u => u
  | n + 1, u => match u.startOne stop with
    | none => u
    | some v => MUnit.startAll stop n v

/-- The unit with its slices as they stand at a clock, before anything that starts at it: an urgent request is served before a
background sample due in the same clock (R167). -/
def MUnit.advance (u : MUnit) (stop : Nat) : MUnit :=
  u.startAll stop (2 * u.plan.foldl (fun a p => a + p.1) 0 + u.queue.length + 2)

/-- Take what slice i does away from it at a clock: a background sample is retaken from the start of its sampling time, and every
later one moves (R168); so is a correction slot; a window sample is not (R180). -/
def MUnit.discard (u : MUnit) (i t : Nat) : MUnit :=
  let s := u.slice i
  if s.till ≤ t then u
  else match s.use with
    | .background => { u with plan := (1, s.till - s.start - 16) :: u.plan, due := t, bgCount := u.bgCount - 1 }
    | .correction => { u with corrDue := some t, corrRun := u.corrRun.filter (· ≠ i) }
    | _ => u

/-- A request waits: in arrival order, and of one engine clock in ascending phase number (R55). -/
def MUnit.wait (u : MUnit) (r : Urgent) : MUnit :=
  let after (q : Urgent) : Bool := q.at0 == r.at0 && decide (r.ph < q.ph)
  { u with queue := u.queue.filter (fun q => !after q) ++ [r] ++ u.queue.filter after }

/-- An urgent request (R55, R167): a free slice, else the most recent of other work, else the queue of four; none where it is
dropped. -/
def MUnit.request (u : MUnit) (r : Urgent) : Option MUnit :=
  let u := u.advance r.at0
  let take (v : MUnit) (i : Nat) : MUnit := { v.hold i (.urgent r.ph) r.at0 r.dur with urg := v.urg ++ [(r.ph, 0, r.trig)] }
  let queued : Option MUnit := if u.queue.length < 4 then some (u.wait r) else none
  match (if u.queue.isEmpty then u.firstFree else none) with
  | none => queued
  | some i =>
    if (u.slice i).till ≤ r.at0 then some (take u i)
    else match u.latest r.at0 with
      | some j => some (take (u.discard j r.at0) j)
      | none => queued

/-- Serve waiting requests until one of the phase is, n of them at most. -/
def MUnit.serveUntil (p : Nat) : Nat → MUnit → MUnit
  | 0, u => u
  | n + 1, u => if u.urg.any fun q => q.1 == p then u else MUnit.serveUntil p n u.serve

/-- The end of the oldest urgent conversion of a phase: the unit, by how many clocks its hold edge was later than asked (R55), and
its trigger. -/
def MUnit.finish (u : MUnit) (p : Nat) : Option (MUnit × Nat × Nat) :=
  let u := u.serveUntil p u.queue.length
  (u.urg.find? fun q => q.1 == p).map fun q => ({ u with urg := u.urg.erase q }, q.2)

/-- Start a pass at a clock over visits of so many samples at a sampling time (R161, R162). -/
def MUnit.startPlan (u : MUnit) (t : Nat) (l : List (Nat × Nat)) : MUnit :=
  let v := u.advance t
  { v with plan := l, due := max t v.due }

/-- A pair window holds every slice from a clock on, but those of urgent conversions, and pauses the sequence (R180). Its samples
go to the slices in turn, `sp` clocks apart, the first `first` clocks after the start. -/
def MUnit.window (u : MUnit) (t dur sp first : Nat) : MUnit :=
  let u := u.advance t
  let n := u.up.length
  let v := (List.range n).foldl (fun v q =>
    let i := u.up.getD q 0
    if (v.slice i).use.isUrgent && decide (t < (v.slice i).till) then v
    else
      let w := (v.discard i t).hold i .window t dur
      { w with slices := w.slices.set i { w.slice i with start := t + first + q * sp, every := n * sp } }) u
  { v with due := max v.due (t + dur), corrDue := v.corrDue.map (max (t + dur)) }

/-- Retire a slice at a clock: its sample in progress is retaken on another slice (R168, R182, R183). -/
def MUnit.retire (u : MUnit) (i t : Nat) : MUnit :=
  let s := u.slice i
  let v := { u.discard i t with sliceOk := u.sliceOk.set i false }
  match s.use with
  | .urgent p =>
    if s.till ≤ t then v
    else
      let trig := ((v.urg.reverse.find? fun q => q.1 == p).map (·.2.2)).getD 0
      let r : Urgent := { ph := p, dur := s.till - s.start, at0 := max t s.start, trig := trig }
      let w := { v with urg := (v.urg.reverse.eraseP fun (q : Nat × Nat × Nat) => q.1 == p).reverse }
      (w.request r).getD w
  | _ => v

end Sys2Proof.Machine
end

