-- ==== Sys2Proof/Machine/Phases.lean ====
section
/-! DEFINITION. Phase engines (R38-R65): set-up, ranges, the cycle boundary, triggers, protections and phase faults. -/

namespace Sys2Proof.Machine

/-! ### Set-up and ranges -/

/-- An interval rounded up to the 2.5 ns grid with coarse edges (R46). -/
def Phase.gridUp (x : Phase) (n : Nat) : Nat := if x.coarse then 20 * ceilDiv n 20 else n
/-- The separation a dead time gives, in 125 ps steps: rounded up to 2.5 ns with coarse edges (R46), and one tap at least, so that
both outputs are never high together (R43). -/
def Phase.gap (x : Phase) (n : Nat) : Nat := x.gridUp (max 1 n)
/-- DT_RISE in force (R43). -/
def Phase.dtRise (x : Phase) : Nat := x.gap (fld x.regs.dt 0 8)
/-- DT_FALL in force (R43). -/
def Phase.dtFall (x : Phase) : Nat := x.gap (fld x.regs.dt 8 8)
/-- An edge as the phase places it: on the 2.5 ns grid with coarse edges (R46; to the nearest, DEDUCED, log 146). -/
def Phase.onGrid (x : Phase) (n : Nat) : Nat := if x.coarse then (n + 10) / 20 * 20 else n
/-- MIN_PULSE in 125 ps steps (R44). -/
def Phase.minPulse (x : Phase) : Nat := 8 * fld x.regs.dt 16 10
/-- OC_PERSIST (R47). -/
def Phase.ocPersist (x : Phase) : Nat := fld x.regs.prot 8 8
/-- OCP_MA (R47). -/
def Phase.ocp (x : Phase) : Nat := fld x.regs.ocp 0 31

/-- Whether the liner has phase p (R48, R390). -/
def Dev.linerHas (d : Dev) (p : Nat) : Bool :=
  p < 4 && (d.sy.liner.st == .running || d.sy.liner.st == .test || d.sy.liner.st == .heldHigh || d.sy.liner.st == .collapsed)

/-- When a set-up write takes effect (R48): at once where no cycle runs, unless the liner runs the phase. -/
def Dev.setupNow (d : Dev) (p : Nat) : Dev :=
  let s := (d.phase p).st
  if (s = .idle ∨ s = .shed ∨ s = .faulted ∨ s = .retired) ∧ !d.linerHas p then d.applySetup p false else d

/-! ### The cycle boundary -/

/-- The law in force for a mitten's phases: BURST in SLEEP (R235), else the configured one (R53). -/
def Dev.law (d : Dev) (m : Nat) : Law :=
  if d.sy.power = .sleep then .burst
  else if d.mp m 1 = 0 then .peak else if d.mp m 1 = 2 then .pred else if d.mp m 1 = 3 then .burst else .avg

/-- Triangular dithering over one charge frame, starting at 0 and rising (R229; DESIGN CHOICE, log 23). -/
def Dev.ditherNow (d : Dev) (depth : Nat) : Int :=
  let t : Int := ((d.now - d.sy.cframe.last) % 1000000 : Nat)
  let tri := if t < 250000 then t else if t < 750000 then 500000 - t else t - 1000000
  floorDiv (depth * tri) 250000

/-- Whether dithering is off for a capture on the mitten's phase or an impedance run on its string (R235). -/
def Dev.noDither (d : Dev) (m : Nat) : Bool :=
  (List.range 8).any fun j => match d.ms.cap.getD j .none with
    | some c => decide (c.trigPhase < 64) && (d.mitE m).phases.getLsbD c.trigPhase
    | none => false

/-- Whether LIMP governs a mitten (R231): the device's, or for a shared one cause CHAIN. -/
def Dev.limps (d : Dev) (m : Nat) : Bool := d.sy.power == .limp || ((d.mitE m).shared && d.sy.limpCause.getLsbD 3)

/-- The period the lead applies (R59, R67, R229): that of the sampling synchronisation, else the frequency in force with its
dithering, held within 20 kHz-2 MHz; in LIMP min(FSW, 100 kHz) (R232). -/
def Dev.leadPeriod (d : Dev) (m : Nat) : Nat :=
  let x := d.mitten m
  if d.limps m && !d.remote m then periodOf (min (d.mp m 2) 100000).toNat else
  let depth := if d.noDither m || d.impHolds m then 0 else x.dither
  x.syncP.getD <| periodOf (clampI 20000 2000000 (x.freq + d.ditherNow depth)).toNat

/-- Offsets counted from the cycle start of the lead, which owns 0° (R59): those of the active phases are re-based to it where the
lead has changed. The lead of a follower follows that of the crown instead (R91). -/
def Dev.rebase (d : Dev) (m : Nat) : Dev :=
  if d.remote m then d
  else match d.leadOf m with
    | none => d
    | some l =>
      let o := (d.phase l).offset
      d.each (d.active m) fun p c => c.modPh p fun y => { y with offset := (y.offset + y.period - o % max 1 y.period) % max 1 y.period }

/-- At a cycle start of the lead: the period, and the offsets over the active phases, or pairs of an FSBB mitten (R62,
R72, R92). An exact half step is rounded up, away from zero (DESIGN CHOICE, log 147). -/
def Dev.leadStart (d : Dev) (m : Nat) : Dev :=
  let e := d.mitE m
  let x := d.mitten m
  let per := d.leadPeriod m
  let base := if e.shared then x.baseIx else 0
  let k (i : Nat) : Nat := if e.fsbb then i / 2 else i
  let n := max 1 (k (d.nActive m))
  let act := d.active m
  let d := (d.rebase m).each (List.range act.length) fun i c => c.modPh (act.getD i 0) fun y =>
    { y with periodNext := per, offGoal := (roundDiv ((k (base + i) * per : Nat) : Int) n).toNat % max 1 per }
  d.modMit m fun y => { y with respread := false }

/-- One step of an offset towards its goal by the shorter way, at most PERIOD/8 (R63). A move of exactly half a period has no
shorter way: it lengthens (DESIGN CHOICE, log 148). -/
def moveOffset (off goal per : Nat) : Nat :=
  if per = 0 then 0
  else
    let diff := (goal + per - off % per) % per
    let s : Int := if 2 * diff ≤ per then diff else (diff : Int) - per
    let m := clampI (-((per / 8 : Nat) : Int)) ((per / 8 : Nat) : Int) s
    (((off % per : Nat) : Int) + m + per).toNat % per

/-- The period, target and offset that take effect at a cycle boundary (R45, R59, R63, R73), on the grid of the phase's edges
(R46). The cycle that begins is longer or shorter than the period by what its offset moves (R63). -/
def Phase.newCycle (x : Phase) : Phase :=
  let per := x.onGrid x.periodNext
  let off := if x.period = per then x.offset else (roundDiv ((x.offset * per : Nat) : Int) x.period).toNat
  let new := x.onGrid (moveOffset off x.offGoal per)
  let by' := (new + per - off % max 1 per) % max 1 per
  { x with
    period := per, target := x.targetNext, offset := new, cycLen := if 2 * by' ≤ per then per + by' else by',
    ocRun := if x.trip then x.ocRun + 1 else 0, trip := false,
    senseRun := if x.badCyc then x.senseRun + 1 else 0, badCyc := false, peak := 0, cyc := satInc 64 x.cyc }

/-- The autorange decision at the end of a cycle (R52): after 64 cycles whose peaks stayed below 40 % of the more
sensitive range's full scale, that range, if its full scale is not below OCP_MA. The cycles count whether or not AUTORANGE is
set. -/
def Dev.autorange (d : Dev) (p : Nat) : Dev :=
  let x := d.phase p
  if 3 ≤ x.range then d
  else
    let fs := d.fullScale p (x.range + 1)
    let low := decide (100 * (x.peak : Int) < 40 * fs)
    let run := if low then x.lowRun + 1 else 0
    d.modPh p fun y => { y with
      lowRun := min 64 run,
      rangeNext := if y.autorange && 64 ≤ run && 64 ≤ y.cyc && decide ((y.ocp : Int) ≤ fs) then y.range + 1 else y.rangeNext }

/-- The members swap control switches and the loop restarts (R77): at the first cycle boundary of an active member in
the zero hold, with the zero target in force and its current below 2 % of I_LIMIT. A lend edge soft-starts in its new direction
from the measured voltage (R118). -/
def Dev.swapRule (d : Dev) (m p : Nat) : Dev :=
  let x := d.mitten m
  let y := d.phase p
  if x.dir ≠ .none ∧ y.target = 0 ∧ (y.sample.natAbs : Int) * 100 < 2 * d.iLimit m then
    let e := d.mitE m
    let v := d.endVp (if x.rev then e.toNode else e.fromNode)
    (d.each (d.active m) fun q c => c.modPh q fun z => { z with revSw := !x.rev }).modMit m fun z =>
      let z := { z with rev := !z.rev, dir := .none, integ := 0, iCmd := 0, pub := 0 }
      if z.dLend then { z with st := .softstart, vRamp := v * 1000000, iRamp := 0 } else z
  else d

/-- What a phase does in a cycle (R53, R70): both outputs low, PWMH held on, or switching with PWMH or PWML as control switch. -/
inductive LegUse where
  | low | held | high | lowSide
  deriving DecidableEq, Repr

/-- The use of an FSBB leg (R70), by mode, direction and phase number. -/
def legUse (mode : Nat) (rev : Bool) (p : Nat) : LegUse :=
  let inLeg := (p % 2 == 0) != rev
  if mode == 0 then (if inLeg then .high else .held)
  else if mode == 2 then (if inLeg then .held else .lowSide)
  else if inLeg then .high else .lowSide

/-- Whether a mitten converts as a buck in the direction and mode in force (R53). -/
def Dev.buckLike (d : Dev) (m : Nat) : Bool :=
  let t := (d.mitE m).topo
  t == 1 || (t == 3 && !(d.mitten m).rev) || (t == 4 && (d.mitten m).fsbb != 2)

/-- The use of a phase in its next cycle (R53, R70): PWMH is the control switch in BUCK, BOOST and the buck direction of BIDIR,
PWML in its boost direction. STOP of the crown holds a follower's members low (R357). -/
def Dev.use (d : Dev) (m p : Nat) : LegUse :=
  let t := (d.mitE m).topo
  let x := d.mitten m
  if !x.looping || x.st == .standby || (x.stopBlk && d.remote m) then .low
  else if t == 4 then legUse x.fsbb (d.phase p).revSw p
  else if t == 3 && (d.phase p).revSw then .lowSide else .high

/-- SLOPE in force (R53): as MITTEN_CONFIG set it, else the default of the direction and mode in force. -/
def Dev.slope (d : Dev) (m : Nat) : Int :=
  let e := d.mitE m
  let rev := (d.mitten m).rev
  (look 0x101 (d.mitten m).cfg).getD
    (slopeDefault (d.buckLike m) (d.pw.map.nominal2 (if rev then e.toNode else e.fromNode))
      (d.pw.map.nominal2 (if rev then e.fromNode else e.toNode)) e.lNom)

/-- The phase whose sense regulates a phase: itself, or the even one of its pair in an FSBB mitten (R70). -/
def Dev.regSense (d : Dev) (m p : Nat) : Nat := if (d.mitE m).fsbb then p / 2 * 2 else p

/-- What the prediction of a phase is made of (R53): the last valid sample, the intervals emitted, the voltages of the input and the
output, and L_NOM x L_TRIM in 0.01 nH. -/
def Dev.predInputs (d : Dev) (m p : Nat) : List Int :=
  let x := d.mitten m
  let e := d.mitE m
  let y := d.phase p
  [(d.phase (d.regSense m p)).lastOk, y.onTime, y.lowTime, d.endV (if x.rev then e.toNode else e.fromNode),
   d.endV (if x.rev then e.fromNode else e.toNode), e.lNom * d.mp m 0x105]

/-- What a law measured in its cycle, twice (R53): AVG the sum of its samples at T0 and T1, the others twice that at T0. -/
def Phase.seen2 (x : Phase) (l : Law) : Int := if l = .avg then x.sample + x.sampleB else 2 * x.sample

/-- What a law forms a duty from (R44, R53): its code, the target, its samples, the inputs of the prediction with the intervals that
were actually emitted, the period, SLOPE, KP and KI. -/
def Dev.lawInputs (d : Dev) (m p : Nat) : List Int :=
  [d.mp m 1, (d.phase p).target, (d.phase (d.regSense m p)).seen2 (d.law m)] ++ d.predInputs m p ++ [((d.phase p).period : Int), d.slope m, d.mp m 0x103, d.mp m 0x104]

/-- The duty of one cycle (0.1 %), none in an idle BURST cycle, and the pulses of the burst so far (R53): BURST emits BURST_DUTY
while the TO voltage is below the band, at most BURST_MAX pulses at a time; the other laws form a duty the spec gives no
arithmetic for (free, log 6), under the MAX_DUTY of PEAK and PRED. -/
def Dev.lawDuty (d : Dev) (m p : Nat) : Option Nat × Nat :=
  let x := d.mitten m
  let y := d.phase p
  let free := Config.freeDuty d.freeIx (d.lawInputs m p) % 1001
  match d.law m with
  | .burst =>
    let v := d.endV (if x.rev then (d.mitE m).fromNode else (d.mitE m).toNode)
    let on := if y.burstN = 0 then decide (v < x.vSet - d.mp m 0x106)
      else decide (v < x.vSet) && decide ((y.burstN : Int) < d.mp m 0x108)
    if on then (some (d.mp m 0x107).toNat, y.burstN + 1) else (none, 0)
  | .avg => (some free, 0)
  | _ => (some (min free (d.mp m 0x102).toNat), 0)

/-- An interval as the port emits it: none shorter than MIN_PULSE (R44). -/
def Phase.pulse (x : Phase) (n : Nat) : Nat := if n < x.minPulse then 0 else n

/-- The intervals a phase emits in a cycle (R43, R44, R46, R70): the control switch is on for the duty, the other output for what
the dead times leave; each interval asked for that is shorter than MIN_PULSE stays low and is counted. A leg that is held on drops
PWMH once per cycle with FSBB_REFRESH. -/
def Phase.emit (x : Phase) (u : LegUse) (duty : Option Nat) (burst : Nat) (law : Law) (refresh : Bool) : Phase :=
  let gaps := x.dtRise + x.dtFall
  let ctl := x.onGrid (duty.getD 0 * x.cycLen / 1000)
  let rest := x.cycLen - ctl - gaps
  let drop := x.gridUp x.minPulse
  let (high, low) : Nat × Nat := match u with
    | .low => (0, 0)
    | .held => if refresh then (x.cycLen - drop - gaps, drop) else (x.cycLen, 0)
    | .high => if duty.isNone then (0, 0) else (ctl, rest)
    | .lowSide => if duty.isNone then (0, 0) else (rest, ctl)
  let cut (n : Nat) : Nat := b2n (decide (0 < n) && decide (n < x.minPulse))
  { x with duty := duty.getD 0, burstN := burst, law := law, onTime := x.pulse high, lowTime := x.pulse low,
           riseGap := x.dtRise, fallGap := x.dtFall, lowFirst := u == .lowSide,
           suppressed := min 255 (x.suppressed + cut high + cut low) }

/-- A cycle of a phase that the liner drives (R390, R393): 100 kHz, the passed phases or pairs spread evenly over 360°, PEAK control
through the protection comparator at the level of the hardware voltage loop, which no rule gives, up to LINER_I (free, log 6), with
the reset dead times and MIN_PULSE; the output leg of a pair stays on with its refresh pulse. -/
def Dev.linerCycle (d : Dev) (p at0 : Nat) : Dev :=
  let l := d.sy.liner
  let step := if Config.linerPairs then 2 else 1
  let on := (List.range (4 / step)).filter fun i => l.drives (step * i)
  let top := (floorDiv (d.sy.linerI * 1023) 1000000).toNat
  let see : List Int := [d.sy.linerRef, d.endV (.bus 0)]
  let u : LegUse := if Config.linerPairs && p % 2 == 1 then .held else .high
  (d.modPh p fun x =>
    let y := { x with regs := {}, range := 0, period := 80000, cycLen := 80000, offset := on.idxOf (p / step) * 80000 / max 1 on.length,
                      trip := false, cycAt := 8 * d.now + at0 }
    { y.emit u (some (Config.freeDuty d.freeIx see % 1001)) 0 .peak true with
      regs := x.regs, code := Config.freeDuty (d.freeIx + 1) see % (top + 1) }).tickFree.tickFree

/-- PWM_CYCLE_BOUNDARY (R45): set-up, range, period, target and offset take effect; the lead re-spreads; a pending
direction change swaps; the law forms the next cycle. It falls `at0` steps of 125 ps after the last tick. A phase taken out of
service ends its last cycle (R62, R86); one that the liner drives takes a cycle of the liner (R393). -/
def execPwmCycleBoundary (ph : Fin 64) (s : State) (at0 : Nat := 0) : Host.Outcome State Fault Refusal :=
  s.onDev fun d =>
    if (d.phase ph).st ≠ .active then
      (if d.sy.liner.drives ph then d.linerCycle ph at0 else d.modPh ph fun x => { x.low with trip := false })
    else match d.pw.map.mitOf ph with
      | none => d
      | some m =>
        let d := (d.autorange ph).applySetup ph true
        let x := d.mitten m
        let shared := (d.mitE m).shared && d.ln.chn.st == .formed
        let lead := d.leadOf m == some ph.val
        let due := if shared && x.respread then decide (x.switchTick ≤ d.sy.tick.count)
          else x.respread || d.leadPeriod m != (d.phase ph).periodNext
        let d := d.when (lead && due) fun e => e.leadStart m
        let d := (d.modPh ph fun y => { y.newCycle with revSw := x.rev, cycAt := 8 * d.now + at0 }).swapRule m ph
        let (duty, burst) := d.lawDuty m ph
        let pred := Config.freePrediction d.freeIx (d.predInputs m ph)
        (d.modPh ph fun y =>
          { y.emit (d.use m ph) duty burst (d.law m) (d.mp m 19 == 1) with pred := pred }).tickFree

/-! ### Triggers and samples -/

/-- The reference event and offset (2.5 ns) of a trigger (R53, R54): those of the law in force, or the fields of the trigger; code 0
is an unused trigger. -/
def Phase.trigger (x : Phase) (t : Nat) : Nat × Int :=
  let free (w : Word) : Nat × Int := (fld w 0 3, (BitVec.ofNat 10 (fld w 8 10)).toInt)
  match t with
  | 0 => (if x.law = .peak ∨ x.law = .pred then 1 else 3, 0)
  | 1 => if x.law = .avg then (4, 0) else free x.regs.t1
  | 2 => free x.regs.t2
  | _ => free x.regs.t3

/-- The instant of a reference event in the running cycle, in steps of 125 ps from its start (R54): none where it does not occur,
in a suppressed pulse or an idle BURST cycle. The control switch is on first (DEDUCED, log 146). -/
def Phase.eventAt (x : Phase) (code : Nat) : Option Nat :=
  let rise := if x.lowFirst then x.fallGap + x.lowTime + x.riseGap else x.riseGap
  let lowRise := if x.lowFirst then x.fallGap else x.riseGap + x.onTime + x.fallGap
  if code = 1 then (if x.law = .burst ∧ x.onTime = 0 ∧ x.lowTime = 0 then none else some 0)
  else if code = 2 then (if x.onTime = 0 then none else some (rise + x.onTime))
  else if code = 3 then (if x.onTime = 0 then none else some (rise + x.onTime / 2))
  else if code = 4 then (if x.lowTime = 0 then none else some (lowRise + x.lowTime / 2))
  else if code = 5 then (if x.lowTime = 0 then none else some (lowRise + x.lowTime))
  else none

/-- Whether a trigger fires in the running cycle: its instant lies in it (R54). In GAUNTLET no cycle runs and the triggers that
serve the checks fire (DEDUCED, log 146). -/
def Phase.fires (x : Phase) (t : Nat) : Bool :=
  x.st == .gauntlet ||
  match x.eventAt (x.trigger t).1 with
  | none => false
  | some a => let i : Int := a + 20 * (x.trigger t).2
    decide (0 ≤ i) && decide (i < x.cycLen)

/-- TRIG_SAMPLE (R47). -/
def Phase.trigSample (x : Phase) : Nat := fld x.regs.prot 24 6

/-- A value at a trigger as the law takes it (R53): T0, and T1 under AVG; the other triggers are free ones it does not use. -/
def Phase.atTrigger (x : Phase) (t : Nat) (v : Int) : Phase :=
  if t = 0 then { x with sample := v } else if t = 1 ∧ x.law = .avg then { x with sampleB := v } else x

/-- Drop a trigger (R55): counted for the phase and its unit; the law uses its prediction. -/
def Dev.dropTrigger (d : Dev) (p t : Nat) : Dev :=
  (d.modPh p fun x => { x.atTrigger t x.pred with missed := satInc 255 x.missed }).modMu (p / 4) fun y =>
    { y with dropped := satInc 255 y.dropped }

/-- SAMPLE_TRIGGER (R54, R55): a trigger whose event does not occur, or whose instant lies outside the cycle, is counted as
skipped, and the law takes its prediction there; the request, made at an engine clock of device time, takes a slice, waits in the
queue of four, or is dropped. -/
def execSampleTrigger (ph : Fin 64) (trig : Fin 4) (clk : Nat) (s : State) : Host.Outcome State Fault Refusal :=
  s.onDev fun d =>
    let k := ph.val / 4
    let x := d.phase ph
    if (x.st ≠ .active ∧ x.st ≠ .gauntlet) ∨ (x.trigger trig).1 = 0 then d
    else if !x.fires trig then d.modPh ph fun y => { y.atTrigger trig y.pred with skipped := satInc 255 y.skipped }
    else
      let u := d.unit k
      if u.corr = .off then d.dropTrigger ph trig
      else match u.request { ph := ph, dur := occupancy x.trigSample, at0 := clk, trig := trig } with
        | some v => d.modMu k fun _ => v
        | none => d.dropTrigger ph trig

/-- A sense value from a ball voltage of num / den volts in the converter; a single-ended input is converted against 0.9 V
(R27, R152). -/
def SenseEntry.value (e : SenseEntry) (num : Int) (den : Nat) : Int :=
  let v := if e.mode = 2 then 10 * num + 9 * (den : Int) else 10 * num
  roundDiv ((if e.invert then -v else v) * e.fsEng) (10 * den) + e.offset

/-- URGENT_CONVERSION_DONE (R49-R52, R55, R70): the oldest conversion of the phase ends; the engine takes the sample, corrected
where its request had to wait, or its prediction where the sample is marked or the reference has not settled. The sense of the
odd phase of an FSBB pair is the cross-check. -/
def execUrgentConversionDone (ph : Fin 64) (code : Int) (cmBad : Bool) (s : State) : Host.Outcome State Fault Refusal :=
  s.onDev fun d =>
    let k := ph.val / 4
    match (d.unit k).finish ph with
    | none => d
    | some (u, late, trig) =>
      let d := d.modMu k fun _ => u
      let x := d.phase ph
      let e := d.pw.map.senseE (phIx ph)
      let v := e.value (clampI (-8192) 8191 code) (8192 * 2 ^ x.range)
      let use := d.ms.ref.settled && !x.mark
      let seen := match d.pw.map.mitOf ph with
        | some m => if late = 0 then v else Config.freeCorrected d.freeIx ([(late : Int), v] ++ d.predInputs m ph)
        | none => v
      let val := if use then seen else x.pred
      let mate := mateOf ph
      let fsbb := match d.pw.map.mitOf ph with
        | some m => (d.mitE m).fsbb
        | none => false
      let other := if trig = 1 then (d.phase mate).sampleB else (d.phase mate).sample
      let cross := fsbb && use && (trig == 0 || (trig == 1 && x.law == .avg)) && (d.phase mate).st == .active &&
        decide (d.fullScale ph x.range < 10 * ((val - other).natAbs : Int))
      let bad := cmBad || decide (11 * 8192 * 2 ^ x.range < 10 * code.natAbs)
      let ovr := decide (90 * d.fullScale ph x.range < 100 * (v.natAbs : Int))
      let up := x.autorange && use && ovr && 0 < x.range && 64 ≤ x.cyc &&
        decide ((x.ocp : Int) ≤ d.fullScale ph (x.range - 1))
      let d := d.modPh ph fun y => { y.atTrigger trig val with
        lastOk := if use then seen else y.lastOk, late := late, peak := if use then max y.peak v.natAbs else y.peak, badCyc := y.badCyc || bad || cross,
        rangeNext := if up then y.range - 1 else y.rangeNext }
      (d.when cross fun c => c.modPh mate fun y => { y with badCyc := true }).tickFree

/-! ### Protections and faults -/

/-- BLANK (R47), in engine clocks. -/
def Phase.blank (x : Phase) : Nat := fld x.regs.prot 0 8

/-- The intervals of a cycle cut off by a trip at engine clock n after the cycle boundary: what was emitted until then (R44,
R57). -/
def Phase.cutAt (x : Phase) (n : Nat) : Phase :=
  let t := 20 * n
  let high (from' len : Nat) : Nat := min len (t - from')
  if x.lowFirst then
    { x with lowTime := high x.fallGap x.lowTime, onTime := high (x.fallGap + x.lowTime + x.riseGap) x.onTime }
  else { x with onTime := high x.riseGap x.onTime, lowTime := high (x.riseGap + x.onTime + x.fallGap) x.lowTime }

/-- Whether the comparator of a phase sees a crossing (R51, R57): a negative one in BIDIR and FSBB mittens only; none for BLANK
after a rising edge, nor for the greater of BLANK and 200 ns after the boundary of a range change. A phase of no mitten, which the
liner runs as a buck (R392), sees a positive one (DEDUCED, log 145). -/
def Dev.tripSeen (d : Dev) (p : Nat) (t : TripAt) : Bool :=
  let x := d.phase p
  let both := match d.pw.map.mitOf p with
    | some m => let k := (d.mitE m).topo; k == 3 || k == 4
    | none => false
  (both || !t.negative) && decide (x.blank ≤ t.edge) && !(x.mark && decide (t.cycle < max x.blank 80))

/-- COMPARATOR_TRIP (R51, R57): outside blanking, both outputs low until the next cycle start; the trip is counted. A trip while
the outputs are already held low changes nothing. -/
def execComparatorTrip (ph : Fin 64) (s : State) (trip : TripAt := {}) : Host.Outcome State Fault Refusal :=
  s.onDev fun d =>
    let x := d.phase ph
    if x.st = .unpowered ∨ x.trip ∨ !d.tripSeen ph trip then d
    else (d.when (!d.sy.liner.drives ph) fun e => e.rethreshold ph).modPh ph fun y => { y.cutAt trip.cycle with trip := true, ocTrips := satInc 255 y.ocTrips }

/-- PHASE_OVERCURRENT (R57, R61): OC_PERSIST consecutive tripped cycles, the running one included. -/
def execPhaseOvercurrent (ph : Fin 64) (s : State) : Host.Outcome State Fault Refusal :=
  s.onDev fun d =>
    let x := d.phase ph
    if d.inService ph ∧ x.st ≠ .gauntlet ∧ x.st ≠ .shed ∧ x.ocPersist ≤ x.ocRun + b2n x.trip then
      ((d.fault evPhaseOvercurrent (some ph.val) []).phaseTransient ph evPhaseOvercurrent).modPh ph fun y =>
        { y with ocRun := 0 }
    else d

/-- A driver fault or a failed sense check inside a gauntlet (R58, R82): its retry entry is made now, the phase does not
pass, and it enters FAULTED when the gauntlet ends. -/
def Dev.gauntletTransient (d : Dev) (p ev : Nat) : Dev :=
  let x := d.phase p
  if !x.gntPass then d
  else if x.lad.spent d.now then d.retirePhase p ev
  else d.modPh p fun y => { y with gntPass := false, lad := y.lad.enter d.now ev }

/-- PHASE_DRIVER_FAULT (R58): the latch acts in every state of a powered quad (R40); the rest follows the phase state; a
phase of the liner stays low until the next liner start (R393). -/
def execPhaseDriverFault (ph : Fin 64) (s : State) : Host.Outcome State Fault Refusal :=
  s.onDev fun d =>
    let x := d.phase ph
    if x.st = .unpowered ∨ !d.pw.quadOn.getD (ph.val / 4) false then d
    else
      let d := (d.modPh ph fun y => { y.low with flt := true, latch := true }).fault evPhaseDriverFault (some ph.val) []
      if x.st = .gauntlet then d.gauntletTransient ph evPhaseDriverFault
      else if d.inService ph then d.phaseTransient ph evPhaseDriverFault
      else if ph.val < 4 && d.sy.liner.st != .off then
        d.onSy fun y => { y with liner := { y.liner with fltLow := y.liner.fltLow ||| (1#4 <<< ph.val) } }
      else d

/-- PHASE_SENSE_FAULT (R61, R70): 16 consecutive bad cycles; an FSBB cross-check faults both phases of the pair. -/
def execPhaseSenseFault (ph : Fin 64) (s : State) : Host.Outcome State Fault Refusal :=
  s.onDev fun d =>
    let bad (e : Dev) (p : Nat) : Bool :=
      let x := e.phase p
      e.inService p && x.st != .gauntlet && 16 ≤ x.senseRun + b2n x.badCyc
    let one (e : Dev) (p : Nat) : Dev :=
      ((e.fault evPhaseSenseFault (some p) []).phaseTransient p evPhaseSenseFault).modPh p fun y => { y with senseRun := 0 }
    let fsbb := match d.pw.map.mitOf ph with
      | some m => (d.mitE m).fsbb
      | none => false
    if bad d ph then (one d ph).when (fsbb && bad d (mateOf ph)) fun e => one e (mateOf ph) else d

/-- A fault of all four phases of a quad (R61, R239): a transient entry for each phase that is not FAULTED, RETIRED or
UNPOWERED; an IDLE phase enters FAULTED too. Phases whose retries are used up retire together (R257). -/
def Dev.quadFault (d : Dev) (quad ev : Nat) : Dev :=
  let l := List.range' (4 * quad) 4
  let out := l.filter fun p => ((d.phase p).st == .idle || d.inService p) && (d.phase p).lad.spent d.now
  (d.each l fun p e =>
    if out.contains p then e.enterRetired p ev
    else if (e.phase p).st = .idle then e.modPh p fun y => { y with st := .faulted, lad := y.lad.enter e.now ev, rejoin := false }
    else e.phaseTransient p ev).declareAll (out.map agPhase)

/-- QUAD_SUPPLY_FAULT (R61): all four phases enter FAULTED. -/
def execQuadSupplyFault (quad : Fin 16) (s : State) : Host.Outcome State Fault Refusal :=
  s.onDev fun d =>
    if !d.pw.quadOn.getD quad false then d
    else ((d.onPw fun p => { p with quadBad := p.quadBad.set quad true }).fault evQuadSupplyFault (some quad.val) []).quadFault
      quad evQuadSupplyFault

/-- The retry of a FAULTED phase starts: it counts from now, the latch is released, and the rejoin check runs (R58, R61,
R238). -/
def Dev.phaseRetry (d : Dev) (p : Nat) : Dev :=
  d.modPh p fun x => { x with rejoin := true, latch := false, lad := x.lad.start d.now }

/-- Whether the retry of a phase waits (R61): for its quad supply, or after a driver fault for FLT to become inactive. -/
def Dev.retryWaits (d : Dev) (p : Nat) : Bool :=
  let x := d.phase p
  d.pw.quadBad.getD (p / 4) false || (x.flt && x.lad.cause == evPhaseDriverFault)

/-- The expiry of a phase's backoff (R61), with FLT as the pin then stands: the retry starts, which wakes from SLEEP (R234), or
waits for a later one (log 93). -/
def Dev.phaseExpiry (d : Dev) (p : Nat) (flt : Bool) : Dev :=
  let x := d.phase p
  if x.st = .faulted ∧ !x.rejoin then
    let d := d.modPh p fun y => { y with flt := flt }
    if d.retryWaits p then d.modPh p fun y => { y with lad := { y.lad with backoff := none } } else (d.wakeSleep 6).phaseRetry p
  else d

/-- QUAD_SUPPLY_RECOVERY (R61): the retries that waited for the supply start. -/
def execQuadSupplyRecovery (quad : Fin 16) (s : State) : Host.Outcome State Fault Refusal :=
  s.onDev fun d =>
    let d := d.onPw fun p => { p with quadBad := p.quadBad.set quad false }
    d.each (List.range' (4 * quad.val) 4) fun p e =>
      let x := e.phase p
      if x.st = .faulted ∧ x.lad.backoff.isNone ∧ !x.rejoin ∧ !e.retryWaits p then e.phaseRetry p else e

/-- A member that waited for its calibration leaves IDLE for the gauntlet that is to test it (R46, R82). -/
def Dev.joinTest (d : Dev) (p : Nat) : Dev :=
  match d.pw.map.mitOf p with
  | none => d
  | some m => match (d.mitten m).gnt with
    | none => d
    | some g =>
      if g.step = 0 && g.members.contains p && ((d.phase p).st == .idle || (d.phase p).st == .faulted) then
        d.modPh p Phase.beginTest
      else d

/-- DELAY_LINE_CALIBRATION (R46): the lines of a powered quad are calibrated; a line that fails places coarse edges. -/
def execDelayLineCalibration (quad : Fin 16) (fails : BitVec 4) (s : State) : Host.Outcome State Fault Refusal :=
  s.onDev fun d =>
    if !d.pw.quadOn.getD quad false then d
    else d.each (List.range 4) fun i e =>
      let p := 4 * quad.val + i
      let f := fails.getLsbD i
      let was := (e.phase p).coarse
      ((e.modPh p fun x => { x with calOk := true, coarse := f, calAt := d.now, calTemp := (d.unit quad).dieT }).when (f && !was) fun c =>
        c.raise evDlyCalFail (some p) []).joinTest p

/-- PHASE_REJOIN_CHECK_END (R61): the phase rejoins where the check passes; a failed check is a further transient
detection. Outside a running mitten the phase returns to IDLE; an FSBB phase without its mate waits in SHED (R72). -/
def execPhaseRejoinCheckEnd (ph : Fin 64) (maxMa : Nat) (s : State) (flt : Bool := false) : Host.Outcome State Fault Refusal :=
  s.onDev fun d =>
    let x := d.phase ph
    if x.st ≠ .faulted ∨ !x.rejoin then d
    else
      let thr := match d.pw.map.mitOf ph with
        | some m => d.mp m 16
        | none => 1
      let ok := !flt && !d.pw.quadBad.getD (ph.val / 4) false && (decide ((maxMa : Int) < thr) || (d.pw.map.mitOf ph).isNone)
      let d := d.modPh ph fun y => { y with rejoin := false, flt := flt, latch := flt }
      if !ok then
        (if x.lad.spent d.now then d.retirePhase ph x.lad.cause
         else d.modPh ph fun y => { y with lad := y.lad.enter d.now x.lad.cause })
      else match d.pw.map.mitOf ph with
        | none => d.modPh ph fun y => { y with st := .idle }
        | some m =>
          if !(d.mitten m).looping then d.modPh ph fun y => { y with st := .idle }
          else if !(d.mitE m).fsbb then (d.modPh ph fun y => { y with st := .active }).respread m
          else
            let q := mateOf ph
            if (d.phase q).st = .shed then
              ((d.modPh ph fun y => { y with st := .active }).modPh q fun y => { y with st := .active }).respread m
            else d.modPh ph fun y => { y with st := .shed }

end Sys2Proof.Machine
end

