-- ==== Sys2Proof/Machine/Mittens.lean ====
section
/-! DEFINITION. Mittens: the gauntlet (R80-R83), soft start (R84), standby findings (R85), faults (R79, R87) and the loss
of setpoints (R93). -/

namespace Sys2Proof.Machine

/-- The high-side nodes of a mitten (R81). -/
def MitEntry.highNodes (e : MitEntry) : List Node :=
  if e.topo = 2 then [e.toNode] else if e.topo = 4 then [e.fromNode, e.toNode] else [e.fromNode]

/-- The supply condition of a gauntlet (R81): the high-side nodes stand at 50 % of their V_MIN or more. -/
def Dev.supplied (d : Dev) (m : Nat) : Bool := (d.mitE m).highNodes.all fun n => decide (d.nMin n ≤ 2 * d.endV n)

/-- The high-side node of one phase (R70, R81): FROM or TO by topology, and for FSBB the node at its leg. -/
def MitEntry.highNode (e : MitEntry) (p : Nat) : Node :=
  if e.topo = 2 ∨ (e.topo = 4 ∧ p % 2 = 1) then e.toNode else e.fromNode

/-- Whether a phase may be tested now (R81). -/
def Dev.testable (d : Dev) (m p : Nat) : Bool :=
  let n := (d.mitE m).highNode p
  decide (d.nMin n ≤ 2 * d.endV n)

/-- Whether a phase is under a self-test's gauntlet (R249). -/
def Dev.selfTested (d : Dev) (p : Nat) : Bool :=
  match d.pw.map.mitOf p with
  | some m => (match (d.mitten m).gnt with | some g => g.test | none => false)
  | none => false

/-- A gauntlet finding (R83): the event with the phase number and the step, and the retirement; a self-test counts it (R249). -/
def Dev.finding (d : Dev) (p step : Nat) : Dev :=
  ((d.when (d.selfTested p) fun e => e.onSy fun y => { y with testFinds := y.testFinds + 1 }).fault evGauntletFinding (some p) (d2 p ++ d2 step)).retirePhase p evGauntletFinding

/-- Members of a gauntlet still in it. -/
def Dev.inGauntlet (d : Dev) (g : Gauntlet) : List Nat := g.members.filter fun p => (d.phase p).st = .gauntlet

/-- Whether some average of 4 consecutive samples reaches the threshold in magnitude (R82 step 1). -/
def overAvg (ithr : Int) : List Int → Bool
  | a :: b :: c :: e :: l => decide (4 * ithr ≤ ((a + b + c + e).natAbs : Int)) || overAvg ithr (b :: c :: e :: l)
  | _ => false

/-- The members that the gauntlet's current step tests (R82): all that are in it, or the one that is pulsed. -/
def Dev.underTest (d : Dev) (g : Gauntlet) : List Nat :=
  if g.step < 2 then d.inGauntlet g else (d.inGauntlet g).filter fun p => g.members[g.step - 2]? == some p

/-- Whether a gauntlet's step may run: the calibration has ended, and the high-side node of each phase it tests is supplied (R81,
R82). -/
def Dev.stepReady (d : Dev) (m : Nat) (g : Gauntlet) : Bool :=
  (g.step != 0 || g.members.all fun p => (d.phase p).calOk) && (d.underTest g).all fun p => d.testable m p

/-- The pulse of a member (R58, R82): FLT until 100 ns after its falling edge is a finding, a later FLT a driver fault. -/
def Dev.pulseResult (d : Dev) (m p at' : Nat) : Dev :=
  let d := d.modPh p fun x => { x with flt := true, latch := true }
  if (at' : Int) ≤ d.mp m 17 + 100 then d.finding p 2
  else (d.fault evPhaseDriverFault (some p) []).gauntletTransient p evPhaseDriverFault

/-- GAUNTLET_STEP (R82): the sense check, step 1, or the pulse of one member, in order; a step waits for the supply condition of
R81. -/
def execGauntletStep (mit : Fin 16) (obs : GntObs) (s : State) : Host.Outcome State Fault Refusal :=
  s.onDev fun d =>
    match (d.mitten mit).gnt with
    | none => d
    | some g =>
      if g.members.length + 2 ≤ g.step ∨ !d.stepReady mit g then d
      else
        let l := d.underTest g
        let d := d.each (d.inGauntlet g) fun p e => e.applySetup p false
        let ithr := d.mp mit 16
        let d := d.each l fun p e =>
          if g.step = 0 then
            (if (look p obs.cm).all fun v => decide (300 ≤ v) && decide (v ≤ 1500) then e
             else (e.fault evPhaseSenseFault (some p) []).gauntletTransient p evPhaseSenseFault)
          else if g.step = 1 then (if overAvg ithr ((look p obs.samples).getD []) then e.finding p 1 else e)
          else match obs.fltAt with
            | some t => e.pulseResult mit p t
            | none => e
        d.modMit mit fun x => { x with gnt := some { g with step := g.step + 1 } }

/-- Enter SOFTSTART from the measured output (R84), or RUN at once where the output is already at or above V_SET, or where
the string engine sets no target (DEDUCED, log 36). -/
def Dev.enterSoft (d : Dev) (m : Nat) : Dev :=
  let v := d.endVp (d.outNode m)
  let i := d.endVp (d.inNode m)
  let up := match d.goal m with
    | some g => decide (g.vSet ≤ v)
    | none => true
  d.modMit m fun x =>
    { x with st := if up then .run else .softstart, vRamp := v * 1000000, iRamp := 0, integ := 0, gnt := .none, iCmd := 0,
             pub := 0, dir := .none, fsbb := if (d.mitE m).fsbb then fsbbStart v i else 0, respread := true,
             freq := (d.mp m 2).toNat, dither := 0, rationWhole := false, limFrame := 0 }

/-- The members that passed, with whole pairs for FSBB; on a join a mate that is ACTIVE or waits in SHED makes a pair whole (R72,
R83). -/
def Dev.passed (d : Dev) (m : Nat) (g : Gauntlet) : List Nat :=
  let ok (p : Nat) : Bool := (d.phase p).st = .gauntlet && (d.phase p).gntPass
  (d.inGauntlet g).filter fun p =>
    let q := mateOf p
    ok p && (!(d.mitE m).fsbb || ok q || (g.join && ((d.phase q).st = .active || (d.phase q).st = .shed)))

/-- A failed gauntlet that was no retry: the mitten is STOPPED until the next start request (R69, R83); a self-test leaves its
start demands as they were (R249). -/
def Dev.gauntletStop (d : Dev) (m : Nat) (test : Bool) : Dev :=
  ((d.idleMembers m).modMit m fun x =>
    { x.clearLoop with st := .stopped, hostStop := x.hostStop || !test }).endLendOn m 8

/-- GAUNTLET_END (R83): phases that failed transiently enter FAULTED; with MIN_PHASES passed the mitten enters
SOFTSTART; a joining phase's outcome is its own, and a self-test stops (R249). Of a shared mitten a device counts the phases
that passed its own gauntlet (DESIGN CHOICE, log 185). -/
def execGauntletEnd (mit : Fin 16) (s : State) : Host.Outcome State Fault Refusal :=
  s.onDev fun d =>
    match (d.mitten mit).gnt with
    | none => d
    | some g =>
      if g.step < g.members.length + 2 then d
      else
        let pass := d.passed mit g
        let single := (d.inGauntlet g).filter fun p => (d.phase p).gntPass && !pass.contains p
        let fail := (d.inGauntlet g).filter fun p => !(d.phase p).gntPass
        let d := d.each fail fun p e => e.modPh p fun x => { x with st := .faulted, rejoin := false }
        if g.join then
          let d := d.each pass fun p e => e.modPh p fun x => { x with st := .active, gntPass := false }
          let mates := (pass.map mateOf).filter fun q => (d.mitE mit).fsbb && (d.phase q).st = .shed
          let d := d.each mates fun p e => e.modPh p fun x => { x with st := .active }
          let d := d.each single fun p e => e.modPh p fun x => { x with st := .shed, gntPass := false }
          (d.modMit mit fun x => { x with gnt := .none }).respread mit
        else if g.test then d.gauntletStop mit true
        else if (pass.length : Int) < d.mp mit 18 then
          if g.retry then d.mittenFault mit evMittenUnderstaffed []
          else (d.fault evMittenUnderstaffed (some mit.val) []).gauntletStop mit false
        else
          let d := d.each pass fun p e => e.modPh p fun x => { x with st := .active, gntPass := false }
          let d := d.each single fun p e => e.modPh p fun x => { x with st := .shed, gntPass := false }
          d.enterSoft mit

/-- GAUNTLET_NO_SUPPLY (R81): the event, and the mitten returns to STOPPED; no finding and no retry. -/
def execGauntletNoSupply (mit : Fin 16) (s : State) : Host.Outcome State Fault Refusal :=
  s.onDev fun d =>
    match (d.mitten mit).gnt with
    | none => d
    | some g =>
      if d.supplied mit then d
      else
        let d := d.raise evGauntletNoSupply (some mit.val) []
        if g.join then
          (d.each (d.inGauntlet g) fun p e => e.modPh p fun x => { x with st := x.stopSt, gntPass := false }).modMit mit
            fun x => { x with gnt := .none }
        else d.gauntletStop mit g.test

/-- Whether a soft start's ramp is complete (R84): V_SET reached, or I_SET where the string engine sets the targets. -/
def Dev.rampDone (d : Dev) (m : Nat) : Bool :=
  let x := d.mitten m
  match d.goal m with
  | none => true
  | some g =>
    decide (g.vSet ≤ d.endVp (d.outNode m)) ||
      (if g.engine then decide (g.ceil * 1000000 ≤ x.iRamp) else decide (g.vSet * 1000000 ≤ x.vRamp))

/-- SOFT_START_COMPLETE (R84): SOFTSTART to RUN. -/
def execSoftStartComplete (mit : Fin 16) (s : State) : Host.Outcome State Fault Refusal :=
  s.onDev fun d =>
    if (d.mitten mit).st = .softstart ∧ d.rampDone mit then d.modMit mit fun x => { x with st := .run }
    else d

/-- STANDBY_CURRENT_FINDING (R85): a gauntlet finding of step 1 against an ACTIVE member of a mitten in STANDBY, or of a follower
that the crown's STOP holds low, whose average has reached GNT_ITHR for 100 µs. -/
def execStandbyCurrentFinding (ph : Fin 64) (s : State) (avgMa : Nat := 0) : Host.Outcome State Fault Refusal :=
  s.onDev fun d =>
    match d.pw.map.mitOf ph with
    | none => d
    | some m =>
      if ((d.mitten m).st = .standby ∨ (d.remote m ∧ (d.mitten m).stopBlk)) ∧ (d.phase ph).st = .active ∧ d.mp m 16 ≤ avgMa then d.finding ph 1 else d

/-- A fault row of R87 against a looping mitten; while it is FAULTED the event alone (R257). -/
def Dev.mitFaultRow (d : Dev) (m ev : Nat) : Dev :=
  if (d.mitten m).looping then d.mittenFault m ev []
  else if (d.mitten m).st = .faulted then d.fault ev (some m) [] else d

/-- MITTEN_SHORT (R79): below 10 % of V_SET, or of the ramped target, in SOFTSTART or RUN. -/
def execMittenShort (mit : Fin 16) (s : State) : Host.Outcome State Fault Refusal :=
  s.onDev fun d =>
    let x := d.mitten mit
    let target := if x.st = .softstart && !x.engineSet then floorDiv x.vRamp 1000000 else x.vSet
    if (x.st = .softstart ∨ x.st = .run) ∧ 10 * d.endV (d.outNode mit) < target then d.mitFaultRow mit evMittenShort else d

/-- MITTEN_OVERVOLTAGE (R87): the output above the regulated node's V_MAX. -/
def execMittenOvervoltage (mit : Fin 16) (s : State) : Host.Outcome State Fault Refusal :=
  s.onDev fun d =>
    let n := d.outNode mit
    if d.nMax n < d.endV n then d.mitFaultRow mit evMittenOvervoltage else d

/-- MITTEN_OVERTEMP (R87): the stage temperature above T_STOP + 5 °C. -/
def execMittenOvertemp (mit : Fin 16) (s : State) : Host.Outcome State Fault Refusal :=
  s.onDev fun d =>
    match d.stageT mit with
    | none => d
    | some t => if d.mp mit 15 + 500 < t then d.mitFaultRow mit evMittenOvertemp else d

/-- MITTEN_UNDERSTAFFED (R87): fewer active phases than MIN_PHASES in RUN; the retry's case ends its gauntlet. -/
def execMittenUnderstaffed (mit : Fin 16) (s : State) : Host.Outcome State Fault Refusal :=
  s.onDev fun d =>
    if (d.mitten mit).st = .run ∧ (d.nActive mit : Int) < d.mp mit 18 then d.mitFaultRow mit evMittenUnderstaffed else d

/-- The active members of a mitten placed in SHED; each finishes its running cycle (R62, R93, R357). -/
def Dev.shedMembers (d : Dev) (m : Nat) : Dev := d.each (d.active m) fun p e => e.modPh p (·.park .shed)

/-- SETPOINT_LOSS (R93): the members of a shared mitten of a follower that has had no setpoint for 2 ticks are placed in SHED. -/
def execSetpointLoss (mit : Fin 16) (s : State) : Host.Outcome State Fault Refusal :=
  s.onDev fun d =>
    if (d.mitE mit).used && d.remote mit && decide (2 ≤ (d.mitten mit).noSet) then d.shedMembers mit else d

end Sys2Proof.Machine
end

