-- ==== Sys2Proof/Machine/Sources.lean ====
section
/-! DEFINITION. Source engines: qualification and loss (R96-R100), arbitration (R110-R113), types (R106-R109), faults
(R114), lends (R116-R119) and the path switches (R14, R15, R248). -/

namespace Sys2Proof.Machine

/-! ### Qualification and loss -/

/-- Whether a source is qualified: AVAILABLE, SELECTED or RIDE_THROUGH (R96). -/
def Source.qualified (x : Source) : Bool := x.st == .available || x.st == .selected || x.st == .rideThrough

/-- The power at the last I_MPP where a scan is cut off (R111): the mean of its running step. -/
def Source.cutScan (x : Source) : Source :=
  { x with scan := .none, mppPrev := if x.scan.isSome && decide (0 < x.pN) then floorDiv x.pAcc x.pN else x.mppPrev }

/-- Lose a qualified source (R99): ABSENT with SOURCE_LOST; a loss of a selected one starts the selection change and an
arbitration at the next charge frame (R113). -/
def Dev.loseSource (d : Dev) (k : Nat) : Dev :=
  let x := d.source k
  if !x.qualified then d
  else
    let sel := x.st = .selected || x.st = .rideThrough
    let d := d.modSrc k fun y => { y.cutScan with
      st := .absent, selAt := .none, warming := false, surge := false, pendClose := false, ripBad := 0 }
    (d.when sel fun e => ((e.outgoing k).onPw fun p => { p with arbDue := true }).wakeSleep 6).raise evSourceLost (some (srcNode k)) []

/-- SOURCE_QUALIFIED (R98): T_STABLE inside the window with the ripple below its limit. -/
def execSourceQualified (src : Fin 12) (s : State) : Host.Outcome State Fault Refusal :=
  s.onDev fun d =>
    let x := d.source src
    let v := d.nodeV (.src src)
    if x.st = .qualifying ∧ d.sp src 1 ≤ v ∧ v ≤ d.sp src 2 then
      (d.modSrc src fun y => { y with st := .available, ripBad := 0 }).raise evSourceQualified (some (srcNode src)) []
    else d

/-- SOURCE_UNDERVOLTAGE_LOSS (R99): RIDE_THROUGH for a SELECTED source with T_RIDE, else ABSENT. -/
def execSourceUndervoltageLoss (src : Fin 12) (s : State) : Host.Outcome State Fault Refusal :=
  s.onDev fun d =>
    let x := d.source src
    let v := d.nodeV (.src src)
    if (x.st = .available ∨ x.st = .selected) ∧ v < d.sp src 1 - d.sp src 3 then
      (if x.st = .selected ∧ 0 < d.sp src 6 then d.modSrc src fun y => { y.noRations with st := .rideThrough }
       else d.loseSource src)
    else d

/-- RIPPLE_LOSS (R99): ten charge frames above RIPPLE_MAX. -/
def execRippleLoss (src : Fin 12) (s : State) : Host.Outcome State Fault Refusal :=
  s.onDev fun d => if 0 < d.sp src 5 ∧ 10 ≤ (d.source src).ripBad then d.loseSource src else d

/-- RIDE_THROUGH_EXPIRY (R99). -/
def execRideThroughExpiry (src : Fin 12) (s : State) : Host.Outcome State Fault Refusal :=
  s.onDev fun d => if (d.source src).st = .rideThrough then d.loseSource src else d

/-! ### Faults -/

/-- A transient fault row of R114: the reaction, or the event alone while the source is FAULTED (R257). -/
def Dev.srcFaultRow (d : Dev) (k ev : Nat) : Dev :=
  let st := (d.source k).st
  if st = .disabled ∨ st = .retired then d
  else if st = .faulted then d.fault ev (some (srcNode k)) []
  else d.sourceFault k ev true

/-- Above QUAL_V_HI + WIN_HYST (R100). -/
def Dev.overHigh (d : Dev) (k : Nat) : Bool := decide (d.sp k 2 + d.sp k 3 < d.nodeV (.src k))

/-- SOURCE_OVERVOLTAGE (R100): the fault, or for an ALTERNATOR the event and the surge hold. -/
def execSourceOvervoltage (src : Fin 12) (s : State) : Host.Outcome State Fault Refusal :=
  s.onDev fun d =>
    let x := d.source src
    if !d.overHigh src then d
    else if (d.srcE src).type = 3 ∧ x.st ≠ .faulted ∧ x.st ≠ .retired ∧ x.st ≠ .disabled then
      (if x.surge then d else (d.modSrc src fun y => { y with surge := true }).fault evSourceOvervoltage
        (some (srcNode src)) [])
    else d.srcFaultRow src evSourceOvervoltage

/-- ALTERNATOR_SURGE_HOLD_EXPIRY (R100): the reaction of R114 without a second event. -/
def execAlternatorSurgeHoldExpiry (src : Fin 12) (s : State) : Host.Outcome State Fault Refusal :=
  s.onDev fun d => if (d.source src).surge && d.overHigh src then d.sourceFault src evSourceOvervoltage false else d

/-- SOURCE_OVERCURRENT (R114). -/
def execSourceOvercurrent (src : Fin 12) (s : State) : Host.Outcome State Fault Refusal :=
  s.onDev fun d =>
    if 110 * d.sp src 7 < 100 * d.nodeI (.src src) then d.srcFaultRow src evSourceOvercurrent else d

/-- SOURCE_REVERSE (R114): the switch ON, outside a lend. -/
def execSourceReverse (src : Fin 12) (s : State) : Host.Outcome State Fault Refusal :=
  s.onDev fun d =>
    if (d.switch src).mode = .on ∧ (d.source src).st ≠ .lending ∧ d.nodeI (.src src) < -((d.srcE src).irev : Int) then
      d.srcFaultRow src evSourceReverse else d

/-- SOURCE_SENSE_FAULT (R114, R158, R172): the voltage or the current tap, whose latches the state counts. -/
def execSourceSenseFault (src : Fin 12) (s : State) : Host.Outcome State Fault Refusal :=
  s.onDev fun d =>
    let bad (i : Nat) : Bool := (d.ms.tap.getD i {}).senseBad
    if bad (2 * src) || bad (2 * src + 1) then
      ((d.modTap (2 * src) Tap.taken).modTap (2 * src + 1) Tap.taken).srcFaultRow src evSourceSenseFault
    else d

/-- Current through an OFF source switch that no mitten draws: above 2 % of I_RATED (R114). The mittens of a shared terminal draw
through the member whose switch is not OFF (R16). -/
def Dev.srcLeak (d : Dev) (k : Nat) : Bool :=
  let other := (d.pw.map.group k).any fun i => i != k && (d.switch i).mode != .off
  let drawn := if other then 0 else (d.drawers k).foldl (fun a m => a + d.inputCurrent m) 0
  (d.switch k).mode == .off && decide (pctOf 2 (d.srcE k).iRated < ((d.nodeI (.src k) - drawn).natAbs : Int))

/-- SOURCE_SWITCH_FAULT (R114): permanent; every mitten at the terminal stops. -/
def execSourceSwitchFault (src : Fin 12) (s : State) : Host.Outcome State Fault Refusal :=
  s.onDev fun d =>
    let x := d.source src
    if x.st ≠ .disabled ∧ x.st ≠ .retired ∧ x.st ≠ .lending ∧ d.srcLeak src then
      (((d.fault evSourceSwitchFault (some (srcNode src)) []).stopAt src).modSrc src fun y =>
        { y with switchFlt := true }).retireSource src evSourceSwitchFault
    else d

/-- SWITCH_OPEN (R248): an ON tie whose terminal and bus differ by more than VCLOSE while the current stays below IREV;
a transient fault of the port, switch OFF. -/
def execSwitchOpen (port : Fin 28) (s : State) : Host.Outcome State Fault Refusal :=
  s.onDev fun d =>
    let e := d.pw.map.portE port
    let n : Node := if port.val < 12 then .src port else .str (port.val - 12)
    let live := if port.val < 12 then (let st := (d.source port).st
        st != .disabled && st != .retired && st != .faulted)
      else (let st := (d.string (port.val - 12)).st
        st != .disabled && st != .retired && st != .faulted && st != .absent)
    if live && e.type != 0 && e.place == 1 && (d.switch port).mode == .on &&
        decide (e.vClose < (d.nodeV n - d.nodeV (.bus e.tieBus)).natAbs) && decide ((d.nodeI n).natAbs < e.irev) then
      (d.portTransient port evSwitchOpen).modSw port fun x => { x with openFlt := true }
    else d

/-! ### Ideal diodes -/

/-- IDEAL_DIODE_TURN_OFF (R14): an IDEAL_DIODE pair stops conducting. -/
def execIdealDiodeTurnOff (port : Fin 28) (s : State) : Host.Outcome State Fault Refusal :=
  s.onDev fun d => if (d.switch port).mode = .idealDiode then d.modSw port fun x => { x with conduct := false } else d

/-- IDEAL_DIODE_TURN_ON (R14): an IDEAL_DIODE pair conducts. -/
def execIdealDiodeTurnOn (port : Fin 28) (s : State) : Host.Outcome State Fault Refusal :=
  s.onDev fun d => if (d.switch port).mode = .idealDiode then d.modSw port fun x => { x with conduct := true } else d

/-! ### Arbitration (R110-R113) -/

/-- Whether a mitten can draw from a source's terminal into a node: forward, or a bidirectional one in reverse (R18, R110). A WEIGHT
of 0, by which the mitten takes no ration, is not asked about (DESIGN CHOICE, log 173). -/
def PathMap.drawsInto (m : PathMap) (k i : Nat) (n : Nat → Bool) : Bool :=
  let x := m.mitE i
  let h := m.groupHead k
  x.used && ((x.fromN == h && n x.toN) || (x.bidir && x.toN == h && n x.fromN))

/-- Whether a source serves a bus: tied to it, or a mitten draws from its terminal into it (R110). -/
def PathMap.servesBus (m : PathMap) (k j : Nat) : Bool :=
  let e := m.srcE k
  e.type != 0 && ((e.place == 1 && e.tieBus == j) || (List.range 16).any fun i => m.drawsInto k i (· == 16 + j))

/-- Whether a source feeds a string through a mitten (R110). -/
def PathMap.feedsString (m : PathMap) (k : Nat) : Bool :=
  (m.srcE k).type != 0 && (List.range 16).any fun i => m.drawsInto k i (32 ≤ ·)

/-- The score of a source (R110), lowered for a selected one by its hysteresis (R112). -/
def Dev.score (d : Dev) (k : Nat) : Int :=
  let s := d.sp k 11 * 256 + d.sp k 12
  let x := d.source k
  if x.st = .selected || x.st = .rideThrough then max (d.sp k 11 * 256) (s - d.sp k 13) else s

/-- Whether a source is within ARB_DWELL of a time (R112). -/
def Dev.dwells (d : Dev) (k : Nat) (t : Option Nat) : Bool :=
  match t with
  | some a => decide ((d.now : Int) < a + d.sp k 14 * 1000000000)
  | none => false

/-- Selected now (R96): SELECTED or RIDE_THROUGH. -/
def Source.selected (x : Source) : Bool := x.st == .selected || x.st == .rideThrough

/-- Kept selected by its ride-through or its dwell, or as the source of a liner that runs on; a disconnected source is not
(R112, R115, R395). -/
def Dev.kept (d : Dev) (k : Nat) : Bool :=
  let x := d.source k
  x.selected && !(d.switch k).disc && (x.st == .rideThrough || d.dwells k x.selAt || d.linerPort k)

/-- Whether arbitration may select a source: qualified, not disconnected, and not barred by the dwell (R112, R115). -/
def Dev.eligible (d : Dev) (k : Nat) : Bool :=
  let x := d.source k
  (d.srcE k).type != 0 && x.qualified && !(d.switch k).disc && (x.selected || !d.dwells k x.deselAt)

/-- Insert a source by score, then number. -/
def Dev.rankIn (d : Dev) (k : Nat) : List Nat → List Nat
  | [] => [k]
  | j :: t => if d.score k < d.score j ∨ (d.score k = d.score j ∧ k < j) then k :: j :: t else j :: d.rankIn k t

/-- Sources in rank order (R110). -/
def Dev.rank (d : Dev) (l : List Nat) : List Nat := l.foldl (fun a k => d.rankIn k a) []

/-- The candidates: one of each shared-terminal group (R110). -/
def Dev.candidates (d : Dev) : List Nat :=
  (List.range 12).filter fun k =>
    let g := d.pw.map.group k
    d.eligible k &&
    (match g.find? d.kept with
     | some i => i == k
     | none => (d.rank (g.filter d.eligible)).head? == some k)

/-- Available power of a source in mW (R111); during the first scan of a SOLAR source no I_MPP of an earlier one exists. -/
def Dev.availPower (d : Dev) (k : Nat) : Int :=
  let x := d.source k
  let other := floorDiv (d.sp k 7 * d.sp k 1) 1000
  let first := x.scan.isSome && x.scanAt.isNone
  if (d.srcE k).type = 4 then (if x.iMpp.isSome && !first then x.mppPrev else other)
  else if x.selected then floorDiv (x.iAvail * d.nodeV (.src k)) 1000 else other

/-- The sources a bus selects in rank order until 120 % of its demand is reached, at least one (R111), and whether the
power reached it. -/
def Dev.stack (d : Dev) (demand : Int) : List Nat → Int → List Nat → List Nat × Bool
  | [], p, acc => (acc, decide (120 * demand ≤ 100 * p) && !acc.isEmpty)
  | k :: t, p, acc =>
    if !acc.isEmpty && decide (120 * demand ≤ 100 * p) then (acc, true)
    else d.stack demand t (p + d.availPower k) (acc ++ [k])

/-- The selection of one bus. -/
def Dev.busSelect (d : Dev) (cands : List Nat) (j : Nat) : List Nat × Bool :=
  d.stack (d.busOf j).demand (d.rank (cands.filter fun k => d.pw.map.servesBus k j)) 0 []

/-- The unqualified source stacking would take next on a bus (R107, R111; DEDUCED, log 24): the best-ranked one that
serves the bus and is neither disabled nor retired. -/
def Dev.nextWanted (d : Dev) (j : Nat) : Option Nat :=
  (d.rank ((List.range 12).filter fun k => d.pw.map.servesBus k j && !(d.source k).qualified &&
    (d.source k).st != .retired && (d.source k).st != .disabled)).head?

/-- Deselect a qualified source (R112, R113); the dwell does not apply to a class-0 DISCONNECT. A disconnected source, which
arbitration treats as lost (R115), is still qualified: it becomes AVAILABLE, without SOURCE_LOST (DESIGN CHOICE, log 171). -/
def Dev.deselect (d : Dev) (k : Nat) : Dev :=
  (d.modSrc k fun x => { x.cutScan with
    st := .available, deselAt := if (d.switch k).disc then x.deselAt else some d.now, selAt := .none,
    warming := false, surge := false, pendClose := false }).outgoing k

/-- Select a source (R96, R101, R107, R113): a SERIES terminal changes by the changeover. -/
def Dev.select (d : Dev) (k : Nat) : Dev :=
  let series := (d.srcE k).place = 0
  (d.outgoing k).modSrc k fun x => { x with
    st := .selected, selAt := some d.now, entAt := some d.now, iDroop := 0, iTrim := 0, iUnctrl := 0, unSum := 0, unN := 0, pAcc := 0, pN := 0,
    warming := (d.srcE k).type == 5 && decide (0 < d.sp k 34), pendClose := series }

/-- A held mitten at a SERIES terminal (R113). -/
def Dev.heldAt (d : Dev) (k : Nat) : Bool :=
  (d.srcE k).place == 0 && (d.pw.map.mitsAt k).any fun m => (d.mitten m).held

/-- Arbitration (R110-R113): the choice, deselections except by dwell, ride-through or a held terminal, then selections,
and the generators wanted (R107). -/
def Dev.arbitrate (d : Dev) : Dev :=
  let cands := d.candidates
  let buses := (List.range 4).filter fun j => (d.pw.map.busE j).enable
  let picks := buses.map fun j => (j, d.busSelect cands j)
  let chosen (k : Nat) : Bool := (picks.any fun p => p.2.1.contains k) ||
    (cands.contains k && !(buses.any fun j => d.pw.map.servesBus k j) && d.pw.map.feedsString k)
  let next := picks.filterMap fun p => if p.2.2 then none else d.nextWanted p.1
  let d0 := d
  let d := d.each (List.range 12) fun k e =>
    if (d0.source k).selected && !chosen k && !d0.kept k && !((d0.source k).qualified && !(d0.switch k).disc && d0.heldAt k)
    then e.deselect k else e
  let d := d.each (List.range 12) fun k e =>
    if chosen k && (e.source k).st = .available &&
        !((e.pw.map.group k).any fun i => i != k && (e.source i).selected) then e.select k else e
  let d := d.each (List.range 12) fun k e => e.modSrc k fun x => { x with wanted := x.selected || next.contains k }
  d.onPw fun p => { p with arbDue := false }

/-- CHANGEOVER_SWITCH_CLOSE (R113): the incoming switch closes, subject to R15 and R16, and the stopped mittens receive
a start demand; a closing that may not take place is SWITCH_BLOCKED. -/
def execChangeoverSwitchClose (src : Fin 12) (s : State) : Host.Outcome State Fault Refusal :=
  s.onDev fun d =>
    let k := src.val
    let sw := d.switch k
    if !((d.source k).pendClose && (d.source k).selected) || sw.disc || sw.hold || sw.openFlt then d
    else if !(d.srcE k).allows .on then d.modSrc k fun x => { x with pendClose := false }
    else if !((d.pw.map.group k).all fun i => i == k || ((d.switch i).mode = .off &&
        (d.switch i).offTick < d.sy.tick.count)) then d
    else
      let d := d.tryClose k
      if (d.switch k).mode ≠ .on then d
      else
        let d := d.modSrc k fun x => { x with pendClose := false }
        d.each (d.pw.map.mitsAt k) fun m e =>
          if (e.mitten m).dChange then
            let bus := 16 ≤ (e.mitE m).toN && (e.mitE m).toN < 32
            (e.modMit m fun x => { x with dChange := false, dHost := x.dHost || bus }).startMit m
          else e

/-- HOLDOFF_END (R96): the terminal has stayed below LEND_RX_MIN. -/
def execHoldoffEnd (src : Fin 12) (s : State) : Host.Outcome State Fault Refusal :=
  s.onDev fun d =>
    if (d.source src).st = .holdoff ∧ d.nodeV (.src src) < (d.source src).rxMin then
      d.modSrc src fun x => { x with st := .absent } else d

/-! ### Solar sources and generators -/

/-- Whether RATION was in charge of a drawing mitten for the whole period (R108). -/
def Dev.rationed (d : Dev) (k : Nat) : Bool :=
  (d.drawers k).any fun m => (d.mitten m).rationWhole && (d.mitten m).looping

/-- The mean input power of a source since the last period, mW. -/
def Source.meanPower (x : Source) : Int := if x.pN = 0 then 0 else floorDiv x.pAcc x.pN

/-- Start the next MPPT or scan period: only a mitten that draws from its start on can be rationed for all of it (R108). -/
def Dev.newPeriod (d : Dev) (k : Nat) : Dev :=
  d.each (d.drawers k) fun m e => e.modMit m fun x => { x with rationWhole := x.looping }

/-- MPPT_STEP (R108): the direction reverses where the power did not rise, and I_MPP moves by MPPT_STEP; while RATION is
not in charge it holds. -/
def execMpptStep (src : Fin 12) (s : State) : Host.Outcome State Fault Refusal :=
  s.onDev fun d =>
    let k := src.val
    let x := d.source k
    if (d.srcE k).type ≠ 4 ∨ x.st ≠ .selected ∨ x.scan.isSome then d
    else
      let top := d.sp k 7
      let p := x.meanPower
      let go := d.rationed k
      let up := if p ≤ x.mppPrev then !x.mppUp else x.mppUp
      let i := x.iMpp.getD top
      let step := floorDiv (d.sp k 32 * top) 1000
      let d := if go then d.modSrc k fun y =>
          { y with mppUp := up, iMpp := some (clampI 0 top (if up then i + step else i - step)), mppPrev := p, pAcc := 0, pN := 0 }
        else d.modSrc k fun y => { y with pAcc := 0, pN := 0 }
      d.newPeriod k

/-- Whether RATION was in charge of a drawing mitten during the preceding policy frame (R109). -/
def Dev.rationedFrame (d : Dev) (k : Nat) : Bool := (d.drawers k).any fun m => (d.mitten m).rationFrame

/-- SOLAR_SCAN_START (R109): at an entry into SELECTED, a recovery from RIDE_THROUGH included, for which no scan result less than
SCAN_PERIOD old exists, and every SCAN_PERIOD while RATION was in charge during the preceding policy frame; with SCAN_PERIOD 0 at
selection only. -/
def execSolarScanStart (src : Fin 12) (s : State) : Host.Outcome State Fault Refusal :=
  s.onDev fun d =>
    let k := src.val
    let x := d.source k
    let per := d.sp k 33 * 60000000000
    let due : Bool := match x.scanAt, x.entAt with
      | none, _ => true
      | some a, some t => decide (a ≤ t ∧ a + per ≤ t) || (per != 0 && decide (a + per ≤ d.now) && d.rationedFrame k)
      | some _, none => false
    if (d.srcE k).type = 4 ∧ x.st = .selected ∧ x.scan.isNone ∧ due = true then
      (d.modSrc k fun y => { y with scan := some {}, iMpp := some (pctOf 5 (d.sp k 7)), pAcc := 0, pN := 0 }).newPeriod k
    else d

/-- SOLAR_SCAN_STEP (R109): the step's mean power is recorded; the scan goes on, or ends below V_DROOP or after 20 steps
with I_MPP at the best step, and SUP-L records its peak power, with no baseline (R251). -/
def execSolarScanStep (src : Fin 12) (s : State) : Host.Outcome State Fault Refusal :=
  s.onDev fun d =>
    let k := src.val
    let x := d.source k
    match x.scan with
    | none => d
    | some c =>
      let p := x.meanPower
      let i := x.iMpp.getD 0
      let best := c.step = 0 ∨ c.bestP < p
      let c' : Scan := { step := c.step + 1, bestP := if best then p else c.bestP, bestI := if best then i else c.bestI }
      let stop := decide (d.nodeV (.src k) < d.sp k 9) || decide (20 ≤ c'.step)
      let d := d.modSrc k fun y =>
        if stop then { y with scan := .none, scanAt := some d.now, iMpp := some c'.bestI, mppPrev := c'.bestP, pAcc := 0, pN := 0 }
        else { y with scan := some c', mppPrev := p, iMpp := some (pctOf (5 * (c'.step + 1)) (d.sp k 7)), pAcc := 0, pN := 0 }
      (d.newPeriod k).when (stop && d.classC) fun e =>
        e.addLog 2 e.now 7 k (leBytes 4 (enc 4 (sat32 c'.bestP)) ++ List.replicate 4 0)

/-- GENERATOR_WARM_UP_END (R107). -/
def execGeneratorWarmUpEnd (src : Fin 12) (s : State) : Host.Outcome State Fault Refusal :=
  s.onDev fun d => d.modSrc src fun x => { x with warming := false }

/-- START_OUT_RELEASE (R107): a source not wanted drives START_OUT low. -/
def execStartOutRelease (src : Fin 12) (s : State) : Host.Outcome State Fault Refusal :=
  s.onDev fun d => if (d.source src).wanted then d else d.modSrc src fun x => { x with startOut := false }

/-! ### Lends -/

/-- Voltage of a node by its code. -/
def Dev.codeV (d : Dev) (c : Nat) : Int :=
  match nodeOf c with
  | some n => d.endV n
  | none => 0

/-- The reason code of a lend's end (R119). -/
def lendCode : LendEnd → Nat
  | .hostStop => 1 | .energy => 2 | .time => 3 | .taper => 4 | .donorFloor => 5 | .busPriority => 6
  | .foreignSupply => 7 | .mittenFault => 8 | .mode => 9 | .disconnect => 10

/-- Whether the condition of an end reason holds now, apart from its duration (R119); HOST_STOP and DISCONNECT come by
their commands. -/
def Dev.lendEnds (d : Dev) (k : Nat) (l : Lend) : LendEnd → Bool
  | .hostStop => false
  | .disconnect => false
  | .energy => decide (0 < l.eLend) && decide (l.eLend ≤ l.mAh)
  | .time => decide (0 < l.tLend) && decide (l.startAt + l.tLend * 1000000000 ≤ (d.now : Int))
  | .taper => decide (- d.nodeI (.src k) < l.iEnd)
  | .donorFloor => decide (d.codeV l.donor ≤ l.vFloor)
  | .busPriority =>
    if 16 ≤ l.donor && l.donor < 32 then (d.busOf (l.donor - 16)).below
    else (List.range 4).any fun j => (d.busOf j).below &&
      (((d.strE (l.donor - 32)).place == 1 && (d.strE (l.donor - 32)).tieBus == j) ||
       (List.range 16).any fun m => (d.mitE m).suppEnds == some (l.donor - 32, j))
  | .foreignSupply => decide (11 * l.vLend < 10 * d.nodeV (.src k))
  | .mittenFault => let st := (d.mitten l.mit).st; st == .faulted || st == .retired
  | .mode => d.sy.power != .run

/-- LEND_END_CONDITION (R119). -/
def execLendEndCondition (src : Fin 12) (reason : LendEnd) (s : State) : Host.Outcome State Fault Refusal :=
  s.onDev fun d =>
    match (d.source src).lend with
    | none => d
    | some l => if d.lendEnds src l reason then d.endLend src (lendCode reason) else d

end Sys2Proof.Machine
end

