-- ==== Sys2Proof/Machine/Modes.lean ====
section
/-! DEFINITION. LIMP (R231-R233) and the end of pair captures (R180, R181). -/

namespace Sys2Proof.Machine

/-! ### Captures and LIMP -/

/-- The capture of a pair ends with a reason (0 complete, 1 no trigger, 2 MODE, 3 FAULT) and its windows (R180, R181); the
event names the pair's even unit (DESIGN CHOICE, log 25). -/
def Dev.endCapture (d : Dev) (j reason : Nat) : Dev :=
  match d.ms.cap.getD j .none with
  | none => d
  | some c => ((d.onMs fun m => { m with cap := m.cap.set j .none }).raise evMeasCaptureDone (some (2 * j))
      (d2 (Config.captureReason reason).toNat ++ d2 c.taken)).powerUnits

/-- Every capture, lend and impedance run ends with reason MODE (R119, R181, R207). -/
def Dev.endActivities (d : Dev) : Dev :=
  let d := d.each (List.range 8) fun j e => e.endCapture j 2
  let d := d.each (List.range 12) fun k e => e.endLend k 9
  d.each (List.range 16) fun k e => e.endImp k 5

/-- The levers of LIMP on one mitten: every phase recalled unless a HOLD keeps them (R307), min(FSW, 100 kHz), no dithering
(R232). -/
def Dev.limpLevers (d : Dev) (m : Nat) : Dev :=
  (if (d.mitten m).looping && !(d.mitten m).held then d.recall m else d).modMit m fun x =>
    { x with freq := (min (d.mp m 2) 100000).toNat, dither := 0, syncP := .none }

/-- A device in RUN enters LIMP where a cause of its own stands (R231, R232): the event, the end of its activities, the levers. -/
def Dev.beginLimp (d : Dev) : Dev :=
  if d.sy.power = .run ∧ d.sy.limpCause &&& 7#4 ≠ 0 then
    let d := (d.onSy fun s => { s with power := .limp, limpCount := satInc 255 s.limpCount }).raise evLimpEntered .none []
    d.endActivities.each (List.range 16) fun m e => if (e.mitE m).used then e.limpLevers m else e
  else d

/-- Enter LIMP with a cause bit of LIMP_CAUSE (0 FRAME, 1 REF, 2 FAULT) (R231, R232); a device in SLEEP wakes first. In
other states the cause is kept, and a device in LINER enters LIMP at its hand-over. -/
def Dev.enterLimp (d : Dev) (cause : Nat) : Dev :=
  ((d.wakeSleep 6).onSy fun s => { s with limpCause := s.limpCause ||| (1#4 <<< cause),
                                          cleanP := if cause = 0 then 0 else s.cleanP }).beginLimp

/-- The CHAIN cause: it applies to the shared mittens only. Its entry and its end are those of LIMP where the device is not in LIMP
itself (R231, R233; DEDUCED, log 176). -/
def Dev.limpChain (d : Dev) (on : Bool) : Dev :=
  let own := d.sy.power == .limp
  let d := d.onSy fun s => { s with limpCause := if on then s.limpCause ||| 8#4 else s.limpCause &&& 7#4 }
  if on then
    (d.each (List.range 16) fun m e => if (e.mitE m).used && (e.mitE m).shared then e.limpLevers m else e).when (!own) fun e =>
      (e.onSy fun s => { s with limpCount := satInc 255 s.limpCount }).raise evLimpEntered .none []
  else d.when (!own) fun e => e.raise evLimpLeft .none []

/-- The strings in a program re-enter it at START as LIMP ends (R134, R150); a paused one stays paused. -/
def Dev.reenter (d : Dev) (k : Nat) : Dev := d.toStart k

/-- LIMP ends when every cause of the device has cleared (R233). -/
def Dev.leaveLimp (d : Dev) : Dev :=
  if d.sy.power = .limp ∧ d.sy.limpCause &&& 7#4 = 0 then
    ((d.onSy fun s => { s with power := .run }).each (List.range 16) fun k e => e.reenter k).raise evLimpLeft .none []
  else d

end Sys2Proof.Machine
end

