-- ==== Sys2Proof/Machine/Sequences.lean ====
section
/-! DEFINITION. Measurement sequences: the object and its checks (R159-R163), the default sequence (R165), the leased entries
(R166, R205), and accumulator and tracker set-up (R192, R200). -/

namespace Sys2Proof.Machine

/-! ### Inputs (R155) -/

/-- Whether a SEQ_PERIOD is allowed: 0, a divisor of 4,000 from 400, or a multiple of 4,000 to 4,000,000 (R159). -/
def periodOk (p : Nat) : Bool := p == 0 || (decide (400 ≤ p) && 4000 % p == 0) || (p % 4000 == 0 && decide (p ≤ 4000000))


/-- Nominal duration of a visit (R161). -/
def SeqEntry.duration (e : SeqEntry) : Nat := 2 ^ e.samples * spacing 4 e.ts

/-- Nominal duration of a pass (R163 MS06). -/
def passDuration (l : List SeqEntry) : Nat := l.foldl (fun a e => a + e.duration) 0

/-- The pair partner of a unit (R155). -/
def partner (k : Nat) : Nat := if k % 2 = 0 then k + 1 else k - 1

/-- The sense index of inputs 0-10 of unit k (R155). -/
def senseOf (k inp : Nat) : Option Nat :=
  if inp < 4 then some (phIx (4 * k + inp))
  else if inp < 7 then some (32 + 3 * k + (inp - 4))
  else if inp < 9 then some (auxIx (2 * k + (inp - 7)))
  else if inp < 11 then some ((if k < 12 then 2 * k else 24 + 2 * (k - 12)) + (inp - 9))
  else none

/-! ### The object (R159, R160) -/

/-- Parse one sequence entry (R160). -/
def parseEntry (b : List Byte) (o : Nat) : SeqEntry :=
  let c := byteAt b (o + 2)
  { input := byteAt b o, ts := byteAt b (o + 1), gain := bits c 0 3, precise := c.testBit 3, tap := c.testBit 4,
    samples := byteAt b (o + 3), accA := leAt b (o + 4) 2, accB := leAt b (o + 6) 2, mmx := leAt b (o + 8) 2,
    shiftOrd := bits (byteAt b (o + 10)) 0 4, decim := leAt b (o + 12) 4 }

/-- Parse a sequence object (R159). -/
def parseSeq (b : List Byte) : Sequence :=
  { period := leAt b 4 4, crossSel := byteAt b 8,
    entries := (List.range (byteAt b 3)).map fun i => parseEntry b (16 + 16 * i) }

/-- The accumulators an entry names. -/
def SeqEntry.accs (e : SeqEntry) : List Nat := [e.accA, e.accB].filter (· < 512)

/-- Accumulators a destination names: a DEMOD destination n names n + 1 too (R194). -/
def accsNamed (mode : Nat → AccMode) (n : Nat) : List Nat := if mode n = .demod then [n, n + 1] else [n]

/-- What a sequence check needs beside the object (R163): the map that would be in force, the digital ports, the mittens'
T_INPUTs, the accumulators' modes after commit, the destinations and trackers used elsewhere, the partner's CROSS_SEL,
and the ring's masks. -/
structure SeqCtx where
  map      : PathMap
  digital  : Nat → Bool
  tInputs  : List Nat
  mode     : Nat → AccMode
  accs     : List Nat
  mmxs     : List Nat
  cross    : Nat
  nodeMask : BitVec 64
  mitMask  : BitVec 16

/-- MS03 of one entry: the offset of the failing field. -/
def ms03 (b : List Byte) (o : Nat) : Option Nat :=
  let e := parseEntry b o
  firstOff [if 15 < e.input then some o else none, if e.ts < 4 then some (o + 1) else none,
    if 4 < e.gain ∨ bits (byteAt b (o + 2)) 5 3 ≠ 0 ∨ (e.gain ≠ 0 ∧ (e.input < 4 ∨ 12 ≤ e.input)) then some (o + 2) else none,
    if (e.precise ∧ 4 < e.samples) ∨ (¬ e.precise ∧ (e.samples = 0 ∨ 8 < e.samples)) then some (o + 3) else none,
    if 511 < e.accA ∧ e.accA ≠ 0xFFFF then some (o + 4) else none,
    if 511 < e.accB ∧ e.accB ≠ 0xFFFF then some (o + 6) else none,
    if 255 < e.mmx ∧ e.mmx ≠ 0xFFFF then some (o + 8) else none,
    if bits (byteAt b (o + 10)) 4 4 ≠ 0 ∨ (e.precise ∧ (e.shiftOrd = 0 ∨ 5 < e.shiftOrd)) ∨ (¬ e.precise ∧ 8 < e.shiftOrd) then
      some (o + 10) else none,
    if byteAt b (o + 11) ≠ 0 then some (o + 11) else none,
    if (e.precise ∧ (e.decim < 16 ∨ 65536 < e.decim)) ∨ (¬ e.precise ∧ e.decim ≠ 0) then some (o + 12) else none]

/-- First entry of a sequence that fails a test, with the offset of its field. -/
def failEntry (q : Sequence) (f : Nat → SeqEntry → Option Nat) : Option Nat :=
  ((List.range q.entries.length).zip q.entries).findSome? fun p => (f p.1 p.2).map fun o => 16 + 16 * p.1 + o

/-- The accumulators named by the entries before i, and by ACC_A of entry i for its ACC_B. -/
def Sequence.accsBefore (q : Sequence) (mode : Nat → AccMode) (i : Nat) : List Nat :=
  (q.entries.take i).flatMap fun e => e.accs.flatMap (accsNamed mode)

/-- MS07: a destination named twice, or used elsewhere. -/
def ms07 (q : Sequence) (c : SeqCtx) : Option Nat :=
  failEntry q fun i e =>
    let used := c.accs ++ q.accsBefore c.mode i
    let hit (l : List Nat) (n : Nat) : Bool := decide (n < 512) && (accsNamed c.mode n).any l.contains
    let m := c.mmxs ++ (q.entries.take i).map (·.mmx)
    if hit used e.accA then some 4
    else if hit (used ++ (if e.accA < 512 then accsNamed c.mode e.accA else [])) e.accB then some 6
    else if e.mmx < 256 ∧ m.contains e.mmx then some 8 else none

/-- The result interval of a TAP entry in engine clocks: the greater of the pass duration and SEQ_PERIOD for FAST (the pace
of a paced sequence, R171; DEDUCED, log 27), SEQ_PERIOD x DECIM for PRECISE (R163 MS08). -/
def Sequence.interval (q : Sequence) (e : SeqEntry) : Nat :=
  if e.precise then q.period * e.decim else max q.period (passDuration q.entries)

/-- Whether an enabled node or a mitten's T_INPUT needs an input (R163 MS09). -/
def SeqCtx.needs (c : SeqCtx) (k inp : Nat) : Bool :=
  if inp < 7 then (c.map.strE k).type != 0
  else if inp < 9 then c.tInputs.contains (2 * k + (inp - 7))
  else if k < 12 then (c.map.srcE k).type != 0 else (c.map.busE (k - 12)).enable

/-- Whether the ring's masks hold what an input belongs to (R163 MS11). -/
def SeqCtx.allowed (c : SeqCtx) (k inp : Nat) : Bool :=
  if inp < 4 then (match c.map.mitOf (4 * k + inp) with | some m => c.mitMask.getLsbD m | none => true)
  else if inp < 7 then c.nodeMask.getLsbD (0x20 + k)
  else if 9 ≤ inp ∧ inp < 11 then c.nodeMask.getLsbD (if k < 12 then k else 0x10 + (k - 12))
  else true

/-- The checks MS01-MS11 in order: none, or the check number and the byte offset of the failing field (R163; the offsets
are DEDUCED, log 27). -/
def checkSeq (b : List Byte) (c : SeqCtx) : Option (Nat × Nat) :=
  let n := byteAt b 3
  if leAt b 0 2 ≠ 1 ∨ b.length < 16 then some (1, 0)
  else if n = 0 ∨ 16 < n ∨ b.length < 16 + 16 * n then some (1, 3)
  else
    let b := b.take (16 + 16 * n)
    if crc32 (zeroAt b 12 4) ≠ BitVec.ofNat 32 (leAt b 12 4) then some (2, 12)
    else
      let q := parseSeq b
      let k := byteAt b 2
      let s3 := firstOff ([if 15 < k then some 2 else none, if 10 < q.crossSel ∧ q.crossSel ≠ 0xFF then some 8 else none,
        if zeroSpan b 9 3 then none else some 9] ++ (List.range n).map fun i => ms03 b (16 + 16 * i))
      let s5 := failEntry q fun _ e => if e.precise && q.period == 0 then some 2 else none
      let s6 : Option Nat := if q.period ≠ 0 ∧ 3 * q.period < 4 * passDuration q.entries then some 4 else none
      let s8 := failEntry q fun i e => if e.tap && (e.input < 4 || 11 ≤ e.input ||
        (q.entries.take i).any (fun x => x.tap && x.input == e.input) || 4000 < q.interval e) then some 2 else none
      let s9 : Option Nat := if (List.range' 4 7).all fun i => !c.needs k i || q.entries.any fun e => e.tap && e.input == i then
        none else some 3
      let s10 := failEntry q fun _ e =>
        if e.input = 11 ∧ c.cross = 0xFF then some 0
        else match senseOf k e.input with
          | some i => if (c.map.senseE i).mode = 0 ∨ (80 ≤ i ∧ i < 112 ∧ c.digital (i - 80)) then some 0 else none
          | none => none
      let s11 := failEntry q fun _ e => if c.allowed k e.input then none else some 0
      (([s3, if periodOk q.period then none else some 4, s5, s6, ms07 q c, s8, s9, s10, s11]).zip (List.range' 3 9)).findSome?
        fun p => p.1.map fun o => (p.2, o)

/-! ### The sequence in force -/

/-- One entry of the default sequence (R165). -/
def defaultEntry (inp : Nat) : SeqEntry :=
  let slow := inp == 6 || inp == 7 || inp == 8 || inp == 15
  { input := inp, ts := if slow then 40 else 8, samples := if slow then 2 else 4, shiftOrd := 4,
    tap := decide (4 ≤ inp) && decide (inp ≤ 10) }

/-- The default sequence of a unit under a map (R165); an AUX input counts where its sense entry is used (DEDUCED, log 26). -/
def defaultSeq (m : PathMap) (k : Nat) : Sequence :=
  let str := (m.strE k).type != 0
  let port := if k < 12 then (m.srcE k).type != 0 else (m.busE (k - 12)).enable
  let aux (i : Nat) : Bool := (m.senseE (auxIx (2 * k + i))).mode != 0
  let l := (if str then [4, 5, 6] else []) ++ (if port then [9, 10] else []) ++ (if aux 0 then [7] else []) ++
    (if aux 1 then [8] else []) ++ [14, 15]
  { period := 2000, entries := l.map defaultEntry }

/-- The leased entries of an impedance run (R205 step 1). -/
def leaseEntries (accBase : Nat) : List SeqEntry :=
  [{ input := 4, ts := 8, samples := 2, shiftOrd := 2, accA := accBase },
   { input := 5, ts := 8, samples := 2, shiftOrd := 2, accA := accBase + 2 }]

/-- The accumulator base of the leases of string k: its run's, or the run's that has just ended. -/
def Dev.leaseBase (d : Dev) (k : Nat) : Nat :=
  match (d.ms.imp.getD k {}).run with
  | some r => r.accBase
  | none => match (d.ms.imp.getD k {}).ended with | some r => r.accBase | none => 0

/-- The sequence of unit k without leases. -/
def Dev.baseSeq (d : Dev) (k : Nat) : Sequence := (d.unit k).seq.getD (defaultSeq d.pw.map k)

/-- The sequence unit k runs, its leases included (R165, R166). -/
def Dev.seqOf (d : Dev) (k : Nat) : Sequence :=
  let q := d.baseSeq k
  if (d.unit k).leased then { q with entries := q.entries ++ leaseEntries (d.leaseBase k) } else q

/-- Whether a sequence can take the two leases (R166). -/
def Sequence.takesLeases (q : Sequence) : Bool :=
  decide (q.entries.length ≤ 14) && (q.period == 0 ||
    decide (4 * passDuration (q.entries ++ leaseEntries 0) ≤ 3 * q.period))

/-! ### Destinations (R163 MS07) -/

/-- An accumulator's configuration once every committed one is in force (R192). -/
def Dev.accSoon (d : Dev) (n : Nat) : AccCfg :=
  match d.ms.accNext.find? fun p => p.2.1 == n with
  | some p => p.2.2
  | none => (d.ms.acc.getD n {}).cfg

/-- An accumulator's configuration after the commit of the stage. -/
def Dev.accAfter (d : Dev) (n : Nat) : AccCfg := (look n d.pw.stage.accs).getD (d.accSoon n)

/-- The sequence of a unit that would be in force after the commit of the stage (none: the default one). -/
def Dev.seqAfter (d : Dev) (k : Nat) : Sequence :=
  match look k d.pw.stage.seqs with
  | some q => q
  | none => match (d.unit k).seqNext with
    | some (some q) => q
    | _ => d.baseSeq k

/-- Accumulators named by the units' sequences but one, by captures but one, and by impedance runs but one. -/
def Dev.accsUsed (d : Dev) (exceptMu exceptPair exceptStr : Nat) : List Nat :=
  let mode (n : Nat) := (d.accAfter n).mode
  ((List.range 16).filter (· ≠ exceptMu)).flatMap (fun k => (d.seqAfter k).entries.flatMap fun e =>
    e.accs.flatMap (accsNamed mode)) ++
  ((List.range 8).filter (· ≠ exceptPair)).flatMap (fun j => match d.ms.cap.getD j .none with
    | some c => (List.range' c.accBase c.window).flatMap (accsNamed mode)
    | none => []) ++
  ((List.range 16).filter (· ≠ exceptStr)).flatMap fun k => match (d.ms.imp.getD k {}).run with
    | some r => List.range' r.accBase 4
    | none => []

/-- Trackers named by the units' sequences but one, and by captures but one. -/
def Dev.mmxsUsed (d : Dev) (exceptMu exceptPair : Nat) : List Nat :=
  ((List.range 16).filter (· ≠ exceptMu)).flatMap (fun k => (d.seqAfter k).entries.filterMap fun e =>
    if e.mmx < 256 then some e.mmx else none) ++
  ((List.range 8).filter (· ≠ exceptPair)).filterMap fun j => match d.ms.cap.getD j .none with
    | some c => if c.mmx < 256 then some c.mmx else none
    | none => none

/-! ### Accumulator and tracker set-up (R192, R198, R200) -/

/-- Mode code of ACC_STATUS (R195). -/
def AccMode.code : AccMode → Nat
  | .sum => 0
  | .sumsq => 1
  | .windowMean => 2
  | .demod => 3
  | .demodQ => 4

/-- Clear an accumulator: sums, COUNT, STATUS but MODE, and the window; a DEMOD window waits for its next phase-0 crossing
after `turns` (R198). -/
def Acc.clear (a : Acc) (turns : Nat) : Acc := { cfg := a.cfg, wTurns := turns }

/-- The other accumulator of a DEMOD pair (R194). -/
def Dev.mate (d : Dev) (n : Nat) : Option Nat :=
  match (d.ms.acc.getD n {}).cfg.mode with
  | .demod => some (n + 1)
  | .demodQ => some (n - 1)
  | _ => none

/-- The phase-0 crossings of an accumulator's reference up to now. -/
def Dev.turnsOf (d : Dev) (n : Nat) : Nat := (d.ms.gen.getD (d.ms.acc.getD n {}).cfg.ref {}).turns d.now

/-- ACC_CLEAR of one accumulator and of its DEMOD mate (R198). -/
def Dev.clearAcc (d : Dev) (n : Nat) : Dev :=
  let l := n :: (match d.mate n with | some m => [m] | none => [])
  d.each l fun i e => e.modAcc i fun a => a.clear (d.turnsOf i)

/-- The generator of a committed DEMOD accumulator: a changed frequency starts it at phase 0 (R194). -/
def Dev.setGen (d : Dev) (c : AccCfg) : Dev :=
  if c.mode = .demod then
    d.onMs fun m => { m with gen := m.gen.modify c.ref fun g => if g.freq = c.refFreq then g else { freq := c.refFreq, at0 := d.now } }
  else d

/-- Put an accumulator's configuration in force, cleared (R192); DEMOD on n sets n + 1 as its quadrature (R194). -/
def Dev.setAcc (d : Dev) (n : Nat) (c : AccCfg) : Dev :=
  let d := match d.mate n with
    | some m => d.modAcc m fun _ => {}
    | none => d
  let d := d.modAcc n fun _ => { cfg := c }
  let d := d.modAcc n fun a => a.clear (d.turnsOf n)
  if c.mode = .demod then
    let d := d.modAcc (n + 1) fun _ => { cfg := { c with mode := .demodQ } }
    d.modAcc (n + 1) fun a => a.clear (d.turnsOf n)
  else d

/-- Put a tracker's configuration in force: IN, persistence counts restarted (R200). -/
def Dev.setMmx (d : Dev) (m : Nat) (c : MmxCfg) : Dev := d.modMmx m fun x => { x with cfg := c, out := false, persist := 0 }

/-- The unit whose next pass start puts a committed set-up in force: the one in use whose sequence, as committed, names it (R164,
R192, R200). -/
def Dev.namedBy (d : Dev) (f : SeqEntry → Bool) : Option Nat :=
  (List.range 16).find? fun k => (d.unit k).corr != .off && !(d.unit k).fault && !(d.unit k).retired &&
    (d.seqAfter k).entries.any f

/-- An accumulator's committed configuration (R192): at the pass start of the unit that feeds it, else at once. -/
def Dev.commitAcc (d : Dev) (n : Nat) (c : AccCfg) : Dev :=
  let d := (d.setGen c).onMs fun m => { m with accNext := m.accNext.filter fun p => p.2.1 != n }
  match d.namedBy fun e => e.accs.any fun a => (accsNamed (fun i => (d.accAfter i).mode) a).contains n with
  | some k => d.onMs fun m => { m with accNext := m.accNext ++ [(k, n, c)] }
  | none => d.setAcc n c

/-- A tracker's committed configuration (R200), as an accumulator's. -/
def Dev.commitMmx (d : Dev) (n : Nat) (c : MmxCfg) : Dev :=
  let d := d.onMs fun m => { m with mmxNext := m.mmxNext.filter fun p => p.2.1 != n }
  match d.namedBy fun e => e.mmx == n with
  | some k => d.onMs fun m => { m with mmxNext := m.mmxNext ++ [(k, n, c)] }
  | none => d.setMmx n c

/-- At a pass start of unit k, the set-ups that wait for it (R192, R200). -/
def Dev.takeSetups (d : Dev) (k : Nat) : Dev :=
  let a := d.ms.accNext.filter (·.1 == k)
  let m := d.ms.mmxNext.filter (·.1 == k)
  let d := a.foldl (fun e p => e.setAcc p.2.1 p.2.2) d
  let d := m.foldl (fun e p => e.setMmx p.2.1 p.2.2) d
  d.onMs fun x => { x with accNext := x.accNext.filter (·.1 != k), mmxNext := x.mmxNext.filter (·.1 != k) }

end Sys2Proof.Machine
end

