-- ==== Sys2Proof/Machine/Measure.lean ====
section
/-! DEFINITION. Results and their consumers (R156, R170, R184-R202), the meanings of the measurement-unit, capture and
reference rows (R161-R183). -/

namespace Sys2Proof.Machine

/-! ### Consumers -/

/-- Whether accumulators and trackers take a result (R170). -/
def Marks.taken (m : Marks) : Bool := !m.unsettled && !m.range && !m.cm && !m.skipped

/-- Union of marks (R170). -/
def Marks.union (a b : Marks) : Marks :=
  { unsettled := a.unsettled || b.unsettled, range := a.range || b.range, cm := a.cm || b.cm, skipped := a.skipped || b.skipped,
    ovr := a.ovr || b.ovr, suspect := a.suspect || b.suspect }

/-- The limits of a 64-bit signed sum (R197). -/
def clamp64 (x : Int) : Int := clampI (-9223372036854775808) 9223372036854775807 x

/-- Whether an accumulator runs a DEMOD window (R193). -/
def Acc.demodWindow (a : Acc) : Bool := (a.cfg.mode == .demod || a.cfg.mode == .demodQ) && a.cfg.periods != 0

/-- Whether an accumulator runs a window (R193). -/
def Acc.windowed (a : Acc) : Bool := a.cfg.mode == .windowMean || a.demodWindow

/-- What a result adds to the sum of a mode (R193, R194). -/
def Acc.term (a : Acc) (x : Int) (index : Nat) : Int :=
  match a.cfg.mode with
  | .sum => x
  | .sumsq => x * x
  | .windowMean => x
  | .demod => x * cosCoef index
  | .demodQ => x * sinCoef index

/-- Complete the open window: the readable sums and count are replaced, NEW is set, WINDOWS counts (R193). -/
def Acc.complete (a : Acc) : Acc :=
  { a with sum := if a.cfg.mode = .windowMean then roundDiv a.wSum (max 1 a.wCount) else a.wSum, count := a.wCount, sat := a.wSat,
           new := true, windows := (a.windows + 1) % 4096, wSum := 0, wCount := 0, wSat := false }

/-- The DEMOD windows of an accumulator at a time with so many phase-0 crossings behind it (R194): one opens at the first crossing,
and each ends at the P-th crossing after its start; one that took no result completes empty. -/
def Acc.turn (a : Acc) (turns : Nat) : Acc :=
  if !a.demodWindow then a
  else
    let a := if !a.wOpen && decide (a.wTurns < turns) then { a with wOpen := true, wTurns := a.wTurns + 1 } else a
    let n := (turns - a.wTurns) / a.cfg.periods
    if !a.wOpen || n == 0 then a
    else
      let b := { a.complete with wTurns := a.wTurns + n * a.cfg.periods }
      if n = 1 then b else { b with sum := 0, count := 0, sat := false, windows := (a.windows + n) % 4096 }

/-- Add a taken result to an accumulator: the new accumulator, and whether ACC_SATURATED is raised (R193, R197). -/
def Acc.add (a : Acc) (x : Int) (ovr : Bool) (index turns : Nat) : Acc × Bool :=
  let a := a.turn turns
  if a.windowed then
    if a.demodWindow && !a.wOpen then (a, false)
    else
      let s := a.wSum + a.term x index
      let sat := s != clamp64 s
      let b := { a with wSum := clamp64 s, wCount := a.wCount + 1, wSat := a.wSat || sat, ovr := a.ovr || ovr,
                        satSent := a.satSent || sat }
      (if b.cfg.mode = .windowMean ∧ b.cfg.window ≤ b.wCount then b.complete else b, sat && !a.satSent)
  else if a.full then (a, false)
  else
    let s := a.sum + a.term x index
    let sat := s != clamp64 s
    ({ a with sum := clamp64 s, count := a.count + 1, sat := a.sat || sat, ovr := a.ovr || ovr,
              full := decide (0xFFFFFFFF ≤ a.count + 1), satSent := a.satSent || sat }, sat && !a.satSent)

/-- One accumulator meets a result: taken, or counted as withheld (R170, R189, R192). -/
def Dev.accTake (d : Dev) (n : Nat) (v : Int) (mk : Marks) (t : Nat) (withheld : Bool) : Dev :=
  if 512 ≤ n then d
  else if withheld then d.modAcc n fun a => { a with syncW := satInc 7 a.syncW }
  else if !mk.taken then d.modAcc n fun a => { a with markW := satInc 255 a.markW }
  else
    let a := d.ms.acc.getD n {}
    let g := d.ms.gen.getD a.cfg.ref {}
    let r := a.add v mk.ovr (g.index t) (g.turns t)
    (d.modAcc n fun _ => r.1).when r.2 fun e => e.raise evAccSaturated (some (n / 2)) []

/-- An accumulator named by an entry, with its DEMOD mate (R194). -/
def Dev.accTakes (d : Dev) (n : Nat) (v : Int) (mk : Marks) (t : Nat) (withheld : Bool) : Dev :=
  if 512 ≤ n then d
  else
    let d := d.accTake n v mk t withheld
    if (d.ms.acc.getD n {}).cfg.mode = .demod then d.accTake (n + 1) v mk t withheld else d

/-- The window test of a tracker on a taken result: the tracker, and whether it changed (R200). -/
def Mmx.test (x : Mmx) (v : Int) : Mmx × Bool :=
  if !x.cfg.winEn then (x, false)
  else
    let hit := if x.out then decide (x.cfg.lo + x.cfg.hyst ≤ v) && decide (v ≤ x.cfg.hi - x.cfg.hyst)
      else decide (v < x.cfg.lo) || decide (x.cfg.hi < v)
    let p := if hit then x.persist + 1 else 0
    if hit && decide (x.cfg.persist ≤ p) then ({ x with out := !x.out, persist := 0 }, true) else ({ x with persist := p }, false)

/-- The extremes of a tracker after a taken result (R199). -/
def Mmx.add (x : Mmx) (v : Int) (t : Nat) (ovr : Bool) : Mmx :=
  { x with min := if v < x.min then v else x.min, minT := if v < x.min then t else x.minT,
           max := if x.max < v then v else x.max, maxT := if x.max < v then t else x.maxT,
           count := satInc 0xFFFFFFFF x.count, ovr := x.ovr || ovr }

/-- A tracker meets a result (R170, R199, R200). -/
def Dev.mmxTake (d : Dev) (m : Nat) (v : Int) (mk : Marks) (t : Nat) (withheld : Bool) : Dev :=
  if 256 ≤ m then d
  else if withheld then d.modMmx m fun x => { x with syncW := satInc 255 x.syncW }
  else if !mk.taken then d.modMmx m fun x => { x with markW := satInc 255 x.markW }
  else
    let (x, ch) := ((d.ms.mmx.getD m {}).add v t mk.ovr).test v
    (d.modMmx m fun _ => x).when ch fun e =>
      e.raise evMmxWindow (some m) (d2 m ++ d2 (Config.windowDir x.out).toNat ++ d4 v)

/-- The extremes of a source's voltage tap in the charge frame (R98, R171). -/
def Source.ripple (x : Source) (v : Int) : Source :=
  { x with ripHi := if x.ripAny then max x.ripHi v else v, ripLo := if x.ripAny then min x.ripLo v else v, ripAny := true }

/-- A tap receives a result; a withheld one is marked UNSETTLED (R171, R189). -/
def Dev.tapTake (d : Dev) (i : Nat) (v : Int) (mk : Marks) (withheld : Bool) : Dev :=
  let d := d.modTap i fun x => { x with newest := some (v, { mk with unsettled := mk.unsettled || withheld }) }
  if i < 24 ∧ i % 2 = 0 ∧ mk.taken ∧ !withheld then d.modSrc (i / 2) (·.ripple v) else d

/-- A result of an entry goes to its consumers (R156, R170). -/
def Dev.deliverResult (d : Dev) (k : Nat) (e : SeqEntry) (v : Int) (mk : Marks) (t : Nat) (withheld : Bool) : Dev :=
  let d := match (if e.tap then senseOf k e.input else none) with
    | some i => d.tapTake i v mk withheld
    | none => d
  ((d.accTakes e.accA v mk t withheld).accTakes e.accB v mk t withheld).mmxTake e.mmx v mk t withheld

/-! ### Scaling -/


/-- The unit and the input that an entry of unit k samples: input 11 is the one the partner offers (R155). -/
def Dev.source11 (d : Dev) (k : Nat) (e : SeqEntry) : Nat × Nat :=
  if e.input = 11 then (partner k, (d.seqOf (partner k)).crossSel) else (k, e.input)

/-- The phase whose current an entry of unit k samples (R155). -/
def Dev.phaseInput (d : Dev) (k : Nat) (e : SeqEntry) : Option Nat :=
  let (u, i) := d.source11 k e
  if i < 4 then some (4 * u + i) else none

/-- The gain of an input of unit k: the phase's range on a phase input, else the entry's (R155, R156). -/
def Dev.gainOf (d : Dev) (k : Nat) (e : SeqEntry) : Nat :=
  match d.phaseInput k e with
  | some p => (d.phase p).range
  | none => e.gain

/-- A filter output of num / den volts at the converter, gain included, in engineering units (R155, R156): through the
sense entry, as millivolts behind the 1 : 2 divider on inputs 12-14, or free on input 15, whose scale is not given
(log 6). -/
def Dev.engineering (d : Dev) (k : Nat) (e : SeqEntry) (num : Int) (den : Nat) : Int :=
  if e.input = 15 then (Config.freeValue d.freeIx).toInt
  else if 12 ≤ e.input then roundDiv (2000 * num) den
  else
    let (u, i) := d.source11 k e
    match senseOf u i with
    | some x => (d.pw.map.senseE x).value num den
    | none => 0

/-- The marks every result of a unit carries from the reference and its phase input (R51, R170, R176, R177): a range-change cycle at
any time of the visit marks it. -/
def Dev.baseMarks (d : Dev) (k : Nat) (e : SeqEntry) : Marks :=
  { unsettled := !d.ms.ref.settled, suspect := d.ms.ref.suspect,
    range := match d.phaseInput k e with
      | some p => (d.phase p).mark || (d.phase p).changes != (d.unit k).rangeAt
      | none => false }

/-- The visit of a unit's present entry begins: no range-change cycle of its phase has touched it, but one that runs (R51). -/
def Dev.beginVisit (d : Dev) (k : Nat) : Dev :=
  match (d.seqOf k).entries[(d.unit k).entry]? with
  | none => d
  | some e => match d.phaseInput k e with
    | some p => d.modMu k fun u => { u with rangeAt := (d.phase p).changes - b2n (d.phase p).mark }
    | none => d

/-! ### PRECISE filters (R186-R190) -/

/-- One filter input through the first N integrators. -/
def integrate : Nat → Int → List Int → List Int
  | 0, _, l => l
  | _, _, [] => []
  | n + 1, x, a :: t => (a + x) :: integrate n (a + x) t

/-- One decimated value through the first N differentiators: the new state and the output. -/
def difference : Nat → Int → List Int → List Int × Int
  | 0, x, l => (l, x)
  | _, x, [] => ([], x)
  | n + 1, x, a :: t => let r := difference n (x - a) t; (x :: r.1, r.2)

/-- The n-th element of a list of integrators. -/
def lastStage (n : Nat) (l : List Int) : Int := l.getD (n - 1) 0

/-- A filter empty after a synchronising reset (R188). -/
def Filter.empty : Filter := {}

/-- Feed one input (the sum of a visit's samples with its marks): the filter, and the output with its marks where the
input completes a block of D (R186). The output is still to be divided by D^N and the visit's sample count. -/
def Filter.feed (f : Filter) (ord dec : Nat) (x : Int) (mk : Marks) : Filter × Option (Int × Marks) :=
  let f := if f.resetDue then Filter.empty else f
  let i := integrate ord x f.integ
  let b := f.block.union mk
  if f.count + 1 < dec then ({ f with integ := i, block := b, count := f.count + 1, last := x }, none)
  else
    let (c, o) := difference ord (lastStage ord i) f.comb
    let ms := (b :: f.marks).take ord
    ({ f with integ := i, comb := c, block := {}, marks := ms, count := 0, outputs := f.outputs + 1, last := x },
     some (o, ms.foldl Marks.union {}))

/-! ### Visits and passes -/

/-- Filter of a slot. -/
def MUnit.filter (u : MUnit) (i : Nat) : Filter := u.filters.getD i {}
/-- Store the filter of a slot. -/
def MUnit.setFilter (u : MUnit) (i : Nat) (f : Filter) : MUnit :=
  { u with filters := (u.filters ++ List.replicate (i + 1 - u.filters.length) ({} : Filter)).set i f }

/-- Whether a unit converts: powered, in service, neither reset for a fault nor retired. -/
def MUnit.works (u : MUnit) : Bool := u.corr != .off && !u.fault && !u.retired

/-- A PRECISE input and the output it may yield: rounded to 1/16 code, outputs before the N-th withheld (R186, R189).
The mean is the exact one of the samples in the 1/4 code of R184 (R161; DEDUCED, log 182). -/
def Dev.precise (d : Dev) (k i : Nat) (e : SeqEntry) (x : Int) (mk : Marks) (t : Nat) : Dev :=
  let (f, o) := ((d.unit k).filter i).feed e.shiftOrd e.decim x mk
  let d := d.modMu k fun u => u.setFilter i f
  match o with
  | none => d
  | some (y, m) =>
    let out := roundDiv (y * 4) (2 ^ e.samples * e.decim ^ e.shiftOrd)
    let d := if e.input = 12 then d.modMu k fun u => { u with in12 := roundDiv (200000 * out) (16 * 8192) } else d
    d.deliverResult k e (d.engineering k e out (16 * 8192 * 2 ^ d.gainOf k e)) m t (decide (f.outputs < e.shiftOrd))

/-- A FAST output (R185). -/
def Dev.fast (d : Dev) (k : Nat) (e : SeqEntry) (sum : Int) (mk : Marks) (t : Nat) : Dev :=
  let f := floorDiv sum (2 ^ e.shiftOrd : Nat)
  let g := clampI (-8388608) 8388607 f
  let v := d.engineering k e (g * (2 ^ e.shiftOrd : Nat)) (2 ^ e.samples * 4 * 8192 * 2 ^ d.gainOf k e)
  let d := d.deliverResult k e v { mk with ovr := mk.ovr || g != f } t false
  if e.input = 15 then (d.modMu k fun u => { u with dieT := v }).tickFree
  else if e.input = 12 then
    d.modMu k fun u => { u with in12 := roundDiv (200000 * (g * (2 ^ e.shiftOrd : Nat))) (2 ^ e.samples * 4 * 8192) }
  else d

/-- The end of a pass (R162). -/
def MUnit.endPass (u : MUnit) : MUnit := { u with inPass := false, entry := 0, plan := [] }

/-- VISIT_END (R161, R184-R191): the visit's corrected samples (1/4 codes) become a FAST output or a PRECISE input; the
pass advances, and a free-running one starts again at its PASS_START. A visit takes 2^SAMPLES samples. -/
def execVisitEnd (mu : Fin 16) (samples : List Int) (cmBad : Bool) (clipped : Bool) (time : Nat) (s : State) :
    Host.Outcome State Fault Refusal :=
  if samples.isEmpty then .fault .illFormed
  else s.onDev fun d =>
    let u := d.unit mu
    let q := d.seqOf mu
    match (if u.inPass && u.works then q.entries[u.entry]? else none) with
    | none => d
    | some e =>
      if samples.length ≠ 2 ^ e.samples then d
      else
        let t := time / 10 * 10
        let sum := samples.foldl (· + ·) 0
        let mk := { d.baseMarks mu e with cm := cmBad, ovr := clipped }
        let d := if e.precise then d.precise mu u.entry e sum mk t else d.fast mu e sum mk t
        (d.modMu mu fun y =>
          let z := y.advance (time * 2 / 5 + 1)
          if z.entry + 1 < q.entries.length then { z with entry := z.entry + 1 } else z.endPass).beginVisit mu

/-- Sequences of a unit replaced at a pass start: a slot whose entry is identical keeps its filter (R164, R188). -/
def keepFilters (u : MUnit) (old new : Sequence) : List Filter :=
  (List.range new.entries.length).map fun i =>
    if old.entries[i]? = new.entries[i]? then u.filter i else Filter.empty

/-- Restart the windows of the destinations of entries a commit resets (R209). -/
def Acc.restart (a : Acc) (turns : Nat) : Acc := { a with wSum := 0, wCount := 0, wSat := false, wOpen := false, wTurns := turns }

/-- Put a committed sequence in force at a pass start (R164, R166, R209): a run whose leases no longer fit ends. -/
def Dev.newSequence (d : Dev) (k : Nat) : Dev :=
  match (d.unit k).seqNext with
  | none => d
  | some n =>
    let old := d.baseSeq k
    let d := d.modMu k fun u => { u with seq := n, seqNext := .none,
                                         owner := if n.isSome then d.sy.activeSup else u.owner }
    let new := d.baseSeq k
    let d := d.modMu k fun u => { u with filters := keepFilters u old new }
    let reset := ((List.range new.entries.length).filter fun i => !(decide (old.entries[i]? = new.entries[i]?))).flatMap fun i =>
      match new.entries[i]? with | some e => e.accs.flatMap (fun n => n :: (d.mate n).toList) | none => []
    let d := d.each reset fun i c => c.modAcc i fun a => a.restart (c.turnsOf i)
    if (d.ms.imp.getD k {}).run.isSome && !new.takesLeases then
      (d.endImp k 6).modMu k fun u => { u with leased := false, leaseDue := false, unleaseDue := false }
    else d

/-- Leases join or leave at a pass start (R166, R205). -/
def MUnit.leases (u : MUnit) : MUnit :=
  if u.unleaseDue then { u with leased := false, unleaseDue := false, leaseDue := false }
  else if u.leaseDue then { u with leased := true, leaseDue := false } else u

/-- A synchronising reset of the entries of a mask, due at a pass start (R188). -/
def Dev.syncEntries (d : Dev) (k : Nat) (mask : BitVec 16) : Dev :=
  let n := (d.seqOf k).entries.length
  d.each ((List.range n).filter mask.getLsbD) fun i e => e.modMu k fun u => u.setFilter i { u.filter i with resetDue := true }

/-- Every PRECISE entry of a unit takes its previous input again with SKIPPED (R169). -/
def Dev.skipPass (d : Dev) (k : Nat) : Dev :=
  let q := d.seqOf k
  d.each ((List.range q.entries.length).filter fun i => match q.entries[i]? with | some e => e.precise | none => false)
    fun i c => match q.entries[i]? with
      | some e => c.precise k i e (((c.unit k).filter i).last) { c.baseMarks k e with skipped := true, range := false } (c.now / 10 * 10)
      | none => c

/-- Whether an engine clock of device time is a boundary of a pace: the grid counts 4,000 clocks per control tick and is locked to
the nominal tick grid (R162). -/
def Dev.onPace (d : Dev) (period clk : Nat) : Bool :=
  period == 0 || (5 * (clk : Int) - 2 * d.sy.tick.epoch) % (5 * period : Nat) == 0

/-- PASS_START (R162, R164, R169, R188) at an engine clock of device time: `behind` is the number of clocks by which the start falls
behind its pace boundary. A start a whole SEQ_PERIOD behind is skipped; a late one is counted. -/
def execPassStart (mu : Fin 16) (behind : Nat) (s : State) (clk : Nat := 0) : Host.Outcome State Fault Refusal :=
  s.onDev fun d =>
    let u := d.unit mu
    if !u.works || u.inPass || decide (clk < behind) || !d.onPace (d.seqOf mu).period (clk - behind) then d
    else
      let q := d.seqOf mu
      if q.period ≠ 0 ∧ q.period ≤ behind then
        let d := (d.skipPass mu).modMu mu fun y => { y with skips := satInc 255 y.skips, noted := true }
        if u.noted then d else d.raise evMeasSeqOverrun (some mu.val) []
      else
        let d := ((d.newSequence mu).takeSetups mu).modMu mu MUnit.leases
        let d := (d.syncEntries mu (d.unit mu).syncNow).modMu mu fun y => { y with syncNow := 0 }
        let plan := (d.seqOf mu).entries.map fun e => (2 ^ e.samples, e.ts)
        (d.modMu mu fun y => { y.startPlan clk plan with
          late := if q.period ≠ 0 ∧ 0 < behind then satInc 255 y.late else y.late, inPass := true, entry := 0,
          pass := y.pass + 1 }).beginVisit mu

/-! ### Mismatch correction and unit faults -/

/-- CORRECTION_SLOT (R173, R177): a correction slot that a slice has taken yields its coefficients, the unit's deviation of
VREF_CHECK and its input 12 reading (mV x 100), for the next charge frame's checks. -/
def execCorrectionSlot (mu : Fin 16) (coef : SliceCoef) (s : State) : Host.Outcome State Fault Refusal :=
  s.onDev fun d =>
    let i := coef.slice.val
    if (d.unit mu).works && (d.unit mu).sliceUp i && (d.unit mu).corrRun.contains i then
      d.modMu mu fun u => { u with dev := coef.devPpm, in12 := coef.in12, corrRun := u.corrRun.erase i,
                                   coefs := u.coefs.set i (coef.offset, coef.gain, coef.skew) }
    else d

/-- CORRECTION_CONVERGED (R173-R175): CONVERGED, or DEGRADED on fewer slices. -/
def execCorrectionConverged (mu : Fin 16) (s : State) : Host.Outcome State Fault Refusal :=
  s.onDev fun d =>
    let u := d.unit mu
    if u.corr = .acquiring ∨ u.corr = .reacquiring then
      d.modMu mu fun y => { y with corr := if y.sliceOk.all id then .converged else .degraded, calAt := d.now, calTemp := y.dieT }
    else d

/-- Whether a slice must be retired (R175): its coefficients have left the correction range of 64 codes, 2 % and 500 ps, or the unit
has not converged 200 ms after its correction began. -/
def MUnit.sliceBad (u : MUnit) (i now : Nat) : Bool :=
  let c := u.coefs.getD i (0, 0, 0)
  decide (64 < c.1.natAbs) || decide (2000 < c.2.1.natAbs) || decide (500 < c.2.2.natAbs) ||
    ((u.corr == .acquiring || u.corr == .reacquiring) && decide (u.corrAt + 200000000 ≤ now))

/-- The fault of a unit (R182, R239): reset, its quad's phases FAULTED, taps stale; the backoff, or retirement with its
quad and LIMP (R242). -/
def Dev.unitFault (d : Dev) (k : Nat) : Dev :=
  let d := d.fault evMuUnitFault (some k) []
  let u := d.unit k
  if u.fault then d
  else
    let d := ((d.endImp k 8).endCapture (k / 2) 3).modMu k MUnit.reset
    if u.lad.spent d.now then
      let d := d.modMu k fun y => { y with retired := true, lad := y.lad.retire d.now }
      let l := (List.range' (4 * k) 4).filter fun p => (d.phase p).st != .retired
      ((d.each l fun p e => e.enterRetired p evMuUnitFault).declareAll (l.map agPhase)).enterLimp 2
    else (d.modMu k fun y => { y with fault := true, lad := y.lad.enter d.now evMuUnitFault }).quadFault k evMuUnitFault

/-- MU_SLICE_FAULT (R168, R175, R181-R183, R207): the slice is retired, its sample in progress retaken, DEGRADED; a capture of the
pair and an impedance run on the unit end; a second retired slice is the unit's fault. In a unit that already is at fault the
retirement is recorded only. -/
def execMuSliceFault (mu : Fin 16) (slice : Fin 4) (s : State) : Host.Outcome State Fault Refusal :=
  s.onDev fun d =>
    let u := d.unit mu
    if u.corr = .off ∨ (u.retired ∧ u.lad.gone ≠ some d.now) ∨ !u.sliceUp slice ∨ !u.sliceBad slice d.now then d
    else
      let d := d.fault evMuSliceFault (some mu.val) []
      if u.fault ∨ u.retired then d.modMu mu fun y => { y with sliceOk := y.sliceOk.set slice false }
      else
        let d := d.modMu mu fun y => { y.retire slice d.clk with corr := .degraded }
        let d := (d.endImp mu 8).endCapture (mu / 2) 3
        if u.up.length ≤ 3 then d.unitFault mu else d

/-- MU_UNIT_FAULT (R182): a stall of the unit's sequencer, a deviation from the median or an input 12 outside its window for ten
charge frames; the second retired slice is MU_SLICE_FAULT's. In the tick in which another fault retired the unit it is recorded only
(R183). -/
def execMuUnitFault (mu : Fin 16) (s : State) (stall : Bool := false) : Host.Outcome State Fault Refusal :=
  s.onDev fun d =>
    let u := d.unit mu
    if u.corr = .off ∨ !(stall || decide (10 ≤ u.devRun) || decide (10 ≤ u.in12Run)) then d
    else if u.retired then d.when (u.lad.gone == some d.now) fun e => e.fault evMuUnitFault (some mu.val) []
    else (d.when stall fun e => e.stallSeen none).unitFault mu

/-- The mittens that regulate a bus now, or use an AUX input as T_INPUT (R172). -/
def Dev.tapUsers (d : Dev) (i : Nat) : List Nat :=
  (List.range 16).filter fun m =>
    (d.mitE m).used && (if i < 32 then
      (d.mitten m).looping && (match (if (d.mitten m).rev then (d.mitE m).fromNode else (d.mitE m).toNode) with
        | .bus j => 24 + 2 * j == i - (i % 2)
        | _ => false)
     else d.mp m 13 == (i - 80 : Nat))

/-- MEAS_TAP_STALE (R172): sixteen stale latches are the sense fault of the tap's node; for a bus or an AUX tap the event,
and its mittens as under MITTEN_OVERTEMP. -/
def execMeasTapStale (tap : Fin 112) (s : State) : Host.Outcome State Fault Refusal :=
  s.onDev fun d =>
    let i := tap.val
    let used := if i < 24 then true else if i < 32 then (d.pw.map.busE ((i - 24) / 2)).enable
      else if i < 80 then true else (d.pw.map.senseE i).mode != 0
    if (d.ms.tap.getD i {}).stale < 16 ∨ !used then d
    else
      let d := d.modTap i Tap.taken
      if i < 24 then d.srcFaultRow (i / 2) evSourceSenseFault
      else if 32 ≤ i ∧ i < 80 then
        (let k := (i - 32) / 3
         if (i - 32) % 3 = 1 then d.strFaultRow k evStringSenseFault causeSenseI true
         else d.strFaultRow k evStringSenseFault evStringSenseFault false)
      else
        let inst := if i < 32 then some (busNode ((i - 24) / 2)) else none
        (d.raise evMeasTapStale inst []).each (d.tapUsers i) fun m e => e.mitFaultRow m evMittenOvertemp

/-! ### Captures -/

/-- The instant of the event that triggers a capture's window, in steps of 125 ps: the first at or after the tick boundary (R54,
R180). Of an event of the next cycle, whose pulses no field holds yet, the row gives the instant `time` (log 188). -/
def Dev.triggerAt (d : Dev) (c : Capture) (time : Nat) : Option Nat :=
  let tick := 8 * d.sy.tick.last
  if c.trigPhase = 0xFF then some tick
  else
    let x := d.phase c.trigPhase
    let next := if tick ≤ time ∧ x.cycAt + x.cycLen ≤ time then some time else none
    if x.st ≠ .active then none
    else match x.eventAt c.trigRef with
      | some o => if tick ≤ x.cycAt + o then some (x.cycAt + o) else next
      | none => next

/-- PAIR_WINDOW (R170, R180, R183): one window begins, its first hold edge DELAY after the event; it holds both units' slices, the
even unit first, and its samples go to the accumulators of their index and to the tracker. A sample that an urgent conversion
pre-empts is none. -/
def execPairWindow (pair : Fin 8) (samples : List (Option WinSample)) (time : Nat) (s : State) : Host.Outcome State Fault Refusal :=
  s.onDev fun d =>
    match d.ms.cap.getD pair .none with
    | none => d
    | some c => match (if c.tickDone then none else d.triggerAt c time) with
      | none => d
      | some ev =>
        let k := 2 * pair.val + b2n c.odd
        let e : SeqEntry := { input := c.input, ts := c.ts, gain := c.gain }
        let sp := spacing (d.unit k).up.length c.ts
        let hold := ev + c.delay
        let start := hold / 20 - c.ts
        let dur := ceilDiv ((c.window - 1) * sp) 2 + occupancy c.ts
        let d := d.each [0, 1] fun u x => x.modMu (2 * pair.val + u) fun y => y.window start dur sp (u * (sp / 2))
        let d := d.each (List.range c.window) fun i x => match samples.getD i none with
          | none => x
          | some w =>
            let t := (hold + 10 * (i * sp)) / 80 * 10
            let v := x.engineering k e w.code (4 * 8192 * 2 ^ x.gainOf k e)
            let mk := { x.baseMarks k e with cm := w.cm, ovr := w.clipped }
            (x.accTakes (c.accBase + i) v mk t false).mmxTake c.mmx v mk t false
        let d := d.onMs fun m => { m with
          cap := m.cap.set pair (some { c with taken := c.taken + 1, tickDone := true, idle := 0 }) }
        if c.rep ≤ c.taken + 1 then d.endCapture pair 0 else d

/-- CAPTURE_TRIGGER_TIMEOUT (R180): after 1,000 consecutive ticks without a window. -/
def execCaptureTriggerTimeout (pair : Fin 8) (s : State) : Host.Outcome State Fault Refusal :=
  s.onDev fun d => match d.ms.cap.getD pair .none with
    | some c => if 1000 ≤ c.idle then d.endCapture pair 1 else d
    | none => d

/-! ### The reference (R176, R177) -/

/-- REFERENCE_SETTLED (R176): UNSETTLED marks stop; a standing timeout ends. -/
def execReferenceSettled (s : State) : Host.Outcome State Fault Refusal :=
  s.onDev fun d =>
    let r := d.ms.ref
    if r.bufEn && !r.settled && decide (r.dev.natAbs ≤ 1000) then
      (d.modRef fun x => { x with settled := true, timeout := false }).offset evMeasRefTimeout 0 else d

/-- MEAS_REF_TIMEOUT (R176): the condition's onset; firmware stays in LINER. -/
def execMeasRefTimeout (s : State) : Host.Outcome State Fault Refusal :=
  s.onDev fun d =>
    if d.ms.ref.bufEn && !d.ms.ref.settled then (d.modRef fun x => { x with timeout := true }).onset evMeasRefTimeout 0 .none []
    else d

/-- MEAS_REF_MISMATCH (R177): REF_SUSPECT on every result. -/
def execMeasRefMismatch (s : State) : Host.Outcome State Fault Refusal :=
  s.onDev fun d =>
    if 10 ≤ d.ms.ref.over5 then (d.modRef fun x => { x with suspect := true, okFrames := 0 }).onset evMeasRefMismatch 0 .none []
    else d

/-- MEAS_REF_FAULT (R177, R182): permanent; REF_SUSPECT, and LIMP with cause REF. -/
def execMeasRefFault (s : State) : Host.Outcome State Fault Refusal :=
  s.onDev fun d =>
    if 10 ≤ d.ms.ref.over20 && !d.ms.ref.fault then
      ((d.modRef fun x => { x with fault := true, suspect := true, okFrames := 0, goneAt := some d.now }).fault evMeasRefFault .none []).enterLimp 1
    else d

/-! ### Latching reads (R195, R196, R201) -/

/-- The 64-bit two's complement of a sum. -/
def sumBits (x : Int) : Nat := (BitVec.ofInt 64 x).toNat

/-- The STATUS word of an accumulator (R195). -/
def Acc.statusWord (a : Acc) : Word :=
  wd (a.cfg.mode.code + 16 * b2n a.ovr + 32 * b2n a.sat + 64 * b2n a.full + 128 * b2n a.new + 256 * a.syncW + 4096 * a.markW +
      1048576 * a.windows)

/-- What a latching read holds of accumulator n. -/
def Dev.accLatch (d : Dev) (reader n : Nat) : AccLatch :=
  let a := d.ms.acc.getD n {}
  { reader := reader, acc := n, lo := wd (sumBits a.sum % 4294967296), hi := wd (sumBits a.sum / 4294967296), count := wd a.count,
    status := a.statusWord }

/-- Store a latch, by the read of a mate or of the accumulator itself, and clear NEW (R195, R196). -/
def Dev.latchAcc (d : Dev) (reader n : Nat) (byMate : Bool) : Dev :=
  let l := { d.accLatch reader n with byMate := byMate }
  (d.onMs fun m => { m with accL := l :: m.accL.filter fun x => !(x.reader == reader && x.acc == n) }).modAcc n fun a =>
    { a with new := false }

/-- Whether an agent has accumulator and tracker latches: the host set-up window and each supervisor (R196). -/
def latchReader (a : Nat) : Bool := a == 98 || (decide (1 ≤ a) && decide (a ≤ 4))

end Sys2Proof.Machine
end

