-- ==== Sys2Proof/Machine/Impedance.lean ====
section
/-! DEFINITION. Impedance spectroscopy (R203-R208): refusals, points, the tick's checks, and the meanings of its rows. -/

namespace Sys2Proof.Machine

/-- The string's step permits a run: RUNNING in a CC or REST step with IMP (R204). -/
def Dev.impStep (d : Dev) (k : Nat) : Option Step :=
  let x := d.string k
  match (if x.st = .running then x.cur else none) with
  | some (_, s) => if s.imp && (s.type == 2 || s.type == 9) then some s else none
  | none => none

/-- Highest frequency of a list. -/
def topFreq (l : List ImpFreq) : Nat := l.foldl (fun a f => max a f.freq) 0

/-- The case of R204, in its order from 1, on which a run is refused; the ring's mask (case 9) is the command's to test. -/
def Dev.impRefusal (d : Dev) (k ampl accBase : Nat) (freqs : List ImpFreq) : Option Nat :=
  if d.sy.power ≠ .run then some 1
  else match d.impStep k with
    | none => some 2
    | some s =>
      if (d.ms.imp.getD k {}).run.isSome then some 3
      else match (d.string k).chgMit with
        | none => some 4
        | some m =>
          let x := d.mitten m
          let q := d.baseSeq k
          if x.rev != (d.mitE m).revInto (.str k) || x.lending || x.st != .run then some 4
          else if s.type = 9 ∧ (!(d.mitE m).bidir ∨ floorDiv (ampl * s.iStep) 100 < 100) then some 5
          else if q.period = 0 ∨ 400000000000 < 20 * topFreq freqs * q.period then some 6
          else if !q.takesLeases then some 7
          else if (List.range' accBase 4).any (d.accsUsed 16 8 k ++ (d.seqAfter k).entries.flatMap (·.accs)).contains then some 8
          else none

/-- Change the running run of string k. -/
def Dev.modRun (d : Dev) (k : Nat) (f : ImpRun → ImpRun) : Dev := d.modImp k fun i => { i with run := i.run.map f }

/-- Start the point of the run's list entry: Gk takes its frequency at phase 0, the DEMOD pairs its window (R205). -/
def Dev.startPoint (d : Dev) (k : Nat) (r : ImpRun) : Dev :=
  match r.freqs[r.point]? with
  | none => d
  | some f =>
    let d := d.onMs fun m => { m with gen := m.gen.set k { freq := f.freq, at0 := d.now } }
    let c : AccCfg := { mode := .demod, ref := k, refFreq := f.freq, periods := f.measure }
    ((d.setAcc r.accBase c).setAcc (r.accBase + 2) c).modRun k fun x => { x with measure := false, clipped := false }

/-- IMPEDANCE_RUN_START (R205): leases, which the sequence in force must still take (R166), base current and ceilings, the first
point. -/
def execImpedanceRunStart (str : Fin 16) (s : State) : Host.Outcome State Fault Refusal :=
  s.onDev fun d =>
    match (d.ms.imp.getD str {}).run with
    | none => d
    | some r =>
      if r.running then d
      else if !(d.baseSeq str).takesLeases then d.endImp str 6
      else match d.impStep str, (d.string str).chgMit with
        | some q, some m =>
          let top := min (d.strTargets str).2.1 (d.iLimit m)
          let amp := if q.type = 9 then floorDiv (r.ampl * q.iStep) 100 else floorDiv (r.ampl * top) 100
          let n := { r with running := true, point := 0, i0 := top, amp := amp, points := [], startAt := d.now, mitten := m,
                            rest := q.type == 9, measure := false, clipped := false }
          let d := d.modImp str fun i => { i with run := some n, runs := i.runs + 1 }
          let d := (d.modMu str fun u => { u with leaseDue := true }).modMit m fun x => { x with dither := 0 }
          (d.startPoint str n).publish str
        | _, none => d.endImp str 7
        | none, _ => d.endImp str 3

/-- Clear an accumulator of the run with its window opened at this phase-0 crossing (R198, R205; DEDUCED, log 30). -/
def Acc.open (a : Acc) (turns : Nat) : Acc := { a.clear turns with wOpen := true }

/-- IMPEDANCE_SETTLE_END (R205): the four accumulators are cleared and the measuring window opens. -/
def execImpedanceSettleEnd (str : Fin 16) (s : State) : Host.Outcome State Fault Refusal :=
  s.onDev fun d =>
    match (d.ms.imp.getD str {}).run with
    | none => d
    | some r =>
      if !r.running || r.measure then d
      else (d.each (List.range' r.accBase 4) fun n e => e.modAcc n fun a => a.open (e.turnsOf n)).modRun str fun x =>
        { x with measure := true }

/-- The Z of a point from its four windows (R194, R206): real and imaginary parts in µΩ, none where they have no quotient. -/
def impZ (cv sv ci si : Int) (nv ni : Nat) : Option (Int × Int) :=
  let q := (ci * ci + si * si).toNat
  if q = 0 ∨ nv = 0 then none
  else some (sat32 (roundDiv (ni * (cv * ci + sv * si) * 1000000) (nv * q)),
             sat32 (roundDiv (ni * (sv * ci - cv * si) * 1000000) (nv * q)))

/-- |I| of a point in units of 10 mA, rounded down and saturating (R206, R208). -/
def impAmpl (ci si : Int) (ni : Nat) : Nat :=
  if ni = 0 then 0 else min 65535 (isqrtBits 70 0 (4 * (ci * ci + si * si).toNat) / (ni * 327670))

/-- LOW_SIGNAL: |I| below A / 2 (R206). -/
def impLow (ci si : Int) (ni : Nat) (amp : Int) : Bool :=
  decide (16 * (ci * ci + si * si) < (amp * ni * 32767) ^ 2)

/-- The completed window of an accumulator at a point's end (R194, R205). -/
def Acc.finish (a : Acc) (turns : Nat) : Acc :=
  let b := a.turn turns
  if b.windows = 0 then b.complete else b

/-- The entry of a measured point (R206, R208). Where I has no magnitude Z is not stated: free (log 6). -/
def Dev.impPoint (d : Dev) (k : Nat) (r : ImpRun) (f : ImpFreq) : ImpPoint :=
  let a (i : Nat) := (d.ms.acc.getD (r.accBase + i) {}).finish ((d.ms.gen.getD k {}).turns d.now)
  let (cv, sv, ci, si) := ((a 0).sum, (a 1).sum, (a 2).sum, (a 3).sum)
  let (nv, ni) := ((a 0).count, (a 2).count)
  let z := (impZ cv sv ci si nv ni).getD ((Config.freeValue d.freeIx).toInt, (Config.freeValue (d.freeIx + 1)).toInt)
  let low := impLow ci si ni r.amp
  { freq := f.freq, zRe := z.1, zIm := z.2, iAmpl := impAmpl ci si ni, clipped := r.clipped, low := low,
    valid := !r.clipped && !low && nv != 0 && ni != 0, notRun := false }

/-- IMPEDANCE_POINT_END (R205-R207): Z and the flags of the point; the next point, or the end COMPLETE. -/
def execImpedancePointEnd (str : Fin 16) (s : State) : Host.Outcome State Fault Refusal :=
  s.onDev fun d =>
    match (d.ms.imp.getD str {}).run with
    | none => d
    | some r =>
      match (if r.running && r.measure then r.freqs[r.point]? else none) with
      | none => d
      | some f =>
        let n := { r with points := r.points ++ [d.impPoint str r f], point := r.point + 1 }
        let d := (d.modRun str fun _ => n).tickFree.tickFree
        if n.point < n.freqs.length then d.startPoint str n else d.endImp str 1

/-- Whether the ring of a run still permits its string (R204): a deleted ring permits none (DESIGN CHOICE, log 157). -/
def Dev.ringPermits (d : Dev) (r k : Nat) : Bool :=
  (d.ring r).st != .none && (d.ring r).nodeMask.getLsbD (strNode k)

/-- IMPEDANCE_REPEAT (R203, R204): a new run at the next charge frame, where R204 permits. -/
def execImpedanceRepeat (str : Fin 16) (s : State) : Host.Outcome State Fault Refusal :=
  s.onDev fun d =>
    match (d.ms.imp.getD str {}).ended with
    | none => d
    | some r =>
      if r.rep ≠ 0 ∧ (d.impRefusal str r.ampl r.accBase r.freqs).isNone ∧ d.ringPermits r.ring str then
        d.modImp str fun i =>
          { i with run := some { ampl := r.ampl, accBase := r.accBase, rep := r.rep, freqs := r.freqs, ring := r.ring } }
      else d

/-- A running run in a tick: its end reasons STEP, LEND, MODE and MITTEN (R207), and CLIPPED (R206). -/
def Dev.impTick (d : Dev) (k : Nat) : Dev :=
  match (d.ms.imp.getD k {}).run with
  | none => d
  | some r =>
    if !r.running then d
    else
      let x := d.string k
      let m := d.mitten r.mitten
      if x.st = .lent then d.endImp k 4
      else if x.st ≠ .running then d.endImp k 3
      else if d.sy.power ≠ .run then d.endImp k 5
      else if x.chgMit ≠ some r.mitten ∨ !m.looping ∨ m.dir ≠ .none ∨ m.rev ≠ (d.mitE r.mitten).revInto (.str k) then d.endImp k 7
      else if r.measure && (m.perturb != d.impP k r || (!r.rest && m.lim != 7)) then
        d.modRun k fun y => { y with clipped := true }
      else d

end Sys2Proof.Machine
end

