-- ==== Sys2Proof/Machine/Timers.lean ====
section
/-! DEFINITION. General timers (R365-R370), motion detection (R371), the watchdog's registers (R372-R378), and the meanings
of their rows. -/

namespace Sys2Proof.Machine

/-- Timer t. -/
def Dev.timer (d : Dev) (t : Nat) : Timer := d.sy.tmr.getD t {}

/-- CLK_SEL (R365). -/
def Timer.clkSel (x : Timer) : Nat := fld x.ctrl 3 2
/-- IRQ_EN (R367). -/
def Timer.irqEn (x : Timer) : Bool := bit x.ctrl 28
/-- MASTER (R370). -/
def Timer.master (x : Timer) : Nat := fld x.mode 0 4
/-- SLAVE_MODE (R370). -/
def Timer.slaveMode (x : Timer) : Nat := fld x.mode 4 2
/-- CAP_EDGE (R369). -/
def Timer.capEdge (x : Timer) : Nat := fld x.mode 6 2
/-- CAP_MASTER (R369). -/
def Timer.capMaster (x : Timer) : Bool := bit x.mode 13

/-- Timers run in LINER, RUN, LIMP and SLEEP (R370). -/
def Sys.timersRun (s : Sys) : Bool := s.power = .liner || s.power = .run || s.power = .limp || s.power = .sleep

/-- ARM = 1: COUNT 0, RUN set; CMP_HITS and the comparator start again (R366, R368). -/
def Timer.arm (x : Timer) : Timer :=
  { x with count := 0, run := true, hits := 0, cmpDis := false, atCmp := x.cmp == 0, atTop := x.top == 0 }

/-- One counted edge of a running timer; the wrap to 0 makes no event (R366). -/
def Timer.edge (x : Timer) : Timer :=
  if !x.run then x
  else
    let c := x.count + 1
    { x with count := c, atCmp := c == x.cmp && c != 0, atTop := c == x.top && c != 0 }

/-- A capture edge during a run (R369). -/
def Timer.capture (x : Timer) : Timer :=
  if x.run then { x with cap := x.count, capOvr := x.capOvr || x.capVal, capVal := true } else x

/-- An action on a timer's output: 0 no change, 1 high, 2 low, 3 toggle (R367). -/
def Timer.act (x : Timer) (a : Nat) : Timer :=
  if !bit x.ctrl 18 then x
  else { x with out := if a = 1 then true else if a = 2 then false else if a = 3 then !x.out else x.out }

/-- The slaves of a timer: higher-numbered timers that name it as MASTER (R370). -/
def Dev.slaves (d : Dev) (t : Nat) : List Nat := (List.range 16).filter fun i => decide (t < i) && (d.timer i).master == t

/-- An event of a timer, which it names (R302), is raised where IRQ_EN is set, and wakes from SLEEP (R367, R386). -/
def Dev.timerEvent (d : Dev) (t ev : Nat) : Dev :=
  if (d.timer t).irqEn then (d.raise ev (some t) []).wakeSleep 7 else d

/-- Whether OUT_SEL names a port configured as digital output (R367). -/
def Dev.outPort (d : Dev) (t : Nat) : Bool := decide (2 ≤ d.ho.glb.auxMode (fld (d.timer t).ctrl 19 5))

/-- The compare event of a timer and what it does to its slaves: RESET sets COUNT to 0, CLK_SEL 3 counts an edge
(R365-R367, R370). -/
def Dev.compareEvent (d : Dev) (t : Nat) : Dev :=
  let o := d.outPort t
  let run := (d.timer t).run
  let d := d.modTmr t fun x =>
    let y := { x with cmpFlag := true, hits := satInc 3 x.hits, atCmp := false }
    if o then y.act (fld x.ctrl 24 2) else y
  (d.timerEvent t evTmrCompare).each (d.slaves t) fun i e => e.modTmr i fun x =>
    let x := if x.slaveMode = 3 then { x with count := 0, atCmp := x.cmp == 0, atTop := x.top == 0 } else x
    if x.clkSel = 3 ∧ !(x.slaveMode == 1 && !run) then x.edge else x

/-- The end event of a timer: RUN clears, COUNT stays; TRIGGER slaves arm and CAP_MASTER slaves capture; the motion timer
re-arms (R366, R367, R369-R371). -/
def Dev.endEvent (d : Dev) (t : Nat) : Dev :=
  let o := d.outPort t
  let mot := bit d.sy.motion.ctl 0 && fld d.sy.motion.ctl 1 4 == t
  let d := d.modTmr t fun x =>
    let y := { x with run := false, endFlag := true, atTop := false }
    let y := if o then y.act (fld x.ctrl 26 2) else y
    if mot then y.arm else y
  (d.timerEvent t evTmrEnd).each (d.slaves t) fun i e => e.modTmr i fun x =>
    let x := if x.capMaster then x.capture else x
    if x.slaveMode = 2 then x.arm else x

/-! ### Rows -/

/-- TMR_ARM (R366). -/
def execTmrArm (tmr : Fin 16) (s : State) : Host.Outcome State Fault Refusal := s.onDev fun d => d.modTmr tmr Timer.arm

/-- TMR_STOP (R366). -/
def execTmrStop (tmr : Fin 16) (s : State) : Host.Outcome State Fault Refusal :=
  s.onDev fun d => d.modTmr tmr fun x => { x with run := false }

/-- TMR_FORCE_CMP (R368, R382): the compare event at once; the comparator is off for the rest of the run. -/
def execTmrForceCmp (tmr : Fin 16) (s : State) : Host.Outcome State Fault Refusal :=
  s.onDev fun d => (d.compareEvent tmr).modTmr tmr fun x => { x with cmpDis := x.run }

/-- TMR_COMPARE (R366): COUNT has become equal to CMP during a run. -/
def execTmrCompare (tmr : Fin 16) (s : State) : Host.Outcome State Fault Refusal :=
  s.onDev fun d =>
    let x := d.timer tmr
    if x.run && x.atCmp && !x.cmpDis then d.compareEvent tmr else d

/-- TMR_END (R366): COUNT has become equal to TOP; a compare event due in the same cycle comes first. -/
def execTmrEnd (tmr : Fin 16) (s : State) : Host.Outcome State Fault Refusal :=
  s.onDev fun d =>
    let x := d.timer tmr
    if x.run && x.atTop && !(x.atCmp && !x.cmpDis) then d.endEvent tmr else d

/-- TMR_CAPTURE (R369): a CAP_EDGE edge on CAP_AUX. -/
def execTmrCapture (tmr : Fin 16) (s : State) : Host.Outcome State Fault Refusal :=
  s.onDev fun d => if (d.timer tmr).capEdge = 0 then d else d.modTmr tmr Timer.capture

/-- TMR_CAP_READ (R369). -/
def execTmrCapRead (tmr : Fin 16) (s : State) : Host.Outcome State Fault Refusal :=
  s.onDev fun d => (d.replyW (d.timer tmr).cap).modTmr tmr fun x => { x with capVal := false }

/-- TMR_CMP_WRITE (R368): a value at or below COUNT makes no event until COUNT wraps. -/
def execTmrCmpWrite (tmr : Fin 16) (val : Word) (s : State) : Host.Outcome State Fault Refusal :=
  s.onDev fun d => d.modTmr tmr fun x => { x with cmp := val, atCmp := false }

/-- TMR_TOP_WRITE (R368). -/
def execTmrTopWrite (tmr : Fin 16) (val : Word) (s : State) : Host.Outcome State Fault Refusal :=
  s.onDev fun d => d.modTmr tmr fun x => { x with top := val, atTop := false }

/-- Whether a MODE write is invalid: its MASTER is the timer itself or a higher one. Timer 0 has no lower timer to name: a write
is valid there that needs no master, for a slave mode, CAP_MASTER or, with CLK_SEL 3 in force, its clock (DEDUCED, log 31). -/
def modeInvalid (t clkSel : Nat) (v : Word) : Bool :=
  decide (t ≤ fld v 0 4) && !(t == 0 && fld v 0 6 == 0 && !bit v 13 && clkSel != 3)

/-- A write of a timer's MODE (R370, R439). -/
def Dev.writeMode (d : Dev) (t : Nat) (v : Word) : Dev :=
  if fld v 14 18 ≠ 0 then d.accessError 3 0 (0x1004 + 32 * t) evSetupValueInvalid (d2 (0x1004 + 32 * t))
  else if modeInvalid t (d.timer t).clkSel v then d.raise evTmrConfigInvalid .none []
  else d.modTmr t fun x => { x with mode := v }

/-- TMR_MODE_WRITE (R370). -/
def execTmrModeWrite (tmr : Fin 16) (val : Word) (s : State) : Host.Outcome State Fault Refusal :=
  s.onDev fun d => d.writeMode tmr val

/-- Whether a timer's own clock can give it an edge (R365): a divided timer clock, the AON clock, or an AUX port that is a digital
input. The compare events of a master come with the master. -/
def Dev.clocked (d : Dev) (t : Nat) : Bool :=
  let x := d.timer t
  x.clkSel != 3 && (x.clkSel != 2 || d.ho.glb.auxMode (fld x.ctrl 13 5) == 1)

/-- TMR_COUNTED_EDGE (R365, R366, R370): a GATE slave counts only while its master's RUN is set. -/
def execTmrCountedEdge (tmr : Fin 16) (s : State) : Host.Outcome State Fault Refusal :=
  s.onDev fun d =>
    let x := d.timer tmr
    let gate := x.slaveMode == 1 && !(d.timer x.master).run
    if d.sy.timersRun && d.clocked tmr && !gate then d.modTmr tmr Timer.edge else d

/-! ### Motion (R371) -/

/-- WINDOW in policy frames. -/
def Motion.window (x : Motion) : Nat := fld x.ctl 5 7
/-- EN. -/
def Motion.en (x : Motion) : Bool := bit x.ctl 0

/-- A policy frame of motion detection: the pulses of the last WINDOW frames modulo 2^32, and the time that has passed since the
first frame that found them at or below THRESH. -/
def Dev.motionFrame (d : Dev) : Dev :=
  let m := d.sy.motion
  if !m.en then d.onSy fun s => { s with motion := { m with moving := false, hist := [], pulses := 0, calmNs := 0 } }
  else
    let c := (d.timer (fld m.ctl 1 4)).count
    let h := (c :: m.hist).take (m.window + 1)
    let p := (c - (h.getLast?.getD c)).toNat
    let calm := if p ≤ m.thr.toNat ∧ m.pulses ≤ m.thr.toNat then m.calmNs + d.sy.pframe.dt else 0
    d.onSy fun s => { s with motion := { m with hist := h, pulses := p, calmNs := calm } }

/-- A write of TMR_MOTION (R371): with EN clear MOVING_PULSE is 0. -/
def Dev.writeMotion (d : Dev) (v : Word) : Dev :=
  let was := d.sy.motion.moving
  let d := d.onSy fun s => { s with motion := { s.motion with ctl := v, moving := s.motion.moving && bit v 0 } }
  d.when (was && !bit v 0) fun e => e.raise evMotionChanged .none []

/-- MOTION_CHANGED (R371): MOVING_PULSE is set above THRESH, and cleared after CLEAR_S at or below it. -/
def execMotionChanged (s : State) : Host.Outcome State Fault Refusal :=
  s.onDev fun d =>
    let m := d.sy.motion
    let set := m.en && !m.moving && decide (m.thr.toNat < m.pulses)
    let clear := m.moving && decide (fld m.ctl 12 10 * 1000000000 ≤ m.calmNs)
    if set || clear then
      (d.onSy fun s => { s with motion := { m with moving := set } }).raise evMotionChanged .none []
    else d

/-! ### Watchdog registers -/

/-- ELAPSED: the count since the last service on the selected clock, saturating at 24 bits (R372, R378). -/
def Wdt.elapsed (w : Wdt) : Nat :=
  min 16777215 (if w.clkSel then w.countNs * 32768 / 1000000000 else w.countNs / 10240)

/-- The count of one period: ceil(PERIOD × 97.65625) of the timer clock / 1,024, or PERIOD × 32.768 of the AON clock, rounded up
(R372; log 41). -/
def Wdt.full (w : Wdt) : Nat := if w.clkSel then ceilDiv (w.period * 32768) 1000 else ceilDiv (w.period * 9765625) 100000

/-- Whether the count can reach a part of the period, in hundredths, within one control tick from now (R372, R374): the RC
oscillator may run 3 % fast (log 41). -/
def Wdt.reaches (w : Wdt) (part : Nat) : Bool :=
  decide (w.full * part * (if w.clkSel then 97 else 100) ≤ 10000 * { w with countNs := w.countNs + levelPeriod 0 }.elapsed)

/-- Whether the full count stands now, with the RC oscillator at its slowest (R372, R382). -/
def Wdt.expired (w : Wdt) : Bool := decide (w.full * (if w.clkSel then 103 else 100) ≤ 100 * w.elapsed)

/-- The watchdog counts in LINER, RUN, LIMP and RECOVERY once EN is 1, and pauses in SLEEP, DEEP and SHIP (R372, R377). -/
def Dev.wdtRuns (d : Dev) : Bool :=
  d.sy.wdt.en && (d.sy.power = .liner || d.sy.power = .run || d.sy.power = .limp || d.sy.power = .recovery)

/-- WDT_WINDOW_OPEN (R372): the count has reached the part of the period that WDT_WINDOW names. -/
def execWdtWindowOpen (s : State) : Host.Outcome State Fault Refusal :=
  s.onDev fun d => if d.wdtRuns && d.sy.wdt.reaches (25 * Config.wdtWindow) then d.onSy fun s => { s with wdt := { s.wdt with opened := true } } else d

/-- WDT_KEY_LAPSE (R373): the opening write is older than 10 µs, and a late second write does nothing. -/
def execWdtKeyLapse (s : State) : Host.Outcome State Fault Refusal :=
  s.onDev fun d => d.onSy fun s => { s with wdt := { s.wdt with keyOpen := false, lapsed := s.wdt.lapsed || s.wdt.keyOpen } }

/-- WDT_EN_WRITE (R372, R373, R378): only the active control supervisor writes WDT_CTRL; its fields lock once EN is 1. A
PERIOD of 0 or a reserved bit makes the value invalid (R439). -/
def execWdtEnWrite (agent : Fin 128) (val : Word) (s : State) : Host.Outcome State Fault Refusal :=
  s.onDev fun d =>
    if agent.val = agHost then d.ignoredWrite 0x0C00
    else if agent.val ≠ d.sy.activeSup ∨ d.sy.wdt.en then d
    else if fld val 16 16 = 0 ∨ fld val 2 14 ≠ 0 then d.accessError 3 0 0x0C00 evSetupValueInvalid (d2 0x0C00)
    else d.onSy fun s => { s with wdt := { s.wdt.restart with en := bit val 0, clkSel := bit val 1, period := fld val 16 16 } }

/-- Clear WDT_RESET_COUNT and LAST_CAUSE (R378, R439). -/
def Dev.clearWdt (d : Dev) (v : Word) : Dev :=
  if fld v 16 15 ≠ 0 then d.accessError 3 0 0x0C0C evSetupValueInvalid (d2 0x0C0C)
  else if bit v 31 then d.onSy fun s => { s with wdt := { s.wdt with resets := 0, lastCause := 0 } } else d

/-- WDT_RESET_CLEAR (R378). -/
def execWdtResetClear (val : Word) (s : State) : Host.Outcome State Fault Refusal := s.onDev fun d => d.clearWdt val

/-- The longest time that the watchdog is held within one period (R376), in ns. -/
def wdtHoldMax : Nat := 40000000

/-- The watchdog over some ns, during which the embedded flash erased a sector or did not: it holds its count until the cap of the
period is used up (R376). -/
def Wdt.pass (w : Wdt) (ns : Nat) (erase : Bool) : Wdt :=
  let held := if erase then min ns (wdtHoldMax - w.heldNs) else 0
  { w with countNs := w.countNs + (ns - held), heldNs := w.heldNs + held, heldCnt := decide (0 < held) }

/-- The watchdog's part of a tick (R376, R377). -/
def Dev.wdtTick (d : Dev) (ns : Nat) (erase : Bool) : Dev :=
  d.onSy fun s => { s with wdt := if d.wdtRuns then s.wdt.pass ns erase else { s.wdt with heldCnt := false } }

end Sys2Proof.Machine
end

