-- ==== Sys2Proof/Machine/Commit.lean ====
section
/-! DEFINITION. The steps of a commit (R30, R94, R127, R136, R223-R227), what it saves (R391, R446), and the gauntlets of
phases that join a running mitten (R30). -/

namespace Sys2Proof.Machine

/-! ### The liner's map (R390, R391, R394) -/

/-- Whether the straps name a liner (R390). -/
def Sys.linerStrapped (s : Sys) : Bool := decide (s.linerSrc < 12)
/-- Whether a map matches the liner (R394). -/
def Sys.linerMatches (s : Sys) (m : PathMap) : Bool :=
  let e := m.mitE 0
  let v := (m.busE 0).vTarget
  (if Config.linerPairs then e.topo == 4 else e.topo == 1 || e.topo == 3) &&
  e.fromN == m.groupHead s.linerSrc && e.toN == 16 && e.phases &&& 0xF#64 == 0xF#64 &&
  decide ((v - s.linerTarget).natAbs * 100 ≤ s.linerTarget.natAbs * 3) && s.linerStrapped

/-- What firmware writes into the liner record at a commit (R391). -/
def Dev.writeRecord (d : Dev) : Dev :=
  if d.sy.linerMatches d.pw.map then
    d.onSy fun s => { s with liner := { s.liner with
      record := some (d.pw.map.senseE 24, d.pw.map.senseE (2 * s.linerSrc), d.pw.map.mapId) } }
  else d

/-! ### Stored settings (R446) -/

/-- Write the settings-backed set-up to stored settings, as at each completed STAGE_COMMIT (R446). -/
def Dev.saveSettings (d : Dev) : Dev :=
  d.onSy fun s => { s with set := { s.set with
    valid := true, map := d.pw.map, mitCfg := d.pw.mit.map (·.cfg), srcCfg := d.pw.src.map (·.cfg),
    strCfg := d.pw.str.map (·.cfg), progs := d.pw.str.map (·.loaded),
    seqs := d.ms.mu.map (fun u => match u.seqNext with | some q => q | none => u.seq),
    accs := (List.range 512).filterMap (fun n =>
      let c := d.accSoon n
      if c = {} ∨ c.mode = .demodQ then none else some (n, c)),
    mmxs := (List.range 256).filterMap (fun n =>
      let c := match d.ms.mmxNext.find? fun p => p.2.1 == n with
        | some p => p.2.2
        | none => (d.ms.mmx.getD n {}).cfg
      if c = {} then none else some (n, c)),
    profile := d.pw.profNext.getD d.pw.profile, level := some d.ho.glb.inForce,
    auxMode0 := d.ho.glb.auxMode0, auxMode1 := d.ho.glb.auxMode1, auxOut := d.ho.glb.auxOut, evvec := d.ho.glb.evvec,
    motCtl := s.motion.ctl, motThr := s.motion.thr,
    twt1 := (match d.ln.twt[1]? with | some t => [t.addr, t.timing, t.hb] | none => s.set.twt1),
    twc := d.ln.twc.map (·.regs), can := d.ln.can.map (fun c => [c.ctrl, c.nbt, c.dbt, c.txid]),
    chnCtrl := d.ln.chn.ctrl, cable := d.ln.chn.cable, pairEn := d.ms.ref.pairEn, phRegs := d.pw.ph.map (·.held),
    updCtrl := d.ln.upd.ctrl } }

/-- The parts of stored settings that are kept at every change: brim rows, and the coulomb counts (R144, R252, R385). -/
def Dev.saveCounts (d : Dev) : Dev :=
  d.onSy fun s => { s with set := { s.set with brim := d.pw.brim, counts := d.pw.str.map fun x =>
    { q := x.q, ahIn := x.ahIn, ahOut := x.ahOut, qStored := x.qStored, qFull := x.qFull } } }

/-! ### Chain messages (R90, R358) -/

/-- Little-endian bytes of a signed 32-bit value. -/
def le4 (v : Int) : List Byte := leBytes 4 (enc 4 v)

/-- The hash of the items compared under R90: TOPOLOGY, LEND, I_MAX, L_NOM and the parameters of a shared mitten. The default of
GNT_ITHR derives from n_member, which is no item, so it stands as 0. -/
def Dev.sharedHash (d : Dev) (m : Nat) : BitVec 64 :=
  let e := d.mitE m
  Config.sharedHash ([BitVec.ofNat 8 e.topo, BitVec.ofNat 8 (b2n e.lend)] ++ le4 e.iMax ++ leBytes 4 e.lNom ++
    mitIds.flatMap fun i => le4 (if i = 16 then (look 16 (d.mitten m).cfg).getD 0 else mitP e (d.nOf m e) (d.mitten m).cfg i))

/-- CONFIG_CHECK of a shared mitten, sent by the crown at each commit (R358). -/
def Dev.sendConfigCheck (d : Dev) (m : Nat) : Dev :=
  if d.ln.chn.role = 1 ∧ (d.mitE m).used ∧ (d.mitE m).shared then
    d.chainSend ([3, BitVec.ofNat 8 m] ++ leBytes 8 (d.sharedHash m).toNat)
  else d

/-! ### Joining phases (R30) -/

/-- A gauntlet of the calibrated IDLE members that join a running mitten (R30, R46); none while another runs or a demand holds the
mitten. -/
def Dev.joinRule (d : Dev) (m : Nat) : Dev :=
  let x := d.mitten m
  let l := (d.phasesIn m .idle).filter fun p => (d.phase p).calOk
  if (d.mitE m).used && x.looping && x.gnt.isNone && !x.held && !x.disc && !x.mismatch && d.inRun && !l.isEmpty then
    (d.each l fun p e => e.modPh p Phase.beginTest).modMit m fun y => { y with gnt := some { join := true, members := l } }
  else d

/-! ### What a commit affects (R224) -/

/-- The sense entries that scale what a mitten uses: its ends, its T_INPUT, its phases. -/
def PathMap.mitSense (m : PathMap) (i tIn : Nat) : List Nat :=
  let e := m.mitE i
  (m.standsFor e.fromNode ++ m.standsFor e.toNode).flatMap (fun n => [n.vIx, n.iIx]) ++
    (if tIn < 32 then [auxIx tIn] else []) ++ e.members.map phIx

/-- T_INPUT of a mitten under a map and a parameter set (R67). -/
def Dev.tInput (d : Dev) (new : PathMap) (c : ParamSet) (m : Nat) : Nat :=
  (mitP (new.mitE m) (d.nOf m (new.mitE m)) c 13).toNat

/-- Whether a commit affects a mitten: its entry, its MITTEN_CONFIG, or the scaling of a node it uses (R224). -/
def Dev.affected (d : Dev) (new : PathMap) (m : Nat) : Bool :=
  let cfg := look m d.pw.stage.mitCfg
  let tIn := d.tInput new (cfg.getD (d.mitten m).cfg) m
  (new.mitE m).differs (d.pw.map.mitE m) || (match cfg with | some c => c != (d.mitten m).cfg | none => false) ||
    (new.mitSense m tIn).any fun i => (new.senseE i).differs (d.pw.map.senseE i)

/-! ### The step of one mitten -/

/-- The phases that mittens still to step hold now: no other mitten takes them before their step (R30). -/
def Dev.heldBack (d : Dev) (todo : List Nat) : BitVec 64 := todo.foldl (fun a m => a ||| (d.mitE m).phases) 0

/-- Whether a mitten that still waits for its step uses the AUX input of a sense entry as T_INPUT (R30). -/
def Dev.auxWaits (d : Dev) (todo : List Nat) (i : Nat) : Bool :=
  80 ≤ i && todo.any fun m => auxIx (d.tInput d.pw.map (d.mitten m).cfg m) == i

/-- The scaling of an AUX input takes effect at the step of the last running mitten that uses it as T_INPUT, and at step 0 where
none does (R30; for several mittens DEDUCED, log 145). -/
def Dev.applyAux (d : Dev) (todo : List Nat) : Dev :=
  let new := d.newMap
  let ix := (List.range' 80 32).filter fun i => !d.auxWaits todo i
  d.onPw fun p => { p with map := { p.map with sense := ix.foldl (fun s i => s.set i (new.senseE i)) p.map.sense } }

/-- Put the new entry, phase scaling and parameters of a mitten in force (R30, R89, R224); the class-0 demands on it stand until
they are lifted (R307). -/
def Dev.applyMit (d : Dev) (todo : List Nat) (m : Nat) : Dev :=
  let new := d.newMap
  let oldE := d.mitE m
  let newE := { new.mitE m with phases := (new.mitE m).phases &&& ~~~ d.heldBack todo }
  let gone := oldE.members.filter fun p => !newE.members.contains p
  let d := d.each gone fun p e =>
    let s := (e.phase p).st
    if s = .active ∨ s = .shed ∨ s = .gauntlet then
      (e.leave p (e.phase p).stopSt false).modPh p fun x => { x with revSw := false, rejoin := false } else e
  let d := d.onPw fun p => { p with
    map := { p.map with mits := p.map.mits.set m newE,
                        sense := newE.members.foldl (fun s q => s.set (phIx q) (new.senseE (phIx q))) p.map.sense } }
  let d := d.modMit m fun x =>
    let c := (look m d.pw.stage.mitCfg).getD x.cfg
    if newE.used ∧ !oldE.used then { cfg := c, lad := x.lad, held := x.held, disc := x.disc } else { x with cfg := c }
  let d := d.each newE.members fun p e => e.rethreshold p
  if newE.used then d else d.modMit m fun x => { cfg := x.cfg, lad := x.lad, held := x.held, disc := x.disc }

/-- Apply every mitten that is not waiting for its step, so that phases released by a step reach their new mitten. -/
def Dev.applyMits (d : Dev) (todo : List Nat) : Dev :=
  (d.each ((List.range 16).filter fun m => !todo.contains m) fun m e => e.applyMit todo m).applyAux todo

/-! ### Step 0 -/

/-- A source entry and parameters at the commit (R94, R96): enabled to ABSENT, disabled with its switch OFF and its mittens
stopped first, HOLDOFF left by a SOURCE_CONFIG. -/
def Dev.applySource (d : Dev) (k : Nat) : Dev :=
  let old := d.pw.map.srcE k
  let new := d.newMap.srcE k
  let cfg := look k d.pw.stage.srcCfg
  let d := d.modSrc k fun x => { x with cfg := cfg.getD x.cfg, st := if cfg.isSome && x.st == .holdoff then .absent else x.st }
  let d := if old.type ≠ 0 ∧ new.type = 0 then
      (((d.stopAt k).endLend k 8).setSwitch k .off).modSrc k fun x => { cfg := x.cfg, lad := x.lad } else d
  let d := d.onPw fun p => { p with map := { p.map with srcs := p.map.srcs.set k new } }
  if old.type = 0 ∧ new.type ≠ 0 then d.modSrc k fun x => { x with st := .absent } else d

/-- A committed program takes effect (R136): at START with the lower of old and new targets for a frame while RUNNING or
PAUSED, after the precharge, the lend or the HOLD of the string otherwise (log 175). -/
def Dev.newProgram (d : Dev) (k : Nat) : Dev :=
  let x := d.string k
  match d.program k with
  | none => d
  | some p =>
    if (x.st = .running ∨ x.st = .paused) ∧ !(d.switch (12 + k)).hold then
      (d.modStr k fun y => { y with prog := some p, progNew := false, vPrev := some y.vTgt, iPrev := some y.iCeil }).toStep k p.start
    else if x.st = .running ∨ x.st = .paused ∨ x.st = .precharge ∨ x.st = .lent then d.modStr k fun y => { y with progNew := true }
    else d

/-- A string entry, parameters and program at the commit (R127, R129, R136). A preset program that a parameter or the map
changes is replaced at its step (DEDUCED, log 34). -/
def Dev.applyString (d : Dev) (k : Nat) : Dev :=
  let old := d.pw.map.strE k
  let new := d.newMap.strE k
  let before := d.program k
  let sel := d.stp k 1
  let d := d.modStr k fun x => match look k d.pw.stage.strCfg with
    | some c => { x with cfg := c, zBase := List.replicate 32 .none }
    | none => x
  let staged := look k d.pw.stage.progs
  let d := match staged with
    | some p => d.modStr k fun x => { x with loaded := some p }
    | none => d
  let d := if old.type ≠ 0 ∧ new.type = 0 then
      (((d.endImp k 3).stopAt (12 + k)).setSwitch (12 + k) .off).modStr k fun x =>
        { cfg := x.cfg, lad := x.lad, loaded := x.loaded, qStored := x.qStored, qFull := x.qFull } else d
  let d := d.onPw fun p => { p with map := { p.map with strs := p.map.strs.set k new } }
  if new.type = 0 then d
  else if old.type = 0 then
    (if d.nodeV (.str k) < d.absentLevel k then d.enterAbsent k
     else
       let d := d.modStr k fun x => { x with st := .stopped }
       if d.stp k 2 = 1 then d.runFromStart k else d)
  else if d.stp k 1 ≠ sel ∨ (staged.isSome && d.stp k 1 != 0) then d.newProgram k
  else if d.program k ≠ before then
    d.modStr k fun x => match x.prog with
      | some _ => { x with prog := d.program k, iPrev := some x.iCeil }
      | none => x
  else d

/-- The bus entries and the scaling of every node; an enabled bus starts without flags (R30). -/
def Dev.applyNodes (d : Dev) : Dev :=
  let new := d.newMap
  let gone := (List.range 4).filter fun j => (d.pw.map.busE j).enable && !(new.busE j).enable
  let d := d.each gone fun j e =>
    (e.each ((e.pw.map.mitsOn (.bus j)).filter fun m => (e.mitten m).running && (e.mitten m).st != .faulted) fun m c =>
      c.stopMit m).modBus j fun _ => {}
  d.onPw fun p => { p with map := { p.map with buses := new.buses, sense := new.sense.take 80 ++ p.map.sense.drop 80 } }

/-- Measurement, accumulator and tracker set-up (R164, R192, R200); a unit whose default sequence changes begins a pass of
the new one. -/
def Dev.applyMeas (d : Dev) (old : PathMap) : Dev :=
  let g := d.pw.stage
  let d := d.each (g.seqs.map (·.1)) fun k e => match look k g.seqs with
    | some q => e.modMu k fun u => { u with seqNext := some (some q) }
    | none => e
  let d := d.each (List.range 16) fun k e =>
    if (e.unit k).seq.isNone && defaultSeq old k != defaultSeq d.pw.map k then e.modMu k (·.endPass) else e
  let d := g.accs.foldl (fun e p => e.commitAcc p.1 p.2) d
  g.mmxs.foldl (fun e p => e.commitMmx p.1 p.2) d

/-- PROFILE_SET, and the requested behaviour level with its lock (R10, R224, R227). "From the first STAGE_COMMIT" is taken as from
step 0 of the commit: a level written before it is still accepted, and a commit that ends before it locks nothing (DESIGN CHOICE,
log 84). -/
def Dev.applyProfile (d : Dev) : Dev :=
  let d := match d.pw.stage.profile with
    | some p => d.onPw fun q => { q with profNext := some p }
    | none => d
  d.modGlb fun g => { g with inForce := if g.behav = 0 then g.inForce else g.behav, locked := true }

/-! ### The FAULT cause of LIMP (R242) -/

/-- Whether a measurement unit is in use: an input of an enabled node, a phase of the map, or a host sequence (R242). -/
def Dev.unitUsed (d : Dev) (k : Nat) : Bool :=
  d.nodeOnUnit k || (d.unit k).seq.isSome || (List.range 16).any fun m => (d.mitE m).used &&
    (List.range' (4 * k) 4).any fun p => (d.mitE m).phases.getLsbD p

/-- Whether a retired item still causes LIMP: SUP-A, SUP-B, SUP-L, or a measurement unit in use (R242). -/
def Dev.faultCause (d : Dev) : Bool :=
  d.sy.supRetired.getD 0 false || d.sy.supRetired.getD 1 false || d.sy.supRetired.getD 3 false ||
    (List.range 16).any fun k => (d.unit k).retired && d.unitUsed k

/-- A RETURN_TO_SERVICE clears the FAULT cause once no retired item stands for it; a commit that removes the last one from use
reports the cause removed and does not clear it (R233, R242). -/
def Dev.clearFaultCause (d : Dev) : Dev :=
  if d.faultCause then d else d.onSy fun s => { s with limpCause := s.limpCause &&& 0b1011#4 }

/-! ### The step of a charge frame -/

/-- The last step: the new map alone is in force, powered units follow it, settings and the liner record are written, and
STAGE_COMMIT completes with MAP_ID and the number of steps (R225, R226, R391, R446). -/
def Dev.finishCommit (d : Dev) : Dev :=
  let g := d.pw.stage
  let d := d.onPw fun p => { p with map := g.map.getD p.map, stage := { step := g.step } }
  let d := ((d.powerQuads.powerUnits).saveSettings).writeRecord
  let d := d.each (List.range 16) fun m e => e.sendConfigCheck m
  match g.tag with
  | some t => d.done t stSuccess (d.pw.map.mapId + 4294967296 * (g.step + 1)) []
  | none => d

/-- Whether the step of a mitten may fall in this charge frame: that of a shared one in a formed chain alone, in the charge frame in
which every device takes it (R227, R364). -/
def Dev.stepFits (d : Dev) (all : Bool) (m : Nat) : Bool :=
  !((d.mitE m).shared || (d.newMap.mitE m).shared) || (d.ln.chn.st == .formed && all)

/-- One step of a stepping commit (R224): step 0, or the next affected running mitten. The step of a shared mitten waits for its
charge frame, and the commit goes on with the others (R227, R364); `all` says whether that frame is this one, which no field of the
chain tells (DESIGN CHOICE, log 176). -/
def Dev.commitStep (d : Dev) (all : Bool) : Dev :=
  let g := d.pw.stage
  let todo := if g.begun then g.todo else (List.range 16).filter fun m => (d.mitten m).running && d.affected d.newMap m
  let next := todo.find? (d.stepFits all)
  let rest := match next with
    | some m => todo.filter (· != m)
    | none => todo
  if g.st != .stepping || (g.begun && next.isNone) then d
  else if !g.begun then
    let old := d.pw.map
    let d := d.modStage fun x => { x with
      begun := true, step := 0, oldMap := some old, oldMit := (List.range 16).zip (d.pw.mit.map (·.cfg)),
      oldSrc := (List.range 12).zip (d.pw.src.map (·.cfg)), oldStr := (List.range 16).zip (d.pw.str.map (·.cfg)),
      todo := rest }
    let d := d.each (List.range 12) fun k e => e.applySource k
    let d := d.each (List.range 16) fun k e => e.applyString k
    let d := (d.applyNodes.applyMeas old).applyProfile
    let d := (d.applyMits rest).powerQuads.powerUnits
    if rest.isEmpty then d.finishCommit else d
  else
    let d := d.modStage fun x => { x with step := x.step + 1, todo := rest }
    let d := (d.applyMits rest).powerQuads.powerUnits
    if rest.isEmpty then d.finishCommit else d

end Sys2Proof.Machine
end

