-- ==== Sys2Proof/Machine/Frames.lean ====
section
/-! DEFINITION. The charge and policy frames (R177, R210-R220, R224, R228-R233), checkpoints (R400, R401), and the meanings
of the frame rows. -/

namespace Sys2Proof.Machine

/-! ### Checkpoints (R400, R401) -/

/-- The content of a checkpoint (R400 BODY). -/
def Dev.ckBody (d : Dev) : CkBody :=
  { stage := d.pw.stage, swDisc := d.pw.sw.map (fun s => (s.disc, s.hold)), mitDisc := d.pw.mit.map (fun m => (m.disc, m.held)),
    phLad := d.pw.ph.map (·.lad), mitLad := d.pw.mit.map (·.lad), srcLad := d.pw.src.map (·.lad),
    strLad := d.pw.str.map (·.lad), src := d.pw.src, str := d.pw.str, muLad := d.ms.mu.map (·.lad), supLad := d.sy.supLad,
    selected := d.pw.src.map (fun s => (s.selAt, s.deselAt)), profile := d.pw.profile, moving := d.pw.moving,
    effects := (d.ho.tags.filter (fun t => t.st = .awaiting)).map fun t => (t.tag, t.status, t.result) }

/-- LENGTH of a checkpoint body in bytes: the encoding of the body is not given, so it is free (log 6). -/
def Dev.ckLength (d : Dev) : Nat := (Config.freeValue d.freeIx).toNat % 131040

/-- Write the next checkpoint n into buffer n mod 2: OPEN_SEQ first; the tags whose effects it contains are noted (R401). -/
def Dev.writeCheckpoint (d : Dev) : Dev :=
  let n := d.sy.ckNext
  let old := d.sy.ck.getD (n % 2) {}
  let b : CkBuf := { openSeq := n, closeSeq := old.closeSeq, cframe := d.sy.cframe.count, length := d.ckLength,
                     writer := d.sy.activeSup, body := d.ckBody }
  ((d.onSy fun s => { s with ck := s.ck.set (n % 2) b, ckNext := n + 1, ckOpen := true }).onHo fun h =>
    { h with tags := h.tags.map fun t => if t.st = .awaiting ∧ t.ckAt = 0 then { t with ckAt := n } else t }).tickFree.modHb
      fun h => { h with wait := h.wait.map fun k => if k = 0 then n else k }

/-- A hatband command is complete: DONE (R342). -/
def Hatband.complete (h : Hatband) : Hatband := { h with go := false, wait := none, resp := h.resp.set 0 1 }

/-- The number of the checkpoint being written. -/
def Sys.ckNow (s : Sys) : Nat := s.ckNext - 1

/-- The hold ends with the first completed checkpoint of the supervisor that resumes (R403). -/
def Dev.endHold (d : Dev) : Dev :=
  let held := d.ho.heldEv
  let d := d.onSy fun s => { s with noSup := false, holdOn := false, holdOut := false }
  let d := d.onHo fun h => { h with heldEv := [] }
  (held.foldl (fun e x => e.deliver x) d).offset evHoldExpired 0

/-- Enter SLEEP after its checkpoint: lends, runs and captures end (R234), STATE, and the domains that R383 gates stay on (R385). -/
def Dev.enterSleep (d : Dev) : Dev := d.endActivities.onSy fun s => { s with power := .sleep, sleepNext := false, order := .none }

/-- The end of an activation at the first checkpoint of the new firmware (R311, R420 step 5, R421): the event, and stored
settings defaulted where the format differs. -/
def Dev.activated (d : Dev) : Dev :=
  match d.sy.actDue with
  | none => d
  | some reset =>
    let d := (d.onSy fun s => { s with actDue := none }).raise evUpdateActivated none []
    if !reset then d
    else ((d.onSy fun s => { s with set := {} }).onPw fun p => { p with brim := List.replicate 32 {} }).raise evSettingsDefaulted none []

/-- CLOSE_SEQ is written (R278, R401, R403): the completions of the commands the checkpoint contains become due; a hold ends
and held events are delivered. -/
def Dev.closeCheckpoint (d : Dev) : Dev :=
  if !d.sy.ckOpen then d
  else
    let n := d.sy.ckNow
    let d := d.onSy fun t => { t with ckOpen := false, ck := t.ck.modify (n % 2) fun b => { b with closeSeq := n } }
    let d := d.onHo fun h => { h with tags := h.tags.map fun t =>
      if t.st = .awaiting ∧ t.ckAt ≠ 0 ∧ t.ckAt ≤ n then { t with st := .due } else t }
    let d := d.modHb fun h => match h.wait with
      | some k => if k ≠ 0 ∧ k ≤ n then h.complete else h
      | none => h
    let d := d.when (d.sy.noSup || d.sy.holdOn) fun e => e.endHold
    d.activated

/-- CHECKPOINT_COMPLETE (R401): the checkpoint closes; an accepted SLEEP is entered. -/
def execCheckpointComplete (s : State) : Host.Outcome State Fault Refusal :=
  s.onDev fun d =>
    if !d.sy.ckOpen then d else d.closeCheckpoint.when d.closeCheckpoint.sy.sleepNext fun e => e.enterSleep

/-! ### The reference, sources, buses and mittens in a charge frame -/

/-- REF_DEV: the median of the powered units' deviations (R177); REF_SUSPECT clears after ten frames below 4,000 ppm, not
while MEAS_REF_FAULT stands. -/
def Dev.refFrame (d : Dev) : Dev :=
  let l := (d.ms.mu.filter (fun u => u.corr != .off)).map (·.dev)
  if l.isEmpty then d
  else
    let m := median l
    let run (hit : Bool) (n : Nat) : Nat := if hit then satInc 10 n else 0
    let ok := run (decide (m.natAbs < 4000)) d.ms.ref.okFrames
    let clear := d.ms.ref.suspect && !d.ms.ref.fault && decide (10 ≤ ok)
    let d := d.modRef fun r => { r with
      dev := m, frSum := r.frSum + m, frN := r.frN + 1, okFrames := ok, over5 := run (decide (5000 < m.natAbs)) r.over5, over20 := run (decide (20000 < m.natAbs)) r.over20,
      suspect := r.suspect && !clear }
    let d := d.each (List.range 16) fun k e => e.modMu k fun u =>
      if u.corr = .off then u
      else { u with devRun := run (decide (2000 < (u.dev - m).natAbs)) u.devRun,
                    in12Run := run (decide (250 < (u.in12 - 125000).natAbs)) u.in12Run }
    d.when clear fun e => e.offset evMeasRefMismatch 0

/-- The ripple and the undrawn current of a source over the frame (R98, R99, R104). -/
def Dev.sourceFrame (d : Dev) (k : Nat) : Dev :=
  let x := d.source k
  let lim := d.sp k 5
  let bad := decide (0 < lim) && x.ripAny && decide (lim < x.ripHi - x.ripLo)
  d.modSrc k fun y =>
    { y with
      st := if bad && y.st == .qualifying then .absent else y.st,
      ripBad := if bad && y.qualified then y.ripBad + 1 else 0, ripHi := 0, ripLo := 0, ripAny := false,
      iUnctrl := if y.unN = 0 then y.iUnctrl else max 0 (floorDiv y.unSum y.unN), unSum := 0, unN := 0 }

/-- Charge frames of a bus at or above V_SUPP (R141), and of a reversed mitten without current (R36). -/
def Dev.frameCounts (d : Dev) : Dev :=
  let d := d.each (List.range 4) fun j e =>
    if (e.pw.map.busE j).enable && !(e.busOf j).below then e.modBus j fun b => { b with okFrames := satInc 10 b.okFrames } else e
  d.each (List.range 16) fun m e =>
    e.modMit m fun x => if (x.dSupp || e.suppReversed m) ∧ x.iCmd = 0 then { x with zeroFrames := satInc 10 x.zeroFrames } else { x with zeroFrames := 0 }

/-- SHARED_SENSE_MISMATCH after a charge frame of difference (R91). -/
def Dev.senseFrame (d : Dev) (m : Nat) : Dev :=
  let bad := (d.mitten m).senseBad && (d.mitE m).used && d.remote m && d.ln.chn.follows
  let d := if bad then d.onset evSharedSenseMismatch m (some m) [] else d.offset evSharedSenseMismatch m
  d.modMit m fun x => { x with senseBad := true }

/-- A chain frame with its CRC over bytes 2-247 in place (R356). -/
def sealFrame (f : List Byte) : List Byte := f.take 248 ++ leBytes 2 (crc16 ((f.drop 2).take 246)).toNat

/-- What a boundary of level 1 or 2 shows outside: its bit in FLAGS of the crown's frame (R356), and the SYNC pulse in output
mode, 1 or 3 µs (R362). -/
def Dev.showBoundary (d : Dev) (l : Nat) : Dev :=
  d.modChn fun c =>
    let f := c.outFrame
    { c with outFrame := if c.role = 1 ∧ f.length = 250 then
               sealFrame (putBytes f 6 [BitVec.ofNat 8 (byteAt f 6 ||| l)]) else f,
             pulse := if fld c.ctrl 9 2 = 1 then 2 * l - 1 else c.pulse }

/-- Whether the active supervisor works in this power state: checkpoints, commits, arbitration. -/
def Dev.supWorks (d : Dev) : Bool := d.inRun && !d.sy.takeover

/-! ### Service profiles (R228-R230) -/

/-- The smallest count of active phases the shedding rule permits, from n on (R229). -/
def shedCount (iMax avg : Int) (nMember r : Nat) : Nat → Nat → Nat
  | 0, n => n
  | k + 1, n => if 200 * avg ≤ limitOf iMax n nMember * (180 - r) then n else shedCount iMax avg nMember r k (n + 1)

/-- The PERIOD of the sampling synchronisation: a divisor of SEQ_PERIOD x 20 whose frequency is nearest to f, within 5 % of
it, at or below FSW and at or above 20 kHz; of two equally near, the lower frequency (R229). -/
def syncPeriod (seqPeriod f fsw : Nat) : Option Nat :=
  let n := 20 * seqPeriod
  let c := 8000000000
  let lo := max (ceilDiv (20 * c) (21 * max 1 f)) (ceilDiv c (max 1 fsw))
  let hi := min (20 * c / (19 * max 1 f)) 400000
  if n = 0 ∨ hi < lo then none
  else
    let dist (p : Nat) : Nat := ((c : Int) - f * p).natAbs
    ((List.range' (ceilDiv n hi) (n / max 1 lo + 1 - ceilDiv n hi)).filter fun k => k != 0 && n % k == 0).foldl
      (fun a k =>
        let p := n / k
        if p < lo ∨ hi < p then a
        else match a with
          | none => some p
          | some q => if dist p * q < dist q * p ∨ (dist p * q = dist q * p ∧ q < p) then some p else a) none

/-- The levers of one running mitten (R229), those of a shared one the crown's (R228), none under LIMP (R231, R232): shedding,
which belongs to RUN alone (R69) and takes the phases highest in the interleave order of all devices (R92), frequency, sampling
synchronisation, dithering. -/
def Dev.levers (d : Dev) (m : Nat) : Dev :=
  let e := d.mitE m
  let x := d.mitten m
  let w := d.pw.profile
  let limp := e.shared && d.sy.limpCause.getLsbD 3
  if !e.used || !x.looping || x.held || d.remote m || limp then d
  else if d.impHolds m then d.modMit m fun y => { y with dither := 0 }
  else
    let avg := x.iAvg
    let n := shedCount (d.iMax m) avg (d.nMember m) w.r (d.nMember m) (d.mp m 18).toNat
    let n := if e.fsbb then (n + 1) / 2 * 2 else n
    let d := if x.st != .run then d
      else if w.e < 10 then (d.setActive m 64).shedChain m none
      else (d.setActive m (max (if e.fsbb then 2 else 1) n)).shedChain m (some n)
    let fsw := (d.mp m 2).toNat
    let f := if 100 * avg < 50 * d.iLimit m then max 20000 (fsw * (200 - w.e) / 200) else fsw
    let unit := match d.leadOf m with
      | some p => (d.seqOf (p / 4)).period
      | none => 0
    let sync := if 25 ≤ w.p ∧ w.m ≤ w.p then syncPeriod unit f fsw else none
    match sync with
    | some p => d.modMit m fun y => { y with freq := 8000000000 / p, syncP := some p, dither := 0 }
    | none => d.modMit m fun y => { y with
        freq := f, syncP := .none,
        dither := if w.m = 0 ∨ d.noDither m then 0 else f * 8 * w.m / (100 * (w.m + w.p)) }

/-- MITTEN_LIMITED after a whole policy frame of CUFF, TEMPERATURE or BRIM (R75); whether RATION was in charge in all of it (R109;
for "during the preceding policy frame", DESIGN CHOICE, log 174); the efficiency of the frame, 80-99 %, kept in whole percent
(R74; the resolution is the model's, DESIGN CHOICE, log 153). -/
def Dev.mittenPolicy (d : Dev) (m : Nat) : Dev :=
  let x := d.mitten m
  if !x.looping then d.modMit m fun y => { y with limFrame := 0, rationFrame := false }
  else
    let hit := (x.limFrame = 1 || x.limFrame = 2 || x.limFrame = 3) && x.limFrame != x.limLast
    let d := if hit then (d.modMit m fun y => { y with limLast := x.limFrame }).raise evMittenLimited (some m) [] else d
    let d := d.modMit m fun y => { y with limFrame := 0, rationFrame := x.limFrame == 4 }
    if x.agf.n = 0 then d
    else (d.modMit m fun y => { y with eta := (clampI 80 99 (Config.freeEta d.freeIx)).toNat }).tickFree

/-! ### The policy frame -/

/-- PRECHARGE_NO_PATH is tested again (R35). -/
def Dev.preRetest (d : Dev) (k : Nat) : Dev :=
  let x := d.string k
  if x.st = .precharge ∧ x.noPre then
    match d.prechargeMit k with
    | some m => ((d.modStr k fun y => { y with preMit := some m, noPre := false }).offset evPrechargeNoPath k).publish k
    | none => d
  else d

/-- SOC quality with age (R145). -/
def Dev.socAge (d : Dev) (k : Nat) : Dev :=
  d.modStr k fun x => match x.anchorAt with
    | some a => if x.socQ = .anchored ∧ a + 2592000000000000 ≤ d.now then { x with socQ := .drifting } else x
    | none => x

/-- A unit of the measurement fabric at a policy frame: MEAS_SEQ_OVERRUN may be raised again, a synchronising reset of the
policy frame is due, and a die temperature that moved by more than 10 °C within the frame re-acquires (R169, R173, R188). -/
def MUnit.policy (u : MUnit) (now : Nat) : MUnit :=
  let v := { u with noted := false, syncNow := u.syncNow ||| u.syncPol, syncPol := 0, dieT0 := u.dieT }
  if (u.corr = .converged ∨ u.corr = .degraded) ∧ 1000 < (u.dieT - u.dieT0).natAbs then v.reacquire now else v

/-- The demand of every bus is its mean power over the policy frame that ends (R111). -/
def Dev.busDemands (d : Dev) : Dev :=
  d.each (List.range 4) fun j e => e.modBus j fun b =>
    { b with demand := if b.pN = 0 then b.demand else floorDiv b.pSum b.pN, pSum := 0, pN := 0 }

/-- The clean policy frames that end the FRAME cause (R233). -/
def Dev.cleanFrames (d : Dev) : Dev :=
  d.onSy fun s =>
    let n := if s.pDirty then 0 else satInc 10 s.cleanP
    { s with cleanP := n, pDirty := false, limpCause := if 10 ≤ n then s.limpCause &&& 0b1110#4 else s.limpCause }

/-- The slice coefficients of a unit as the greatest share of its correction range, in percent rounded up (R175, R251). -/
def MUnit.slicePct (u : MUnit) : Nat :=
  u.coefs.foldl (fun a c => max a (max (ceilDiv (100 * c.1.natAbs) 64) (max (ceilDiv (100 * c.2.1.natAbs) 2000) (ceilDiv (100 * c.2.2.natAbs) 500)))) 0

/-- R_SW of a tied port over a policy frame (R251), in µΩ. -/
def Dev.switchMeas (d : Dev) (p : Nat) : Option Int :=
  let a := (d.switch p).agf
  if a.n = 0 ∨ !a.ok ∨ a.i = 0 then none else some (floorDiv (1000000 * a.v) a.i)

/-- L of a mitten (R251), in nH: the median over its active phases of (V_high − V_low) × t_on / ΔI; in RUN under PEAK, AVG or
PRED, with each ΔI at least 5 % of the range's full scale. -/
def Dev.inductance (d : Dev) (m : Nat) (rise : List Int) : Option Int :=
  let e := d.mitE m
  let dv := ((d.nodeV e.fromNode - d.nodeV e.toNode).natAbs : Int)
  let l := (d.active m).zip rise
  let ok := (d.mitten m).st == .run && d.law m != .burst && !l.isEmpty &&
    l.all fun q => decide (0 < q.2) && decide (5 * d.fullScale q.1 (d.phase q.1).range ≤ 100 * q.2)
  if ok then some (median (l.map fun q => floorDiv (dv * (d.phase q.1).onTime * 125) (1000 * q.2))) else none

/-- Θ of a stage over a policy frame (R251), in µ°C per watt: the rise over the rest temperature by the loss, which the output
power and the efficiency give; in RUN, I_avg 40-90 % of I_LIMIT, the temperature steady within 1 °C. -/
def Dev.stageRise (d : Dev) (m : Nat) : Option Int :=
  let x := d.mitten m
  let a := x.agf
  let lim := d.iLimit m
  match d.stageT m, x.tCold with
  | some t, some cold =>
    let loss := floorDiv (a.vi * (100 - x.eta : Int)) (1000 * max 1 (a.n * x.eta : Nat))
    if a.n = 0 ∨ !a.ok ∨ 100 * x.iAvg < 40 * lim ∨ 90 * lim < 100 * x.iAvg ∨ 100 < a.hi - a.lo ∨ loss ≤ 0 then none
    else some (floorDiv ((t - cold) * 10000000) loss)
  | _, _ => none

/-- R_src of a source over a policy frame (R251), in µΩ: −ΔV / ΔI by regression; SELECTED, the current over at least 10 % of
I_IN_MAX. -/
def Dev.sourceMeas (d : Dev) (k : Nat) : Option Int :=
  let a := (d.source k).agf
  let den := a.n * a.ii - a.i * a.i
  if a.n = 0 ∨ !a.ok ∨ 10 * (a.hi - a.lo) < d.sp k 7 ∨ den ≤ 0 then none
  else some (floorDiv (-1000000 * (a.n * a.vi - a.v * a.i)) den)

/-- What the row measured of an item (R251): the taps of a calibrated delay line, and the inductance. What else the conditions
name, the row vouches for (DEDUCED, log 161). -/
def Dev.rowMeas (d : Dev) (a : AgeMeas) : Option AgeMeas :=
  if a.item = 2 then (if (d.phase a.num).calOk then some a else none)
  else if a.item = 4 then (d.inductance a.num a.raw).map fun v => { a with value := v }
  else none

/-- The measurements of a policy frame (R250, R251): the slices of every CONVERGED unit, tied switches, stages and sources by the
sums of the frame, and those of the row. -/
def Dev.frameMeas (d : Dev) (l : List AgeMeas) : List AgeMeas :=
  let some1 (item num : Nat) (v : Option Int) : Option AgeMeas := v.map fun v => { item := item, num := num, value := v }
  (((List.range 16).filter fun k => (d.unit k).corr == .converged).map fun k => { item := 1, num := k, value := ((d.unit k).slicePct : Nat) }) ++
    (List.range 28).filterMap (fun p => some1 3 (if p < 12 then srcNode p else strNode (p - 12)) (d.switchMeas p)) ++
    (List.range 16).filterMap (fun m => some1 5 m (d.stageRise m)) ++
    (List.range 12).filterMap (fun k => some1 7 k (d.sourceMeas k)) ++ l.filterMap d.rowMeas

/-- The sums of a policy frame start again, and a mitten at rest is timed (R251): T_cold is the stage temperature after 10 min in
STOPPED or STANDBY. -/
def Dev.ageReset (d : Dev) : Dev :=
  let d := d.each (List.range 28) fun p e => e.modSw p fun w => { w with agf := {} }
  let d := d.each (List.range 12) fun k e => e.modSrc k fun x => { x with agf := {} }
  d.each (List.range 16) fun m e => e.modMit m fun x =>
    let rest := x.st == .stopped || x.st == .standby
    let at0 := if rest then some (x.restAt.getD e.now) else none
    { x with agf := {}, restAt := at0,
             tCold := match at0 with | some t => if t + 600000000000 ≤ e.now then e.stageT m else x.tCold | none => x.tCold }

/-- Record the measurements of one policy frame (R250). -/
def Dev.recordMeas (d : Dev) (l : List AgeMeas) : Dev := l.foldl (fun c a => c.ageMeasure a.item a.num a.value) d

/-- The class C work of a policy frame (R216, R250, R255): ageing, then the brim. A late frame's measurements are kept, and each
frame without lag takes up the oldest kept frame's after its own (one a frame, DESIGN CHOICE, log 160); re-planning goes on where
it stopped. -/
def Dev.classCFrame (d : Dev) (l : List AgeMeas) : Dev :=
  if !d.classC then d
  else if !d.policyOnTime then d.onSy fun s => { s with deferred := s.deferred ++ [d.frameMeas l] }
  else
    let d := (d.ageRef.recordMeas (d.frameMeas l)).each (List.range 32) fun row c => c.brimRow row
    (d.recordMeas (d.sy.deferred.headD [])).onSy fun s => { s with deferred := s.deferred.tail }

/-- The class B work of a policy frame (R215): arbitration, the fault manager's frame of the mittens, profiles. -/
def Dev.policyB (d : Dev) : Dev :=
  let d := (d.onSy fun s => { s with lateB := false }).arbitrate
  let d := d.each (List.range 16) fun m e => e.mittenPolicy m
  d.when (d.sy.power == .run) fun e =>
    (e.onPw fun p => { p with profile := p.profNext.getD p.profile, profNext := .none }).each (List.range 16) fun m c =>
      c.levers m

/-- The mean I_CMD of every mitten over the policy frame that ends (R229). -/
def Dev.closeMeans (d : Dev) : Dev :=
  d.each (List.range 16) fun m e => e.modMit m fun x =>
    { x with iAvg := if x.iN = 0 then 0 else floorDiv x.iSum x.iN, iSum := 0, iN := 0 }

/-- The work of a policy frame (R211, R215): class B, unless the plan of a shortened frame leaves it to a charge frame without lag
(R216); then class C. -/
def Dev.policyWork (d : Dev) (meas : List AgeMeas) (late : Bool) : Dev :=
  let d := d.closeMeans.busDemands
  let d := if late && !d.policyOnTime then d.onSy fun s => { s with lateB := true } else d.policyB
  let d := (d.brimFloors.classCFrame meas).ageReset
  let d := d.each (List.range 16) fun k e => e.preRetest k
  d.saveCounts

/-- What a policy frame does in every power state that ticks, and its work in RUN and LIMP; the age of a count runs in SLEEP too
(R145). -/
def Dev.policyFrame (d : Dev) (meas : List AgeMeas) (late : Bool) : Dev :=
  let d := ((d.boundary 2).showBoundary 2).cleanFrames
  let d := d.each (List.range 16) fun k e => e.modMu k fun u => u.policy d.now
  let d := d.motionFrame
  let d := if d.inRun || d.sy.power == .sleep then d.each (List.range 16) fun k e => e.socAge k else d
  if d.inRun then d.policyWork meas late else d

/-- CHARGE_FRAME_BOUNDARY (R211): the checkpoint first (R401); the reference, whose units LINER powers too (R176, R177); then
strings, sources, buses; the switches; a commit step; joins; and deferred policy-frame work of class B in a frame without lag
(R216). A boundary the lag rule does not permit, or before the class A work of the last frame has ended, is none. `all` is the
operand of `Dev.commitStep`. -/
def execChargeFrameBoundary (s : State) (all : Bool := true) : Host.Outcome State Fault Refusal :=
  s.onDev fun d =>
    let may := d.sy.ticking && !d.sy.takeover && !d.sy.ckOpen && d.mayFall 1 d.now
    if !may then d
    else
      let d := d.when d.supWorks (·.writeCheckpoint)
      let d := (d.boundary 1).showBoundary 1
      let d := d.refFrame
      if !(d.inRun || d.sy.power == .sleep) then d
      else
        let d := d.each (List.range 16) fun k e => e.stringFrame k
        let d := d.each (List.range 12) fun k e => e.sourceFrame k
        let d := d.frameCounts
        let d := d.each (List.range 16) fun m e => e.senseFrame m
        let d := d.each (List.range 16) fun k e => e.modMu k fun u => { u with syncNow := u.syncNow ||| u.syncChg, syncChg := 0 }
        let d := d.when (d.pw.arbDue && d.supWorks && d.inRun) (·.arbitrate)
        let d := d.applySwitches true
        let d := d.when d.supWorks (·.commitStep all)
        let d := d.each (List.range 16) fun m e => e.joinRule m
        d.when (d.sy.lateB && d.supWorks && d.onTime) (·.policyB)

/-- CAPACITANCE_MEASUREMENT (R251): SUP-L begins the 100 current steps on a mitten that regulates the bus, the one the row names, once
per 24 h; as class C work, not in a late frame (R216). -/
def execCapacitanceMeasurement (bus : Fin 4) (mit : Fin 16) (s : State) : Host.Outcome State Fault Refusal :=
  s.onDev fun d =>
    let b := d.busOf bus
    let due := match b.capAt with
      | some t => decide (t + 86400000000000 ≤ d.now)
      | none => true
    if d.capFits bus mit && (d.pw.map.busE bus).enable && d.classC && d.policyOnTime && due && b.capRun.isNone then
      d.modBus bus fun y => { y with capRun := some { mit := mit } }
    else d

/-- FRAME_LAG_LIMP (R218): 64 consecutive boundaries with lag. -/
def execFrameLagLimp (level : Fin 3) (s : State) : Host.Outcome State Fault Refusal :=
  s.onDev fun d => if 64 ≤ (d.sy.level level).lagRun then d.enterLimp 0 else d

/-- LIMP_LEFT (R233). -/
def execLimpLeft (s : State) : Host.Outcome State Fault Refusal := s.onDev fun d => d.leaveLimp

end Sys2Proof.Machine
end

