-- ==== Sys2Proof/Machine/Rings.lean ====
section
/-! DEFINITION. Descriptor rings (R258-R294): the opcode tables as the transport needs them (R295-R311), admission and its
checks, doorbells, completions, interrupts, and the meanings of their rows. -/

namespace Sys2Proof.Machine

/-! ### The opcode tables (R301, R304, R305, R307-R309, R311) -/

/-- What the transport knows of an opcode: its class, whether only ring 0 takes it, its privilege bit, its PARAM bits as
(offset, mask), its largest LENGTH, and whether only secure rings take it. -/
structure OpInfo where
  cls    : Nat
  priv   : Option Nat := none
  param  : List (Nat × Nat) := []
  maxLen : Nat := 0
  ring0  : Bool := false
  secure : Bool := false

/-- Whole PARAM bytes from one offset on. -/
def whole (off n : Nat) : List (Nat × Nat) := (List.range' off n).map fun i => (i, 0xFF)

/-- PARAM of DISCONNECT and HOLD: bus bits and bits that are no node codes are reserved (R307). -/
def class0Masks : List (Nat × Nat) := [(32, 0xFF), (33, 0x0F), (36, 0xFF), (37, 0xFF), (40, 0xFF), (41, 0xFF), (42, 1)]

/-- Privilege bits (R265). -/
def privStage : Nat := 0
/-- UPDATE. -/
def privUpdate : Nat := 1
/-- POWER. -/
def privPower : Nat := 2
/-- RECORDS. -/
def privRecords : Nat := 3

/-- Opcodes of rings and events (R301). -/
def opAdmin (op : Nat) : Option OpInfo :=
  if op = opRingCreate then some { cls := 2, ring0 := true, param := whole 32 27 ++ [(59, 1)], maxLen := 272 }
  else if op = opRingDelete ∨ op = opRingReset then some { cls := 2, ring0 := true, param := whole 32 2 }
  else if op = opRingModify then some { cls := 2, ring0 := true, param := whole 32 2 ++ [(34, 0x0F)] ++ whole 36 5, maxLen := 272 }
  else if op = opAbort then some { cls := 1, param := whole 32 6 }
  else if op = opEventSubscribe then some { cls := 1, maxLen := 32 }
  else none

/-- Staging opcodes (R304). -/
def opStaging (op : Nat) : Option OpInfo :=
  let s (param : List (Nat × Nat)) (maxLen : Nat) : Option OpInfo :=
    some { cls := 2, priv := some privStage, param := param, maxLen := maxLen }
  if op = opStageBegin ∨ op = opStageCommit ∨ op = opStageAbort then s [] 0
  else if op = opPathMapLoad then s [] 4368
  else if op = opMittenConfig ∨ op = opSourceConfig ∨ op = opStringConfig then s [(32, 0xFF), (33, 1)] 512
  else if op = opStringProgram then s (whole 32 1) 1056
  else if op = opProfileSet then s (whole 32 4) 0
  else if op = opMeasSequence then s [] 272
  else if op = opAccConfig then s (whole 32 12) 0
  else if op = opMmxConfig then s ([(32, 0xFF), (33, 1)] ++ whole 34 1 ++ whole 36 12) 0
  else none

/-- Control and class-0 opcodes (R305, R307). -/
def opControl (op : Nat) : Option OpInfo :=
  let c (param : List (Nat × Nat)) (maxLen : Nat) : Option OpInfo :=
    some { cls := 1, priv := some privPower, param := param, maxLen := maxLen }
  if op = opMittenStart ∨ op = opMittenStop ∨ op = opStringStart ∨ op = opStringStop ∨ op = opLendStop then c (whole 32 1) 0
  else if op = opReturnToService then c (whole 32 2) 0
  else if op = opLendStart then c (whole 32 1) 32
  else if op = opMotionSet then c [(32, 1)] 0
  else if op = opShed then some { cls := 0, param := whole 40 2 }
  else if op = opDisconnect ∨ op = opHold then some { cls := 0, param := class0Masks }
  else none

/-- Measurement opcodes (R308). -/
def opMeasure (op : Nat) : Option OpInfo :=
  if op = opMeasFilterSync then some { cls := 1, param := whole 32 5 }
  else if op = opMeasPairCapture then some { cls := 2, param := [(32, 0xFF), (33, 1)] ++ whole 34 14 }
  else if op = opAccClear then some { cls := 1, param := whole 32 4 }
  else if op = opMmxRead then some { cls := 1, param := whole 32 1 ++ whole 34 2 ++ [(36, 1)] }
  else if op = opImpedanceRun then some { cls := 2, priv := some privPower, param := whole 32 6, maxLen := 272 }
  else if op = opImpedanceAbort then some { cls := 1, priv := some privPower, param := whole 32 1 }
  else if op = opImpedanceRead then some { cls := 2, param := whole 32 1 }
  else if op = opSelfTest then some { cls := 2, priv := some privPower }
  else none

/-- Status, record, power, time, update and key opcodes (R309, R311). -/
def opService (op : Nat) : Option OpInfo :=
  if op = opStatusRead then some { cls := 1, param := whole 32 3 }
  else if op = opRecordRead then some { cls := 3, priv := some privRecords, param := whole 32 1 ++ whole 36 10 }
  else if op = opBrimRead then some { cls := 2 }
  else if op = opBrimFloorSet then some { cls := 2, priv := some privStage, param := whole 32 5 }
  else if op = opAgeingRebase then some { cls := 2, priv := some privStage, param := whole 32 2 }
  else if op = opPowerState ∨ op = opDeviceRestart then some { cls := 2, priv := some privPower, param := whole 32 1 }
  else if op = opTimeRead then some { cls := 1 }
  else if op = opTimeAnchor then some { cls := 2, maxLen := 8 }
  else if op = opUpdateManifest then some { cls := 3, priv := some privUpdate, maxLen := 36864 }
  else if op = opUpdatePiece then some { cls := 3, priv := some privUpdate, param := whole 32 3, maxLen := 61440 }
  else if op = opUpdateStatus then some { cls := 2 }
  else if op = opUpdateActivate ∨ op = opUpdateCancel then some { cls := 2, priv := some privUpdate }
  else if op = opOwnerLock then some { cls := 2, priv := some privUpdate, param := [(32, 1)], maxLen := 256, secure := true }
  else if op = opKeyUpdate then some { cls := 2, priv := some privUpdate, maxLen := 1024, secure := true }
  else none

/-- The opcode tables; no other value is a defined opcode (R295). -/
def opInfo (op : Nat) : Option OpInfo :=
  ((((opAdmin op).or (opStaging op)).or (opControl op)).or (opMeasure op)).or (opService op)

/-- The response bytes an opcode's parameters call for (R295). A count outside its range calls for none here: the executor
refuses it (R310; DEDUCED, log 45). -/
def respSize (b : List Byte) : Nat :=
  let op := byteAt b 0
  if op = opMmxRead then (if leAt b 34 2 ≤ 256 then 32 * leAt b 34 2 else 0)
  else if op = opImpedanceRead then 528
  else if op = opStatusRead then 32 * byteAt b 34
  else if op = opRecordRead then (if leAt b 44 2 ≤ 2047 then 32 * leAt b 44 2 else 0)
  else if op = opBrimRead then 512
  else if op = opTimeRead then 32
  else if op = opUpdateStatus then 160
  else 0

/-! ### The checks of R277 -/

/-- Whether an opcode fits a ring (R266). -/
def OpInfo.fits (i : OpInfo) (r : Nat) (g : Ring) : Bool :=
  if i.ring0 then r == 0
  else if i.cls = 0 then g.cls == 0
  else g.cls != 0 && decide (i.cls ≤ g.cls)

/-- The bits of descriptor byte k that are not reserved (R269, R295); AUTH is 0 on a ring that is not secure. -/
def OpInfo.mask (i : OpInfo) (secure : Bool) (k : Nat) : Nat :=
  if k = 1 then 1
  else if k < 24 then 0xFF
  else if k < 32 then (if secure then 0xFF else 0)
  else (look k i.param).getD 0

/-- Check 3: the first byte with a reserved bit set. -/
def OpInfo.reserved (i : OpInfo) (secure : Bool) (b : List Byte) : Option Nat :=
  (List.range 64).find? fun k => byteAt b k &&& (255 - i.mask secure k) != 0

/-- The units that a descriptor's PARAM names: a number no unit has is reported at its offset. -/
structure Named where
  bad   : Option Nat := none
  nodes : List Nat := []
  mits  : List Nat := []

/-- What input `inp` of unit k belongs to (R163 MS11). -/
def PathMap.inputUnits (m : PathMap) (k inp : Nat) : Named :=
  if inp < 4 then { mits := (match m.mitOf (4 * k + inp) with | some i => [i] | none => []) }
  else if inp < 7 then { nodes := [0x20 + k] }
  else if 9 ≤ inp ∧ inp < 11 then { nodes := [if k < 12 then k else 0x10 + (k - 12)] }
  else {}

/-- A mitten named by byte 32. -/
def nameMit (n : Nat) : Named := if n < 16 then { mits := [n] } else { bad := some 32 }
/-- A string named by byte 32. -/
def nameStr (n : Nat) : Named := if n < 16 then { nodes := [0x20 + n] } else { bad := some 32 }

/-- The unit of RETURN_TO_SERVICE (R305): units that are neither node nor mitten need no permission. -/
def nameReturn (kind n : Nat) : Named :=
  if 6 < kind then { bad := some 32 }
  else if (if kind = 0 then 64 else if kind = 2 then 12 else if kind = 5 then 4 else if kind = 6 then 1 else 16) ≤ n then
    { bad := some 33 }
  else if kind = 1 then { mits := [n] }
  else if kind = 2 then { nodes := [n] }
  else if kind = 3 then { nodes := [0x20 + n] }
  else {}

/-- The unit of AGEING_REBASE (R309). -/
def nameAged (item n : Nat) : Named :=
  if 9 < item then { bad := some 32 }
  else
    let ok := if item = 2 then decide (n < 64) else if item = 3 then decide (n < 12) || (decide (0x20 ≤ n) && decide (n < 0x30))
      else if item = 6 then decide (n < 4) else if item = 7 then decide (n < 12) else decide (n < 16)
    if !ok then { bad := some 33 }
    else if item = 3 ∨ item = 7 then { nodes := [n] }
    else if item = 4 ∨ item = 5 then { mits := [n] }
    else if item = 6 then { nodes := [0x10 + n] }
    else if item = 8 ∨ item = 9 then { nodes := [0x20 + n] }
    else {}

/-- A lend edge, its LEND_DC source and its donor (R117). -/
def PathMap.nameLend (m : PathMap) (n : Nat) : Named :=
  if 16 ≤ n then { bad := some 32 }
  else
    let e := m.mitE n
    { mits := [n], nodes := if e.used && e.lend then [e.fromN, e.toN] else [] }

/-- The units that PARAM names, by opcode (R277 check 6). -/
def Dev.named (d : Dev) (b : List Byte) : Named :=
  let op := byteAt b 0
  let n := byteAt b 32
  let m := d.pw.map
  if op = opMittenConfig ∨ op = opMittenStart ∨ op = opMittenStop ∨ op = opLendStop then nameMit n
  else if op = opLendStart then m.nameLend n
  else if op = opSourceConfig then (if n < 12 then { nodes := [n] } else { bad := some 32 })
  else if op = opStringConfig ∨ op = opStringProgram ∨ op = opStringStart ∨ op = opStringStop ∨ op = opImpedanceRun ∨
      op = opImpedanceAbort ∨ op = opImpedanceRead then nameStr n
  else if op = opReturnToService then nameReturn n (byteAt b 33)
  else if op = opAgeingRebase then nameAged n (byteAt b 33)
  else if op = opBrimFloorSet then { nodes := (bitsSet 16 (leAt b 34 2)).map (0x20 + ·), mits := bitsSet 16 (leAt b 32 2) }
  else if op = opShed then { mits := bitsSet 16 (leAt b 40 2) }
  else if op = opDisconnect ∨ op = opHold then { nodes := bitsSet 64 (leAt b 32 8), mits := bitsSet 16 (leAt b 40 2) }
  else if op = opMeasFilterSync then
    let l := (bitsSet 16 (leAt b 32 2)).flatMap fun k =>
      ((bitsSet 16 (leAt b 34 2)).filterMap fun i => (d.seqOf k).entries[i]?).map fun e => m.inputUnits k e.input
    { nodes := l.flatMap (·.nodes), mits := l.flatMap (·.mits) }
  else if op = opMeasPairCapture then
    (if 7 < n then { bad := some 32 } else m.inputUnits (2 * n + byteAt b 33 % 2) (byteAt b 34))
  else {}

/-- Check 6 (R277, R296): secure rings, then units, then the privilege; a unit number no unit has is INVALID_PARAMETER
(DEDUCED, log 45). -/
def Dev.permission (d : Dev) (g : Ring) (i : OpInfo) (b : List Byte) : Option (Nat × Nat) :=
  let u := d.named b
  if i.secure && !g.secure then some (stPermissionDenied, 0x300)
  else match u.bad with
    | some o => some (stInvalidParameter, o)
    | none => match u.nodes.find? fun c => !g.nodeMask.getLsbD c with
      | some c => some (stPermissionDenied, c)
      | none => match u.mits.find? fun k => !g.mitMask.getLsbD k with
        | some k => some (stPermissionDenied, 0x100 + k)
        | none => match i.priv with
          | some p => if g.priv.getLsbD p then none else some (stPermissionDenied, 0x200 + p)
          | none => none

/-- AUTH of a descriptor (R268): the GMAC under the session key, with ring and SEQ as IV. -/
def authOf (key : List Byte) (r seq : Nat) (desc payload : List Byte) : BitVec 64 :=
  Config.gmac key (leBytes 4 r ++ leBytes 8 seq) (zeroAt desc 24 8 ++ payload)

/-- Check 8: a secure ring's AUTH; the claim ring takes KEY_UPDATE only, and a discarded key verifies nothing (R268, R426). -/
def Ring.authOk (g : Ring) (r seq : Nat) (desc payload : List Byte) : Bool :=
  !g.secure || (!g.sessKey.isEmpty && BitVec.ofNat 64 (leAt desc 24 8) == authOf g.sessKey r seq desc payload &&
    (!g.claim || byteAt desc 0 == opKeyUpdate))

/-- Bytes of a buffer that lie in the ring window, where it reaches outside (R263). -/
def outsideWindow (addr len : Nat) : Option Nat :=
  if len = 0 ∨ addr + len ≤ 262144 then none else some (262144 - addr)

/-- Check 7: the payload read; in quad-SPI mode also the buffers' place (R263). -/
def Dev.payloadError (d : Dev) (b : List Byte) (err : Option Nat) : Option Nat :=
  if d.qspiMode then (outsideWindow (leAt b 8 8) (leAt b 4 2)).or (outsideWindow (leAt b 16 8) (leAt b 6 2))
  else if leAt b 4 2 = 0 then none else err

/-- The checks of R277 in order: none, or the status and RESULT of the first failure. -/
def Dev.checkDesc (d : Dev) (r : Nat) (g : Ring) (seq : Nat) (b payload : List Byte) (err : Option Nat) : Option (Nat × Nat) :=
  match opInfo (byteAt b 0) with
  | none => some (stUnsupportedOpcode, 0)
  | some i =>
    let most := min g.maxPay i.maxLen
    if !i.fits r g then some (stWrongClass, g.cls)
    else match i.reserved g.secure b with
      | some o => some (stInvalidParameter, o)
      | none =>
        if most < leAt b 4 2 then some (stLengthTooLarge, most)
        else if leAt b 6 2 < respSize b then some (stBufferTooSmall, respSize b)
        else match d.permission g i b with
          | some f => some f
          | none => match d.payloadError b err with
            | some o => some (stDmaError, o)
            | none => if g.authOk r seq b payload then none else some (stAuthFailed, seq)

/-! ### Admission (R276, R279, R280, R291) -/

/-- Whether the ring engine fetches from a ring in this power state, with access to host memory (R261, R291). -/
def Dev.fetches (d : Dev) (g : Ring) : Bool := d.linkUp && (d.inRun || g.cls == 0)

/-- Whether a ring has a completion slot to reserve (R276 step 2). -/
def Dev.slotFree (d : Dev) (r : Nat) (g : Ring) : Bool :=
  decide (d.inFlight r + g.unrel < (if g.subscribed then g.cqLen - 1 else g.cqLen))

/-- Tags of the general pool in flight (R267). -/
def Dev.generalHeld (d : Dev) : Nat := (d.ho.tags.filter fun x => x.ring != 0 && x.cls != 0).length

/-- Whether a tag can be reserved for a ring (R276 step 3). -/
def Dev.tagFree (d : Dev) (r : Nat) (g : Ring) : Bool :=
  decide (d.inFlight r < g.quota) && (r == 0 || g.cls == 0 || decide (d.generalHeld < 4000))

/-- Whether a fence holds ring r's fetch: the fenced command, named by its SEQ, has not completed (R279). -/
def Dev.fenced (d : Dev) (r : Nat) : Bool :=
  match (d.ring r).fence with
  | some q => d.ho.tags.any fun x => x.ring == r && !x.drop && x.seq == q
  | none => false

/-- Whether a ring has a descriptor that can be admitted (R276, R279, R286, R291). -/
def Dev.admits (d : Dev) (r : Nat) : Bool :=
  let g := d.ring r
  g.st == .active && d.fetches g && !d.fenced r && g.head != g.sqTail && d.slotFree r g && d.tagFree r g

/-- Fetch slots of classes 1, 2 and 3 in a round (R280). -/
def fetchShares : List Nat := [8, 4, 1]

/-- The place of a ring in the round robin of its class: ring 0 first, then the rings that follow the one served last (R280). -/
def FetchArb.place (a : FetchArb) (cls r : Nat) : Nat :=
  if r = 0 then 0 else 1 + (r + 1023 - a.last.getD (cls - 1) 0) % 1024

/-- Whether it is a ring's turn among those with a descriptor to admit (R280): class 0 first, in ring order; then a class that has
slots of the round left, or any where no such class has a descriptor; within a class round robin. -/
def Dev.fetchTurn (d : Dev) (r : Nat) : Bool :=
  let ready := (d.ho.rings.filter fun p => d.admits p.1).map fun p => (p.1, p.2.cls)
  let c := (d.ring r).cls
  let left (k : Nat) : Bool := d.ho.arb.left.getD (k - 1) 0 != 0
  if c = 0 then ready.all fun p => p.2 != 0 || decide (r ≤ p.1)
  else ready.all fun p => p.2 != 0 && (left c || !left p.2) &&
    (p.2 != c || decide (d.ho.arb.place c r ≤ d.ho.arb.place c p.1))

/-- Whether the completion that must be written before this one is still missing (R285). -/
def Dev.waitsFor (d : Dev) (x : TagRec) : Bool :=
  match x.after with
  | some p => (d.ho.tags.any fun y => y.ring == p.1 && y.slot == p.2 && y.tag != x.tag) || (d.ring p.1).marked.contains p.2
  | none => false

/-- Whether the ring engine has work that comes before a fetch (R281): a completion that can be written, or a notice in a mailbox of
which it is the receiver. -/
def Dev.ringEngineBusy (d : Dev) : Bool :=
  (d.ho.tags.any fun x => x.st == .due && !x.drop && !d.waitsFor x) || d.sy.mbx.any fun b => b.full && b.receiver == 5

/-- Whether the ring engine admits the next descriptor of a ring now (R276, R280, R281). -/
def Dev.mayAdmit (d : Dev) (r : Nat) : Bool := d.admits r && d.fetchTurn r && !d.ringEngineBusy

/-- A fetch slot used by a ring of a class; where the class has none left, a new round begins (R280). -/
def FetchArb.served (a : FetchArb) (cls r : Nat) : FetchArb :=
  if cls = 0 then a
  else
    let left := if a.left.getD (cls - 1) 0 = 0 then fetchShares else a.left
    { left := left.modify (cls - 1) (· - 1), last := if r = 0 then a.last else a.last.set (cls - 1) r }

/-- The 64 descriptor bytes at the fetch head: from the ring window in quad-SPI mode, else as the host's memory answers. -/
def Dev.descBytes (d : Dev) (g : Ring) (read : HostRead) : List Byte :=
  if d.qspiMode then winRead d.ho.win (g.sqBase + 64 * g.head) 64 else (read.desc ++ List.replicate 64 0).take 64

/-- The payload bytes of a descriptor. -/
def Dev.payloadBytes (d : Dev) (b : List Byte) (read : HostRead) : List Byte :=
  let n := leAt b 4 2
  if d.qspiMode then winRead d.ho.win (leAt b 8 8) n else (read.payload ++ List.replicate (n - read.payload.length) 0).take n

/-- DESCRIPTOR_ADMIT (R276, R277, R285): the tag is one of the pool's free ones, as the device picks it (log 46); a marked
slot completes with ABORTED without checks. -/
def execDescriptorAdmit (ring : Fin 1024) (tag : Tag) (read : HostRead) (s : State) : Host.Outcome State Fault Refusal :=
  s.onDev fun d =>
    if !d.mayAdmit ring || (d.tagOf tag).isSome then d
    else
      let g := d.ring ring
      let b := d.descBytes g read
      let marked := g.marked.contains g.head
      let p := if marked then [] else d.payloadBytes b read
      let fail := if marked then some (stAborted, 0) else d.checkDesc ring g g.seq b p read.payErr
      let rec0 : TagRec := { tag := tag, ring := ring, cls := g.cls, slot := g.head, desc := b, payload := p, seq := g.seq }
      let rec1 := match fail with
        | some f => { rec0 with st := .due, status := f.1, result := f.2, payload := [] }
        | none => rec0
      let d := (d.onHo fun h => { h with tags := rec1 :: h.tags, arb := h.arb.served g.cls ring }).countOutcome rec1.status
      d.modRing ring fun x =>
        { x with seq := x.seq + 1, head := (x.head + 1) % x.sqLen, slots := assign g.head (leAt b 2 2) x.slots,
                 marked := x.marked.filter (· ≠ g.head), fence := if byteAt b 1 % 2 = 1 then some g.seq else .none }

/-! ### Execution -/

/-- Whether an admitted command is next of its ring (R279, R297): earlier descriptors of its ring have passed to execution, a
fenced one waits for their completions, and a supervisor acts, or the command is of class 0. ABORT acts on the tags themselves and
waits for no earlier descriptor (R285; DEDUCED, log 166). -/
def Dev.isNext (d : Dev) (x : TagRec) : Bool :=
  let cls0 := x.cls == 0
  let older := d.ho.tags.filter fun y => y.ring == x.ring && y.drop == x.drop && decide (y.seq < x.seq)
  (byteAt x.desc 0 == opAbort || older.all fun y => y.st != .admitted) &&
  (!(byteAt x.desc 1 % 2 == 1) || older.isEmpty) && (cls0 || !d.sy.noSup && !d.sy.takeover) &&
  (d.inRun || (d.sy.power == .sleep && cls0))

/-- Whether a command's execution is class D work: a command of ring class 3, and the reception of an update piece (R215, R235). -/
def TagRec.classD (x : TagRec) : Bool := x.cls == 3 || byteAt x.desc 0 == opUpdatePiece

/-- The engine that the effect of a command falls on (R401): of a mitten, of a string, or of the unit that is returned to service;
none for a class-0 command, whose path is its own (R221), and for one that no single engine takes (DEDUCED, log 82). -/
def TagRec.engine (x : TagRec) : Option Nat :=
  let op := byteAt x.desc 0
  let n := byteAt x.desc 33
  if x.cls = 0 then none
  else if [opMittenStart, opMittenStop, opLendStart, opLendStop].contains op then some (0x100 + byteAt x.desc 32)
  else if [opStringStart, opStringStop, opImpedanceRun, opImpedanceAbort].contains op then some (0x200 + byteAt x.desc 32)
  else if op = opReturnToService then
    match byteAt x.desc 32 with
    | 0 => some (0x300 + n)
    | 1 => some (0x100 + n)
    | 2 => some n
    | 3 => some (0x200 + n)
    | 4 => some (0x400 + n)
    | _ => none
  else none

/-- Whether the engine of a command holds 16 effects that no completed checkpoint contains (R401). -/
def Dev.engineFull (d : Dev) (x : TagRec) : Bool :=
  x.engine.isSome && decide (16 ≤ (d.ho.tags.filter fun y =>
    (y.st == .executing || (y.st == .awaiting && y.status == stSuccess)) && y.engine == x.engine).length)

/-- Whether an admitted command could start, other rings apart (R216, R279, R297, R401): it is next of its ring, class D work finds
frames without lag and no deferred class C work of SUP-L before it, and the engine has room for its effect. -/
def Dev.canStart (d : Dev) (x : TagRec) : Bool :=
  d.isNext x && (!x.classD || (d.onTime && (d.sy.deferred.isEmpty || !d.classC))) && !d.engineFull x

/-- Whether a command of a class is admitted that could start. -/
def Dev.waits (d : Dev) (cls : Nat) : Bool := d.ho.tags.any fun y => y.st == .admitted && y.cls == cls && d.canStart y

/-- Whether an admitted command may start now (R215, R315): the class A checkpoint and a class-0 command come before those of ring
class 1 and 2, and ring class 1 before 2, on the same core. -/
def Dev.mayStart (d : Dev) (x : TagRec) : Bool :=
  d.canStart x && (!(x.cls == 1 || x.cls == 2) || (!d.sy.ckOpen && !d.waits 0)) && (x.cls != 2 || !d.waits 1)

/-- The admitted command of a tag, where its descriptor has the opcode and may start (log 3). -/
def Dev.command (d : Dev) (t opcode : Nat) : Option TagRec :=
  match d.tagOf t with
  | some x => if x.st == .admitted && byteAt x.desc 0 == opcode && d.mayStart x then some x else none
  | none => none

/-- Whether an ABORT that names a tag's descriptor has been admitted and waits (R285): what an interruptible command tests for. -/
def Dev.abortPending (d : Dev) (x : TagRec) : Bool :=
  d.ho.tags.any fun y => y.st == .admitted && byteAt y.desc 0 == opAbort && (y.ring == 0 || y.ring == x.ring) &&
    leAt y.desc 32 2 == x.ring && leAt y.desc 34 2 == x.slot && leAt y.desc 36 2 == leAt x.desc 2 2

/-- The pieces of 4 KiB after which an interruptible command of `n` pieces ends with ABORTED (R285): `cut` is where the pending
ABORT is found, which the row says (log 165). -/
def Dev.cutShort (d : Dev) (x : TagRec) (cut : Option Nat) (n : Nat) : Option Nat :=
  match cut with
  | some k => if d.abortPending x ∧ k < n then some k else none
  | none => none

/-- The meaning of a command row: run it on the tag's admitted descriptor; a tag that holds none of this opcode
changes nothing (log 3). -/
def Dev.runCmd (d : Dev) (t opcode : Nat) (f : TagRec → Dev → Dev) : Dev :=
  match d.command t opcode with
  | some x => f x d
  | none => d

/-! ### Completions and interrupts -/

/-- A deleted ring whose last tag has completed is gone (R286, R293). -/
def Dev.ringGone (d : Dev) (r : Nat) : Dev :=
  let g := d.ring r
  if g.st = .deleting ∧ g.deleteTag = none ∧ g.resetTag = none ∧ d.inFlight r = 0 then d.setRing r {} else d

/-- The masks and privileges of a mask block (R301). -/
def Ring.masks (g : Ring) (p : List Byte) : Ring :=
  { g with nodeMask := BitVec.ofNat 64 (leAt p 0 8), mitMask := BitVec.ofNat 16 (leAt p 8 2), priv := BitVec.ofNat 4 (byteAt p 10) }

/-- The coalescing of a ring; class 0 is forced to 1 and 0 (R265). -/
def Ring.coalesce (g : Ring) (n t : Nat) : Ring :=
  if g.cls = 0 then { g with coalN := 1, coalT := 0 } else { g with coalN := n, coalT := t }

/-- The changes of a RING_MODIFY by its VALID bits (R287, R301). -/
def Ring.modified (g : Ring) (b p key : List Byte) : Ring :=
  let v := byteAt b 34
  let g := if v.testBit 0 then { g with quota := leAt b 36 2 } else g
  let g := if v.testBit 1 then g.masks p else g
  let g := if v.testBit 2 then { g with vector := byteAt b 38 } else g
  let g := if v.testBit 3 then g.coalesce (byteAt b 39) (byteAt b 40) else g
  if key.isEmpty then g else { g with sessKey := key }

/-- The subscription of EVENT_SUBSCRIBE (R302). -/
def Ring.subscribe (g : Ring) (p : List Byte) : Ring :=
  let l := bitsSet 256 (leNat p)
  { g with subs := l, subscribed := !l.isEmpty }

/-- What acts with a command's completion: RING_MODIFY and EVENT_SUBSCRIBE act on what comes after it (R287, R302, R425). -/
def Dev.atCompletion (d : Dev) (x : TagRec) : Dev :=
  if x.status ≠ stSuccess then d
  else if byteAt x.desc 0 = opRingModify then d.modRing (leAt x.desc 32 2) fun g => g.modified x.desc x.payload x.key
  else if byteAt x.desc 0 = opEventSubscribe then d.modRing x.ring fun g => g.subscribe x.payload
  else d

/-- Write a completion: response data, then the entry; the tag is freed (R270, R271). -/
def Dev.complete (d : Dev) (x : TagRec) : Dev :=
  let g := d.ring x.ring
  let d := d.hostWrite (leAt x.desc 16 8) x.resp
  let d := d.writeEntry x.ring (leAt x.desc 2 2 + 65536 * g.head + 4294967296 * x.status) x.tag x.result
  ((d.atCompletion x).freeTag x.tag).ringGone x.ring

/-- COMPLETION_WRITE (R270, R271, R278, R284): response data, then the entry; the tag is freed. A discarded completion only
frees the tag (R261). -/
def execCompletionWrite (tag : Tag) (s : State) : Host.Outcome State Fault Refusal :=
  s.onDev fun d =>
    match d.tagOf tag with
    | none => d
    | some x =>
      if x.st ≠ .due then d
      else if x.drop then (d.atCompletion x).freeTag tag
      else if !d.linkUp then d.wakeSideband
      else if d.waitsFor x then d
      else d.complete x

/-- VECTOR_FIRE (R282): COAL_COUNT entries are unreleased, or the oldest has waited COAL_TIME, as `waited` says (log 164); firing
clears ARM. -/
def execVectorFire (ring : Fin 1024) (s : State) (waited : Bool := false) : Host.Outcome State Fault Refusal :=
  s.onDev fun d =>
    let g := d.ring ring
    if !d.linkUp then d.when (g.arm && decide (0 < g.unrel)) Dev.wakeSideband
    else if g.st != .none && g.arm && decide (0 < g.unrel) && (waited || g.coalT == 0 || decide (g.coalN ≤ g.unrel)) &&
        decide (g.vector < 64) then
      (d.modRing ring fun x => { x with arm := false }).fire g.vector
    else d

/-- EVENTS_LOST (R294, R303): one completion with the count, to that ring only, raised under R447 otherwise; in a hold it
waits. -/
def execEventsLost (ring : Fin 1024) (s : State) : Host.Outcome State Fault Refusal :=
  s.onDev fun d =>
    let g := d.ring ring
    if !d.linkUp then d.when (g.lost != 0) Dev.wakeSideband
    else if g.lost = 0 ∨ d.sy.holdOn ∨ !decide (d.inFlight ring + g.unrel < g.cqLen) then d
    else
      let data := leBytes 4 g.lost ++ leBytes 2 ring.val ++ List.replicate 6 0
      let e : EventRec := { ev := evEventsLost, inst := none, seq := d.ho.evSeq, frame := d.sy.cframe.count, time := d.now,
                            data := data }
      let d := d.onHo fun h => { h with glb := { h.glb with evstat := insertN evEventsLost h.glb.evstat },
                                        evSeq := (h.evSeq + 1) % 65536 }
      let vb := d.ho.glb.vecByte evEventsLost
      let d := if vb ≥ 128 then d.fire (vb % 64) else d
      let d := d.modRing ring fun x => { x with lost := 0 }
      ((d.eventTo e ring).addLog 0 e.time e.ev 0xFFFF data).hbEvent e

/-! ### Doorbells (R272-R275, R282, R291) -/

/-- Entries the host releases with a CQ_HEAD; the same value with a full ring releases every entry (DEDUCED, log 47). -/
def Ring.released (g : Ring) (h : Nat) : Nat :=
  let n := (h + g.cqLen - g.cqHead) % g.cqLen
  if n = 0 ∧ g.unrel = g.cqLen then g.cqLen else n

/-- Whether a doorbell value is invalid for a ring (R275). -/
def Ring.badDoorbell (g : Ring) (v : Nat) : Bool :=
  bits v 12 3 != 0 || bits v 28 2 != 0 || bits v 32 32 != 0 ||
  (v.testBit 15 && decide (g.sqLen ≤ bits v 0 12)) ||
  (v.testBit 31 && (decide (g.cqLen ≤ bits v 16 12) || decide (g.unrel < g.released (bits v 16 12)))) ||
  g.st == .none || g.st == .deleting

/-- A valid doorbell value acts: SQ_TAIL, CQ_HEAD and ARM by their bits. -/
def Ring.doorbell (g : Ring) (v : Nat) : Ring :=
  { g with
    sqTail := if v.testBit 15 then bits v 0 12 else g.sqTail,
    cqHead := if v.testBit 31 then bits v 16 12 else g.cqHead,
    unrel := if v.testBit 31 then g.unrel - g.released (bits v 16 12) else g.unrel,
    arm := g.arm || v.testBit 30 }

/-- A write to a ring's doorbell: 8 or 4 bytes, else ignored with ACCESS_WIDTH; an invalid value is ignored as a whole; in
SLEEP a doorbell of a ring outside class 0 wakes the device (R274, R275, R291, R386). -/
def Dev.doorbell (d : Dev) (r : Nat) (val : BitVec 64) (bytes : Nat) : Dev :=
  if !(d.inRun || d.sy.power == .sleep || d.sy.power == .liner) then d
  else if bytes ≠ 8 ∧ bytes ≠ 4 then d.accessError 0 1 (8 * r) evAccessWidth (d2 (8 * r))
  else
    let v := if bytes = 8 then val.toNat else val.toNat % 4294967296
    let g := d.ring r
    if g.badDoorbell v then d.raise evRingDoorbellInvalid .none (d2 r ++ leBytes 8 v)
    else (d.modRing r fun x => x.doorbell v).when (g.cls != 0) fun e => e.wakeSleep 4

/-- DOORBELL_SQ_TAIL (R272): the whole value acts, by its valid bits (log 47). -/
def execDoorbellSqTail (ring : Fin 1024) (val : BitVec 64) (bytes : Nat) (s : State) : Host.Outcome State Fault Refusal :=
  s.onDev fun d => d.doorbell ring val bytes
/-- DOORBELL_CQ_HEAD (R273). -/
def execDoorbellCqHead (ring : Fin 1024) (val : BitVec 64) (bytes : Nat) (s : State) : Host.Outcome State Fault Refusal :=
  s.onDev fun d => d.doorbell ring val bytes
/-- DOORBELL_ARM (R282). -/
def execDoorbellArm (ring : Fin 1024) (val : BitVec 64) (bytes : Nat) (s : State) : Host.Outcome State Fault Refusal :=
  s.onDev fun d => d.doorbell ring val bytes

/-- The value a doorbell read returns (R274). -/
def Dev.doorbellRead (d : Dev) (r : Nat) : Nat :=
  let g := d.ring r
  if g.st = .none then 0
  else g.head + 65536 * g.cqTail + 0x40000000 * b2n g.arm + 0x80000000 * b2n g.phaseBit

/-! ### Ring life cycle (R286, R287) -/

/-- RING_ERROR (R286): a descriptor read fails. -/
def execRingError (ring : Fin 1024) (s : State) : Host.Outcome State Fault Refusal :=
  s.onDev fun d =>
    if (d.ring ring).st = .active then
      (d.modRing ring fun g => { g with st := .error }).raise evRingError .none (d2 ring)
    else d

/-- A discarded stage: the index of the last applied step stays readable (R220). -/
def Stage.close (g : Stage) : Stage := { step := g.step }

/-- Discard the open stage of a ring (R223, R287). -/
def Dev.dropStage (d : Dev) (r : Nat) : Dev :=
  if d.pw.stage.st = .opened ∧ d.pw.stage.owner = r then d.modStage Stage.close else d

/-- What RING_RESET does once the ring has no tag in flight (R287). -/
def Ring.reset (g : Ring) : Ring :=
  { g with st := .active, head := 0, sqTail := 0, cqTail := 0, cqHead := 0, unrel := 0, phaseBit := true, arm := true,
           marked := [], slots := [], fence := .none, resetTag := .none }

/-- RING_DRAIN_END (R287): the waiting reset or deletion acts, and its command has executed. A deletion overtakes a waiting
reset, which then finds no ring (DEDUCED, log 47). -/
def execRingDrainEnd (ring : Fin 1024) (s : State) : Host.Outcome State Fault Refusal :=
  s.onDev fun d =>
    let g := d.ring ring
    if d.inFlight ring ≠ 0 then d
    else if g.st = .deleting then
      let d := (d.dropStage ring).setRing ring {}
      let d := match g.deleteTag with | some t => d.ok t | none => d
      match g.resetTag with | some t => d.refuse t stNotFound 0 | none => d
    else match g.resetTag with
      | some t => (d.modRing ring Ring.reset).ok t
      | none => d

/-- Delete every ring as R261 does: host-memory access stops, ENABLE clears, admitted commands run on and their completions
are discarded. -/
def Dev.deleteRings (d : Dev) : Dev :=
  let wait := d.ho.rings.filterMap (fun p => p.2.deleteTag) ++ d.ho.rings.filterMap (fun p => p.2.resetTag)
  let d := d.each (d.ho.rings.map (·.1)) fun r e => e.dropStage r
  d.onHo fun h => { h with
    rings := [], hif := { h.hif with enable := false },
    tags := h.tags.map fun x => { x with drop := true, st := if wait.contains x.tag then .due else x.st } }

/-- The Bus Master Enable and MSI-X state of a function that has been reset (DEDUCED from the base specification R259 names, log
48). -/
def Hif.msixReset (h : Hif) : Hif :=
  { h with bme := false, msixEn := false, msixMask := false, vecMask := 0xFFFFFFFFFFFFFFFF, vecAddr := [], pba := 0 }

/-- FUNCTION_LEVEL_RESET (R261). -/
def execFunctionLevelReset (s : State) : Host.Outcome State Fault Refusal :=
  s.onDev fun d => if d.qspiMode then d else d.deleteRings.modHif Hif.msixReset

/-- BUS_MASTER_ENABLE_CLEAR (R261): the rings go, and no access to host memory follows until the host sets it again. -/
def execBusMasterEnableClear (s : State) : Host.Outcome State Fault Refusal :=
  s.onDev fun d => if d.qspiMode then d else d.deleteRings.modHif fun h => { h with bme := false }

/-- Send the message of every unmasked vector whose pending bit stands (R259, R282). -/
def Dev.sendPending (d : Dev) : Dev :=
  let h := d.ho.hif
  if h.msixEn && !h.msixMask && d.linkUp then
    d.each ((List.range 64).filter fun v => h.pba.getLsbD v && !h.vecMask.getLsbD v) fun v e => e.sendMsix v
  else d

/-- PCIE_LINK_L0 (R284, R293): WAKE# is released, and the link shows its width and speed. The host's configuration of Bus Master
Enable, MSI-X Enable and Function Mask comes with it: no row of its own carries configuration writes (DESIGN CHOICE, log 48). -/
def execPcieLinkL0 (wide : Bool) (speed : Fin 3) (msixEn : Bool) (msixMask : Bool) (s : State) (bme : Bool := true) :
    Host.Outcome State Fault Refusal :=
  s.onDev fun d => if d.qspiMode then d else (d.modHif fun h =>
    { h with inL2 := false, wakeLow := false, link := (if wide then 2 else 1) + 4 * (speed.val + 1), bme := bme,
             msixEn := msixEn, msixMask := msixMask }).sendPending

/-- PCIE_CONVENTIONAL_RESET (R259, R261): it clears Bus Master Enable, and with it MSI-X Enable, the function mask, the
table and the pending bits; the link trains again (DEDUCED from the base specification R259 names, log 48). -/
def execPcieConventionalReset (s : State) : Host.Outcome State Fault Refusal :=
  s.onDev fun d => if d.qspiMode then d else d.deleteRings.modHif fun h =>
    { h.msixReset with link := 0, inL2 := false, wakeLow := false }

/-! ### HIF_CTRL (R293) -/

/-- Ring 0's attributes from the HIF registers (R265, R293). -/
def Hif.ring0 (h : Hif) : Ring :=
  { st := .active, cls := 2, sqExp := fld h.acfg 0 4, cqExp := fld h.acfg 4 4, sqBase := h.asqLo.toNat + 4294967296 * h.asqHi.toNat,
    cqBase := h.acqLo.toNat + 4294967296 * h.acqHi.toNat, vector := fld h.acfg 8 6,
    coalN := max 1 (fld h.acfg 16 8), coalT := fld h.acfg 24 8 }

/-- Whether a ring's memory is outside the ring window (R263). -/
def Ring.outside (g : Ring) : Bool :=
  decide (262144 < g.sqBase + 64 * g.sqLen) || decide (262144 < g.cqBase + 16 * g.cqLen)

/-- Whether ring attributes of size and place are invalid (R288, R293). -/
def Ring.badPlace (g : Ring) (qspi : Bool) : Bool :=
  g.sqExp < 4 || 12 < g.sqExp || g.cqExp < 4 || 12 < g.cqExp || g.sqBase % 64 != 0 || g.cqBase % 64 != 0 || (qspi && g.outside)

/-- A write of HIF_CTRL: INTN_EN always; ENABLE = 1 creates ring 0, or is ignored with ADMIN_CONFIG_INVALID; ENABLE = 0
deletes all rings, completions of tags in flight being written. A reserved bit makes the value invalid (R439). -/
def Dev.writeHifCtrl (d : Dev) (v : Word) : Dev :=
  if v &&& 0xFFFFFFFC#32 ≠ 0 then d.accessError 3 0 0x0400 evSetupValueInvalid (d2 0x0400)
  else
    let d := d.modHif fun h => { h with intnEn := bit v 1 }
    let h := d.ho.hif
    if bit v 0 then
      (if h.enable then d
       else if h.ring0.badPlace d.qspiMode then d.raise evAdminConfigInvalid .none []
       else (d.modHif fun h => { h with enable := true }).setRing 0 h.ring0)
    else if !h.enable then d
    else
      let rs := d.ho.rings.map (·.1)
      let d := d.modHif fun h => { h with enable := false }
      d.each rs fun r e => ((e.dropStage r).modRing r fun g =>
        { g with st := .deleting }).ringGone r

/-- HIF_ENABLE (R293), where the set-up window answers (R291). -/
def execHifEnable (val : Word) (s : State) : Host.Outcome State Fault Refusal :=
  s.onDev fun d => d.when d.windowUp fun e => e.writeHifCtrl val
/-- HIF_DISABLE (R293), where the set-up window answers (R291). -/
def execHifDisable (val : Word) (s : State) : Host.Outcome State Fault Refusal :=
  s.onDev fun d => d.when d.windowUp fun e => e.writeHifCtrl val

end Sys2Proof.Machine
end

