-- ==== Sys2Proof/Machine/Security.lean ====
section
/-! DEFINITION. Key slots, ownership and owner authentication (R423-R428). -/

namespace Sys2Proof.Machine

/-- The active key slot: the valid one of the highest GENERATION (R424). -/
def Nv.activeKey (n : Nv) : Option KeySlot :=
  if n.keyA.valid && (!n.keyB.valid || decide (n.keyB.gen ≤ n.keyA.gen)) then some n.keyA
  else if n.keyB.valid then some n.keyB
  else none

/-- OWNED (R426, R429). -/
def Nv.owned (n : Nv) : Bool := n.activeKey.isSome

/-- OWNER_PUB of the active record (R423). -/
def Nv.ownerPub (n : Nv) : List Byte := match n.activeKey with | some k => (k.record.drop 4).take 64 | none => []

/-- OWNER_WRAP of the active record. -/
def Nv.ownerWrap (n : Nv) : List Byte := match n.activeKey with | some k => k.wrap | none => []

/-- IMAGE_KEY of the active record; an all-zero key is none (R423). -/
def Nv.imageKey (n : Nv) : Option (List Byte) :=
  match n.activeKey with
  | some k => if k.image.all (· == 0) then none else some k.image
  | none => none

/-- GENERATION of the active slot. -/
def Nv.keyGen (n : Nv) : Nat := match n.activeKey with | some k => k.gen | none => 0

/-- The first of the checks UM06 to UM09 that a manifest fails: what R414 asks of the device beside the manifest's own bytes. -/
def Manifest.terms (m : Manifest) (n : Nv) (level : Nat) : Option Nat :=
  if Config.siliconRev < m.revMin ∨ m.revMax < Config.siliconRev then some 6
  else if m.secVer < n.secMin then some 7
  else if m.behMax < level then some 8
  else if m.encrypted && n.imageKey.isNone then some 9
  else none

/-- The slot of a number: 0 A, 1 B. -/
def Nv.flash (n : Nv) (slot : Nat) : FlashSlot := if slot = 0 then n.slotA else n.slotB

/-- The level in force that UM08 compares where no firmware runs: the stored one (R10, R414). -/
def Dev.romLevel (d : Dev) : Nat := d.sy.set.level.getD 1

/-- Whether the manifest stored in a slot passes UM06 to UM09 against the stored level (R410, R414, R432); a slot whose manifest was
never received holds the shipped image (log 10). -/
def Dev.slotPasses (d : Dev) (n : Nv) (slot : Nat) : Bool :=
  match (n.flash slot).man with
  | some m => (m.terms n d.romLevel).isNone
  | none => true

/-- BINDING of an owner authentication block: SHA-256 over descriptor bytes 32-63 and the mask block, if one is present (R425). -/
def bindingOk (block desc mask : List Byte) : Bool :=
  BitVec.ofNat 256 (leNat ((block.drop 76).take 32).reverse) == Config.sha256 (desc.drop 32 ++ mask)

/-- The session key that a block carries: none where SESSION and KEY_TAG are zero in a block of PURPOSE 2 (R425); the outer
option says whether the block's key part is acceptable. -/
def sessionKey (n : Nv) (purpose : Nat) (block : List Byte) : Option (List Byte) :=
  if purpose = 3 ∨ (purpose = 2 ∧ zeroSpan block 28 48) then some []
  else Config.gcmDecrypt n.ownerWrap ((block.drop 16).take 12) ((block.drop 28).take 32) ((block.drop 60).take 16)

/-- An accepted owner authentication block: its COUNTER and session key (R425); an empty key means that none is carried. -/
def ownerAuth (n : Nv) (purpose : Nat) (block desc mask : List Byte) : Option (Nat × List Byte) :=
  if block.length = 256 ∧ byteAt block 2 = purpose ∧ n.ownerCnt < leAt block 8 8 ∧ bindingOk block desc mask ∧ n.owned ∧
      Config.ecdsaVerify n.ownerPub (Config.sha256 (block.take 192)) (block.drop 192) then
    (sessionKey n purpose block).map fun k => (leAt block 8 8, k)
  else none

/-- A CLAIM on an unowned device (R426): SESSION in clear, SIGNATURE and KEY_TAG zero. -/
def claimAuth (n : Nv) (block desc mask : List Byte) : Option (Nat × List Byte) :=
  if block.length = 256 ∧ byteAt block 2 = 7 ∧ n.ownerCnt < leAt block 8 8 ∧ bindingOk block desc mask ∧ !n.owned ∧
      zeroSpan block 60 16 ∧ zeroSpan block 192 64 then
    some (leAt block 8 8, (block.drop 28).take 32)
  else none

/-- The meaning of a command that also uses the non-volatile state (log 3). -/
def State.runBoth (s : State) (t opcode : Nat) (f : TagRec → Dev → Nv → Dev × Nv) : Host.Outcome State Fault Refusal :=
  s.onBoth fun d n => match d.command t opcode with
    | some x => f x d n
    | none => (d, n)

end Sys2Proof.Machine
end

