-- ==== Sys2Proof/Machine/CmdAdmin.lean ====
section
/-! DEFINITION. The administrative commands (R285-R288, R301, R302). -/

namespace Sys2Proof.Machine

/-- The first reserved byte of a mask block that is not 0 (R301). -/
def maskReserved (p : List Byte) : Option Nat :=
  if bits (byteAt p 10) 4 4 ≠ 0 then some 10 else (List.range' 11 5).find? fun k => byteAt p k != 0

/-- Attributes of RING_CREATE outside R265: the offset of the first (R288). -/
def badAttr (b : List Byte) (qspi : Bool) : Option Nat :=
  let cls := byteAt b 34
  let e := byteAt b 35
  let sq := bits e 0 4
  let cq := bits e 4 4
  let vec := byteAt b 56
  let quota := leAt b 38 2
  if 3 < cls then some 34
  else if sq < 4 ∨ 12 < sq ∨ cq < 4 ∨ 12 < cq then some 35
  else if cls = 0 ∧ leAt b 36 2 ≠ 0 then some 36
  else if quota = 0 ∨ (if cls = 0 then 8 else 4000) < quota then some 38
  else if leAt b 40 8 % 64 ≠ 0 ∨ (qspi ∧ 262144 < leAt b 40 8 + 64 * 2 ^ sq) then some 40
  else if leAt b 48 8 % 64 ≠ 0 ∨ (qspi ∧ 262144 < leAt b 48 8 + 16 * 2 ^ cq) then some 48
  else if 63 < vec ∧ vec ≠ 0xFF then some 56
  else if cls ≠ 0 ∧ byteAt b 57 = 0 then some 57
  else if cls = 0 ∧ byteAt b 59 = 1 then some 59
  else none

/-- The ring a RING_CREATE describes (R265, R301). -/
def newRing (b p key : List Byte) (claim : Bool) : Ring :=
  (({ st := .active, cls := byteAt b 34, sqExp := bits (byteAt b 35) 0 4, cqExp := bits (byteAt b 35) 4 4,
      maxPay := leAt b 36 2, quota := leAt b 38 2, sqBase := leAt b 40 8, cqBase := leAt b 48 8, vector := byteAt b 56,
      secure := byteAt b 59 == 1, claim := claim, sessKey := key } : Ring).masks p).coalesce (byteAt b 57) (byteAt b 58)

/-- RING_CREATE (R287, R288, R301, R425, R426). -/
def execRingCreate (tag : Tag) (s : State) : Host.Outcome State Fault Refusal :=
  s.runBoth tag opRingCreate fun x d n =>
    let b := x.desc
    let p := x.payload
    let r := leAt b 32 2
    let secure := byteAt b 59 == 1
    if r = 0 ∨ 1023 < r then (d.refuse tag stInvalidParameter 32, n)
    else if (look r d.ho.rings).isSome then (d.refuse tag stResourceLimit 0, n)
    else if p.length < 16 ∨ (!secure ∧ p.length ≠ 16) then (d.refuse tag stInvalidParameter 4, n)
    else match badAttr b d.qspiMode, maskReserved p with
      | some o, _ => (d.refuse tag stInvalidParameter o, n)
      | none, some o => (d.refuse tag stInvalidParameter o, n)
      | none, none =>
        if byteAt b 34 = 0 ∧ 8 ≤ (d.ho.rings.filter fun q => q.2.cls == 0).length then (d.refuse tag stResourceLimit 0, n)
        else if !secure then ((d.setRing r (newRing b p [] false)).ok tag, n)
        else
          let block := p.drop 16
          match (if n.owned then ownerAuth n 1 block b (p.take 16) else claimAuth n block b (p.take 16)) with
          | none => (d.refuse tag stAuthFailed 0, n)
          | some a => ((d.setRing r (newRing b p a.2 (!n.owned))).ok tag, { n with ownerCnt := a.1 })

/-- RING_DELETE (R287, R288): it waits until the ring has no tag in flight. -/
def execRingDelete (tag : Tag) (s : State) : Host.Outcome State Fault Refusal :=
  s.onDev fun d => d.runCmd tag opRingDelete fun x d =>
    let r := leAt x.desc 32 2
    if r = 0 ∨ 1023 < r then d.refuse tag stInvalidParameter 32
    else match (d.ring r).st with
      | .none => d.refuse tag stNotFound 0
      | .deleting => d.refuse tag stRingBusy 0
      | _ => (d.modRing r fun g => { g with st := .deleting, deleteTag := some tag.val }).modTag tag fun y => { y with st := .executing }

/-- RING_RESET (R287, R288): it waits until the ring has no tag in flight. -/
def execRingReset (tag : Tag) (s : State) : Host.Outcome State Fault Refusal :=
  s.onDev fun d => d.runCmd tag opRingReset fun x d =>
    let r := leAt x.desc 32 2
    if 1023 < r then d.refuse tag stInvalidParameter 32
    else match (d.ring r).st with
      | .none => d.refuse tag stNotFound 0
      | .active => d.refuse tag stInvalidParameter 32
      | .deleting => d.refuse tag stRingBusy 0
      | .error =>
        if (d.ring r).resetTag.isSome then d.refuse tag stRingBusy 0
        else (d.modRing r fun g => { g with resetTag := some tag.val }).modTag tag fun y => { y with st := .executing }

/-- Values of RING_MODIFY outside R265: the offset of the first. -/
def badModify (g : Ring) (b : List Byte) : Option Nat :=
  let v := byteAt b 34
  let quota := leAt b 36 2
  let vec := byteAt b 38
  if v.testBit 0 ∧ (quota = 0 ∨ (if g.cls = 0 then 8 else 4000) < quota) then some 36
  else if v.testBit 2 ∧ 63 < vec ∧ vec ≠ 0xFF then some 38
  else if v.testBit 3 ∧ g.cls ≠ 0 ∧ byteAt b 39 = 0 then some 39
  else none

/-- RING_MODIFY (R287, R288, R425): the change acts with its completion. -/
def execRingModify (tag : Tag) (s : State) : Host.Outcome State Fault Refusal :=
  s.runBoth tag opRingModify fun x d n =>
    let b := x.desc
    let p := x.payload
    let r := leAt b 32 2
    let g := d.ring r
    let m := if (byteAt b 34).testBit 1 then 16 else 0
    if r = 0 ∨ 1023 < r then (d.refuse tag stInvalidParameter 32, n)
    else if g.st = .none then (d.refuse tag stNotFound 0, n)
    else if g.st = .deleting then (d.refuse tag stRingBusy 0, n)
    else if p.length < m ∨ (!g.secure ∧ p.length ≠ m) then (d.refuse tag stInvalidParameter 4, n)
    else match badModify g b, (if m = 16 then maskReserved p else none) with
      | some o, _ => (d.refuse tag stInvalidParameter o, n)
      | none, some o => (d.refuse tag stInvalidParameter o, n)
      | none, none =>
        if !g.secure then (d.ok tag, n)
        else match ownerAuth n 2 (p.drop m) b (p.take m) with
          | none => (d.refuse tag stAuthFailed 0, n)
          | some a => ((d.ok tag).modTag tag fun y => { y with key := a.2 }, { n with ownerCnt := a.1 })

/-- The target of an ABORT that is in flight. -/
def Dev.abortTarget (d : Dev) (r slot cid : Nat) : Option TagRec :=
  d.ho.tags.find? fun y => y.ring == r && y.slot == slot && leAt y.desc 2 2 == cid

/-- Whether a slot is posted and not yet fetched (R272). -/
def Ring.posted (g : Ring) (slot : Nat) : Bool :=
  decide (slot < g.sqLen) && decide ((slot + g.sqLen - g.head) % g.sqLen < (g.sqTail + g.sqLen - g.head) % g.sqLen)

/-- The CID in a posted slot: from the ring window in quad-SPI mode, else as host memory holds it. -/
def Dev.postedCid (d : Dev) (g : Ring) (slot : Nat) (posted : BitVec 16) : Nat :=
  if d.qspiMode then leNat (winRead d.ho.win (g.sqBase + 64 * slot + 2) 2) else posted.toNat

/-- ABORT (R285): `posted` is the CID that host memory holds in the named slot. A ring other than ring 0 that names another
ring finds nothing (DEDUCED, log 49). -/
def execAbort (tag : Tag) (posted : BitVec 16) (s : State) : Host.Outcome State Fault Refusal :=
  s.onDev fun d => d.runCmd tag opAbort fun x d =>
    let r := leAt x.desc 32 2
    let slot := leAt x.desc 34 2
    let cid := leAt x.desc 36 2
    let g := d.ring r
    let fin (e : Dev) (status : Nat) : Dev := (e.done tag status 0 []).modTag tag fun y => { y with after := some (r, slot) }
    if x.ring ≠ 0 ∧ r ≠ x.ring then d.refuse tag stNotFound 0
    else match d.abortTarget r slot cid with
      | some y =>
        if y.tag = tag.val then d.done tag stAlreadyDone 0 []
        else if y.st = .admitted ∧ g.cls ≠ 0 then fin (d.refuse y.tag stAborted 0) stSuccess
        else fin d stAlreadyDone
      | none =>
        if g.posted slot && (g.st == .active || g.st == .error) && d.postedCid g slot posted == cid then
          if g.cls = 0 then d.done tag stAlreadyDone 0 []
          else fin (d.modRing r fun q => { q with marked := insertN slot q.marked }) stSuccess
        else if look slot g.slots = some cid ∧ !g.posted slot then d.done tag stAlreadyDone 0 []
        else d.refuse tag stNotFound 0

/-- EVENT_SUBSCRIBE (R302): the mask is 32 bytes; it acts with its completion. -/
def execEventSubscribe (tag : Tag) (s : State) : Host.Outcome State Fault Refusal :=
  s.onDev fun d => d.runCmd tag opEventSubscribe fun x d =>
    if x.payload.length ≠ 32 then d.refuse tag stInvalidParameter 4 else d.ok tag

end Sys2Proof.Machine
end

