-- ==== Sys2Proof/Machine/CmdStage.lean ====
section
/-! DEFINITION. The staging commands (R28, R29, R66, R94, R127, R135, R163, R192, R200, R223-R228, R300, R304, R314). -/

namespace Sys2Proof.Machine

/-- NO_STAGE unless the ring of the command owns the open stage (R223). -/
def Dev.staged (d : Dev) (x : TagRec) (f : Dev → Dev) : Dev :=
  if d.pw.stage.st = .opened ∧ d.pw.stage.owner = x.ring then f d else d.refuse x.tag stNoStage 0

/-- Whether a stage holds no command (R304). -/
def Stage.empty (g : Stage) : Bool :=
  g.map.isNone && g.mitCfg.isEmpty && g.srcCfg.isEmpty && g.strCfg.isEmpty && g.progs.isEmpty && g.profile.isNone &&
  g.seqs.isEmpty && g.accs.isEmpty && g.mmxs.isEmpty

/-- STAGE_BEGIN (R223). -/
def execStageBegin (tag : Tag) (s : State) : Host.Outcome State Fault Refusal :=
  s.onDev fun d => d.runCmd tag opStageBegin fun x d =>
    if d.pw.stage.st ≠ .none then d.refuse tag stStageBusy 0
    else (d.modStage fun g => { st := .opened, owner := x.ring, step := g.step }).ok tag

/-- STAGE_COMMIT (R10, R224, R304): an empty stage completes with NO_CHANGE; a pending level and its lock take effect, as at
any commit (DEDUCED, log 51). -/
def execStageCommit (tag : Tag) (s : State) : Host.Outcome State Fault Refusal :=
  s.onDev fun d => d.runCmd tag opStageCommit fun x d =>
    if d.pw.stage.st = .stepping then d.wrong tag 9 0xFFFF 0
    else d.staged x fun d =>
      if d.pw.stage.empty then ((d.applyProfile.modStage Stage.close).saveSettings).done tag stNoChange 0 []
      else (d.modStage fun g => { g with st := .stepping, tag := some tag.val }).modTag tag fun y => { y with st := .executing }

/-- STAGE_ABORT (R226): before step 0 the stage is discarded, and a commit that waits for it completes with ABORTED. -/
def execStageAbort (tag : Tag) (s : State) : Host.Outcome State Fault Refusal :=
  s.onDev fun d => d.runCmd tag opStageAbort fun x d =>
    let g := d.pw.stage
    if g.st = .none ∨ g.owner ≠ x.ring then d.refuse tag stNoStage 0
    else if g.begun then d.refuse tag stCommitInProgress 0
    else
      let d := match g.tag with
        | some t => d.refuse t stAborted 0
        | none => d
      (d.modStage Stage.close).ok tag

/-! ### Contexts of the object checks -/

/-- Whether an AUX port is digital I/O (R441). -/
def Dev.digital (d : Dev) (a : Nat) : Bool := d.ho.glb.auxMode a != 0

/-- The T_INPUTs of a mitten, in force and staged (R28). -/
def Dev.tInputsOf (d : Dev) (m : Nat) : List Nat :=
  d.tInput d.pw.map (d.mitten m).cfg m :: (match look m d.pw.stage.mitCfg with
    | some c => [d.tInput d.newMap c m]
    | none => [])

/-- What a map check needs (R28). -/
def Dev.mapCtx (d : Dev) (g : Ring) : MapCtx :=
  { old := d.pw.map, running := fun m => (d.mitten m).running, chain := d.ln.chn.st == .formed, digital := d.digital,
    chainMits := ((List.range 16).filter fun p => p != d.ln.chn.pos && (d.ln.chn.slots.getD p {}).missed < 2).map fun p =>
      (d.ln.chn.slots.getD p {}).mit,
    tInputs := d.tInputsOf, nodeMask := g.nodeMask, mitMask := g.mitMask }

/-- What a sequence check needs (R163). -/
def Dev.seqCtx (d : Dev) (g : Ring) (k : Nat) : SeqCtx :=
  { map := d.newMap, digital := d.digital,
    tInputs := ((List.range 16).filter fun m => (d.newMap.mitE m).used).map fun m =>
      d.tInput d.newMap ((look m d.pw.stage.mitCfg).getD (d.mitten m).cfg) m,
    mode := fun n => (d.accAfter n).mode, accs := d.accsUsed k 99 99, mmxs := d.mmxsUsed k 99,
    cross := (d.seqAfter (partner k)).crossSel, nodeMask := g.nodeMask, mitMask := g.mitMask }

/-! ### Staged objects -/

/-- PATH_MAP_LOAD (R28, R29). -/
def execPathMapLoad (tag : Tag) (s : State) : Host.Outcome State Fault Refusal :=
  s.onDev fun d => d.runCmd tag opPathMapLoad fun x d => d.staged x fun d =>
    match checkMap x.payload (d.mapCtx (d.ring x.ring)) with
    | some f => d.refuse tag stMapInvalid (checkResult f.1 f.2)
    | none => (d.modStage fun g => { g with map := some (parseMap (x.payload.take 4368)) }).ok tag

/-- The entry that a unit's parameters are judged against: the staged map's, or that in force where the staged map leaves the
unit out (R300). -/
def entryOf {α : Type} (used : α → Bool) (new old : α) : α := if used new then new else old

/-- Conditions of R67 that tie T_INPUT to the map. -/
def mitExtra (m : PathMap) (e : MitEntry) (c : ParamSet) : List (List Nat) :=
  let t := mitP e 1 c 13
  let x := m.senseE (auxIx t.toNat)
  if t = 255 ∨ (t < 32 ∧ x.mode ≠ 0 ∧ x.unit = 2) then [] else [[13]]

/-- Whether WAKE_V lies within the 0-1.8 V span at the ball of a single-ended entry without INVERT (R95). -/
def wakeSpan (x : SenseEntry) (v : Int) : Bool :=
  let p := if x.fsEng < 0 then x.offset - v else v - x.offset
  x.mode == 2 && !x.invert && x.fsEng != 0 && decide (0 ≤ p) && decide (10 * p ≤ 18 * (x.fsEng.natAbs : Int))

/-- Conditions of R95: START_OUT on a digital output, and the wake comparator's reach. -/
def srcExtra (g : Glb) (x : SenseEntry) (e : PortEntry) (c : ParamSet) : List (List Nat) :=
  let o := srcP e c 36
  (if o = 255 ∨ (o < 32 ∧ 2 ≤ g.auxMode o.toNat) then [] else [[36]]) ++
  (if srcP e c 38 = 1 ∧ !wakeSpan x (srcP e c 39) then [[38, 39]] else [])

/-- Place a unit's set in the stage, or refuse the command at the offset of the failing record (R300, R314). -/
def Dev.stageSet (d : Dev) (t : Nat) (r : Except Nat ParamSet) (f : ParamSet → Stage → Stage) : Dev :=
  match r with
  | .error o => d.refuse t stInvalidParameter o
  | .ok c => (d.modStage (f c)).ok t

/-- The set a command starts from (R300 step 1). -/
def startSet (defaults : Bool) (stage : Option ParamSet) (inForce : ParamSet) : ParamSet :=
  if defaults then [] else stage.getD inForce

/-- MITTEN_CONFIG (R66, R67, R300). -/
def execMittenConfig (tag : Tag) (s : State) : Host.Outcome State Fault Refusal :=
  s.onDev fun d => d.runCmd tag opMittenConfig fun x d => d.staged x fun d =>
    let m := byteAt x.desc 32
    let new := d.newMap.mitE m
    if !new.used && !(d.mitE m).used then d.wrong tag 3 (0x100 + m) 0
    else
      let e := entryOf (fun i => i.used) new (d.mitE m)
      d.stageSet tag (buildSet (startSet (byteAt x.desc 33 == 1) (look m d.pw.stage.mitCfg) (d.mitten m).cfg) x.payload mitIds
        (mitRange e (d.nOf m e)) (mitP e (d.nOf m e)) [] (mitExtra d.newMap e)) fun c g => { g with mitCfg := assign m c g.mitCfg }

/-- SOURCE_CONFIG (R94, R95, R300). -/
def execSourceConfig (tag : Tag) (s : State) : Host.Outcome State Fault Refusal :=
  s.onDev fun d => d.runCmd tag opSourceConfig fun x d => d.staged x fun d =>
    let k := byteAt x.desc 32
    let new := d.newMap.srcE k
    if new.type = 0 ∧ (d.srcE k).type = 0 then d.wrong tag 3 k 0
    else
      let e := entryOf (fun i => i.type != 0) new (d.srcE k)
      d.stageSet tag (buildSet (startSet (byteAt x.desc 33 == 1) (look k d.pw.stage.srcCfg) (d.source k).cfg) x.payload srcIds
        (srcRange e) (srcP e) srcDerived (srcExtra d.ho.glb (d.newMap.senseE (2 * k)) e)) fun c g =>
        { g with srcCfg := assign k c g.srcCfg }

/-- STRING_CONFIG (R127, R128, R300): a CUSTOM string has no preset program. -/
def execStringConfig (tag : Tag) (s : State) : Host.Outcome State Fault Refusal :=
  s.onDev fun d => d.runCmd tag opStringConfig fun x d => d.staged x fun d =>
    let k := byteAt x.desc 32
    let new := d.newMap.strE k
    if new.type = 0 ∧ (d.strE k).type = 0 then d.wrong tag 3 (0x200 + k) 0
    else
      let e := entryOf (fun i => i.type != 0) new (d.strE k)
      d.stageSet tag (buildSet (startSet (byteAt x.desc 33 == 1) (look k d.pw.stage.strCfg) (d.string k).cfg) x.payload strIds
        (strRange e) (strP e) strDerived fun c => if e.chem = 8 ∧ strP e c 1 = 0 then [[1]] else []) fun c g =>
        { g with strCfg := assign k c g.strCfg }

/-- STRING_PROGRAM (R135, R136). -/
def execStringProgram (tag : Tag) (s : State) : Host.Outcome State Fault Refusal :=
  s.onDev fun d => d.runCmd tag opStringProgram fun x d => d.staged x fun d =>
    let k := byteAt x.desc 32
    let new := d.newMap.strE k
    if new.type = 0 ∧ (d.strE k).type = 0 then d.wrong tag 3 (0x200 + k) 0
    else match checkProgram x.payload (entryOf (fun i => i.type != 0) new (d.strE k))
        ((d.ring x.ring).nodeMask.getLsbD (strNode k)) with
      | some f => d.refuse tag stProgramInvalid (checkResult f.1 f.2)
      | none => (d.modStage fun g =>
          { g with progs := assign k (parseProgram (x.payload.take (leAt x.payload 2 2))) g.progs }).ok tag

/-- PROFILE_SET (R228): four weights of 0-100 that sum to 100. -/
def execProfileSet (tag : Tag) (s : State) : Host.Outcome State Fault Refusal :=
  s.onDev fun d => d.runCmd tag opProfileSet fun x d => d.staged x fun d =>
    let w : Profile := { e := byteAt x.desc 32, r := byteAt x.desc 33, p := byteAt x.desc 34, m := byteAt x.desc 35 }
    if 100 < w.e ∨ 100 < w.r ∨ 100 < w.p ∨ 100 < w.m ∨ w.e + w.r + w.p + w.m ≠ 100 then d.refuse tag stInvalidParameter 32
    else (d.modStage fun g => { g with profile := some w }).ok tag

/-- MEAS_SEQUENCE (R163). -/
def execMeasSequence (tag : Tag) (s : State) : Host.Outcome State Fault Refusal :=
  s.onDev fun d => d.runCmd tag opMeasSequence fun x d => d.staged x fun d =>
    let k := byteAt x.payload 2
    match checkSeq x.payload (d.seqCtx (d.ring x.ring) k) with
    | some f => d.refuse tag stMeasSeqInvalid (checkResult f.1 f.2)
    | none => (d.modStage fun g => { g with seqs := assign k (parseSeq x.payload) g.seqs }).ok tag

/-- The parameters of an ACC_CONFIG (R192, R304). -/
def accOf (b : List Byte) : AccCfg :=
  let m := byteAt b 34
  { mode := if m = 1 then .sumsq else if m = 2 then .windowMean else if m = 3 then .demod else .sum,
    window := leAt b 36 2, ref := byteAt b 35, refFreq := leAt b 40 4, periods := leAt b 38 2 }

/-- Another accumulator that would be a DEMOD of the same REF with another REF_FREQ after commit (R192). -/
def Dev.refClash (d : Dev) (n : Nat) (c : AccCfg) : Bool :=
  (List.range 512).any fun m => m != n &&
    (let a := d.accAfter m
     a.mode == .demod && a.ref == c.ref && a.refFreq != c.refFreq)

/-- The first parameter of an ACC_CONFIG that is invalid: those its mode uses are judged (R192; DEDUCED, log 52). -/
def Dev.badAcc (d : Dev) (b : List Byte) : Option Nat :=
  let n := leAt b 32 2
  let c := accOf b
  if 511 < n ∨ (c.mode = .demod ∧ n % 2 = 1) then some 32
  else if 3 < byteAt b 34 then some 34
  else if c.mode = .windowMean ∧ c.window = 0 then some 36
  else if c.mode = .demod ∧ (c.ref < 16 ∨ 31 < c.ref) then some 35
  else if c.mode = .demod ∧ (c.refFreq < 10 ∨ 50000000 < c.refFreq ∨ d.refClash n c) then some 40
  else none

/-- ACC_CONFIG (R192). -/
def execAccConfig (tag : Tag) (s : State) : Host.Outcome State Fault Refusal :=
  s.onDev fun d => d.runCmd tag opAccConfig fun x d => d.staged x fun d =>
    match d.badAcc x.desc with
    | some o => d.refuse tag stInvalidParameter o
    | none => (d.modStage fun g => { g with accs := assign (leAt x.desc 32 2) (accOf x.desc) g.accs }).ok tag

/-- MMX_CONFIG (R200). -/
def execMmxConfig (tag : Tag) (s : State) : Host.Outcome State Fault Refusal :=
  s.onDev fun d => d.runCmd tag opMmxConfig fun x d => d.staged x fun d =>
    let b := x.desc
    let c : MmxCfg := { winEn := byteAt b 33 == 1, persist := byteAt b 34, lo := s32At b 36, hi := s32At b 40, hyst := s32At b 44 }
    if c.persist = 0 then d.refuse tag stInvalidParameter 34
    else if c.hi ≤ c.lo then d.refuse tag stInvalidParameter 40
    else if c.hyst < 0 ∨ c.hi - c.lo < 2 * c.hyst then d.refuse tag stInvalidParameter 44
    else (d.modStage fun g => { g with mmxs := assign (byteAt b 32) c g.mmxs }).ok tag

end Sys2Proof.Machine
end

