-- ==== Sys2Proof/Machine/CmdControl.lean ====
section
/-! DEFINITION. The control and class-0 commands (R86, R116-R119, R151, R222, R240, R305-R307, R315). -/

namespace Sys2Proof.Machine

/-- WRONG_STATE without a refusal list (R298). -/
def Dev.wrong0 (d : Dev) (t reason unit : Nat) : Dev := d.wrong t reason unit 0

/-- A command on one mitten: the number's range, then an unused mitten is NOT_CONFIGURED (R305). -/
def Dev.onMitten (d : Dev) (t : Nat) (x : TagRec) (f : Nat → Dev → Dev) : Dev :=
  let m := byteAt x.desc 32
  if 15 < m then d.refuse t stInvalidParameter 32
  else if !(d.mitE m).used then d.wrong0 t 3 (0x100 + m)
  else f m d

/-- A command on one string: the number's range, then a disabled string is NOT_CONFIGURED (R305). -/
def Dev.onString (d : Dev) (t : Nat) (x : TagRec) (f : Nat → Dev → Dev) : Dev :=
  let k := byteAt x.desc 32
  if 15 < k then d.refuse t stInvalidParameter 32
  else if (d.strE k).type = 0 then d.wrong0 t 3 (0x200 + k)
  else f k d

/-- Whether a port at an end of a mitten is RETIRED (R315). -/
def Dev.portRetired (d : Dev) (m : Nat) : Bool :=
  let f (n : Node) : Bool := match n with
    | .src k => (d.source k).st = .retired
    | .str k => (d.string k).st = .retired
    | .bus _ => false
  f (d.mitE m).fromNode || f (d.mitE m).toNode

/-! ### Mittens and strings -/

/-- MITTEN_START (R86, R305, R315): the refusals, NO_CHANGE for a mitten that is not STOPPED, else the start request. -/
def execMittenStart (tag : Tag) (s : State) : Host.Outcome State Fault Refusal :=
  s.onDev fun d => d.runCmd tag opMittenStart fun x d => d.onMitten tag x fun m d =>
    let y := d.mitten m
    if y.st = .retired then d.refuse tag stUnitRetired 0
    else if y.held ∨ y.disc then d.wrong0 tag 4 (0x100 + m)
    else if y.st ≠ .stopped then d.done tag stNoChange 0 []
    else if d.portRetired m then d.wrong0 tag 2 (0x100 + m)
    else if y.mismatch then d.wrong0 tag 8 (0x100 + m)
    else ((d.modMit m fun z => { z with dHost := true }).startMit m).ok tag

/-- A stop by the host: it overrides every start demand until the next start request (R86). -/
def Dev.hostStopMit (d : Dev) (m : Nat) : Dev :=
  let w := d.wantsCharge m
  (d.stopMit m).modMit m fun z =>
    { z with hostStop := true, dHost := false, dChange := false, dProg := w, lad := { z.lad with backoff := .none } }

/-- MITTEN_STOP (R86, R113, R305): a STOPPED mitten loses the start demand of a changeover. -/
def execMittenStop (tag : Tag) (s : State) : Host.Outcome State Fault Refusal :=
  s.onDev fun d => d.runCmd tag opMittenStop fun x d => d.onMitten tag x fun m d =>
    let y := d.mitten m
    if y.held then d.wrong0 tag 4 (0x100 + m)
    else if y.st = .retired then d.done tag stNoChange 0 []
    else if y.st = .stopped then
      (d.modMit m fun z => { z with hostStop := true, dChange := false, dProg := d.wantsCharge m }).done tag stNoChange 0 []
    else (d.hostStopMit m).ok tag

/-- STRING_START (R151, R305): RUNNING begins at START; a string under DISCONNECT or HOLD is HELD (R315). -/
def execStringStart (tag : Tag) (s : State) : Host.Outcome State Fault Refusal :=
  s.onDev fun d => d.runCmd tag opStringStart fun x d => d.onString tag x fun k d =>
    let sw := d.switch (12 + k)
    match (d.string k).st with
    | .retired => d.refuse tag stUnitRetired 0
    | .absent | .faulted | .disabled => d.wrong0 tag 2 (0x200 + k)
    | .stopped =>
      if sw.disc ∨ sw.hold then d.wrong0 tag 4 (0x200 + k)
      else if (d.program k).isNone then d.wrong0 tag 2 (0x200 + k)
      else (d.runFromStart k).ok tag
    | _ => d.done tag stNoChange 0 []

/-- STRING_STOP (R129, R305): a FAULTED string enters STOPPED, its retry dropped; an ABSENT one runs no program and stays ABSENT. -/
def execStringStop (tag : Tag) (s : State) : Host.Outcome State Fault Refusal :=
  s.onDev fun d => d.runCmd tag opStringStop fun x d => d.onString tag x fun k d =>
    match (d.string k).st with
    | .stopped | .retired | .disabled => d.done tag stNoChange 0 []
    | .lent => d.wrong0 tag 2 (0x200 + k)
    | .absent => d.ok tag
    | _ => ((d.modStr k Str.dropRetry).stopStr k).ok tag

/-! ### Return to service (R240) -/

/-- Whether the switch of a source or string still carries the current of its switch fault (R240). -/
def Dev.leaks (d : Dev) (p : Nat) : Bool :=
  if p < 12 then (d.source p).switchFlt && d.srcLeak p
  else (d.switch p).mode == .off && ((d.pw.map.mitsAt p).all fun m => (d.mitten m).quiet) &&
    decide (pctOf 2 (d.strE (p - 12)).iRated < ((d.nodeI (.str (p - 12))).natAbs : Int))

/-- Numbers of each KIND of RETURN_TO_SERVICE (R305). -/
def rtsCount : Nat → Nat
  | 0 => 64
  | 1 => 16
  | 2 => 12
  | 3 => 16
  | 4 => 16
  | 5 => 4
  | _ => 1

/-- A phase comes back: IDLE or UNPOWERED, latch released, engine recovered; a running mitten tests it (R41, R58, R240). -/
def Dev.returnPhase (d : Dev) (n : Nat) : Dev :=
  let on := d.pw.quadOn.getD (n / 4) false
  let d := (d.modPh n fun y => { y with st := if on then .idle else .unpowered, latch := false, flt := false, lad := {} }).recoverAgent
    (agPhase n)
  match d.pw.map.mitOf n with
  | some m => d.joinRule m
  | none => d

/-- When a fault retired the unit that a RETURN_TO_SERVICE names. -/
def Dev.goneAt (d : Dev) (kind n : Nat) : Option Nat :=
  match kind with
  | 0 => (d.phase n).lad.gone
  | 1 => (d.mitten n).lad.gone
  | 2 => (d.source n).lad.gone
  | 3 => (d.string n).lad.gone
  | 4 => (d.unit n).lad.gone
  | 5 => (d.sy.supLad.getD n {}).gone
  | _ => d.ms.ref.goneAt

/-- The unit of a RETURN_TO_SERVICE leaves RETIRED; `none` where it is not RETIRED, `some none` where its cause is present. -/
def Dev.returned (d : Dev) (kind n : Nat) : Option (Option Dev) :=
  match kind with
  | 0 => if (d.phase n).st ≠ .retired then none else some (some (d.returnPhase n))
  | 1 => if (d.mitten n).st ≠ .retired then none else some (some (d.modMit n fun y => { y with st := .stopped, lad := {} }))
  | 2 =>
    if (d.source n).st ≠ .retired then none
    else if d.leaks n then some none
    else some (some (((d.modSrc n fun y => { y with st := .absent, lad := {}, switchFlt := false }).modSw n fun w =>
      { w with openFlt := false }).recoverAgent (agSource n)))
  | 3 =>
    if (d.string n).st ≠ .retired then none
    else if d.leaks (12 + n) then some none
    else some (some (((d.modStr n fun y => { y with st := .stopped, lad := {}, tFault := false }).modSw (12 + n) fun w =>
      { w with openFlt := false }).recoverAgent (agString n)))
  | 4 =>
    if !(d.unit n).retired then none
    else if (d.unit n).sliceOk.contains false then some none
    else some (some ((d.modMu n fun u => { u.start .acquiring d.now with retired := false, fault := false, lad := {} }).clearFaultCause))
  | 5 =>
    if !d.sy.supRetired.getD n false then none
    else some (some (((d.onSy fun s => { s with supRetired := s.supRetired.set n false,
                                                supLad := s.supLad.set n {} }).recoverAgent (n + 1)).clearFaultCause))
  | _ =>
    if !d.ms.ref.fault then none
    else if 20000 < d.ms.ref.dev.natAbs then some none
    else some (some ((d.modRef fun r => { r with fault := false }).onSy fun s =>
      { s with limpCause := s.limpCause &&& 0b1101#4 }))

/-- Whether the unit a RETURN_TO_SERVICE names is not configured, and its UNIT in WRONG_STATE (R298, R305). -/
def Dev.rtsMissing (d : Dev) (kind n : Nat) : Option Nat :=
  if kind = 1 ∧ !(d.mitE n).used then some (0x100 + n)
  else if kind = 2 ∧ (d.srcE n).type = 0 then some n
  else if kind = 3 ∧ (d.strE n).type = 0 then some (strNode n)
  else none

/-- RETURN_TO_SERVICE (R240, R305, R315); a fault that retired the unit in this tick governs (R257). -/
def execReturnToService (tag : Tag) (s : State) : Host.Outcome State Fault Refusal :=
  s.onDev fun d => d.runCmd tag opReturnToService fun x d =>
    let kind := byteAt x.desc 32
    let n := byteAt x.desc 33
    if 6 < kind then d.refuse tag stInvalidParameter 32
    else if rtsCount kind ≤ n then d.refuse tag stInvalidParameter 33
    else match d.rtsMissing kind n with
      | some u => d.wrong0 tag 3 u
      | none => match d.returned kind n with
        | none => d.done tag stNoChange 0 []
        | some none => d.refuse tag stCausePresent 0
        | some (some e) => if d.goneAt kind n = some d.now then d.refuse tag stCausePresent 0 else e.ok tag

/-! ### Lend (R116-R119, R306) -/

/-- The lend a LEND_START payload asks for, its defaults filled in (R116, R306). -/
def lendOf (m : Nat) (src : PortEntry) (donor : Nat) (donorMin : Int) (now : Nat) (p : List Byte) : Lend :=
  let f (i : Nat) : Int := s32At p (4 * i)
  let dflt (i : Nat) (v : Int) : Int := if f i = -1 then v else f i
  { mit := m, vLend := f 0, iLend := f 1, eLend := f 2, tLend := f 3, rxMin := dflt 4 (clampI 0 (f 0) (pctOf 50 src.vMin)),
    vFloor := dflt 5 donorMin, iEnd := dflt 6 (clampI 0 (f 1) (pctOf 5 (f 1))), tEnd := dflt 7 60, donor := donor, startAt := now }

/-- The payload offset of the first lend parameter outside R116. -/
def lendRange (src : PortEntry) (dMin dMax : Int) (l : Lend) : Option Nat :=
  let out (v lo hi : Int) : Bool := decide (v < lo) || decide (hi < v)
  if out l.vLend src.vMin src.vMax then some 0
  else if out l.iLend 1 src.iRated then some 4
  else if l.eLend < 0 then some 8
  else if out l.tLend 0 86400 then some 12
  else if out l.rxMin 0 l.vLend then some 16
  else if out l.vFloor dMin dMax then some 20
  else if out l.iEnd 0 l.iLend then some 24
  else if out l.tEnd 1 3600 then some 28
  else none

/-- The first condition of R117 that holds, from the second on: REASON, UNIT and its ordinal. -/
def Dev.lendRefusal (d : Dev) (m k : Nat) (l : Lend) : Option (Nat × Nat × Nat) :=
  let y := d.mitten m
  let st := (d.source k).st
  let v := d.nodeV (.src k)
  let dn := (nodeOf l.donor).getD (.src 0)
  let below : Bool := match dn with
    | .bus j => decide (d.nodeV dn < d.vSupp j)
    | _ => false
  if y.st = .faulted ∨ y.st = .retired ∨ y.dSupp then some (2, 0x100 + m, 2)
  else if y.lending then some (5, 0x100 + m, 3)
  else if st ≠ .absent ∧ st ≠ .qualifying ∧ st ≠ .holdoff then some (2, k, 4)
  else if v < l.rxMin ∨ l.vLend < v then some (7, k, 5)
  else if d.nodeV dn ≤ l.vFloor then some (7, l.donor, 6)
  else if below then some (7, l.donor, 7)
  else if y.held ∨ y.disc then some (4, 0x100 + m, 0)
  else if (d.switch k).disc then some (4, k, 0)
  else match dn with
    | .str i => if (d.switch (12 + i)).disc then some (4, l.donor, 0) else none
    | _ => none

/-- A donor string holds its step (R118, R129). -/
def Dev.holdDonor (d : Dev) (i : Nat) : Dev :=
  d.modStr i fun y =>
    if y.st = .running ∨ y.st = .paused ∨ y.st = .stopped then { y with st := .lent, chgMit := .none, iCeil := 0, cnt := [0, 0, 0, 0] } else y

/-- Start an accepted lend (R118): the source enters LENDING, every ration from its terminal is 0, a donor string holds its step,
and the edge turns or starts towards the LEND_DC terminal. -/
def Dev.startLend (d : Dev) (m k : Nat) (l : Lend) : Dev :=
  let d := d.modSrc k fun x => { x with st := .lending, lend := some l, rxMin := l.rxMin }
  let d := d.each (d.pw.map.group k) fun i e => e.modSrc i Source.noRations
  let d := match (nodeOf l.donor).getD (.src 0) with
    | .str i => (d.endImp i 4).holdDonor i
    | _ => d
  (d.modMit m fun z => { z with lending := true, dLend := true }).startMit m

/-- LEND_START (R116-R118, R297, R305, R306). -/
def execLendStart (tag : Tag) (s : State) : Host.Outcome State Fault Refusal :=
  s.onDev fun d => d.runCmd tag opLendStart fun x d =>
    if x.payload.length ≠ 32 then d.refuse tag stInvalidParameter 4
    else d.onMitten tag x fun m d =>
      let e := d.mitE m
      if d.sy.power ≠ .run then d.wrong tag 1 0xFFFF 1
      else match (if e.lend then d.pw.map.lendSrc e else none) with
        | none => d.wrong tag 6 (0x100 + m) 2
        | some k =>
          let dn := e.other (.src k)
          let l := lendOf m (d.srcE k) dn.code (d.pw.map.nodeMin dn) d.now x.payload
          match lendRange (d.srcE k) (d.pw.map.nodeMin dn) (d.pw.map.nodeMax dn) l with
          | some o => d.refuse tag stInvalidParameter o
          | none => match d.lendRefusal m k l with
            | some r => d.wrong tag r.1 r.2.1 r.2.2
            | none => (d.startLend m k l).ok tag

/-- LEND_STOP (R119, R305): it completes with the delivered charge and the reason of the lend's end. -/
def execLendStop (tag : Tag) (s : State) : Host.Outcome State Fault Refusal :=
  s.onDev fun d => d.runCmd tag opLendStop fun x d => d.onMitten tag x fun m d =>
    match (List.range 12).find? (fun k => match (d.source k).lend with | some l => l.mit == m | none => false) with
    | none => d.done tag stNoChange 0 []
    | some k =>
      if (d.mitten m).held then d.wrong0 tag 4 (0x100 + m)
      else (d.modSrc k fun y => { y with lend := y.lend.map fun l => { l with stopTag := some tag.val } }).endLend k 1

/-- MOTION_SET (R305): the host motion flag. -/
def execMotionSet (tag : Tag) (s : State) : Host.Outcome State Fault Refusal :=
  s.onDev fun d => d.runCmd tag opMotionSet fun x d =>
    (d.onPw fun p => { p with moving := byteAt x.desc 32 % 2 == 1 }).ok tag

/-! ### Class 0 (R222, R307, R315) -/

/-- The ports a NODE_MASK names: sources at bits 0-11, strings at bits 32-47 (R22, R307). -/
def portsOf (mask : Nat) : List Nat :=
  (List.range 12).filter (mask.testBit ·) ++ ((List.range 16).filter fun k => mask.testBit (32 + k)).map (12 + ·)

/-- SHED of one mitten (R222): every powered member low through the protection latch, and the mitten STOPPED; a HOLD keeps it
running (R307). -/
def Dev.shedMit (d : Dev) (m : Nat) : Dev :=
  let y := d.mitten m
  if !(d.mitE m).used || y.held then d
  else
    let d := d.each (d.mitE m).members fun p e =>
      if (e.phase p).st = .unpowered then e else e.modPh p fun x => { x.low with latch := true }
    if y.st = .stopped ∨ y.st = .retired then d else d.hostStopMit m

/-- SHED (R222, R307). -/
def execShed (tag : Tag) (s : State) : Host.Outcome State Fault Refusal :=
  s.onDev fun d => d.runCmd tag opShed fun x d =>
    (d.each (bitsSet 16 (leAt x.desc 40 2)) fun m e => e.shedMit m).ok tag

/-- DISCONNECT of one port: a rank-3 demand for OFF; the rations of a source go to 0 at once, a lend of the source or its donor
ends, a RUNNING string pauses with HOST, and the strapped source's liner stops (R32, R112, R115, R119, R141, R395). -/
def Dev.disconnectPort (d : Dev) (p : Nat) : Dev :=
  let d := d.modSw p fun w => { w with disc := true }
  if p < 12 then
    let d := if d.sy.linerSrc = p then d.linerStop else d
    ((d.endLend p 10).modSrc p Source.noRations).onPw fun q => { q with arbDue := true }
  else (d.endDonor (p - 12) 10).pause (p - 12) fun y => { y with pHost := true }

/-- DISCONNECT of one mitten: stopped, a FAULTED one without its retry, and held STOPPED (R307); it prevails over a HOLD (DEDUCED
from R315). -/
def Dev.disconnectMit (d : Dev) (m : Nat) : Dev :=
  let d := d.modMit m fun y => { y with disc := true }
  let st := (d.mitten m).st
  if st = .stopped ∨ st = .retired then d
  else
    let d := (d.endLendOn m 10).modMit m fun y => { y with disc := true, lad := { y.lad with backoff := .none } }
    d.stopMit m

/-- DISCONNECT (R222, R307, R315). -/
def execDisconnect (tag : Tag) (s : State) : Host.Outcome State Fault Refusal :=
  s.onDev fun d => d.runCmd tag opDisconnect fun x d =>
    let ports := portsOf (leAt x.desc 32 8)
    let mits := bitsSet 16 (leAt x.desc 40 2)
    let d := if byteAt x.desc 42 % 2 = 1 then
        let d := d.each ports fun p e => (e.modSw p fun w => { w with disc := false }).when (12 ≤ p) fun c =>
          c.modStr (p - 12) fun y => { y with pHost := false }
        d.each mits fun m e => e.modMit m fun y => { y with disc := false }
      else (d.each ports fun p e => e.disconnectPort p).each mits fun m e => e.disconnectMit m
    d.ok tag

/-- HOLD (R141, R222, R307). -/
def execHold (tag : Tag) (s : State) : Host.Outcome State Fault Refusal :=
  s.onDev fun d => d.runCmd tag opHold fun x d =>
    let on := byteAt x.desc 42 % 2 = 0
    ((d.each (portsOf (leAt x.desc 32 8)) fun p e => e.modSw p fun w => { w with hold := on }).each
      (bitsSet 16 (leAt x.desc 40 2)) fun m e => e.modMit m fun y => { y with held := on }).ok tag

end Sys2Proof.Machine
end

