-- ==== Sys2Proof/Machine/CmdMeasure.lean ====
section
/-! DEFINITION. The measurement commands (R180, R181, R188, R198, R202-R208, R249, R308). -/

namespace Sys2Proof.Machine

/-- MEAS_FILTER_SYNC (R188, R308): the entries to reset at the next pass start after the point of application. -/
def execMeasFilterSync (tag : Tag) (s : State) : Host.Outcome State Fault Refusal :=
  s.onDev fun d => d.runCmd tag opMeasFilterSync fun x d =>
    let m := BitVec.ofNat 16 (leAt x.desc 34 2)
    let p := byteAt x.desc 36
    if 2 < p then d.refuse tag stInvalidParameter 36
    else (d.each (bitsSet 16 (leAt x.desc 32 2)) fun k e => e.modMu k fun u =>
      { u with syncNow := if p = 0 then u.syncNow ||| m else u.syncNow, syncChg := if p = 1 then u.syncChg ||| m else u.syncChg,
               syncPol := if p = 2 then u.syncPol ||| m else u.syncPol }).ok tag

/-! ### Pair capture -/

/-- The capture that a MEAS_PAIR_CAPTURE asks for (R308). -/
def captureOf (b : List Byte) : Capture :=
  { odd := byteAt b 33 % 2 == 1, input := byteAt b 34, ts := byteAt b 35, gain := byteAt b 36, trigPhase := byteAt b 37,
    trigRef := byteAt b 38, window := byteAt b 39, delay := leAt b 40 2, rep := leAt b 42 2, accBase := leAt b 44 2,
    mmx := leAt b 46 2 }

/-- The offset of the first capture parameter outside R180. -/
def Capture.bad (c : Capture) : Option Nat :=
  if 10 < c.input then some 34
  else if c.ts < 4 then some 35
  else if 4 < c.gain ∨ (c.gain ≠ 0 ∧ c.input < 4) then some 36
  else if 63 < c.trigPhase ∧ c.trigPhase ≠ 0xFF then some 37
  else if c.trigRef = 0 ∨ 5 < c.trigRef then some 38
  else if c.window = 0 ∨ 64 < c.window then some 39
  else if c.rep = 0 then some 42
  else if 512 < c.accBase + c.window then some 44
  else if 255 < c.mmx ∧ c.mmx ≠ 0xFFFF then some 46
  else none

/-- A destination of the capture that breaks MS07 (R163). -/
def Dev.captureClash (d : Dev) (j : Nat) (c : Capture) : Bool :=
  let mode (n : Nat) := (d.accAfter n).mode
  let mine := (List.range' c.accBase c.window).flatMap (accsNamed mode)
  mine.any (d.accsUsed 99 j 99).contains || decide (mine.eraseDups.length < mine.length) ||
    (decide (c.mmx < 256) && (d.mmxsUsed 99 j).contains c.mmx)

/-- The condition of R181 that refuses a capture: REASON and its ordinal. -/
def Dev.captureRefusal (d : Dev) (j : Nat) (c : Capture) : Option (Nat × Nat) :=
  if d.sy.power = .limp then some (1, 6)
  else if !d.ms.ref.pairEn.getLsbD j then some (3, 1)
  else if (d.unit (2 * j)).corr ≠ .converged ∨ (d.unit (2 * j + 1)).corr ≠ .converged then some (2, 2)
  else if (d.ms.cap.getD j .none).isSome then some (5, 3)
  else if d.captureClash j c then some (6, 4)
  else none

/-- MEAS_PAIR_CAPTURE (R180, R181, R297): it completes once the capture is accepted. -/
def execMeasPairCapture (tag : Tag) (s : State) : Host.Outcome State Fault Refusal :=
  s.onDev fun d => d.runCmd tag opMeasPairCapture fun x d =>
    let j := byteAt x.desc 32
    let c := captureOf x.desc
    match c.bad with
    | some o => d.refuse tag stInvalidParameter o
    | none => match d.captureRefusal j c with
      | some r => d.wrong tag r.1 0xFFFF r.2
      | none => (d.onMs fun m => { m with cap := m.cap.set j (some c) }).ok tag

/-! ### Accumulators and trackers -/

/-- An impedance point whose accumulators are cleared is CLIPPED (R209). -/
def Dev.clipRuns (d : Dev) (f n : Nat) : Dev :=
  d.onMs fun m => { m with imp := m.imp.map fun i => { i with run := i.run.map fun r =>
    { r with clipped := r.clipped || (r.running && decide (f < r.accBase + 4) && decide (r.accBase < f + n)) } } }

/-- ACC_CLEAR (R198, R209, R308). -/
def execAccClear (tag : Tag) (s : State) : Host.Outcome State Fault Refusal :=
  s.onDev fun d => d.runCmd tag opAccClear fun x d =>
    let f := leAt x.desc 32 2
    let n := leAt x.desc 34 2
    if n = 0 ∨ 512 < n then d.refuse tag stInvalidParameter 34
    else if 512 < f + n then d.refuse tag stInvalidParameter 32
    else ((d.each (List.range' f n) fun i e => e.clearAcc i).clipRuns f n).ok tag

/-- The 32-byte record of a tracker (R202). -/
def Mmx.record (x : Mmx) : List Byte :=
  leBytes 4 (enc 4 x.min) ++ leBytes 4 (enc 4 x.max) ++ leBytes 8 x.minT ++ leBytes 8 x.maxT ++ leBytes 4 (Nat.min x.count 0xFFFFFFFF) ++
    leBytes 1 (b2n x.ovr + 2 * b2n x.out + 4 * b2n (x.count == 0)) ++ leBytes 1 x.syncW ++ leBytes 1 x.markW ++ [0]

/-- Empty a tracker; OUT and the persistence count stay (R202). -/
def Mmx.emptied (x : Mmx) : Mmx := { cfg := x.cfg, out := x.out, persist := x.persist }

/-- MMX_READ (R202, R308). -/
def execMmxRead (tag : Tag) (s : State) : Host.Outcome State Fault Refusal :=
  s.onDev fun d => d.runCmd tag opMmxRead fun x d =>
    let f := byteAt x.desc 32
    let n := leAt x.desc 34 2
    if n = 0 ∨ 256 < n then d.refuse tag stInvalidParameter 34
    else if 256 < f + n then d.refuse tag stInvalidParameter 32
    else
      let out := (List.range' f n).flatMap fun i => (d.ms.mmx.getD i {}).record
      let d := if byteAt x.desc 36 % 2 = 1 then d.each (List.range' f n) fun i e => e.modMmx i Mmx.emptied else d
      d.done tag stSuccess 0 out

/-! ### Impedance -/

/-- The frequency list of an IMPEDANCE_RUN, or the payload offset at which it is rejected (R203). -/
def parseFreqs (p : List Byte) : Except Nat (List ImpFreq) :=
  let n := byteAt p 2
  let l : List ImpFreq := (List.range n).map fun i =>
    { freq := leAt p (16 + 8 * i) 4, settle := leAt p (20 + 8 * i) 2, measure := leAt p (22 + 8 * i) 2 }
  let bad (i : Nat) (e : ImpFreq) : Option Nat :=
    if e.freq < 50 ∨ 2000000 < e.freq then some (16 + 8 * i)
    else if e.settle = 0 ∨ 255 < e.settle then some (20 + 8 * i)
    else if e.measure = 0 then some (22 + 8 * i) else none
  if leAt p 0 2 ≠ 1 then .error 0
  else if n = 0 ∨ 32 < n then .error 2
  else if crc32 (zeroAt p 12 4) ≠ BitVec.ofNat 32 (leAt p 12 4) then .error 12
  else if byteAt p 3 ≠ 0 then .error 3
  else if !zeroSpan p 4 8 then .error 4
  else match ((List.range n).zip l).findSome? fun q => bad q.1 q.2 with
    | some o => .error o
    | none => .ok l

/-- REASON of the conditions of R204, by ordinal. -/
def impReason : Nat → Nat
  | 1 => 1
  | 2 => 2
  | 3 => 5
  | 5 => 7
  | _ => 6

/-- IMPEDANCE_RUN (R203, R204, R308): accepted, the run starts at the next charge-frame boundary. -/
def execImpedanceRun (tag : Tag) (s : State) : Host.Outcome State Fault Refusal :=
  s.onDev fun d => d.runCmd tag opImpedanceRun fun x d =>
    let ampl := byteAt x.desc 33
    let acc := leAt x.desc 34 2
    let rep := leAt x.desc 36 2
    let p := x.payload
    if ampl = 0 ∨ 10 < ampl then d.refuse tag stInvalidParameter 33
    else if acc % 2 ≠ 0 ∨ 508 < acc then d.refuse tag stInvalidParameter 34
    else if 1440 < rep then d.refuse tag stInvalidParameter 36
    else if p.length < 16 ∨ p.length ≠ 16 + 8 * byteAt p 2 then d.refuse tag stInvalidParameter 4
    else match parseFreqs p with
      | .error o => d.refuse tag stInvalidParameter o
      | .ok l => d.onString tag x fun k d =>
        match d.impRefusal k ampl acc l with
        | some o => d.wrong tag (impReason o) (if o = 1 then 0xFFFF else 0x200 + k) o
        | none => (d.modImp k fun i => { i with
            run := some { ampl := ampl, accBase := acc, rep := rep, freqs := l, ring := x.ring } }).ok tag

/-- IMPEDANCE_ABORT (R207, R308): it completes as the run ends with HOST_ABORT. -/
def execImpedanceAbort (tag : Tag) (s : State) : Host.Outcome State Fault Refusal :=
  s.onDev fun d => d.runCmd tag opImpedanceAbort fun x d => d.onString tag x fun k d =>
    if (d.ms.imp.getD k {}).run.isNone then d.done tag stNoChange 0 []
    else (d.modRun k fun r => { r with abortTag := some tag.val }).endImp k 2

/-- The record of R208. -/
def ImpRec.bytes (k : Nat) (r : ImpRec) : List Byte :=
  leBytes 1 k ++ leBytes 1 r.points.length ++ leBytes 1 r.reason ++ [0] ++ leBytes 4 r.runNo ++ leBytes 8 r.startAt ++
    r.points.flatMap fun p =>
      leBytes 4 p.freq ++ leBytes 4 (enc 4 (sat32 p.zRe)) ++ leBytes 4 (enc 4 (sat32 p.zIm)) ++ leBytes 2 (min p.iAmpl 65535) ++
        leBytes 1 (b2n p.valid + 2 * b2n p.clipped + 4 * b2n p.low + 8 * b2n p.notRun) ++ [0]

/-- IMPEDANCE_READ (R208, R308): RESULT is the record's length, 0 without one. -/
def execImpedanceRead (tag : Tag) (s : State) : Host.Outcome State Fault Refusal :=
  s.onDev fun d => d.runCmd tag opImpedanceRead fun x d =>
    let k := byteAt x.desc 32
    match (d.ms.imp.getD k {}).record with
    | none => d.ok tag
    | some r => d.done tag stSuccess 0 (r.bytes k)

/-! ### Self-test (R249) -/

/-- A self-test's gauntlet on a STOPPED mitten that has a live high-side node, over the members at one (R249); not on the phases
that the liner runs. -/
def Dev.testMit (d : Dev) (m : Nat) : Dev :=
  let l := (d.testees m false).filter fun p => d.live ((d.mitE m).highNode p)
  if (d.mitE m).used && (d.mitten m).st == .stopped && !l.isEmpty && !((d.mitE m).phases &&& 15#64 != 0 && d.sy.liner.runs) then
    (d.gauntletOf m false false l).modMit m fun x => { x with gnt := x.gnt.map fun g => { g with test := true } }
  else d

/-- SELF_TEST (R249, R297, R308): the gauntlets begin; the command completes with SELF_TEST_DONE. -/
def execSelfTest (tag : Tag) (s : State) : Host.Outcome State Fault Refusal :=
  s.onDev fun d => d.runCmd tag opSelfTest fun _ d =>
    if d.sy.power ≠ .run then d.wrong tag 1 0xFFFF 0
    else ((d.each (List.range 16) fun m e => e.testMit m).onSy fun y => { y with selfTest := y.selfTest ++ [tag.val] }).modTag tag
      fun y => { y with st := .executing }

/-- A self-test's conversions of inputs 12 and 13 on one slice (R157, R177, R249): they stand for the checks of the next charge
frame, as in normal service. -/
def Dev.testConv (d : Dev) (c : TestConv) : Dev :=
  if (d.unit c.unit).works && (d.unit c.unit).sliceUp c.slice then d.modMu c.unit fun u => { u with in12 := c.in12, dev := c.devPpm }
  else d

/-- The findings of a self-test's conversions (R249): input 12 outside ±0.2 %, a deviation of the reference beyond 5,000 ppm. -/
def convFinds (c : TestConv) : Nat := b2n (decide (250 < (c.in12 - 125000).natAbs)) + b2n (decide (5000 < c.devPpm.natAbs))

/-- SELF_TEST_DONE (R249, R308): every test of the oldest self-test has ended; the row gives the conversions of inputs 12 and 13
and the errors that the memory scrub found. RESULT counts the findings, those of the gauntlets among them. -/
def execSelfTestDone (conv : List TestConv) (s : State) (scrub : Nat := 0) : Host.Outcome State Fault Refusal :=
  s.onDev fun d =>
    match d.sy.selfTest with
    | [] => d
    | t :: l =>
      if (d.pw.mit.any fun x => match x.gnt with | some g => g.test | none => false) then d
      else
        let n := d.sy.testFinds + conv.foldl (fun a c => a + convFinds c) 0 + scrub
        ((conv.foldl Dev.testConv d).onSy fun y => { y with selfTest := l, testFinds := 0 }).done t stSelfTestDone (n % 65536) []

end Sys2Proof.Machine
end

