-- ==== Sys2Proof/Machine/Starts.lean ====
section
/-! DEFINITION. Starts (R379-R381, R388-R399, R410, R430), the liner (R390-R395), warm starts and failover (R402-R407), and
the meanings of their rows. -/

namespace Sys2Proof.Machine

/-! ### Time over a start (R379-R381) -/

/-- The ns of a span of AON counts, rounded down to 10 ns (R379). -/
def spanNs (c : Nat) : Nat := c * 1953125 / 640 * 10

/-- What a span adds to UNC in ns, rounded up: 30.5 µs and 50 ppm, or 3 % on the RC oscillator (R380). -/
def spanUnc (c : Nat) (rc : Bool) : Nat := if rc then ceilDiv (c * 5859375) 6400 else 30500 + ceilDiv (c * 97656250) 64000000

/-- Device time at a start with its AON power kept: te and ae as latched (R379, R380). -/
def TimeS.restore (t : TimeS) (te ae aw : Nat) : TimeS :=
  let c := (aw + 281474976710656 - ae % 281474976710656) % 281474976710656
  let rc := t.aonRc || t.rcSpan
  { t with now := te + spanNs c, te := te, ae := ae, uncNs := t.uncNs + spanUnc c rc, rcUsed := t.rcUsed || rc, rcSpan := false }

/-- Device time after AON power has been lost (R381). -/
def TimeS.lost : TimeS := { epochNew := true }

/-- The part of a start that concerns time (R379, R381): a span that began at entry into DEEP or SHIP keeps the values
latched there. -/
def Dev.startTime (d : Dev) (b : BootIn) : Dev :=
  if b.aonLost then
    d.onSy fun s => { s with time := TimeS.lost, wdt := { s.wdt with lastCause := 0, resets := 0 }, liner := { s.liner with record := none } }
  else
    let t := d.sy.time
    let asleep := d.sy.power == .deep || d.sy.power == .ship
    let te := if asleep then t.te else t.now
    let ae := if asleep then t.ae else b.aonLatch
    d.onSy fun s => { s with time := t.restore te ae b.aonCount }

/-! ### Power domains (R383) -/

/-- The domains outside QUAD and MEAS that a power state powers. -/
def fixedDomains : PowerSt → BitVec 24
  | .off => 0
  | .ship => 0x000001
  | .deep => 0x080001
  | .recovery => 0xD80001
  | _ => 0xF80001

/-- Enter a power state with its domains and PWR_EN (R383, R455); QUAD and MEAS follow R40 and R154. -/
def Dev.setPower (d : Dev) (p : PowerSt) : Dev :=
  (d.onSy fun s => { s with power := p, pwrEn := p != .ship && p != .off, domains := (s.domains &&& 0x07FFFE#24) ||| fixedDomains p }).powerQuads.powerUnits

/-! ### Cold and wake starts (R397) -/

/-- ADDR0 of a target port at reset, with the HB_ADDR strap (R347). -/
def twtAddr (straps : BitVec 12) : Word := wd (0x48 + bits straps.toNat 10 2)

/-- The device as a cold or wake start finds it (R397 steps 1, 8, 9, 12): everything at reset but stored settings, time,
retained registers, records and ageing data; the TWT0 and PWR registers stay at a wake (R406, R446; log 169). -/
def Dev.fresh (d : Dev) (kind : StartKind) (b : BootIn) : Dev :=
  let wake := kind == .wake
  let twt0 : Twt := if wake then d.ln.twt.getD 0 {} else { addr := twtAddr b.straps ||| 0x80000000#32 }
  { pw := { brim := d.pw.brim, ages := d.pw.ages },
    ms := {},
    ho := { log := d.ho.log, logSeq := d.ho.logSeq, posted := d.ho.posted },
    sy := { set := d.sy.set, time := d.sy.time, liner := { record := d.sy.liner.record }, straps := b.straps, startKind := kind,
            wakeCause := if wake then d.sy.wakeCause else 0, wakeSrc := if wake then d.sy.wakeSrc else 0,
            wdt := { lastCause := d.sy.wdt.lastCause, resets := d.sy.wdt.resets },
            warmStarts := if wake then d.sy.warmStarts else 0, takeovers := if wake then d.sy.takeovers else 0,
            lastTake := if wake then d.sy.lastTake else 0, jtagIr := d.sy.jtagIr, tick := { last := d.sy.time.now }, cframe := { last := d.sy.time.now },
            pframe := { last := d.sy.time.now } },
    ln := { twt := [twt0, { addr := twtAddr b.straps }], hb := if wake then d.ln.hb else {} },
    freeIx := d.freeIx, out := d.out }

/-- Stored settings come into force (R397 step 7, R446): every mitten STOPPED, sources ABSENT, strings STOPPED with SOC STALE. -/
def Dev.loadSettings (d : Dev) : Dev :=
  let s := d.sy.set
  let m := s.map
  let str (k : Nat) : Str :=
    let c := s.counts.getD k {}
    { cfg := s.strCfg.getD k [], loaded := s.progs.getD k .none, st := if (m.strE k).type = 0 then .disabled else .stopped,
      q := c.q, ahIn := c.ahIn, ahOut := c.ahOut, qStored := c.qStored, qFull := c.qFull }
  let d := d.onPw fun p => { p with
    map := m, brim := s.brim, profile := s.profile, mit := s.mitCfg.map fun c => { cfg := c },
    src := (List.range 12).map fun k => { cfg := s.srcCfg.getD k [], st := if (m.srcE k).type = 0 then .disabled else .absent },
    str := (List.range 16).map str, ph := (p.ph.zip s.phRegs).map fun q => { q.1 with held := q.2 } }
  let d := d.onMs fun x => { x with
    mu := s.seqs.map fun q => { seq := q, owner := if q.isSome then d.sy.activeSup else 0 },
    ref := { bufEn := true, pairEn := s.pairEn } }
  let d := s.accs.foldl (fun e p => (e.setGen p.2).setAcc p.1 p.2) d
  let d := s.mmxs.foldl (fun e p => e.setMmx p.1 p.2) d
  let d := d.modGlb fun g => { g with inForce := s.level.getD 1, auxMode0 := s.auxMode0, auxMode1 := s.auxMode1, auxOut := s.auxOut,
                                      evvec := s.evvec }
  let r (l : List Word) (i : Nat) : Word := l.getD i 0
  let d := d.onLn fun l => { l with
    twt := [l.twt.getD 0 {}, { addr := s.twt1.getD 0 (twtAddr d.sy.straps), timing := s.twt1.getD 1 0x51E, hb := r s.twt1 2 }],
    twc := s.twc.map fun w => { regs := w },
    can := s.can.map fun w => { ctrl := r w 0, nbt := r w 1, dbt := r w 2, txid := r w 3 },
    chn := { l.chn with ctrl := s.chnCtrl, cable := s.cable, st := if bit s.chnCtrl 0 then .training else .off }, upd := { l.upd with ctrl := s.updCtrl } }
  d.onSy fun y => { y with motion := { ctl := s.motCtl, thr := s.motThr } }

/-- Defaulted settings (R31, R248, R252, R421). -/
def Dev.defaultSettings (d : Dev) : Dev := (d.onSy fun s => { s with set := {} }).raise evSettingsDefaulted none []

/-- The image that now runs, by the manifest of its slot (R8, R414); a slot whose manifest was never received holds the image the
part was shipped with, release 4.2.0 (R9; DESIGN CHOICE, log 10). -/
def Nv.running (n : Nv) (slot : Nat) : Nv :=
  match (n.flash slot).man with
  | some m => { n with runSecVer := m.secVer, runRel := m.release, runBeh := m.behMax }
  | none =>
    let f : Nv := {}
    { n with runSecVer := f.runSecVer, runRel := f.runRel, runBeh := f.runBeh }

/-- Start the liner per the straps (R390, R392): the source test, or no liner. -/
def Dev.startLiner (d : Dev) : Dev :=
  (d.onSy fun s => { s with liner := { record := s.liner.record, st := if s.linerSrc < 12 then .test else .off } }).powerQuads

/-- Enter RECOVERY: the recovery ROM and the liner (R383, R399, R430). -/
def Dev.recovery (d : Dev) : Dev := d.leaveChain.setPower .recovery

/-- A cold or wake start (R396, R397, R399, R410, R430): BOOT_FAILS at 3 selects the other slot, at 6 RECOVERY; an image that does
not verify, by the world's word or against SEC_MIN, the revision, the stored level and the image key (R414), leaves the device in
LINER. An activation that was cut off finds its update READY again (DEDUCED, log 64). Where no image runs, GLB_FW and
BEHAVIOUR_MAX keep what the start before gave them (DESIGN CHOICE, log 183). -/
def Dev.boot (d : Dev) (n : Nv) (kind : StartKind) (b : BootIn) : Dev × Nv :=
  let switch := n.bootFails == 3
  let kind := if switch then .cold else kind
  let slot := if switch then 1 - n.activeSlot else n.activeSlot
  let n := { n with activeSlot := slot, bootFails := satInc 7 n.bootFails, eraseReady := n.erasePend,
                    upd := if n.upd = .activating then .ready else n.upd,
                    timeEpoch := if b.aonLost then (n.timeEpoch + 1) % 4294967296 else n.timeEpoch }
  let valid := b.slotOk && (d.slotPasses n 0 || d.slotPasses n 1)
  let image := b.imageOk && d.slotPasses n slot
  let d := (d.startTime b).fresh kind b
  let d := d.onSy fun s => { s with slot := slot }
  let d := (d.setPower .liner).startLiner
  let d := d.when b.aonLost fun e => e.raise evTimeEpochNew none []
  let d := d.when switch fun e => e.raise evImageSlotSwitched none []
  if 6 ≤ n.bootFails ∨ (kind = .cold ∧ !valid) then (d.recovery, n)
  else if !image then (d.onSy fun s => { s with imageOk := false }, n)
  else
    let d := d.when (!b.settingsOk) fun e => e.defaultSettings
    ((d.loadSettings.powerQuads).powerUnits, n.running slot)

/-- POWER_ON (R396, R454). -/
def execPowerOn (boot : BootIn) (s : State) : Host.Outcome State Fault Refusal := s.onBoth fun d n => d.boot n .cold boot
/-- RESET_N_LOW (R389, R396). -/
def execResetNLow (boot : BootIn) (s : State) : Host.Outcome State Fault Refusal := s.onBoth fun d n => d.boot n .cold boot
/-- BROWN_OUT (R396, R455): of VAON, or of another rail while PWR_EN is high; the board may remove the others while it is low. -/
def execBrownOut (boot : BootIn) (s : State) (vaon : Bool := true) : Host.Outcome State Fault Refusal :=
  s.onBoth fun d n => if vaon || d.sy.pwrEn then d.boot n .cold boot else (d, n)
/-- ENGINE_CLOCK_LOCK_LOSS (R248, R396). -/
def execEngineClockLockLoss (boot : BootIn) (s : State) : Host.Outcome State Fault Refusal :=
  s.onBoth fun d n => d.boot n .cold boot

/-- A watchdog reset is counted with its cause (R374). -/
def Dev.wdtCause (d : Dev) (c : Nat) : Dev :=
  d.onSy fun s => { s with wdt := { s.wdt with lastCause := c, resets := satInc 65535 s.wdt.resets } }

/-- CLOCK_LOST (R374, R375, R396). -/
def execClockLost (boot : BootIn) (s : State) : Host.Outcome State Fault Refusal :=
  s.onBoth fun d n => (d.wdtCause 4).boot n .cold boot

/-- AON_RC_FALLBACK (R375, R380, R382). -/
def execAonRcFallback (s : State) : Host.Outcome State Fault Refusal :=
  s.onDev fun d => d.onSy fun y => { y with time := { y.time with aonRc := true, rcSpan := true } }

/-- WAKE_START (R386, R397): the wake start of a device that a wake source woke from DEEP or SHIP. -/
def execWakeStart (boot : BootIn) (s : State) : Host.Outcome State Fault Refusal :=
  s.onBoth fun d n => if (d.sy.power = .deep ∨ d.sy.power = .ship) ∧ d.sy.wakeCause ≠ 0 then d.boot n .wake boot else (d, n)

/-- RECOVERY_WAKE_N_HOLD (R430): while WAKE_N is held the ROM of a cold start waits in LINER (DEDUCED, log 53); firmware that
runs already is reset first. -/
def execRecoveryWakeNHold (s : State) : Host.Outcome State Fault Refusal :=
  s.onDev fun d =>
    if d.sy.startKind ≠ .cold then d
    else if d.sy.power = .liner then d.recovery
    else if d.inRun then
      let b : BootIn := { straps := d.sy.straps, aonLost := false, aonLatch := 0, aonCount := 0, imageOk := true, slotOk := true,
                          settingsOk := true }
      ((d.fresh .cold b).startLiner).recovery
    else d

/-- BOOT_FAILS_CLEAR (R399, R414, R424): SEC_MIN rises to the running image's level; the old key slot is erased once a start
with the new record has cleared BOOT_FAILS. -/
def execBootFailsClear (s : State) : Host.Outcome State Fault Refusal :=
  s.onBoth fun d n =>
    if !d.inRun then (d, n)
    else
      let n := { n with bootFails := 0, secMin := max n.secMin n.runSecVer }
      let aNew := n.keyA.valid && (!n.keyB.valid || decide (n.keyB.gen ≤ n.keyA.gen))
      (d, if !n.eraseReady then n
          else if aNew then { n with keyB := {}, erasePend := false, eraseReady := false }
          else { n with keyA := {}, erasePend := false, eraseReady := false })

/-! ### The liner's rows (R392, R393) -/

/-- Change the liner. -/
def Dev.modLiner (d : Dev) (f : LinerS → LinerS) : Dev := d.onSy fun s => { s with liner := f s.liner }

/-- The fall-back ratio of the liner's voltage senses (R390, R391). -/
def Sys.linerRatio (s : Sys) : Nat := [10, 25, 25, 30, 50, 60, 100].getD s.linerV Config.linerOtpRatio

/-- A voltage in mV from a ball voltage in µV, as the liner scales it (R27, R391): through the sense entry of the record, or by the
fall-back ratio. -/
def Dev.linerMv (d : Dev) (entry : SenseEntry × SenseEntry × Nat → SenseEntry) (uv : Int) : Int :=
  match d.sy.liner.record with
  | some r => { entry r with mode := 1 }.value uv 1000000
  | none => roundDiv (uv * (d.sy.linerRatio : Int)) 1000

/-- BUS0 in mV as the liner sees it. -/
def Dev.linerBus (d : Dev) (uv : Int) : Int := d.linerMv (·.1) uv
/-- The strapped source in mV as the liner sees it. -/
def Dev.linerSource (d : Dev) (uv : Int) : Int := d.linerMv (·.2.1) uv

/-- The finding of the liner gauntlet on a phase (R392): of step 1 against 1/8 of the LINER_I threshold, else of step 2, a FLT
from the rising edge of its 200 ns pulse until 100 ns after its falling edge (R82; log 168). -/
def Dev.linerFinding (d : Dev) (o : LinerObs) (p : Nat) : Option Nat :=
  if o.samples.any fun q => q.1 == p && overAvg (d.sy.linerI / 8) q.2 then some 1
  else if o.fltAt.any fun q => q.1 == p && decide (q.2 ≤ 300) then some 2
  else none

/-- LINER_SOURCE_TEST_PASS (R392): at 1.05 × the target the source's switch closes, the liner gauntlet runs, and the soft start
begins at the measured BUS0 voltage. No phase passed: the liner does not start. -/
def execLinerSourceTestPass (obs : LinerObs) (s : State) : Host.Outcome State Fault Refusal :=
  s.onDev fun d =>
    if d.sy.liner.st ≠ .test ∨ 100 * d.linerSource obs.srcUv < 105 * d.sy.linerTarget then d
    else
      let ok := (List.range 4).filter fun p => d.linerFinding obs p == none
      let d := d.setSwitch d.sy.linerSrc .on
      let d := d.modLiner fun l => { l with
        passed := BitVec.ofNat 4 (ok.foldl (fun a p => a + 2 ^ p) 0), fltLow := 0, st := if ok = [] then .failed else .running,
        findings := (List.range 4).filterMap fun p => (d.linerFinding obs p).map fun n => (p, n), v0 := d.linerBus obs.busUv, softNs := 0 }
      if ok = [] then (d.setSwitch d.sy.linerSrc .off).powerDomains else d

/-- LINER_BUS_OVERVOLTAGE (R393): BUS0 above the target + 10 %. -/
def execLinerBusOvervoltage (s : State) (busUv : Int := 0) : Host.Outcome State Fault Refusal :=
  s.onDev fun d =>
    if d.sy.liner.st = .running ∧ 11 * d.sy.linerTarget < 10 * d.linerBus busUv then
      (d.modLiner fun l => { l with st := .heldHigh }).linerLow
    else d

/-- LINER_OVERVOLTAGE_RELEASE (R393): BUS0 below the target again. -/
def execLinerOvervoltageRelease (s : State) (busUv : Int := 0) : Host.Outcome State Fault Refusal :=
  s.onDev fun d =>
    if d.sy.liner.st = .heldHigh ∧ d.linerBus busUv < d.sy.linerTarget then d.modLiner fun l => { l with st := .running } else d

/-- LINER_BUS_COLLAPSE (R393): BUS0 below 10 % of the target; all outputs low for 1 s. -/
def execLinerBusCollapse (s : State) (busUv : Int := 0) : Host.Outcome State Fault Refusal :=
  s.onDev fun d =>
    if d.sy.liner.st = .running ∧ 10 * d.linerBus busUv < d.sy.linerTarget then
      (d.modLiner fun l => { l with st := .collapsed }).linerLow
    else d

/-- LINER_SOFT_START_REPEAT (R393): from the measured BUS0 voltage again. -/
def execLinerSoftStartRepeat (s : State) (busUv : Int := 0) : Host.Outcome State Fault Refusal :=
  s.onDev fun d => d.modLiner fun l =>
    if l.st = .collapsed then { l with st := .running, v0 := d.linerBus busUv, softNs := 0 } else l

/-- LINER_SOURCE_LOW (R393): the source below 1.02 × the target; the switch opens and the source test restarts. -/
def execLinerSourceLow (s : State) (srcUv : Int := 0) : Host.Outcome State Fault Refusal :=
  s.onDev fun d =>
    if d.sy.liner.runs ∧ 100 * d.linerSource srcUv < 102 * d.sy.linerTarget then
      ((d.modLiner fun l => { l with st := .test }).linerLow).setSwitch d.sy.linerSrc .off
    else d

/-! ### Hand-over (R394, R395) -/

/-- The strapped source is SELECTED at the hand-over of a running liner (R395; for a matching map DEDUCED, log 54). -/
def Dev.selectLiner (d : Dev) : Dev :=
  let k := d.sy.linerSrc
  if (d.srcE k).type = 0 then d
  else (d.modSrc k fun x => { x with
    st := .selected, selAt := some d.now, entAt := some d.now, wanted := true,
    warming := (d.srcE k).type == 5 && decide (0 < d.sp k 34) }).modSw k fun w => { w with mode := .on, conduct := true }

/-- Firmware takes over from the liner (R394): PH0-PH3 go on as members of M0 in RUN from the liner's last current command, which
no rule gives (free, log 6), at its offsets; their held set-up takes effect; the voltage target moves from the liner's to
V_TARGET; M0's other phases join, and so does one whose delay line is not yet calibrated (R46). -/
def Dev.takeLiner (d : Dev) : Dev :=
  let l := d.sy.liner
  let on := (List.range 4).filter fun p => l.passed.getLsbD p && !l.fltLow.getLsbD p && (d.phase p).calOk
  let cmd : Int := (Config.freeValue d.freeIx).toNat
  let ref := d.sy.linerRef
  let err := ref - d.endV (.bus 0)
  let d := d.tickFree.selectLiner
  let d := d.each on fun p e => (e.modPh p fun x => { x with
    st := .active, period := 80000, periodNext := 80000, offset := (on.idxOf p) * 80000 / on.length,
    offGoal := (on.idxOf p) * 80000 / on.length, latch := false })
  let d := d.modMit 0 fun x => { x with
    st := .run, rev := false, dHost := true, iCmd := cmd, integ := cmd * loopScale - d.mp 0 7 * err * 1000000,
    vRamp := ref * 1000000, glide := d.busTarget 0 0 != ref, freq := (d.mp 0 2).toNat, fsbb := 0 }
  d.linerFree.respread 0

/-- The strings at a hand-over (R34, R129, R397 step 11): absent ones, and programs per AUTOSTART. -/
def Dev.autostart (d : Dev) : Dev :=
  d.each (List.range 16) fun k e =>
    if (e.string k).st ≠ .stopped then e
    else if e.nodeV (.str k) < e.absentLevel k then e.enterAbsent k
    else if e.stp k 2 = 1 then e.runFromStart k else e

/-- Reports of the liner gauntlet at hand-over: findings retire their phase under the step that found them, and LINER_FAILED
(R392). -/
def Dev.linerReports (d : Dev) : Dev :=
  let d := d.when (d.sy.liner.st == .failed) fun e => e.raise evLinerFailed none []
  (d.sy.liner.findings.foldl (fun e p => e.finding p.1 p.2) d).modLiner fun l => { l with findings := [] }

/-- HAND_OVER (R176, R394, R395, R397 step 13, R407): from LINER with a verified image and a settled reference, while no liner
fault stands. A LIMP cause that stands puts the device in LIMP (R231); else a wake by the hatband then enters SLEEP. -/
def execHandOver (s : State) : Host.Outcome State Fault Refusal :=
  s.onDev fun d =>
    let l := d.sy.liner
    if d.sy.power ≠ .liner ∨ !d.sy.imageOk ∨ !d.ms.ref.settled ∨ l.st = .heldHigh ∨ l.st = .collapsed then d
    else
      let d := d.setPower .run
      let d := d.linerReports
      let mch := d.sy.linerMatches d.pw.map
      let d := if l.st = .running then (if mch then d.takeLiner else d.selectLiner)
               else if mch ∨ l.st = .failed then d.linerFree else d
      let d := ((d.powerQuads.autostart).joinRule 0).beginLimp
      if d.sy.startKind = .wake ∧ d.sy.wakeCause = 3 ∧ d.sy.power = .run then d.enterSleep else d

/-! ### Adoption (R289, R400-R402) -/

/-- A complete checkpoint buffer (R400). -/
def CkBuf.complete (b : CkBuf) : Bool := b.openSeq != 0 && b.openSeq == b.closeSeq && decide (b.length ≤ 131040) && !b.bad

/-- The newest complete checkpoint. -/
def Sys.newestCk (s : Sys) : Option CkBuf :=
  s.ck.foldl (fun a b => if b.complete then (match a with
    | some x => if x.openSeq < b.openSeq then some b else a
    | none => some b) else a) none

/-- A retry record adopted from a checkpoint: a backoff that runs now belongs to the unit's present state (R402, R238). -/
def Ladder.adopt (now old : Ladder) : Ladder := { old with backoff := now.backoff, cause := now.cause }

/-- Opcodes whose effect is recorded outside the supervisors - in an engine, the ring engine or non-volatile memory - and is
not applied again (R289, R401). -/
def recordedOps : List Nat :=
  [opMittenStart, opMittenStop, opStringStart, opStringStop, opReturnToService, opLendStart, opLendStop, opShed, opDisconnect, opHold,
   opMeasFilterSync, opMeasPairCapture, opAccClear, opMmxRead, opImpedanceRun, opImpedanceAbort, opRingCreate, opRingDelete,
   opRingReset, opRingModify, opAbort, opEventSubscribe, opOwnerLock, opKeyUpdate, opDeviceRestart, opUpdateActivate]

/-- One tag in flight at an adoption (R289): a completion that the checkpoint contains is requested, a recorded effect stands,
and any other command is fetched and checked again and will execute again. -/
def Dev.adoptTag (d : Dev) (ck : Nat) (x : TagRec) : TagRec :=
  let op := byteAt x.desc 0
  let again :=
    let g := d.ring x.ring
    let desc := if d.qspiMode then winRead d.ho.win (g.sqBase + 64 * x.slot) 64 else x.desc
    let payload := if d.qspiMode then winRead d.ho.win (leAt desc 8 8) (leAt desc 4 2) else x.payload
    let x := { x with desc := desc, payload := payload }
    match d.checkDesc x.ring g x.seq desc payload none with
    | some f => { x with st := TagSt.due, status := f.1, result := f.2, resp := [], ckAt := 0 }
    | none => { x with st := TagSt.admitted, status := 0, result := 0, resp := [], ckAt := 0 }
  match x.st with
  | .due => x
  | .awaiting =>
    if x.ckAt ≠ 0 ∧ x.ckAt ≤ ck then { x with st := .due }
    else if recordedOps.contains op then { x with ckAt := 0 } else again
  | .executing =>
    if (recordedOps.contains op ∧ op ≠ opUpdateActivate) ∨ d.pw.stage.tag = some x.tag then x else again
  | .admitted => again

/-- The tags in flight at an adoption of checkpoint `ck`; a self-test and an activation that waited start again, with their checks
(R289, R433). -/
def Dev.adoptTags (d : Dev) (ck : Nat) : Dev :=
  (d.onHo fun h => { h with tags := h.tags.map (d.adoptTag ck) }).onSy fun s => { s with selfTest := [], waitAct := .none }

/-- Adopt a checkpoint: what engines own is theirs, the checkpoint supplies the rest (R402). -/
def Dev.adoptBody (d : Dev) (b : CkBody) : Dev :=
  let d := d.onPw fun p => { p with
    stage := b.stage, profile := b.profile, moving := b.moving,
    ph := (p.ph.zip b.phLad).map fun q => { q.1 with lad := q.1.lad.adopt q.2 },
    mit := (p.mit.zip b.mitLad).map fun q => { q.1 with lad := q.1.lad.adopt q.2 },
    src := ((p.src.zip b.srcLad).zip b.selected).map fun q =>
      { q.1.1 with lad := q.1.1.lad.adopt q.1.2, selAt := if q.1.1.selected then q.2.1 else none, deselAt := q.2.2 },
    str := (p.str.zip b.strLad).map fun q => { q.1 with lad := q.1.lad.adopt q.2 } }
  let d := d.onMs fun m => { m with mu := (m.mu.zip b.muLad).map fun q => { q.1 with lad := q.1.lad.adopt q.2 } }
  d.onSy fun s => { s with supLad := (s.supLad.zip b.supLad).map fun q => q.1.adopt q.2 }

/-- Without a complete checkpoint (R402): the stage is discarded, retry records start empty, the profile is the stored one;
the motion flag is kept (R305). -/
def Dev.adoptNone (d : Dev) : Dev :=
  let d := d.onPw fun p => { p with
    stage := {}, profile := d.sy.set.profile, ph := p.ph.map fun x => { x with lad := x.lad.adopt {} },
    mit := p.mit.map fun x => { x with lad := x.lad.adopt {} },
    src := p.src.map fun x => { x with lad := x.lad.adopt {}, selAt := none, deselAt := none },
    str := p.str.map fun x => { x with lad := x.lad.adopt {} } }
  let d := d.onMs fun m => { m with mu := m.mu.map fun x => { x with lad := x.lad.adopt {} } }
  d.onSy fun s => { s with supLad := s.supLad.map fun x => x.adopt {} }

/-- The update of an activation that starts again is READY (R433). -/
def Nv.reactivate (n : Nv) : Nv := if n.upd = .activating then { n with upd := .ready } else n

/-- Supervisors act again; events stay held until their first checkpoint (R402, R447). -/
def Dev.supBack (d : Dev) : Dev := d.onSy fun s => { s with noSup := false, takeover := false }

/-- Adopt state (R402): the number adopted, 0 where neither buffer is complete. -/
def Dev.adopt (d : Dev) : Dev × Nat :=
  match d.sy.newestCk with
  | some b =>
    let d := d.adoptBody b.body
    (((d.onSy fun s => { s with ckNext := b.openSeq + 1, ckOpen := false }).adoptTags b.openSeq).supBack, b.openSeq)
  | none =>
    let top := d.sy.ck.foldl (fun a b => max a b.openSeq) 0
    (((d.adoptNone.onSy fun s => { s with ckNext := top + 1, ckOpen := false }).adoptTags 0).supBack, 0)

/-! ### Warm starts (R397, R398, R402, R403) -/

/-- Whether a calibration is kept at a warm start (R398): below 10 °C of drift and 24 h of age. -/
def keepsCal (t temp : Int) (now at0 : Nat) : Bool := decide ((t - temp).natAbs < 1000) && decide (now < at0 + 86400000000000)

/-- A measurement unit at a warm start (R398): its calibration is kept below 10 °C of drift and 24 h of age. -/
def MUnit.warm (u : MUnit) (t : Int) (now : Nat) : MUnit :=
  if u.corr = .off then u
  else if u.corr ≠ .acquiring ∧ keepsCal t u.calTemp now u.calAt then
    { u with corr := .reacquiring, corrAt := now, dieT0 := t }
  else { u with corr := .acquiring, corrAt := now, dieT0 := t }

/-- The delay lines of a quad at a warm start, its die temperature at `t` (R398): those of a running quad stay, and the others are
calibrated again where they do not keep their calibration. -/
def Dev.warmLines (d : Dev) (q : Nat) (t : Int) : Dev :=
  let l := List.range' (4 * q) 4
  if l.any fun p => (d.phase p).st == .active || (d.phase p).st == .shed || d.linerHas p then d
  else d.each l fun p e => e.modPh p fun x => { x with calOk := x.calOk && keepsCal t x.calTemp d.now x.calAt }

/-- The supervisor that resumes as active after a warm start: the one that was, unless it is RETIRED and the other is not (R404). -/
def Sys.resumes (s : Sys) : Nat :=
  if s.supRetired.getD (s.activeSup - 1) false && !s.supRetired.getD (s.standby - 1) false then s.standby else s.activeSup

/-- The reset of the supervisors at a warm start (R328, R331, R397, R398, R404): boxes, locks, the watchdog period, the hold,
calibrations. -/
def Dev.warmReset (d : Dev) (w : WarmIn) : Dev :=
  let d := d.onSy fun s => { s with activeSup := s.resumes }
  let d := d.onSy fun s => { s.warmBoxes with
    warmStarts := satInc 255 s.warmStarts, startKind := .warm, wdt := s.wdt.restart, standbyOk := false, noSup := true,
    holdOn := true, takeover := false, ckOpen := false, sleepNext := false, order := none,
    power := if s.power = .sleep then .run else s.power }
  let d := d.each [1, 2, 3, 4] fun a e =>
    let e := e.breakLocks a
    if e.sy.supRetired.getD (a - 1) false then e else e.recoverAgent a
  d.each (List.range 16) fun k e =>
    let t := w.dieTemps.getD k (e.unit k).dieT
    (e.modMu k fun u => u.warm t e.now).warmLines k t

/-- A warm start (R396, R397, R399): a failed image check leaves the engines to hold; BOOT_FAILS at 3 makes the start a cold
one from the other slot, at 6 RECOVERY. In RECOVERY the ROM restarts, nothing is adopted and no hold follows. -/
def Dev.warmStart (d : Dev) (n : Nv) (i : StartIn) : Dev × Nv :=
  if n.bootFails = 3 then d.boot n .cold i.boot
  else
    let n := { n with bootFails := satInc 7 n.bootFails, eraseReady := n.erasePend }
    let d := d.warmReset i.warm
    if d.sy.power = .recovery then (d.supBack.endHold, n)
    else if 6 ≤ n.bootFails then ((((d.fresh .cold i.boot).startLiner).recovery), n)
    else if !i.warm.imageOk then (d.onSy fun s => { s with imageOk := false, takeover := true }, n)
    else ((d.onSy fun s => { s with imageOk := true }).adopt.1, n.reactivate)

/-- WATCHDOG_TIMEOUT (R374): the count of a full period, without a service; cause TIMEOUT, a warm start. -/
def execWatchdogTimeout (start : StartIn) (s : State) : Host.Outcome State Fault Refusal :=
  s.onBoth fun d n => if d.wdtRuns && d.sy.wdt.reaches 100 then (d.wdtCause 1).warmStart n start else (d, n)

/-- WDT_KEY_WRITE (R373): the two-write service; EARLY (2) outside the window, KEY (3) for a wrong value. Only the active control
supervisor services the watchdog. The second write after a lapse does nothing; one that meets the expiry of a count that is not
held leaves it to govern, cause TIMEOUT (R382). -/
def execWdtKeyWrite (agent : Fin 128) (val : Word) (start : StartIn) (s : State) : Host.Outcome State Fault Refusal :=
  s.onBoth fun d n =>
    let w := d.sy.wdt
    if agent.val = agHost then (d.ignoredWrite 0x0C04, n)
    else if agent.val ≠ d.sy.activeSup ∨ !w.en then (d, n)
    else if val = 0x0000C35A ∧ !w.keyOpen then (d.onSy fun y => { y with wdt := { y.wdt with keyOpen := true, lapsed := false } }, n)
    else if val = 0x00003CA5 ∧ w.lapsed then (d.onSy fun y => { y with wdt := { y.wdt with lapsed := false } }, n)
    else if val = 0x00003CA5 ∧ w.keyOpen ∧ d.wdtRuns ∧ !w.heldCnt ∧ w.expired then (d.wdtCause 1).warmStart n start
    else if val = 0x00003CA5 ∧ w.keyOpen then
      (if w.opened then (d.onSy fun y => { y with wdt := y.wdt.restart }, n) else (d.wdtCause 2).warmStart n start)
    else (d.wdtCause 3).warmStart n start

/-! ### Stalls and failover (R243-R248, R402-R405) -/

/-- A fault of a supervisor enters its retry record, or retires it; during its backoff it enters no retry (R257). SUP-A, SUP-B and
SUP-L retired are LIMP (R238, R242). -/
def Dev.supFault (d : Dev) (a ev : Nat) : Dev :=
  let l := d.sy.supLad.getD (a - 1) {}
  if l.backoff.isSome then d
  else if l.spent d.now then
    let d := d.onSy fun s => { s with supRetired := s.supRetired.set (a - 1) true, supLad := s.supLad.set (a - 1) (l.retire d.now) }
    if a = 3 then d else d.enterLimp 2
  else d.onSy fun s => { s with supLad := s.supLad.set (a - 1) (l.enter d.now ev) }

/-- The standby takes over from the active supervisor (R323, R402, R403): roles change, the failed one is revoked, and no
supervisor acts until adoption ends. -/
def Dev.takeOver (d : Dev) (ev : Nat) : Dev :=
  let a := d.sy.activeSup
  let d := d.onSy fun s => { s with activeSup := s.standby, standbyOk := false, noSup := true, takeover := true, holdOn := true }
  let d := d.onMs fun m => { m with accL := m.accL.filter (·.reader != d.sy.activeSup), mmxL := m.mmxL.filter (·.reader != d.sy.activeSup) }
  ((d.onSy Sys.takeoverBoxes).declare a).supFault a ev

/-- An engine's shadow state comes back from the newest complete checkpoint (R246): step times and charge counts of a string
whose program is the same, the control terms of a source; the unit keeps its state. -/
def Dev.restoreShadow (d : Dev) (a : Nat) : Dev :=
  match d.sy.newestCk with
  | none => d
  | some b =>
    if 6 ≤ a ∧ a < 18 then
      match b.body.src[a - 6]? with
      | some o => d.modSrc (a - 6) fun x => { x with iDroop := o.iDroop, iTrim := o.iTrim, iMpp := o.iMpp, mppUp := o.mppUp, mppPrev := o.mppPrev }
      | none => d
    else
      match b.body.str[a - 18]? with
      | some o => d.modStr (a - 18) fun x =>
          let x := { x with q := o.q, ahIn := o.ahIn, ahOut := o.ahOut, inFrac := o.inFrac, outFrac := o.outFrac, qStored := o.qStored }
          if o.prog = x.prog then { x with step := o.step, stepNs := o.stepNs, cnt := o.cnt, ahStep := o.ahStep } else x
      | none => d

/-- Whether a source is neither DISABLED nor RETIRED. -/
def Source.inService (x : Source) : Bool := x.st != .disabled && x.st != .retired
/-- Whether a string is neither DISABLED nor RETIRED. -/
def Str.inService (x : Str) : Bool := x.st != .disabled && x.st != .retired

/-- The reaction to a stalled or broken agent other than an active supervisor without a standby (R246); a fault of a source or
string engine is one of a unit and wakes from SLEEP (R386). No rule recovers the ring engine or the chain agent, which stay
declared (DESIGN CHOICE, log 163). -/
def Dev.agentFault (d : Dev) (a ev : Nat) : Dev :=
  if 34 ≤ a ∧ a < 98 then
    let p := a - 34
    let x := d.phase p
    let d := d.declare a
    if x.st = .idle then
      (if x.lad.spent d.now then d.retirePhase p ev
       else d.modPh p fun y => { y with st := .faulted, lad := y.lad.enter d.now ev, rejoin := false })
    else d.phaseTransient p ev
  else if 6 ≤ a ∧ a < 18 then
    let k := a - 6
    let x := d.source k
    let d := d.wakeSleep 6
    if x.inService && x.lad.spent d.now then d.retireSource k ev
    else (((d.declare a).restoreShadow a).modSrc k fun y => { y with lad := y.lad.note d.now }).recoverAgent a
  else if 18 ≤ a ∧ a < 34 then
    let k := a - 18
    let x := d.string k
    let d := d.wakeSleep 6
    if x.inService && x.lad.spent d.now then d.retireString k ev
    else (((d.declare a).restoreShadow a).modStr k fun y => { y with lad := y.lad.note d.now }).recoverAgent a
  else if 1 ≤ a ∧ a ≤ 4 then
    (if a = d.sy.activeSup then d.takeOver ev
     else ((d.declare a).supFault a ev).onSy fun s => { s with standbyOk := s.standbyOk && a != s.standby })
  else if a = 5 ∨ a = 99 then d.declare a
  else d

/-- The reaction to an agent's stall or uncorrectable error (R246, R248, R405, R407): an active supervisor whose standby cannot
take over, or that is itself taking over, leads to a warm start. -/
def Dev.stalled (d : Dev) (n : Nv) (a ev : Nat) (i : StartIn) : Dev × Nv :=
  if a = d.sy.activeSup ∧ (d.sy.takeover ∨ !d.sy.standbyOk) then ((d.declare a).supFault a ev).warmStart n i
  else (d.agentFault a ev, n)

/-- ENGINE_STALL (R246). -/
def execEngineStall (agent : Fin 128) (start : StartIn) (s : State) : Host.Outcome State Fault Refusal :=
  s.onBoth fun d n =>
    let a := agent.val
    if a = 0 ∨ a = 5 ∨ 98 ≤ a ∨ (34 ≤ a ∧ a < 98 ∧ (d.phase (a - 34)).st = .unpowered) then (d, n)
    else (d.stallSeen (some a)).stalled n a evEngineStall start

/-- ECC_CORRECTED (R248). -/
def execEccCorrected (agent : Fin 128) (s : State) : Host.Outcome State Fault Refusal :=
  s.onDev fun d => d.raise evEccCorrected (some agent.val) []

/-- ECC_UNCORRECTABLE (R248): a checkpoint buffer counts as partial; otherwise the owning agent is faulty. -/
def execEccUncorrectable (agent : Fin 128) (buf : Option (Fin 2)) (start : StartIn) (s : State) : Host.Outcome State Fault Refusal :=
  s.onBoth fun d n =>
    match buf with
    | some k => (d.onSy fun y => { y with ck := y.ck.modify k.val fun b => { b with bad := true } }, n)
    | none => if agent.val = 0 ∨ agent.val = 98 ∨ 99 < agent.val then (d, n) else d.stalled n agent evAgentDeclared start

/-- TAKEOVER_COMPLETE (R402, R407): adoption, the count and the event; without a complete buffer a warm start. -/
def execTakeoverComplete (micros : Nat) (start : StartIn) (s : State) : Host.Outcome State Fault Refusal :=
  s.onBoth fun d n =>
    if !d.sy.takeover ∨ !d.sy.imageOk then (d, n)
    else if d.sy.newestCk.isNone then d.warmStart n start
    else
      let r := d.adopt
      ((r.1.onSy fun y => { y with takeovers := satInc 255 y.takeovers, lastTake := min micros 65535, tookAt := some y.time.now }).raise evSupTakeover none
        (d4 r.2 ++ dDur micros), n.reactivate)

/-- STANDBY_OK (R405): the restarted supervisor has read the newest complete checkpoint. -/
def execStandbyOk (s : State) : Host.Outcome State Fault Refusal :=
  s.onDev fun d =>
    let b := d.sy.standby
    if d.inRun && !d.sy.takeover && !d.sy.supRetired.getD (b - 1) false && !d.sy.stall.contains b && d.sy.newestCk.isSome then
      d.onSy fun y => { y with standbyOk := true }
    else d

/-- HOLD_EXPIRED (R403): charge ceilings 0; lends and impedance runs end with MODE. A takeover complete in this tick governs
(R407). -/
def execHoldExpired (s : State) : Host.Outcome State Fault Refusal :=
  s.onDev fun d =>
    if !d.sy.holdOn ∨ d.sy.holdOut ∨ d.sy.tookAt = some d.now then d
    else
      let d := (d.onSy fun y => { y with holdOut := true }).onset evHoldExpired 0 none []
      let d := d.each (List.range 16) fun k e => (e.modStr k fun x => { x with iCeil := 0 }).endImp k 5
      d.each (List.range 12) fun k e => e.endLend k 9

/-! ### Backoff expiry (R238) -/

/-- BACKOFF_EXPIRY (R61, R88, R114, R149, R182, R238): the unit is retried by its own procedure; a gauntlet wakes from SLEEP
(R234). -/
def execBackoffExpiry (unit : UnitRef) (s : State) (flt : Bool := false) : Host.Outcome State Fault Refusal :=
  s.onDev fun d =>
    match unit with
    | .phase p =>
      if (d.phase p).st = .faulted ∧ !(d.phase p).rejoin then (d.phaseExpiry p flt).recoverAgent (agPhase p) else d
    | .mitten m =>
      let x := d.mitten m
      if x.st ≠ .faulted ∨ x.lad.backoff.isNone then d
      else if x.disc || x.mismatch then d.modMit m fun y => { y with st := .stopped, lad := { y.lad with backoff := none } }
      else if x.held then d
      else if x.lad.cause == evMittenOvertemp && (match d.stageT m with | some t => decide (d.mp m 14 ≤ t) | none => false) then d
      else ((d.wakeSleep 6).modMit m fun y => { y with lad := y.lad.start d.now }).beginGauntlet m (d.startRev m) true
    | .source k =>
      let x := d.source k
      if x.st ≠ .faulted ∨ x.lad.backoff.isNone then d
      else ((d.modSrc k fun y => { y with st := .absent, lad := y.lad.start d.now }).modSw k fun w =>
        { w with openFlt := false }).recoverAgent (agSource k)
    | .string k =>
      let x := d.string k
      if x.lad.backoff.isNone then d
      else if x.st = .faulted ∧ x.lad.cause = evStringOvertemp ∧ d.tChgHi k ≤ d.strT k then d
      else
        let d := ((d.modStr k fun y => { y with tFault := false, lad := y.lad.start d.now }).modSw (12 + k.val) fun w =>
          { w with openFlt := false }).recoverAgent (agString k)
        if x.st = .faulted then d.runFromStart k
        else if (x.st = .running ∨ x.st = .paused) ∧ !(d.switch (12 + k.val)).hold ∧ d.deadBattery k then (d.endImp k 3).enterPre k
        else d.toStart k
    | .unit k =>
      let u := d.unit k
      if !u.fault ∨ u.lad.backoff.isNone then d
      else d.modMu k fun y => { y.start .acquiring d.now with fault := false, lad := y.lad.start d.now }
    | .supervisor a =>
      let l := d.sy.supLad.getD a {}
      if l.backoff.isNone then d
      else (d.onSy fun y => { y with supLad := y.supLad.set a (l.start d.now) }).recoverAgent (a + 1)

/-! ### Power-state entry and wakes (R385, R386) -/

/-- Every mitten stopped for DEEP or SHIP, activities ended, the liner stopped. -/
def Dev.quiesce (d : Dev) : Dev :=
  let d := d.endActivities.linerStop
  (d.each (List.range 16) fun m e => if (e.mitten m).running then e.stopMit m else e).modLiner fun l => { l with st := .off }

/-- The 8-bit threshold code of a source's wake comparator (R121). -/
def Dev.wakeCode (d : Dev) (k : Nat) : Int :=
  let e := d.pw.map.senseE (2 * k)
  clampI 0 255 (roundDiv ((d.sp k 39 - e.offset) * 2550 * e.fsEng.sign) (e.fsEng.natAbs * 18))

/-- Whether a source stands above its wake threshold by its sensed voltage (R121). -/
def Dev.aboveWake (d : Dev) (k : Nat) : Bool :=
  let e := d.pw.map.senseE (2 * k)
  decide (d.wakeCode k * 18 * e.fsEng.natAbs < (d.nodeV (.src k) - e.offset) * 2550 * e.fsEng.sign)

/-- The source ports at entry into DEEP or SHIP: START_OUT low, and whether each stands above its wake threshold (R107, R121). -/
def Dev.sleepSources (d : Dev) : Dev :=
  d.each (List.range 12) fun k e => e.modSrc k fun x => { x with startOut := false, wanted := false, wakeAbove := d.aboveWake k }

/-- Entry into DEEP or SHIP (R107, R121, R383, R385, R370, R379): switches to their modes, counts saved, time latched, timers reset,
domains off; the chain goes down (R361), the PCI Express link to L2. -/
def Dev.enterDeep (d : Dev) (p : PowerSt) (aon : Nat) : Dev :=
  let d := d.sleepSources.quiesce.leaveChain
  let d := d.each (List.range 28) fun i e => e.setSwitch i (if p = .deep then (e.pw.map.portE i).diodeOrOff else .off)
  let d := d.saveCounts.onSy fun s => { s with
    order := none, wakeCause := 0, wakeSrc := 0, tmr := List.replicate 16 {},
    time := { s.time with te := s.time.now, ae := aon, rcSpan := s.time.aonRc } }
  (d.setPower p).modHif fun h => { h with inL2 := !d.qspiMode }

/-- POWER_STATE_ENTRY (R312, R361, R385): the accepted entry at the policy-frame boundary, that of the named tick where the chain
was ordered; SLEEP follows its checkpoint. -/
def execPowerStateEntry (aonCount : Nat) (s : State) : Host.Outcome State Fault Refusal :=
  s.onDev fun d =>
    match (if d.inRun && decide (d.sy.orderAt ≤ d.sy.tick.count) then d.sy.order else none) with
    | some .sleep => d.onSy fun y => { y with sleepNext := true, order := none }
    | some .deep => d.enterDeep .deep aonCount
    | some .ship => d.enterDeep .ship aonCount
    | _ => d

/-- A wake source that acts in DEEP and SHIP, where PWR_EN goes high first, and abandons an entry into them (R385, R386, R455). -/
def Dev.wakeDeep (d : Dev) (cause src : Nat) : Dev :=
  if d.sy.power = .deep ∨ d.sy.power = .ship then
    (if d.sy.wakeCause = 0 then d.onSy fun s => { s with wakeCause := cause, wakeSrc := src, pwrEn := true } else d)
  else if d.sy.order = some .deep ∨ d.sy.order = some .ship then d.abandon
  else d

/-- WAKE_N_LOW (R386). -/
def execWakeNLow (s : State) : Host.Outcome State Fault Refusal := s.onDev fun d => (d.wakeSleep 1).wakeDeep 1 0

/-- Whether a ball voltage in µV can stand above a source's threshold, whose accuracy is 2 % and 10 mV at the ball (R121; DEDUCED,
log 167). -/
def Dev.trips (d : Dev) (k ballUv : Nat) : Bool := decide (d.wakeCode k * 176400000 ≤ (ballUv + 10000) * 25500)

/-- SOURCE_WAKE_COMPARATOR (R121, R122, R386): in DEEP and SHIP with WAKE_EN = 1, above the threshold; a source that stood above
it at entry must have fallen below it first. -/
def execSourceWakeComparator (src : Fin 12) (s : State) (ballUv : Nat := 0) (fell : Bool := false) : Host.Outcome State Fault Refusal :=
  s.onDev fun d =>
    if (d.sy.power = .deep ∨ d.sy.power = .ship) ∧ (d.srcE src).type ≠ 0 ∧ d.sp src 38 = 1 ∧ d.trips src ballUv ∧
        (!(d.source src).wakeAbove || fell) = true then d.wakeDeep 2 src else d

end Sys2Proof.Machine
end

