-- ==== Sys2Proof/Machine/CmdService.lean ====
section
/-! DEFINITION. The status, record, power, time, update and key commands (R309-R312, R379-R385, R408-R428). -/

namespace Sys2Proof.Machine

/-! ### Status records (R309) -/

/-- The code of an enumeration's constructor, from 0 in its row order. -/
def stateCode (n : Nat) : List Byte := leBytes 1 n

/-- The code of a switch mode (R23). -/
def SwMode.code : SwMode → Nat
  | .off => 0
  | .on => 1
  | .idealDiode => 2

/-- A signed 32-bit field of a record, saturating (R4). -/
def i4 (v : Int) : List Byte := leBytes 4 (enc 4 (sat32 v))

/-- A record padded with zeros to 32 bytes. -/
def pad32 (b : List Byte) : List Byte := (b ++ List.replicate 32 0).take 32

/-- The device's record (R309). -/
def Dev.devRecord (d : Dev) : List Byte :=
  pad32 (stateCode d.sy.power.ctorIdx ++ leBytes 1 d.sy.limpCause.toNat ++ leBytes 1 d.ho.glb.inForce ++ leBytes 1 d.ln.chn.role ++
    leBytes 4 d.pw.map.mapId ++ leBytes 8 d.sy.cframe.count ++ leBytes 1 d.pw.stage.st.ctorIdx ++ leBytes 1 d.pw.stage.step ++
    leBytes 1 (b2n d.pw.moving))

/-- A mitten's record (R309). -/
def Dev.mitRecord (d : Dev) (m : Nat) : List Byte :=
  let x := d.mitten m
  let out := d.outNode m
  pad32 (stateCode x.st.ctorIdx ++ leBytes 1 x.lim ++
    leBytes 1 (b2n x.rev + 2 * b2n x.lending + 4 * b2n x.held + 8 * b2n x.disc + 16 * x.fsbb) ++ leBytes 1 (d.nActive m) ++
    i4 x.iCmd ++ i4 (d.endV out) ++ i4 (d.endI out) ++ leBytes 4 x.freq ++ leBytes 1 (d.pw.brim.getD m {}).pct ++
    leBytes 1 (d.phasesIn m .shed).length ++ [0, 0] ++ leBytes 8 ((d.active m).foldl (fun a p => a ||| (1#64 <<< p)) 0).toNat)

/-- A source's record (R309). -/
def Dev.srcRecord (d : Dev) (k : Nat) : List Byte :=
  let x := d.source k
  pad32 (stateCode x.st.ctorIdx ++ leBytes 1 (d.switch k).mode.code ++ [0, 0] ++ i4 (d.nodeV (.src k)) ++ i4 (d.nodeI (.src k)) ++
    i4 x.iAvail ++ i4 (if (d.srcE k).type = 4 then x.iMpp.getD 0 else 0) ++ i4 x.base ++ i4 (d.availPower k))

/-- Q_FULL in mA·ns: the learned value, else CAPACITY (R143, R144). -/
def Dev.qFull (d : Dev) (k : Nat) : Int := (d.string k).qFull.getD ((d.strE k).capacity * mAhNs)

/-- SOC in 0.01 %, 0-100 % (R143). -/
def Dev.soc (d : Dev) (k : Nat) : Int :=
  if d.qFull k ≤ 0 then 0 else clampI 0 10000 (floorDiv (10000 * (d.string k).qStored) (d.qFull k))

/-- A string's record (R309). PROG_ID is the one of the program it runs or ran last, 0 before its first one (DESIGN CHOICE, log
186). -/
def Dev.strRecord (d : Dev) (k : Nat) : List Byte :=
  let x := d.string k
  pad32 (stateCode x.st.ctorIdx ++ leBytes 1 x.step ++
    leBytes 1 (b2n x.pTemp + 2 * b2n x.pPack + 4 * b2n x.pNoPath + 8 * b2n x.pSupp + 16 * b2n x.pHost + 32 * b2n x.compClamp +
      64 * x.socQ.ctorIdx) ++ leBytes 1 (d.switch (12 + k)).mode.code ++ i4 (d.nodeV (.str k)) ++ i4 (d.nodeI (.str k)) ++
    leBytes 2 (enc 2 (clampI (-32768) 32767 (d.strT k))) ++ leBytes 2 (d.soc k).toNat ++ i4 (floorDiv x.qStored mAhNs) ++
    i4 (floorDiv (d.qFull k) mAhNs) ++ leBytes 4 (match x.prog with | some p => p.progId | none => 0) ++
    leBytes 4 (min (x.stepNs / 1000000000) 0xFFFFFFFF))

/-- A bus's record (R309). -/
def Dev.busRecord (d : Dev) (j : Nat) : List Byte :=
  let b := d.busOf j
  pad32 (leBytes 1 (b2n (d.pw.map.busE j).enable) ++ leBytes 1 (b2n b.below + 2 * b2n b.uv) ++ [0, 0] ++ i4 (d.nodeV (.bus j)) ++
    i4 (d.nodeI (.bus j)) ++ i4 b.demand)

/-- Units of a kind of status record. -/
def statusCount : Nat → Nat
  | 0 => 1
  | 1 => 16
  | 2 => 12
  | 3 => 16
  | _ => 4

/-- The record of unit n of a kind. -/
def Dev.statusRecord (d : Dev) (kind n : Nat) : List Byte :=
  match kind with
  | 0 => d.devRecord
  | 1 => d.mitRecord n
  | 2 => d.srcRecord n
  | 3 => d.strRecord n
  | _ => d.busRecord n

/-- STATUS_READ (R309): a COUNT of 0 is refused at its byte, a span beyond the kind's count at FIRST (DEDUCED, log 60). -/
def execStatusRead (tag : Tag) (s : State) : Host.Outcome State Fault Refusal :=
  s.onDev fun d => d.runCmd tag opStatusRead fun x d =>
    let kind := byteAt x.desc 32
    let first := byteAt x.desc 33
    let n := byteAt x.desc 34
    if 4 < kind then d.refuse tag stInvalidParameter 32
    else if n = 0 then d.refuse tag stInvalidParameter 34
    else if statusCount kind < first + n then d.refuse tag stInvalidParameter 33
    else d.done tag stSuccess 0 ((List.range' first n).flatMap fun i => d.statusRecord kind i)

/-! ### Records and margins (R252, R256, R309, R310) -/

/-- One log record (R310). -/
def LogRec.bytes (r : LogRec) : List Byte :=
  leBytes 8 r.seq ++ leBytes 8 r.time ++ leBytes 2 r.code ++ leBytes 2 r.inst ++ (r.data ++ List.replicate 12 0).take 12

/-- RECORD_READ (R285, R310): RESULT is the SEQ to ask for next; a pending ABORT found after `cut` pieces of 4 KiB ends it. -/
def execRecordRead (tag : Tag) (s : State) (cut : Option Nat := none) : Host.Outcome State Fault Refusal :=
  s.onDev fun d => d.runCmd tag opRecordRead fun x d =>
    let n := byteAt x.desc 32
    let start := leAt x.desc 36 8
    let most := leAt x.desc 44 2
    if 3 < n then d.refuse tag stInvalidParameter 32
    else if most = 0 ∨ 2047 < most then d.refuse tag stInvalidParameter 44
    else
      let l := ((d.ho.log.getD n []).filter fun r => decide (start ≤ r.seq)).take most
      let b := l.flatMap LogRec.bytes
      match d.cutShort x cut (ceilDiv b.length 4096) with
      | some k => d.done tag stAborted k (b.take (4096 * k))
      | none => d.done tag stSuccess (match l.getLast? with | some r => r.seq + 1 | none => start) b

/-- BRIM_READ (R256, R310). -/
def execBrimRead (tag : Tag) (s : State) : Host.Outcome State Fault Refusal :=
  s.onDev fun d => d.runCmd tag opBrimRead fun _ d =>
    d.done tag stSuccess 0 (d.pw.brim.flatMap fun r =>
      leBytes 1 r.pct ++ leBytes 1 r.floor ++ leBytes 1 r.target ++ leBytes 1 r.cause ++ [0, 0, 0, 0] ++ leBytes 8 r.changed)

/-- BRIM_FLOOR_SET (R256): the FLOOR acts at the next policy frame. -/
def execBrimFloorSet (tag : Tag) (s : State) : Host.Outcome State Fault Refusal :=
  s.onDev fun d => d.runCmd tag opBrimFloorSet fun x d =>
    let f := byteAt x.desc 36
    if f < 10 ∨ 100 < f then d.refuse tag stInvalidParameter 36
    else (d.each (bitsSet 32 (leAt x.desc 32 4)) fun row e => e.onPw fun p =>
      { p with brim := p.brim.modify row fun r => { r with floorNext := some f } }).ok tag

/-- AGEING_REBASE (R250). -/
def execAgeingRebase (tag : Tag) (s : State) : Host.Outcome State Fault Refusal :=
  s.onDev fun d => d.runCmd tag opAgeingRebase fun x d => (d.ageRebase (byteAt x.desc 32) (byteAt x.desc 33)).ok tag

/-! ### Power states (R235, R312, R361) -/

/-- Whether a lend, an impedance run or a pair capture runs. -/
def Dev.activityRuns (d : Dev) : Bool :=
  d.pw.src.any (·.lend.isSome) || d.ms.imp.any (·.run.isSome) || d.ms.cap.any (·.isSome)

/-- The refusals of R312 in order: reason, unit and ordinal; case 4 names the source (DEDUCED, log 61). -/
def Dev.powerRefusal (d : Dev) (target : Nat) : Option (Nat × Nat × Nat) :=
  if d.pw.stage.st = .stepping then some (9, 0xFFFF, 1)
  else if d.activityRuns then some (5, 0xFFFF, 2)
  else if d.ln.chn.role ≠ 1 ∧ d.hasShared then some (8, 0xFFFF, 3)
  else if target = 3 then
    ((List.range 12).find? fun k => (d.source k).st = .selected).map fun k => (2, srcNode k, 4)
  else none

/-- The power state of a POWER_STATE target or an ORDER kind (R311, R358). -/
def orderOf : Nat → PowerSt
  | 1 => .sleep
  | 2 => .deep
  | 3 => .ship
  | _ => .run

/-- An accepted or refused transition (R235, R297, R312), with status and RESULT of a refusal: it acts at the next policy
frame; a crown with a shared mitten orders the chain for the first nominal policy-frame tick at least two ahead and enters then
itself (R358, R361; DEDUCED, log 62). -/
def Dev.powerState (d : Dev) (t : Nat) : Except (Nat × Nat) Dev :=
  if t = 0 ∨ 3 < t then .error (stInvalidParameter, 32)
  else if d.sy.power = .limp then .error (stWrongState, wrongResult 1 0xFFFF 0)
  else match d.powerRefusal t with
    | some r => .error (stWrongState, wrongResult r.1 r.2.1 r.2.2)
    | none =>
      let chain := d.ln.chn.role == 1 && d.hasShared
      let tick := (d.sy.tick.count + 2 + 9999) / 10000 * 10000
      let d := d.onSy fun y => { y with order := some (orderOf t), orderAt := if chain then tick else 0 }
      .ok (d.when chain fun e => e.chainSend ([2, BitVec.ofNat 8 t] ++ leBytes 2 tick))

/-- POWER_STATE (R235, R297, R312). -/
def execPowerState (tag : Tag) (s : State) : Host.Outcome State Fault Refusal :=
  s.onDev fun d => d.runCmd tag opPowerState fun x d =>
    match d.powerState (byteAt x.desc 32) with
    | .error r => d.refuse tag r.1 r.2
    | .ok e => e.ok tag

/-- A hitless restart (R404): the active supervisor completes a checkpoint and the warm start begins. The row stands for all of
it (DESIGN CHOICE, log 63). -/
def Dev.hitless (d : Dev) (n : Nv) (i : StartIn) : Dev × Nv :=
  ((d.closeCheckpoint.writeCheckpoint).closeCheckpoint).warmStart n i

/-- DEVICE_RESTART (R290, R311, R404): a warm one completes at the first checkpoint after it; a cold one completes first. -/
def execDeviceRestart (tag : Tag) (start : StartIn) (s : State) : Host.Outcome State Fault Refusal :=
  s.runBoth tag opDeviceRestart fun x d n =>
    let kind := byteAt x.desc 32
    if 1 < kind then (d.refuse tag stInvalidParameter 32, n)
    else if d.pw.stage.st = .stepping then (d.wrong tag 9 0xFFFF 0, n)
    else if kind = 0 then
      let r := (d.modTag tag fun y => { y with st := .executing }).hitless n start
      (r.1.ok tag, r.2)
    else
      let g := d.ring x.ring
      let up := d.linkUp && !x.drop
      let d := if up then d.complete { x with status := stSuccess } else d
      let d := d.when (up && g.arm && decide (g.vector < 64) && decide (g.coalN ≤ g.unrel + 1)) fun e => e.fire g.vector
      d.boot n .cold start.boot

/-! ### Time (R311, R379, R380) -/

/-- The TIME_QUALITY word (R380): the smallest unit in which UNC fits. -/
def TimeS.quality (t : TimeS) : Nat :=
  let most := 268435455
  let us := ceilDiv t.uncNs 1000
  let ms := ceilDiv t.uncNs 1000000
  let u : Nat × Nat := if us ≤ most then (us, 0) else if ms ≤ most then (ms, 1) else (min most (ceilDiv t.uncNs 1000000000), 2)
  u.1 + 268435456 * u.2 + 1073741824 * b2n t.rcUsed + 2147483648 * b2n t.epochNew

/-- The 32 bytes of TIME_READ (R311). -/
def TimeS.bytes (t : TimeS) (epoch : Nat) : List Byte :=
  leBytes 8 t.now ++ leBytes 4 epoch ++ leBytes 4 t.quality ++ leBytes 8 t.anchor ++ leBytes 8 t.anchorT

/-- TIME_READ (R311). -/
def execTimeRead (tag : Tag) (s : State) : Host.Outcome State Fault Refusal :=
  s.runBoth tag opTimeRead fun _ d n => (d.done tag stSuccess 0 (d.sy.time.bytes n.timeEpoch), n)

/-- TIME_ANCHOR (R311, R380): it clears UNC, RC_USED and EPOCH_NEW. -/
def execTimeAnchor (tag : Tag) (s : State) : Host.Outcome State Fault Refusal :=
  s.onDev fun d => d.runCmd tag opTimeAnchor fun x d =>
    if x.payload.length ≠ 8 then d.refuse tag stInvalidParameter 4
    else (d.onSy fun y => { y with time := { y.time with
      anchor := leNat x.payload, anchorT := y.time.now, uncNs := 0, rcUsed := false, epochNew := false } }).ok tag

/-! ### The manifest (R413-R415) -/

/-- A manifest as its bytes give it (R413). -/
def parseManifest (b : List Byte) : Manifest :=
  { pieces := leAt b 2 2, imageLen := leAt b 4 4, release := leAt b 8 4, setFmt := leAt b 12 2, behMax := leAt b 14 2,
    revMin := byteAt b 16, revMax := byteAt b 17, encrypted := byteAt b 18 % 2 == 1, secVer := leAt b 20 4,
    imgHash := (b.drop 24).take 32, imgIv := (b.drop 56).take 12, imgTag := (b.drop 68).take 16,
    table := (List.range (leAt b 2 2)).map fun i => (b.drop (4096 + 32 * i)).take 32 }

/-- The digest that both signatures cover: the whole manifest with the signatures zero (R413). -/
def manifestDigest (b : List Byte) : BitVec 256 := Config.sha256 (zeroAt b 148 128)

/-- UM01. -/
def um01 (b : List Byte) : Bool :=
  let n := leAt b 2 2
  let len := leAt b 4 4
  leAt b 0 2 != 1 || n == 0 || decide (1024 < n) || b.length != 4096 + 32 * n || decide (len < 64) || decide (4194304 < len) ||
  decide (len ≤ 4096 * (n - 1)) || decide (4096 * n < len)

/-- UM02: the reserved byte of RELEASE, the reserved FLAGS and bytes 276-4,095. -/
def um02 (b : List Byte) : Bool := byteAt b 11 != 0 || leAt b 18 2 / 2 != 0 || !zeroSpan b 276 3820

/-- UM05: the owner's signature (R414). -/
def um05 (n : Nv) (b : List Byte) : Bool :=
  if n.owned then !Config.ecdsaVerify n.ownerPub (manifestDigest b) ((b.drop 212).take 64) else !zeroSpan b 212 64

/-- The check number of the first failure of R414. -/
def checkManifest (n : Nv) (level : Nat) (b : List Byte) : Option Nat :=
  let m := parseManifest b
  let key := (b.drop 84).take 64
  if um01 b then some 1
  else if um02 b then some 2
  else if Config.sha256 key ≠ Config.vendorKeyHash 0 then some 3
  else if !Config.ecdsaVerify key (manifestDigest b) ((b.drop 148).take 64) then some 4
  else if um05 n b then some 5
  else m.terms n level

/-- Store a slot of the external flash. -/
def Nv.setFlash (n : Nv) (slot : Nat) (f : FlashSlot → FlashSlot) : Nv :=
  if slot = 0 then { n with slotA := f n.slotA } else { n with slotB := f n.slotB }

/-- Record a valid manifest for a slot (R415); true where it is the manifest already held. -/
def Nv.acceptManifest (n : Nv) (slot : Nat) (m : Manifest) : Nv × Bool :=
  match n.held with
  | some h =>
    if h.imgHash = m.imgHash ∧ h.table = m.table then (n, true)
    else ({ n.setFlash slot (fun f => { f with man := some m }) with held := some m, bitmap := [], upd := .receiving }, false)
  | none => ({ n.setFlash slot (fun f => { f with man := some m }) with held := some m, bitmap := [], upd := .receiving }, false)

/-! ### The relay (R358, R422) -/

/-- Queue one item for the relay as chunks of 16 bytes; relay stops at the device upstream of its origin. -/
def Dev.relayItem (d : Dev) (origin : Nat) (head : List Byte) (offBytes : Nat) (data : List Byte) : Dev :=
  let c := d.ln.chn
  if !bit d.ln.upd.ctrl 0 ∨ c.st ≠ .formed ∨ c.count < 2 ∨ (c.pos + 1) % c.count = origin then d
  else d.modChn fun x => { x with relay := x.relay ++ (List.range (ceilDiv data.length 16)).map fun i =>
    (origin, head ++ leBytes offBytes i ++ ((data.drop (16 * i)).take 16)) }

/-- Relay a manifest (MANIFEST_CHUNK). -/
def Dev.relayManifest (d : Dev) (origin : Nat) (b : List Byte) : Dev := d.relayItem origin [5, BitVec.ofNat 8 origin] 2 b
/-- Relay a piece (PIECE_CHUNK). -/
def Dev.relayPiece (d : Dev) (origin p : Nat) (b : List Byte) : Dev :=
  d.relayItem origin ([6, BitVec.ofNat 8 origin] ++ leBytes 2 p) 1 b

/-- What a manifest that arrives whole does, from whatever side (R414, R415, R422): the failed check, or whether it is new. -/
def Dev.takeManifest (d : Dev) (n : Nv) (origin : Nat) (b : List Byte) : Except Nat (Dev × Nv × Bool) :=
  match checkManifest n d.ho.glb.inForce b with
  | some c => .error c
  | none =>
    let r := n.acceptManifest (1 - d.sy.slot) (parseManifest b)
    if r.2 then .ok (d, r.1, false)
    else .ok ((d.raise evUpdateManifestAccepted none []).relayManifest origin b, r.1, true)

/-- While an activation proceeds, what would change the update is refused (R417). -/
def Dev.activating (d : Dev) (t : Nat) : Dev := d.wrong t 2 0xFFFF 0

/-- UPDATE_MANIFEST (R414, R415, R417). -/
def execUpdateManifest (tag : Tag) (s : State) : Host.Outcome State Fault Refusal :=
  s.runBoth tag opUpdateManifest fun x d n =>
    if n.upd = .activating then (d.activating tag, n)
    else match d.takeManifest n d.ln.chn.pos x.payload with
      | .error c => (d.refuse tag stManifestInvalid c, n)
      | .ok (e, n, new) => (e.done tag (if new then stSuccess else stNoChange) 0 [], n)

/-! ### Pieces (R416) -/

/-- What one piece does. -/
inductive PieceEnd where
  | bad | held | set
  deriving DecidableEq, Repr

/-- One piece of R416: its number and hash, the bitmap, then programming and the read-back. -/
def Nv.takePiece (n : Nv) (slot p : Nat) (b : List Byte) (readOk : Bool) : Nv × PieceEnd :=
  match n.held with
  | none => (n, .bad)
  | some m =>
    if m.pieces ≤ p ∨ (Config.sha256 b).toNat ≠ leNat (m.table.getD p []).reverse then (n, .bad)
    else if n.bitmap.contains p then (n, .held)
    else if !readOk then (n, .bad)
    else
      let n := n.setFlash slot fun f => { f with pieces := assign p b f.pieces }
      let bm := insertN p n.bitmap
      ({ n with bitmap := bm, upd := if bm.length = m.pieces then .ready else n.upd }, .set)

/-- One piece of this device's own update, with its relay and UPDATE_COMPLETE. -/
def Dev.takePiece (d : Dev) (n : Nv) (origin p : Nat) (b : List Byte) (readOk : Bool) : Dev × Nv × PieceEnd :=
  let r := n.takePiece (1 - d.sy.slot) p b readOk
  match r.2 with
  | .set => (((d.relayPiece origin p b).when (r.1.upd == .ready) fun e => e.raise evUpdateComplete none []), r.1, .set)
  | e => (d, r.1, e)

/-- The pieces of an UPDATE_PIECE in turn: whether any was programmed, and the first bad one. -/
def Dev.takePieces (d : Dev) (n : Nv) (badRead : Option Nat) (payload : List Byte) : List Nat → Nat → Bool → Dev × Nv × Bool × Option Nat
  | [], _, any => (d, n, any, none)
  | p :: t, i, any =>
    let r := d.takePiece n d.ln.chn.pos p ((payload.drop (4096 * i)).take 4096) (badRead != some p)
    match r.2.2 with
    | .bad => (r.1, r.2.1, any, some p)
    | .held => r.1.takePieces r.2.1 badRead payload t (i + 1) any
    | .set => r.1.takePieces r.2.1 badRead payload t (i + 1) true

/-- UPDATE_PIECE (R285, R311, R416, R417); `badRead` is the piece whose read-back fails twice, if one does; a pending ABORT found
after `cut` pieces ends the command with ABORTED. -/
def execUpdatePiece (tag : Tag) (badRead : Option Nat) (s : State) (cut : Option Nat := none) : Host.Outcome State Fault Refusal :=
  s.runBoth tag opUpdatePiece fun x d n =>
    let first := leAt x.desc 32 2
    let count := byteAt x.desc 34
    if n.upd = .activating then (d.activating tag, n)
    else if count = 0 ∨ 15 < count then (d.refuse tag stInvalidParameter 34, n)
    else if x.payload.length ≠ 4096 * count then (d.refuse tag stInvalidParameter 4, n)
    else
      let stop := d.cutShort x cut count
      let r := d.takePieces n badRead x.payload (List.range' first (stop.getD count)) 0 false
      match r.2.2.2 with
      | some p => (if r.2.2.1 then (r.1.done tag stPieceInvalid p []).countOutcome stPieceInvalid
                   else r.1.refuse tag stPieceInvalid p, r.2.1)
      | none => (match stop with
          | some k => r.1.done tag stAborted k []
          | none => r.1.done tag (if r.2.2.1 then stSuccess else stNoChange) 0 [], r.2.1)

/-! ### Status, activation and cancellation (R415, R417-R421) -/

/-- A bitmap of 128 bytes (R417). -/
def bitmapBytes (l : List Nat) : List Byte :=
  (List.range 128).map fun i => BitVec.ofNat 8 (l.foldl (fun a p => if p / 8 = i then a + 2 ^ (p % 8) else a) 0)

/-- The 160 bytes of UPDATE_STATUS (R417). -/
def Dev.updateStatus (d : Dev) (n : Nv) : List Byte :=
  let m := n.held.getD {}
  leBytes 1 n.upd.ctorIdx ++ leBytes 1 d.sy.slot ++
  leBytes 1 (b2n n.owned + 2 * b2n n.ownerLock + 4 * b2n m.encrypted + 8 * b2n (bit d.ln.upd.ctrl 0)) ++ leBytes 1 n.bootFails ++
  leBytes 4 n.runRel ++ leBytes 4 m.release ++ leBytes 2 m.pieces ++ leBytes 2 n.bitmap.length ++
  (m.imgHash ++ List.replicate 8 0).take 8 ++ leBytes 4 m.secVer ++ leBytes 4 n.keyGen ++ bitmapBytes n.bitmap

/-- UPDATE_STATUS (R417). -/
def execUpdateStatus (tag : Tag) (s : State) : Host.Outcome State Fault Refusal :=
  s.runBoth tag opUpdateStatus fun _ d n => (d.done tag stSuccess 0 (d.updateStatus n), n)

/-- Whether the supplying string fails R419 test 5; an SOC of quality STALE is not tested. -/
def Dev.supplyLow (d : Dev) : Bool :=
  let c := d.ln.upd.ctrl
  let k := fld c 1 5
  let x := d.string k
  decide (k < 16) &&
  (!(x.st == .running || x.st == .paused || x.st == .stopped) ||
   (x.socQ != .stale && decide (d.soc k < 100 * fld c 8 8)) ||
   (fld c 16 16 != 0 && decide (d.nodeV (.str k) < fld c 16 16 * (d.strE k).cells)))

/-- The reason of R419 that refuses an activation. -/
def Dev.activationRefusal (d : Dev) (n : Nv) : Option Nat :=
  if n.held.isNone then some 5
  else if n.upd ≠ .ready then some 4
  else if n.ownerLock then some 3
  else if d.sy.motion.moving || d.pw.moving then some 1
  else if d.supplyLow then some 2
  else none

/-- An activation from step 2 of R420: a slot that fails its check returns the update to RECEIVING; else the slot is switched,
activities end with MODE, and a hitless warm start follows. Afterwards no update is held (DEDUCED, log 64). -/
def Dev.activate (d : Dev) (n : Nv) (t : Nat) (i : StartIn) : Dev × Nv :=
  let d := d.onSy fun s => { s with waitAct := none }
  if !i.warm.slotOk then
    (d.refuse t stActivationRefused 4,
      { n with upd := .receiving, bitmap := match i.warm.badPiece with | some p => n.bitmap.filter (· ≠ p) | none => n.bitmap })
  else
    let slot := 1 - d.sy.slot
    let m := n.held.getD {}
    let n := { n with activeSlot := slot, bootFails := 0, activated := (m.imgHash :: n.activated).take 2 }
    let d := d.endActivities.onSy fun s => { s with slot := slot }
    let r := d.hitless n i
    let reset := decide (m.setFmt ≠ n.setFmt)
    let n := { r.2.running slot with held := none, bitmap := [], upd := .none, setFmt := m.setFmt }
    ((r.1.onSy fun s => { s with actDue := if s.startKind = .warm then some reset else none }).done t stSuccess n.runRel [], n)

/-- UPDATE_ACTIVATE (R419, R420): it waits while a commit is stepping. R417 does not name it beside UPDATE_MANIFEST: while an
activation proceeds, STATE is not READY and R419 refuses it. -/
def execUpdateActivate (tag : Tag) (start : StartIn) (s : State) : Host.Outcome State Fault Refusal :=
  s.runBoth tag opUpdateActivate fun _ d n =>
    match d.activationRefusal n with
    | some r => (d.refuse tag stActivationRefused r, n)
    | none =>
      let d := d.modTag tag fun y => { y with st := .executing }
      let n := { n with upd := .activating }
      if d.pw.stage.st = .stepping then (d.onSy fun y => { y with waitAct := some tag.val }, n) else d.activate n tag start

/-- ACTIVATION_RESUME (R235, R420): the commit has ended. The host MOVING flag is tested again (R315); the update of an activation
refused there stands READY again (DEDUCED, log 64). -/
def execActivationResume (start : StartIn) (s : State) : Host.Outcome State Fault Refusal :=
  s.onBoth fun d n =>
    match d.sy.waitAct with
    | some t =>
      if d.pw.stage.st = .stepping then (d, n)
      else if d.pw.moving then ((d.onSy fun y => { y with waitAct := none }).refuse t stActivationRefused 1, { n with upd := .ready })
      else d.activate n t start
    | none => (d, n)

/-- UPDATE_CANCEL (R415, R417). -/
def execUpdateCancel (tag : Tag) (s : State) : Host.Outcome State Fault Refusal :=
  s.runBoth tag opUpdateCancel fun _ d n =>
    if n.upd = .activating then (d.activating tag, n)
    else if n.held.isNone then (d.done tag stNoChange 0 [], n)
    else (d.ok tag, { n with held := none, bitmap := [], upd := .none })

/-! ### Owner lock and keys (R423-R428) -/

/-- OWNER_LOCK (R425, R428). -/
def execOwnerLock (tag : Tag) (s : State) : Host.Outcome State Fault Refusal :=
  s.runBoth tag opOwnerLock fun x d n =>
    let lock := byteAt x.desc 32 % 2 == 1
    if x.payload.length ≠ 256 then (d.refuse tag stInvalidParameter 4, n)
    else match ownerAuth n 3 x.payload x.desc [] with
      | none => (d.refuse tag stAuthFailed 0, n)
      | some a =>
        ((d.when (lock != n.ownerLock) fun e => e.raise evOwnerLockChanged none []).ok tag,
          { n with ownerCnt := a.1, ownerLock := lock })

/-- Write a key record into the slot that is not active (R424). -/
def Nv.writeKey (n : Nv) (record plain : List Byte) : Nv :=
  let k : KeySlot := { gen := n.keyGen + 1, record := record, wrap := plain.take 32, image := (plain.drop 32).take 32, valid := true }
  let aActive := n.keyA.valid && (!n.keyB.valid || decide (n.keyB.gen ≤ n.keyA.gen))
  let n := { n with erasePend := n.owned, eraseReady := false }
  if aActive then { n with keyB := k } else { n with keyA := k }

/-- KEY_UPDATE (R417, R423-R427): the claim ring's session key is discarded when the device becomes owned. -/
def execKeyUpdate (tag : Tag) (s : State) : Host.Outcome State Fault Refusal :=
  s.runBoth tag opKeyUpdate fun x d n =>
    let p := x.payload
    if n.upd = .activating then (d.activating tag, n)
    else if n.ownerLock then (d.refuse tag stOwnerLocked 0, n)
    else if p.length ≠ 1024 then (d.refuse tag stInvalidParameter 4, n)
    else if n.owned && !Config.ecdsaVerify n.ownerPub (Config.sha256 (p.take 960)) (p.drop 960) then (d.refuse tag stAuthFailed 0, n)
    else match Config.gcmDecrypt (d.ring x.ring).sessKey ((p.drop 68).take 12) ((p.drop 80).take 64) ((p.drop 144).take 16) with
      | none => (d.refuse tag stAuthFailed 0, n)
      | some plain =>
        let m := n.writeKey p plain
        let d := d.modRing x.ring fun g => if g.claim then { g with sessKey := [] } else g
        ((d.raise evKeyUpdated none (d2 m.keyGen)).ok tag, m)

end Sys2Proof.Machine
end

