-- ==== Sys2Proof/Machine/TwoWire.lean ====
section
/-! DEFINITION. The two-wire ports and the hatband (R336-R348), and the meanings of their rows. -/

namespace Sys2Proof.Machine

/-! ### Target ports (R336-R342) -/

/-- Whether an address matches a target port (R336). -/
def Twt.hits (t : Twt) (addr : BitVec 7) : Bool :=
  (BitVec.ofNat 7 (fld t.addr 0 7) ^^^ addr) &&& ~~~ (BitVec.ofNat 7 (fld t.addr 8 7)) == 0 ||
  (bit t.addr 23 && BitVec.ofNat 7 (fld t.addr 16 7) == addr)

/-- Target port i. -/
def Dev.twtOf (d : Dev) (i : Nat) : Twt := d.ln.twt.getD i {}

/-- Whether target port i serves in this power state: TWT1 in LINER, RUN and LIMP; the hatband is down in SHIP (R338, R339). -/
def Dev.twtServes (d : Dev) (i : Nat) : Bool :=
  if i = 0 then d.sy.power != .ship && d.sy.power != .off else d.sy.power == .liner || d.inRun

/-- The device is asleep (R339). -/
def Dev.asleep (d : Dev) : Bool := d.sy.power == .sleep || d.sy.power == .deep

/-- The identity bytes of the window (R341). -/
def Dev.winIdentity (d : Dev) (n : Nv) : List Byte :=
  [0x40, 0x96] ++ leBytes 1 Config.siliconRev ++ leBytes 1 d.ho.glb.inForce ++ leBytes 3 n.runRel ++ [0] ++
  leBytes 4 d.pw.map.mapId ++ [0, 0, 0, 0]

/-- The status, bus and string bytes of the window (R341). -/
def Dev.winStatus (d : Dev) : List Byte :=
  leBytes 1 d.sy.power.ctorIdx ++ leBytes 1 d.sy.limpCause.toNat ++ leBytes 1 d.ln.chn.role ++ leBytes 1 (b2n d.pw.moving) ++
  leBytes 8 d.sy.cframe.count ++ [0, 0, 0, 0] ++
  (List.range 4).flatMap (fun j => i4 (d.nodeV (.bus j))) ++
  (List.range 16).flatMap (fun k => leBytes 2 (d.soc k).toNat) ++
  (List.range 16).flatMap (fun k => leBytes 1 (d.string k).st.ctorIdx)

/-- The event bytes of the window (R341). -/
def Hatband.winEvents (h : Hatband) : List Byte :=
  let one (e : Nat × Nat × Nat) : List Byte := leBytes 1 e.1 ++ leBytes 1 e.2.1 ++ leBytes 2 e.2.2
  let newest := match h.newest.head? with | some e => leBytes 2 e.2.2 | none => [0, 0]
  leBytes 1 h.pending ++ [0] ++ newest ++ ((h.newest.flatMap one) ++ List.replicate 28 0).take 28

/-- The window of 256 bytes (R341, R342); GO reads 0. -/
def Dev.window (d : Dev) (n : Nv) : List Byte :=
  d.winIdentity n ++ d.winStatus ++ d.ln.hb.winEvents ++ d.ln.hb.cmd.set 1 0 ++ d.ln.hb.resp

/-- A hatband response: DONE as given, STATUS, CID as written, RESULT, data (R342). -/
def Hatband.answer (h : Hatband) (done : Bool) (status result : Nat) (data : List Byte) : Hatband :=
  { h with resp := leBytes 1 (b2n done) ++ [0] ++ leBytes 2 status ++ (h.cmd.drop 2).take 2 ++ [0, 0] ++ leBytes 8 result ++
                   (data ++ List.replicate 48 0).take 48 }

/-- A hatband command ends without effect. -/
def Dev.hbRefuse (d : Dev) (status result : Nat) : Dev :=
  (d.modHb fun h => { h.answer true status result [] with go := false, wait := none }).countOutcome status

/-- A hatband command has executed: its response stands with the next completed checkpoint, or at once where none is written
(R278, R343). -/
def Dev.hbDone (d : Dev) (status result : Nat) (data : List Byte) : Dev :=
  if d.inRun then d.modHb fun h => { h.answer false status result data with wait := some 0 }
  else d.modHb fun h => (h.answer true status result data).complete

/-- GO (R342, R343): in DEEP the device wakes to SLEEP, in SLEEP to RUN but for UPDATE_CHUNK; it abandons an accepted entry into
DEEP (R385, R386); a code that is none completes at once. -/
def Dev.hbGo (d : Dev) : Dev :=
  let d := d.modHb fun h => { h.answer false 0 0 [] with go := true, wait := none }
  let code := byteAt d.ln.hb.cmd 0
  let d := if d.sy.power = .deep then (if d.sy.wakeCause = 0 then d.onSy fun s => { s with wakeCause := 3 } else d)
           else (d.when (code != 6) fun e => e.wakeSleep 3).when (d.sy.order == some .deep) Dev.abandon
  if 1 ≤ code ∧ code ≤ 6 then d
  else if d.sy.power = .liner ∨ d.sy.power = .recovery then d.hbRefuse stWrongState (wrongResult 1 0xFFFF 0)
  else d.hbRefuse stUnsupportedOpcode 0

/-- One byte written at a window address: EVENTS_PENDING clears with 0, the command area takes it; GO is the caller's. -/
def Dev.hbByte (d : Dev) (a : Nat) (b : Byte) : Dev :=
  if a = 0x60 ∧ b = 0 then d.modHb fun h => { h with pending := 0 }
  else if 0x80 ≤ a ∧ a < 0xC0 ∧ a ≠ 0x81 then d.modHb fun h => { h with cmd := h.cmd.set (a - 0x80) b }
  else d

/-- Whether a write from pointer p starts a command: 0xA5 reaches GO. -/
def goWritten (p : Nat) (l : List Byte) : Bool :=
  (List.range l.length).any fun i => (p + i) % 256 == 0x81 && l.getD i 0 == 0xA5

/-- TWT_WRITE_TRANSFER (R336-R339, R342): a port that does not match, does not serve or is busy does not acknowledge. The bytes
after the pointer go to the window, which both ports share (DEDUCED, log 72). -/
def execTwtWriteTransfer (port : Fin 2) (addr : BitVec 7) (data : List Byte) (s : State) : Host.Outcome State Fault Refusal :=
  s.onDev fun d =>
    let t := d.twtOf port
    if !bit t.addr 31 || !t.hits addr then d.busError
    else if !d.twtServes port || d.ln.hb.go then
      (d.when (port.val != 0 || d.twtServes port) fun e => e.modTwt port fun x =>
        { x with nackBusy := satInc 255 x.nackBusy }).busError
    else
      let d := d.reply []
      let d := d.when (port.val == 0 && d.asleep) fun e => e.modTwt port fun x => { x with stretch := satInc 255 x.stretch }
      match data with
      | [] => d
      | p :: l =>
        let d := d.modTwt port fun x => { x with ptr := BitVec.ofNat 8 (p.toNat + l.length) }
        let d := (List.range l.length).foldl (fun e i => e.hbByte ((p.toNat + i) % 256) (l.getD i 0)) d
        d.when (goWritten p.toNat l) fun e => e.hbGo

/-- TWT_READ_TRANSFER (R336-R340): a snapshot of the window from the pointer on; a read of the event summary lets the next
in-band request come. -/
def execTwtReadTransfer (port : Fin 2) (addr : BitVec 7) (len : Nat) (s : State) : Host.Outcome State Fault Refusal :=
  s.onBoth fun d n =>
    let t := d.twtOf port
    if !bit t.addr 31 || !t.hits addr || !d.twtServes port then (d.busError, n)
    else
      let w := d.window n
      let at_ (i : Nat) : Nat := (t.ptr.toNat + i) % 256
      let seen := (List.range len).any fun i => decide (0x60 ≤ at_ i) && decide (at_ i < 0x80)
      let d := d.reply ((List.range len).map fun i => w.getD (at_ i) 0)
      let d := d.when (port.val == 0 && d.asleep) fun e => e.modTwt port fun x => { x with stretch := satInc 255 x.stretch }
      let d := d.modTwt port fun x => { x with ptr := x.ptr + BitVec.ofNat 8 len }
      (d.when (port.val == 0 && seen && d.ln.hb.req == .served) fun e => e.modHb fun h => { h with req := .idle }, n)

/-! ### In-band requests (R340) -/

/-- IN_BAND_REQUEST (R340): with events pending and REQ_EN set, SDA is held low. -/
def execInBandRequest (s : State) : Host.Outcome State Fault Refusal :=
  s.onDev fun d =>
    let h := d.ln.hb
    let t := d.twtOf 0
    if d.twtServes 0 && bit t.addr 31 && bit t.hb 0 && h.pending != 0 && (h.req == .idle || h.req == .backoff) then
      d.modHb fun x => { x with req := .holding }
    else d

/-- REQUEST_ACKNOWLEDGE (R340): SDA is released, and the request counts as served. -/
def execRequestAcknowledge (s : State) : Host.Outcome State Fault Refusal :=
  s.onDev fun d =>
    if d.ln.hb.req = .holding then
      (d.modHb fun x => { x with req := .served }).modTwt 0 fun x => { x with reqs := satInc 255 x.reqs }
    else d

/-- REQUEST_TIMEOUT (R340): SDA is released; the next request comes after 10 ms. -/
def execRequestTimeout (s : State) : Host.Outcome State Fault Refusal :=
  s.onDev fun d =>
    if d.ln.hb.req = .holding then
      (d.modHb fun x => { x with req := .backoff }).modTwt 0 fun x => { x with reqTo := satInc 255 x.reqTo }
    else d

/-! ### Hatband commands (R343) -/

/-- Whether a started hatband command of a code may execute now. -/
def Dev.hbReady (d : Dev) (code : Nat) : Bool :=
  d.ln.hb.go && d.ln.hb.wait.isNone && !d.ln.hb.late && byteAt d.ln.hb.cmd 0 == code && d.twtServes 0 && d.sy.power != .deep

/-- A hatband command's meaning (R343): the state, then the privilege, then what it does. -/
def Dev.hbRun (d : Dev) (code : Nat) (priv : Option Nat) (f : Dev → Dev) : Dev :=
  if !d.hbReady code then d
  else if (d.sy.power = .liner ∨ d.sy.power = .recovery) ∧ 2 < code then d.hbRefuse stWrongState (wrongResult 1 0xFFFF 0)
  else match priv.filter fun b => !bit (d.twtOf 0).hb b with
    | some b => d.hbRefuse stPermissionDenied (0x200 + b)
    | none => f (d.when (code != 6) fun e => e.wakeSleep 3)

/-- A byte of ARG. -/
def Dev.hbArg (d : Dev) (i : Nat) : Nat := byteAt d.ln.hb.cmd (4 + i)

/-- HATBAND_STATUS (R309, R343). -/
def execHatbandStatus (s : State) : Host.Outcome State Fault Refusal :=
  s.onDev fun d => d.hbRun 1 none fun d =>
    if 4 < d.hbArg 0 then d.hbRefuse stInvalidParameter 32
    else if statusCount (d.hbArg 0) ≤ d.hbArg 1 then d.hbRefuse stInvalidParameter 33
    else d.hbDone stSuccess 32 (d.statusRecord (d.hbArg 0) (d.hbArg 1))

/-- HATBAND_TIME (R311, R343). -/
def execHatbandTime (s : State) : Host.Outcome State Fault Refusal :=
  s.onBoth fun d n => (d.hbRun 2 none fun d => d.hbDone stSuccess 32 (d.sy.time.bytes n.timeEpoch), n)

/-- HATBAND_MOTION (R305, R343). -/
def execHatbandMotion (s : State) : Host.Outcome State Fault Refusal :=
  s.onDev fun d => d.hbRun 3 (some 1) fun d =>
    (d.onPw fun p => { p with moving := d.hbArg 0 % 2 == 1 }).hbDone stSuccess 0 []

/-- HATBAND_POWER (R312, R343). -/
def execHatbandPower (s : State) : Host.Outcome State Fault Refusal :=
  s.onDev fun d => d.hbRun 4 (some 1) fun d =>
    match d.powerState (d.hbArg 0) with
    | .error r => d.hbRefuse r.1 r.2
    | .ok e => e.hbDone stSuccess 0 []

/-- HATBAND_WAKE (R343). -/
def execHatbandWake (s : State) : Host.Outcome State Fault Refusal :=
  s.onDev fun d => d.hbRun 5 none fun d => d.hbDone stSuccess 0 []

/-- The units of 16 bytes that make a manifest whole: known once its header is held (R413). -/
def manifestUnits (l : List (Nat × List Byte)) : Option Nat :=
  (look 0 l).map fun b => 256 + 2 * leAt b 2 2

/-- Put one chunk of 16 bytes into an object that is being assembled. -/
def addChunk (off : Nat) (b : List Byte) (l : List (Nat × List Byte)) : List (Nat × List Byte) :=
  assign off ((b ++ List.replicate 16 0).take 16) l

/-- The bytes of an object of n units, where all are held. -/
def wholeItem (n : Nat) (l : List (Nat × List Byte)) : Option (List Byte) :=
  if (List.range n).all fun i => (look i l).isSome then some ((List.range n).flatMap fun i => (look i l).getD []) else none

/-- A manifest that the hatband has assembled goes to the update process (R343, R414, R415, R417). -/
def Dev.hbManifest (d : Dev) (n : Nv) (units : Nat) (b : List Byte) : Dev × Nv :=
  let d := d.modHb fun h => { h with man := [] }
  if n.upd = .activating then (d.hbRefuse stWrongState (wrongResult 2 0xFFFF 0), n)
  else match d.takeManifest n d.ln.chn.pos b with
    | .error c => (d.hbRefuse stManifestInvalid c, n)
    | .ok (e, n, new) => (e.hbDone (if new then stSuccess else stNoChange) units [], n)

/-- A piece that the hatband has assembled goes to the update process (R343, R416, R417), in a late frame not yet (R216, R235). -/
def Dev.hbPiece (d : Dev) (n : Nv) (p : Nat) (b : List Byte) (readOk : Bool) : Dev × Nv :=
  let d := d.modHb fun h => { h with piece := none, chunks := [], late := false }
  if n.upd = .activating then (d.hbRefuse stWrongState (wrongResult 2 0xFFFF 0), n)
  else if !d.onTime then
    ((d.modHb fun h => { h with late := true }).onSy fun y =>
      { y with pieceQ := y.pieceQ ++ [{ num := p, bytes := b, readOk := readOk }] }, n)
  else
    let r := d.takePiece n d.ln.chn.pos p b readOk
    match r.2.2 with
    | .bad => (r.1.hbRefuse stPieceInvalid p, r.2.1)
    | .held => (r.1.hbDone stNoChange 256 [], r.2.1)
    | .set => (r.1.hbDone stSuccess 256 [], r.2.1)

/-- What one UPDATE_CHUNK does (R343): RESULT is the units of its object now held. A piece of another number, and a manifest
from its start, begin anew (DEDUCED, log 73). -/
def Dev.hbChunk (d : Dev) (n : Nv) (readOk : Bool) : Dev × Nv :=
  let c := d.ln.hb.cmd
  let num := leAt c 5 2
  let off := leAt c 7 2
  let b := (c.drop 9).take 16
  if byteAt c 4 = 0 then
    if 2304 ≤ off then (d.hbRefuse stInvalidParameter 35, n)
    else
      let d := d.modHb fun h => { h with man := addChunk off b (if off = 0 then [] else h.man) }
      let l := d.ln.hb.man
      match (manifestUnits l).bind fun k => (wholeItem k l).map fun m => (k, m) with
      | some (k, m) => d.hbManifest n k m
      | none => (d.hbDone stSuccess l.length [], n)
  else if byteAt c 4 = 1 then
    if 256 ≤ off then (d.hbRefuse stInvalidParameter 35, n)
    else
      let d := d.modHb fun h => { h with piece := some num, chunks := addChunk off b (if h.piece = some num then h.chunks else []) }
      let l := d.ln.hb.chunks
      match wholeItem 256 l with
      | some m => d.hbPiece n num m readOk
      | none => (d.hbDone stSuccess l.length [], n)
  else (d.hbRefuse stInvalidParameter 32, n)

/-- HATBAND_UPDATE_CHUNK (R343): `readOk` says whether a whole piece reads back well from the flash. -/
def execHatbandUpdateChunk (readOk : Bool) (s : State) : Host.Outcome State Fault Refusal :=
  s.onBoth fun d n =>
    if d.hbReady 6 && d.sy.power != .liner && d.sy.power != .recovery && bit (d.twtOf 0).hb 2 then d.hbChunk n readOk
    else (d.hbRun 6 (some 2) id, n)

/-! ### Controller ports (R344, R345, R348) -/

/-- Controller port c. -/
def Dev.twcOf (d : Dev) (c : Nat) : Twc := d.ln.twc.getD c {}

/-- Whether controller port c is enabled in a power state in which polls run. -/
def Dev.twcOn (d : Dev) (c : Nat) : Bool := bit ((d.twcOf c).regs.getD 0 0) 0 && (d.inRun || d.sy.power == .sleep)

/-- The bytes the port sends in a poll: the address with write, the pointer 0x00, the address with read (R344). -/
def pollBytes (addr : Nat) : List Byte := [BitVec.ofNat 8 (2 * addr), 0, BitVec.ofNat 8 (2 * addr + 1)]

/-- PACK_MONITOR_POLL (R146, R344): the record of a string whose PM_LINK names the port, behind a lower-numbered one that fell due
with it; a poll not acknowledged is missed. -/
def execPackMonitorPoll (port : Fin 4) (str : Fin 16) (reply : PollReply) (s : State) : Host.Outcome State Fault Refusal :=
  s.onDev fun d =>
    if !d.twcOn port || d.stp str 12 != (port.val : Int) + 1 ||
        (List.range str).any fun j => d.pollsOn port j && d.pmDue j == d.pmDue str then d
    else
      let d := d.modTwc port fun t => { t with tries := 0, polled := pollBytes (d.stp str 13).toNat }
      match reply with
      | .record b =>
        if d.pmAccepts str b then (d.pmRecord str b).modStr str fun y => { y with pmLast := d.now } else d.pollMissed str
      | .nack => (d.modTwc port fun t => { t with nack := satInc 255 t.nack }).pollMissed str

/-- The poll that ran on a port is missed (R345). -/
def Dev.portMissed (d : Dev) (port : Nat) : Dev :=
  match d.pollNext port with
  | some k => d.pollMissed k
  | none => d

/-- TWC_ARBITRATION_LOST (R345): the whole transaction is repeated up to RETRIES times, and then the poll is missed. -/
def execTwcArbitrationLost (port : Fin 4) (s : State) : Host.Outcome State Fault Refusal :=
  s.onDev fun d =>
    let t := d.twcOf port
    if !d.twcOn port then d
    else
      let again := decide (t.tries < fld (t.regs.getD 0 0) 3 2)
      (d.modTwc port fun t => { t with arbLost := satInc 255 t.arbLost, tries := if again then t.tries + 1 else 0 }).when (!again) fun e =>
        e.portMissed port

/-- TWC_ARB_LOST_COND (R345): counted, raised with the port, not retried; the poll is missed. -/
def execTwcArbLostCond (port : Fin 4) (s : State) : Host.Outcome State Fault Refusal :=
  s.onDev fun d => if !d.twcOn port then d else
    ((d.modTwc port fun t => { t with arbCond := satInc 255 t.arbCond, tries := 0 }).raise evTwcArbLostCond (some port.val)
      (d2 port)).portMissed port

/-- TWC_TIMEOUT (R345): both lines are released and the poll is missed. -/
def execTwcTimeout (port : Fin 4) (s : State) : Host.Outcome State Fault Refusal :=
  s.onDev fun d => if !d.twcOn port then d else
    ((d.modTwc port fun t => { t with timeout := satInc 255 t.timeout, tries := 0 }).raise evTwcTimeout (some port.val)
      (d2 port)).portMissed port

end Sys2Proof.Machine
end

