-- ==== Sys2Proof/Machine/CanBus.lean ====
section
/-! DEFINITION. The CAN FD controllers (R349-R353), and the meanings of their rows. -/

namespace Sys2Proof.Machine

/-- CAN controller k. -/
def Dev.canOf (d : Dev) (k : Nat) : Can := d.ln.can.getD k {}

/-- Whether the controllers have power: not in OFF, SHIP and DEEP (R383). -/
def Dev.canPowered (d : Dev) : Bool := d.sy.power != .off && d.sy.power != .ship && d.sy.power != .deep

/-- Whether a controller is on the bus: enabled and not bus-off (R349, R352). -/
def Dev.canOn (d : Dev) (k : Nat) : Bool := d.canPowered && bit (d.canOf k).ctrl 0 && (d.canOf k).st != 2

/-- The strings whose PM_LINK names a controller, ascending: string i of the list has receive buffer i (R350). -/
def Dev.canStrings (d : Dev) (k : Nat) : List Nat := (List.range 16).filter fun n => d.stp n 12 == (k : Int) + 5

/-- Whether a frame passes the filter of a string's buffer: identifier and identifier length of PM_ADDR (R128, R350). -/
def Dev.canMatch (d : Dev) (n : Nat) (ident : BitVec 29) (ide : Bool) : Bool :=
  let a := (d.stp n 13).toNat
  bits a 0 29 == ident.toNat && a.testBit 29 == ide

/-- CAN_FRAME_RECEIVED (R146, R350): a frame that passes a filter is stored and its first 16 bytes taken as a record; a short
one is discarded and counted. -/
def execCanFrameReceived (can : Fin 2) (ident : BitVec 29) (ide : Bool) (data : List Byte) (s : State) :
    Host.Outcome State Fault Refusal :=
  s.onDev fun d =>
    let l := d.canStrings can
    let hit := (List.range l.length).filter fun i => d.canMatch (l.getD i 0) ident ide
    if !d.canOn can || hit.isEmpty then d
    else if data.length < 16 then d.modCan can fun c => { c with short := satInc 255 c.short }
    else d.each hit fun i e => (e.modCan can fun c => { c with bufs := c.bufs.set i data }).pmRecord (l.getD i 0) (data.take 16)

/-- A bus voltage in 10 mV units, 16 bits, saturating (R351). -/
def mv10 (v : Int) : List Byte := leBytes 2 (clampI 0 65535 (floorDiv v 10)).toNat

/-- The lowest SOC of the enabled strings in 0.01 % (R351); without an enabled string the value is free (log 6). -/
def Dev.lowestSoc (d : Dev) : Nat :=
  match ((List.range 16).filter fun k => (d.strE k).type != 0).map fun k => (d.soc k).toNat with
  | [] => (Config.freeValue d.freeIx).toNat % 65536
  | x :: l => l.foldl (fun a b => min a b) x

/-- The 16 data bytes of the status frame (R351). -/
def Dev.canStatus (d : Dev) (seq : Nat) : List Byte :=
  let low := (List.range 4).foldl (fun a j => if (d.pw.map.busE j).enable && (d.busOf j).below then a + 2 ^ j else a) 0
  let b := leBytes 1 d.sy.power.ctorIdx ++ leBytes 1 d.sy.limpCause.toNat ++ leBytes 1 low ++ leBytes 1 seq ++
    (List.range 4).flatMap (fun j => mv10 (d.nodeV (.bus j))) ++ leBytes 2 d.lowestSoc
  b ++ leBytes 2 (crc16 b).toNat

/-- CAN_STATUS_FRAME (R351-R353): sent with FD = 1 and TX_PERIOD above 0, not with LISTEN; under the identifier TXID with its IDE,
and with bit rate switching where BRS is set. -/
def execCanStatusFrame (can : Fin 2) (s : State) : Host.Outcome State Fault Refusal :=
  s.onDev fun d =>
    let c := (d.canOf can).ctrl
    if d.canOn can && bit c 1 && fld c 8 16 != 0 && !bit c 4 then
      (d.modCan can fun x => { x with sent := d.canStatus x.txSeq, sentId := x.txid, sentBrs := bit x.ctrl 2, txSeq := (x.txSeq + 1) % 256 }).tickFree
    else d

/-- The error counts of a controller in a new error state: their values are not given (free, log 6). -/
def Dev.canErrors (d : Dev) (k st : Nat) : Dev :=
  (d.modCan k fun x => { x with st := st, tec := (Config.freeValue d.freeIx).toNat % 256,
                                rxErr := (Config.freeValue (d.freeIx + 1)).toNat % 256 }).tickFree.tickFree

/-- CAN_ERROR_PASSIVE (R352). -/
def execCanErrorPassive (can : Fin 2) (s : State) : Host.Outcome State Fault Refusal :=
  s.onDev fun d =>
    if d.canOn can && (d.canOf can).st == 0 then (d.canErrors can 1).onset evCanErrorPassive can (some can.val) [] else d

/-- CAN_BUS_OFF (R352). -/
def execCanBusOff (can : Fin 2) (s : State) : Host.Outcome State Fault Refusal :=
  s.onDev fun d =>
    if d.canOn can then ((d.canErrors can 2).offset evCanErrorPassive can).onset evCanBusOff can (some can.val) [] else d

/-- A controller that is error active again: STATE 0, counts 0 (ISO 11898-1 as R349 names it; DEDUCED, log 74). -/
def Dev.canActive (d : Dev) (k : Nat) : Dev :=
  ((d.modCan k fun x => { x with st := 0, tec := 0, rxErr := 0 }).offset evCanErrorPassive k).offset evCanBusOff k

/-- CAN_BUS_OFF_RECOVERY (R352): with AUTO_RECOVER set. -/
def execCanBusOffRecovery (can : Fin 2) (s : State) : Host.Outcome State Fault Refusal :=
  s.onDev fun d =>
    let c := d.canOf can
    if d.canPowered && bit c.ctrl 0 && bit c.ctrl 3 && c.st == 2 then d.canActive can else d

end Sys2Proof.Machine
end

