-- ==== Sys2Proof/Machine/Chain.lean ====
section
/-! DEFINITION. The chain port and SYNC (R90-R93, R219, R354-R364), and the meanings of their rows. -/

namespace Sys2Proof.Machine

/-! ### Frames (R356) -/

/-- Parse a crown block. -/
def parseBlk (b : List Byte) : CrownBlk :=
  { mit := byteAt b 0, nTotal := byteAt b 1, part := BitVec.ofNat 16 (leAt b 2 2), target := s32At b 4, phaseSt := leAt b 8 3,
    period := leAt b 11 3, limiter := byteAt b 14, flags := byteAt b 15 }

/-- The 16 bytes of a crown block. -/
def CrownBlk.bytes (c : CrownBlk) : List Byte :=
  leBytes 1 c.mit ++ leBytes 1 c.nTotal ++ leBytes 2 c.part.toNat ++ leBytes 4 (enc 4 (sat32 c.target)) ++ leBytes 3 c.phaseSt ++
  leBytes 3 c.period ++ leBytes 1 c.limiter ++ leBytes 1 c.flags

/-- Parse a report slot. -/
def parseSlot (b : List Byte) : Slot :=
  { flags := byteAt b 0, lagC := byteAt b 1, lagP := byteAt b 2, mit := byteAt b 3, nAct := byteAt b 4, iT := leAt b 5 2,
    iB := leAt b 7 2, iL := leAt b 9 2, missed := 0 }

/-- The 11 bytes of a report slot. -/
def Slot.bytes (s : Slot) : List Byte :=
  leBytes 1 s.flags ++ leBytes 1 s.lagC ++ leBytes 1 s.lagP ++ leBytes 1 s.mit ++ leBytes 1 s.nAct ++ leBytes 2 s.iT ++
  leBytes 2 s.iB ++ leBytes 2 s.iL

/-- The shared mitten a device takes part in (R90, R357). -/
def Dev.sharedMit (d : Dev) : Option Nat :=
  (List.range 16).find? fun m => (d.mitE m).used && (d.mitE m).shared && !(d.mitten m).mismatch

/-- A local candidate as a per-phase value in 10 mA units, rounded down; 0xFFFF where it is no candidate (R91, R356). -/
def Dev.perPhaseCand (d : Dev) (m code : Nat) : Nat :=
  let g := (d.goal m).getD { rev := (d.mitten m).rev, vSet := 0, ceil := 0, engine := false }
  let e := d.mitE m
  let vOut := d.endVp (if g.rev then e.fromNode else e.toNode)
  let vIn := d.endVp (if g.rev then e.toNode else e.fromNode)
  match look code (d.ceilings m g vOut vIn g.vSet) with
  | some v => min 0xFFFE (floorDiv (max 0 v) (10 * d.shares m)).toNat
  | none => 0xFFFF

/-- The device's own report (R219, R356): its flags, lags, shared mitten, active phases and candidates. -/
def Dev.ownSlot (d : Dev) : Slot :=
  let mis := (List.range 16).any fun m => (d.mitE m).used && (d.mitE m).shared && (d.mitten m).mismatch
  let base : Slot := { flags := 1 + 2 * b2n (d.sy.power == .limp) + 4 * b2n mis, missed := 0,
                       lagC := min 255 (ceilDiv d.sy.cframe.lag 10000), lagP := min 255 (ceilDiv d.sy.pframe.lag 1000000) }
  match d.sharedMit with
  | some m => { base with mit := m, nAct := (d.active m).length, iT := d.perPhaseCand m 2, iB := d.perPhaseCand m 3,
                          iL := d.perPhaseCand m 5 }
  | none => base

/-- A message padded to the AUX field of 32 bytes; none is IDLE (R356, R358). -/
def auxField (m : List Byte) : List Byte := (m ++ List.replicate 32 0).take 32

/-- The message a device may write into an empty AUX field of a frame: its queue first; a relayed chunk only where TICK mod
COUNT is its position (R358). -/
def Chain.nextMsg (c : Chain) (tick : Nat) : Option (List Byte) × Chain :=
  match c.outMsg with
  | m :: t => (some m, { c with outMsg := t })
  | [] =>
    match c.relay with
    | m :: t => if tick % max 1 c.count = c.pos then (some m.2, { c with relay := t }) else (none, c)
    | [] => (none, c)

/-- Write a frame's AUX field, remembering the message. -/
def Chain.fillAux (c : Chain) (tick : Nat) : List Byte × Chain :=
  let (m, c) := c.nextMsg tick
  let a := auxField (m.getD [])
  (a, { c with auxPrev := c.aux, aux := a })

/-! ### The crown (R91-R93, R357, R360) -/

/-- Whether a device at a position takes part in a mitten: its reports have not been missing for two ticks (R93). -/
def Dev.partAt (d : Dev) (m p : Nat) : Bool :=
  let s := d.ln.chn.slots.getD p {}
  p == d.ln.chn.pos || (decide (p < d.ln.chn.count) && decide (s.missed < 2) && s.mit == m)

/-- PART of a mitten. -/
def Dev.partMask (d : Dev) (m : Nat) : Nat :=
  (List.range 16).foldl (fun a p => if d.partAt m p then a + 2 ^ p else a) 0

/-- The phases of a mitten that stay active at a position whose first global index is `base`, of `serv` in service, where `n` of the
chain are active (R92, R229). -/
def activeOf (n base serv : Nat) : Nat := min serv (n - base)

/-- The phases of a mitten in service at a position: active, or shed by the crown's levers. What a report lacks of the phases that
should be active is out of service; while a recall is on its way the count stands (log 85). -/
def Dev.servAt (d : Dev) (m p : Nat) : Nat :=
  let c := d.ln.chn
  let was := c.serv.getD p 0
  let rep := (c.slots.getD p {}).nAct
  if p = c.pos then (d.active m).length + (if c.shedTo.isSome then (d.phasesIn m .shed).length else 0)
  else if !d.partAt m p then 0
  else if d.sy.tick.count < c.servTill then max was rep
  else match c.shedTo with
    | none => rep
    | some n =>
      let due := activeOf n (c.bases.getD p 0) was
      if rep < due then was - (due - rep) else max was rep

/-- BASE of every position: the first global index, the crown's phases first, then in chain order (R92). -/
def baseList (serv : List Nat) : List Nat := (List.range 16).map fun p => (serv.take p).foldl (· + ·) 0

/-- The smallest per-phase value that the other devices report. -/
def Dev.peerMin (d : Dev) (m : Nat) (f : Slot → Nat) : Option Nat :=
  ((List.range 16).filter fun p => p != d.ln.chn.pos && d.partAt m p).foldl (fun a p =>
    let v := f (d.ln.chn.slots.getD p {})
    if v = 0xFFFF then a else some (match a with | some y => min y v | none => v)) none

/-- INTERLEAVE (R92, R358): the new total and bases act at the lead's first cycle start at or after tick t + 2; the message goes
into the frame of this tick, before any that waits. -/
def Dev.interleave (d : Dev) (m total : Nat) (bases : List Nat) : Dev :=
  let t := d.sy.tick.count + 2
  let msg : List Byte := [1, BitVec.ofNat 8 m] ++ leBytes 1 total ++ leBytes 2 t ++ bases.map fun b => BitVec.ofNat 8 b
  (d.modMit m fun x => { x with nTotal := total, baseIx := 0, switchTick := t, respread := true }).modChn fun c =>
    { c with bases := bases, outMsg := msg :: c.outMsg }

/-- Latch the frame of two ticks ago (R357): the reports in it and what came beside it, and those that are missing (R93). -/
def Dev.chainLatch (d : Dev) : Dev :=
  d.modChn fun c =>
    let want := (d.sy.tick.count + c.off + 4294967294) % 4294967296
    match c.rx.find? fun f => f.tick == want with
    | some f => { c with side := f.side, slots := (List.range 16).map fun p =>
        let s := f.slots.getD p {}
        if s.flags % 2 = 1 then s else { c.slots.getD p {} with missed := satInc 2 (c.slots.getD p {}).missed } }
    | none => { c with slots := c.slots.map fun s => { s with missed := satInc 2 s.missed } }

/-- LIMP cause CHAIN: whether another participant of the shared mitten is in LIMP (R231, R233). -/
def Dev.chainLimp (d : Dev) (parts : Nat → Bool) : Dev :=
  let on := d.sharedMit.isSome && (List.range 16).any fun p => p != d.ln.chn.pos && parts p && d.ln.chn.limpers.getLsbD p
  if on == d.sy.limpCause.getLsbD 3 then d else d.limpChain on

/-- The crown's chain work of a tick: participants, counts, candidates, LIMP (R91-R93, R231). -/
def Dev.crownTick (d : Dev) : Dev :=
  let d := d.chainLatch
  let d := d.modChn fun c => { c with limpers := BitVec.ofNat 16 ((List.range 16).foldl (fun a p =>
    let s := c.slots.getD p {}
    if s.missed < 2 ∧ s.flags.testBit 1 then a + 2 ^ p else a) 0) }
  match d.sharedMit with
  | none => d.chainLimp fun _ => false
  | some m =>
    let serv := (List.range 16).map (d.servAt m)
    let bases := baseList serv
    let all := serv.foldl (· + ·) 0
    let total := match d.ln.chn.shedTo with | some n => min n all | none => all
    let d := d.modChn fun c => { c with serv := serv }
    let d := if total ≠ (d.mitten m).nTotal ∨ bases ≠ d.ln.chn.bases then d.interleave m total bases else d
    let d := d.modMit m fun x => { x with peerT := d.peerMin m (·.iT), peerB := d.peerMin m (·.iB), peerL := d.peerMin m (·.iL) }
    d.chainLimp (d.partAt m)

/-- PHASE of a lead (R356): steps of 125 ps from this tick to its next cycle start. -/
def Dev.phaseToNext (d : Dev) (p : Nat) : Nat :=
  let x := d.phase p
  let now := 8 * d.now
  x.cycAt + x.cycLen * ceilDiv (now - x.cycAt) (max 1 x.cycLen) - now

/-- The crown block of the shared mitten (R356). STOP stands while the mitten is neither in SOFTSTART nor in RUN (DEDUCED,
log 75). -/
def Dev.crownBlk (d : Dev) : CrownBlk :=
  match d.sharedMit with
  | none => {}
  | some m =>
    let x := d.mitten m
    let stop := !(x.st == .softstart || x.st == .run)
    { mit := m, nTotal := x.nTotal, part := BitVec.ofNat 16 (d.partMask m), target := x.pub,
      phaseSt := match d.leadOf m with | some p => d.phaseToNext p % 16777216 | none => 0,
      period := match d.leadOf m with | some p => (d.phase p).period | none => d.leadPeriod m,
      limiter := x.lim, flags := b2n x.rev + 2 * x.fsbb + 8 * b2n stop }

/-- The block of a second shared mitten, in which the crown takes no part (R356, R357): its devices by their reports. The crown runs
no loop for it, so it carries STOP and no target (DESIGN CHOICE, log 69). -/
def Dev.otherBlk (d : Dev) : CrownBlk :=
  let own := d.sharedMit.getD 0xFF
  match (d.ln.chn.slots.filter fun s => decide (s.missed < 2) && s.mit != 0xFF && s.mit != own).map (·.mit) with
  | [] => {}
  | m :: _ => { mit := m, part := BitVec.ofNat 16 ((List.range 16).foldl (fun a p => if p ≠ d.ln.chn.pos ∧ d.partAt m p then a + 2 ^ p else a) 0),
                nTotal := (List.range 16).foldl (fun a p => if p ≠ d.ln.chn.pos ∧ d.partAt m p then a + (d.ln.chn.slots.getD p {}).nAct else a) 0, flags := 8 }

/-- The frame the crown emits in a tick (R356, R357): the marker stands as the code octets of K28.5 and K28.1. -/
def Dev.emitFrame (d : Dev) : Dev :=
  let t := d.sy.tick.count
  let (aux, c) := d.ln.chn.fillAux t
  let f := [0xBC, 0x3C] ++ leBytes 4 t ++ leBytes 1 (4 * b2n c.gridStep) ++ leBytes 1 c.count ++ d.crownBlk.bytes ++
    d.otherBlk.bytes ++ d.ownSlot.bytes ++ List.replicate 165 0 ++ aux ++ [0, 0]
  d.modChn fun _ => { c with outFrame := sealFrame f, gridStep := false }

/-! ### The follower (R91, R93, R357, R359) -/

/-- Ticks from the one in which a block acts to the next cycle start of the crown's lead (R93, R356): PHASE counts from the tick two
before, and the lead's cycles follow at PERIOD. -/
def CrownBlk.ticksToCycle (b : CrownBlk) : Nat :=
  let next := if b.period = 0 then b.phaseSt else b.phaseSt + b.period * ceilDiv (160000 - b.phaseSt) b.period
  ceilDiv (next - 160000) 80000

/-- The members that a follower has active (R92, R93, R229, R356): those that the crown's levers leave it from the switch tick on,
the highest in SHED; what is in SHED beside them is recalled at the next cycle start of the crown's lead, which its block names:
in the first tick at or after it. -/
def Dev.recallDue (d : Dev) (m : Nat) (b : CrownBlk) : Dev :=
  let x := d.mitten m
  let on := (d.active m).length
  let goal := x.keep.getD (on + (d.phasesIn m .shed).length)
  if goal < on then (if x.switchTick ≤ d.sy.tick.count then d.setActive m goal else d)
  else if goal = on ∨ (d.phasesIn m .shed).isEmpty then d.modMit m fun y => { y with recallAt := none }
  else
    let t := x.recallAt.getD (d.sy.tick.count + b.ticksToCycle)
    if t ≤ d.sy.tick.count then (d.modMit m fun y => { y with recallAt := none }).setActive m goal
    else d.modMit m fun y => { y with recallAt := some t }

/-- What a follower takes from the crown's block of its shared mitten (R91, R357): outside PART its members go to SHED; else
direction, mode, period and target, and members in SHED are recalled (R93). Its own protections compare with the voltage it would
itself regulate to (R91). -/
def Dev.applyBlk (d : Dev) (m : Nat) (b : CrownBlk) : Dev :=
  if !b.part.getLsbD d.ln.chn.pos then d.shedMembers m
  else
    let rev := b.flags % 2 == 1
    let d := d.modMit m fun x => { x with rev := rev }
    let q := (d.goal m).getD (d.idleGoal m)
    let d := d.modMit m fun x =>
      let y := { x with vSet := q.vSet, iSet := q.ceil, nTotal := b.nTotal, lim := b.limiter, pub := b.target,
                        fsbb := bits b.flags 1 2, syncP := if b.period = 0 then none else some b.period }
      { y with iCmd := b.target * (max 1 (if (d.mitE m).fsbb then b.nTotal / 2 else b.nTotal) : Nat) }
    let d := if (d.mitten m).looping && !b.flags.testBit 3 then d.recallDue m b else d
    d.each (d.active m) fun p e => e.modPh p fun x => { x with targetNext := b.target, revSw := rev }

/-- The difference of a follower's sense from the crown's, more than 2 % of V_SET (R91); no field carries the crown's sense
(free, log 6). -/
def Dev.senseCompare (d : Dev) (m : Nat) : Dev :=
  match d.goal m with
  | none => d.modMit m fun x => { x with senseBad := false }
  | some g =>
    let v := d.endV (if g.rev then (d.mitE m).fromNode else (d.mitE m).toNode)
    let bad := decide (g.vSet < 50 * ((v - Config.freeCrownSense d.freeIx).natAbs : Int))
    (d.modMit m fun x => { x with senseBad := x.senseBad && bad }).tickFree

/-- The follower's chain work of a tick. -/
def Dev.followerTick (d : Dev) : Dev :=
  let want := (d.sy.tick.count + d.ln.chn.off + 4294967294) % 4294967296
  let f := d.ln.chn.rx.find? fun f => f.tick == want
  let d := d.chainLatch
  match d.sharedMit with
  | none => d.chainLimp fun _ => false
  | some m =>
    let blk := f.bind fun f => f.blocks.find? fun b => b.mit == m
    let d := d.modMit m fun x => { x with noSet := if blk.isSome then 0 else satInc 2 x.noSet }
    let d := match blk with
      | some b => (d.applyBlk m b).chainLimp b.part.getLsbD
      | none => d
    d.senseCompare m

/-! ### A frame arrives (R356-R360) -/

/-- A discarded frame (R360): counted; a crown whose frame carried INTERLEAVE repeats it with a SWITCH_TICK two ticks later
(R364). -/
def Dev.dropFrame (d : Dev) : Dev :=
  let d := d.modChn fun c => { c with frameErr := satInc 65535 c.frameErr }
  let c := d.ln.chn
  if c.role = 1 ∧ byteAt c.auxPrev 0 = 1 then
    let m := byteAt c.auxPrev 1
    (d.modMit m fun x => { x with switchTick := x.switchTick + 2, respread := true }).modChn fun c =>
      { c with outMsg := putBytes c.auxPrev 3 (leBytes 2 ((d.mitten m).switchTick + 2)) :: c.outMsg }
  else if c.role = 2 then d.modChn fun c => { c with outFrame := [] }
  else d

/-- The frame a follower forwards (R354, R356, R358): its own slot, its message in an empty AUX field, the CRC. -/
def Dev.forwardFrame (d : Dev) (f : List Byte) (tick : Nat) : Dev :=
  let f := putBytes f (40 + 11 * d.ln.chn.pos) d.ownSlot.bytes
  if byteAt f 216 = 0 then
    let (aux, c) := d.ln.chn.fillAux tick
    d.modChn fun _ => { c with outFrame := sealFrame (putBytes f 216 aux) }
  else d.modChn fun c => { c with outFrame := sealFrame f }

/-- A follower hears the marker of a frame, whatever the rest of the frame is worth (R360). -/
def Dev.hearMarker (d : Dev) (f : List Byte) : Dev :=
  d.when (d.ln.chn.role == 2 && f.take 2 == [0xBC, 0x3C]) fun e => e.modChn fun c => { c with quiet := 0 }

/-- What acts in the tick of a frame's arrival on a follower: the tick numbering, the crown's boundaries, STOP, which drives every
member low and leaves it ACTIVE (R69, R85), a grid step, and the place of the follower's tick, which is the arrival of the marker
less its compensation (R219, R356, R357, R359). -/
def Dev.arriveFrame (d : Dev) (f : List Byte) (r : RxFrame) : Dev :=
  let due (i : Nat) : List Nat := if (byteAt f 6).testBit i then [d.now] else []
  let d := d.modChn fun c => { c with off := (r.tick + 4294967296 - d.sy.tick.count % 4294967296) % 4294967296,
                                      dueC := c.dueC ++ due 0, dueP := c.dueP ++ due 1 }
  let d := match d.sharedMit with
    | some m =>
      let stop := r.blocks.any fun b => b.mit == m && b.flags.testBit 3
      (d.modMit m fun x => { x with stopBlk := stop }).when stop fun e => e.each (e.mitE m).members fun p c => c.modPh p Phase.low
    | none => d
  let d := match r.side.arrived with
    | some a => d.onSy fun s => { s with tick := { s.tick with
        last := ((s.tick.last : Int) + roundDiv (a - d.ln.chn.dly) 1000).toNat } }
    | none => d
  d.when ((byteAt f 6).testBit 2) fun e => e.stepGrid

/-- CHAIN_FRAME (R356, R357, R360): a frame received whole, with what came beside it. A bad one is discarded and counted, in
ISOLATED too. A message in its AUX field has a row of its own. -/
def execChainFrame (frame : List Byte) (codeErr : Bool) (s : State) (side : ChainSide := {}) : Host.Outcome State Fault Refusal :=
  s.onDev fun d =>
    let bad := codeErr || frame.length != 250 || sealFrame frame != frame
    if d.ln.chn.st = .isolated ∧ bad then d.modChn fun c => { c with frameErr := satInc 65535 c.frameErr }
    else if d.ln.chn.st ≠ .formed then d
    else if bad then (d.hearMarker frame).dropFrame
    else
      let r : RxFrame := { tick := leAt frame 2 4, blocks := (List.range 2).map fun i => parseBlk (frame.drop (8 + 16 * i)),
                           slots := (List.range 16).map fun p => parseSlot (frame.drop (40 + 11 * p)), side := side }
      let d := d.modChn fun c => { c with rx := (r :: c.rx).take 3, quiet := 0 }
      if d.ln.chn.role = 2 then (d.arriveFrame frame r).forwardFrame frame r.tick else d

/-! ### Formation and loss (R355, R359, R360, R363) -/

/-- The power states in which the chain is up (R361). -/
def Dev.chainUp (d : Dev) : Bool := d.sy.power == .liner || d.inRun || d.sy.power == .sleep

/-- A write of CHN_CTRL (R355, R363): a SYNC_MODE of 3 or a reserved bit makes the value invalid (R439); EN = 1 starts training
where the chain may be up (R361), EN = 0 takes the port down. -/
def Dev.writeChnCtrl (d : Dev) (v : Word) : Dev :=
  if fld v 11 21 ≠ 0 ∨ fld v 9 2 = 3 then d.accessError 3 0 0x3000 evSetupValueInvalid (d2 0x3000)
  else
    let was := bit d.ln.chn.ctrl 0
    let d := d.modChn fun c => { c with ctrl := v }
    let d := if fld v 9 2 = 2 then d else (d.modChn fun c => { c with syncLock := false, syncBad := 0, syncGood := 0 }).offset evSyncLost 0
    if bit v 0 && !was && d.chainUp then d.modChn fun c => { c with st := .training }
    else if !bit v 0 then d.leaveChain
    else d

/-- CHAIN_ENABLE (R355). -/
def execChainEnable (val : Word) (s : State) : Host.Outcome State Fault Refusal := s.onDev fun d => d.writeChnCtrl val

/-- CHAIN_SYMBOL_LOCK (R355). -/
def execChainSymbolLock (s : State) : Host.Outcome State Fault Refusal :=
  s.onDev fun d => d.modChn fun c => if c.st = .training then { c with st := .electing } else c

/-- The compensation D in ps (R359). -/
def chainDelay (cable loopNs pos count : Nat) : Nat :=
  if cable = 0 then 200000 * pos + (loopNs * 1000 - 200000 * count) * pos / max 1 count else (200 + cable) * 1000 * pos

/-- The key of this device: CROWN_PRIO x 16 + ID (R355, R363). -/
def Chain.key (c : Chain) : Nat := 16 * fld c.ctrl 5 4 + fld c.ctrl 1 4

/-- Whether an election may have ended so (R355): the device with the lowest key is the crown at position 0, and the others stand
at positions 1 to COUNT - 1. -/
def Chain.elects (c : Chain) (f : Formation) : Bool :=
  let own := fld c.ctrl 1 4
  decide (f.position < f.count) && decide (f.count ≤ 16) &&
  (if f.position = 0 then f.crownId == own && f.keys.all (c.key < ·)
   else f.crownId != own && (f.keys.isEmpty || f.keys.any fun k => decide (k < c.key) && k % 16 == f.crownId && f.keys.all (k ≤ ·)))

/-- CHAIN_FORMED (R355, R359, R360): an ID conflict or a loop above 8 µs leaves the device in ELECTING; a new crown makes it step
its grid. -/
def execChainFormed (form : Formation) (s : State) : Host.Outcome State Fault Refusal :=
  s.onDev fun d =>
    let c := d.ln.chn
    if c.st = .off ∨ c.st = .training then d
    else if form.conflict || form.keys.any (· % 16 == fld c.ctrl 1 4) then
      (d.modChn fun c => { c with st := .electing, role := 0 }).raise evChainIdConflict none []
    else if 8000 < form.loopNs then
      (d.modChn fun c => { c with st := .electing, role := 0, loopNs := form.loopNs }).raise evChainLoopTooLong none []
    else if !c.elects form then d
    else
      let changed := c.known && c.crownId != form.crownId
      let role := if form.position = 0 then 1 else 2
      let d := d.modChn fun c =>
        { c with st := .formed, role := role, pos := form.position, count := form.count, crownId := form.crownId,
                 loopNs := form.loopNs, formed := satInc 255 c.formed, lost := false, known := true, quiet := 0, rx := [], off := 0,
                 dueC := [], dueP := [],
                 slots := List.replicate 16 {}, side := {}, bases := [], serv := [], servTill := 0, shedTo := none, limpers := 0, aux := [], auxPrev := [], outFrame := [],
                 dly := chainDelay c.cable form.loopNs form.position form.count }
      let d := d.each (List.range 16) fun m e => if (e.mitE m).shared then e.modMit m fun x =>
        { x with nTotal := (e.active m).length, baseIx := 0, keep := none, stopBlk := false, peerT := none, peerB := none, peerL := none } else e
      let d := (d.offset evChainLost 0).raise evChainFormed none (d2 form.count ++ d2 form.crownId)
      d.when changed fun e => (e.stepGrid).raise evCrownChanged none []

/-- CHAIN_LOST (R360): after two ticks without a marker, or without a frame back, a follower becomes ISOLATED and runs on alone; a
crown clears PART but for itself. -/
def execChainLost (s : State) : Host.Outcome State Fault Refusal :=
  s.onDev fun d =>
    if d.ln.chn.st ≠ .formed ∨ d.ln.chn.lost ∨ d.ln.chn.quiet < 2 then d
    else
      let d := d.modChn fun c =>
        { c with st := if c.role = 2 then .isolated else c.st, lost := true, losses := satInc 255 c.losses, rx := [],
                 dueC := [], dueP := [],
                 slots := c.slots.map fun s => { s with missed := 2 } }
      (d.onset evChainLost 0 none []).when (d.ln.chn.role == 2) fun e => e.rebaseGrid

/-- The reports with those of present devices counted again. -/
def Chain.readmit (c : Chain) (present : BitVec 16) : List Slot :=
  (List.range 16).map fun p =>
    let s := c.slots.getD p {}
    { s with missed := if present.getLsbD p then 0 else s.missed }

/-- CHAIN_FRAMES_RETURN (R93, R360): the crown re-admits each device that is present; a follower re-locks and steps its grid. -/
def execChainFramesReturn (present : BitVec 16) (s : State) : Host.Outcome State Fault Refusal :=
  s.onDev fun d =>
    if !d.ln.chn.lost then d
    else
      let d := (d.modChn fun c => { c with lost := false, quiet := 0 }).offset evChainLost 0
      if d.ln.chn.role = 2 then (d.modChn fun c => { c with st := .formed }).stepGrid
      else d.modChn fun c => { c with slots := c.readmit present }

/-! ### Messages (R92, R358) -/

/-- CHAIN_INTERLEAVE (R92, R358): a follower's new total, base and switch tick, in its own tick numbering. A total below the first
index after its own phases leaves it only those below the total (R229; DESIGN CHOICE, log 85). -/
def execChainInterleave (msg : List Byte) (s : State) : Host.Outcome State Fault Refusal :=
  s.onDev fun d =>
    let m := byteAt msg 1
    let c := d.ln.chn
    if !c.follows || !((d.mitE m).used && (d.mitE m).shared) || byteAt msg 0 != 1 then d
    else
      let ahead := s16 ((leAt msg 3 2 + 65536 - (d.sy.tick.count + c.off) % 65536) % 65536)
      let total := byteAt msg 2
      let base := byteAt msg (5 + c.pos)
      let cut := c.pos < 15 && decide (total < byteAt msg (6 + c.pos))
      d.modMit m fun x => { x with nTotal := total, baseIx := base, keep := if cut then some (total - base) else none,
                                   switchTick := ((d.sy.tick.count : Int) + ahead).toNat, respread := true }

/-- CHAIN_ORDER (R358, R361): a follower acts at the named tick. -/
def execChainOrder (msg : List Byte) (s : State) : Host.Outcome State Fault Refusal :=
  s.onDev fun d =>
    let k := byteAt msg 1
    if d.ln.chn.follows && byteAt msg 0 == 2 && decide (1 ≤ k) && decide (k ≤ 4) then
      d.modChn fun c => { c with orderKind := k, orderTick := leAt msg 2 2 }
    else d

/-- At its tick an order takes effect: an entry is due at once, or the device wakes to RUN (R358, R361, R386). -/
def Dev.orderTick (d : Dev) : Dev :=
  let c := d.ln.chn
  if c.orderKind = 0 ∨ (d.sy.tick.count + c.off) % 65536 ≠ c.orderTick then d
  else
    let d := d.modChn fun c => { c with orderKind := 0 }
    if c.orderKind = 4 then d.wakeSleep 5 else d.onSy fun s => { s with order := some (orderOf c.orderKind) }

/-- CHAIN_CONFIG_CHECK (R90, R358): a device whose items differ raises SHARED_MISMATCH, and its phases of the mitten stay IDLE. -/
def execChainConfigCheck (msg : List Byte) (s : State) : Host.Outcome State Fault Refusal :=
  s.onDev fun d =>
    let m := byteAt msg 1
    if !d.ln.chn.follows || byteAt msg 0 != 3 || !((d.mitE m).used && (d.mitE m).shared) then d
    else if leAt msg 2 8 = (d.sharedHash m).toNat then d.modMit m fun x => { x with mismatch := false }
    else
      let d := if (d.mitten m).running && (d.mitten m).st != .faulted then d.stopMit m else d
      (d.modMit m fun x => { x with mismatch := true }).raise evSharedMismatch (some m) []

/-- CHAIN_EVENT (R231, R358): the crown raises and re-sends a follower's event that names a shared mitten, LIMP or a chain role;
every device notes who is in LIMP. -/
def execChainEvent (msg : List Byte) (s : State) : Host.Outcome State Fault Refusal :=
  s.onDev fun d =>
    let o := byteAt msg 1
    let ev := byteAt msg 2
    let inst := if byteAt msg 3 = 0xFF then none else some (byteAt msg 3)
    if d.ln.chn.st ≠ .formed ∨ byteAt msg 0 ≠ 4 ∨ o = d.ln.chn.pos ∨ 16 ≤ o then d
    else
      let d := d.modChn fun c => { c with limpers := if ev = evLimpEntered then c.limpers ||| (1#16 <<< o)
                                                     else if ev = evLimpLeft then c.limpers &&& ~~~(1#16 <<< o) else c.limpers }
      if d.ln.chn.role = 1 then (d.when (d.chainEvent ev inst) fun e => e.raiseHere ev inst ((msg.drop 4).take 8)).chainSend msg
      else d

/-! ### Relayed updates (R358, R422) -/

/-- A relayed item that fails its checks: counted and raised with the check or piece number. -/
def Dev.relayReject (d : Dev) (n : Nat) : Dev :=
  (d.modUpd fun u => { u with relayRej := satInc 65535 u.relayRej }).raise evUpdateRelayRejected none (d2 n)

/-- Whether a chunk comes from the upstream neighbour (R358): a device writes chunks only into frames whose TICK mod COUNT is its
position, and the message stands in the frame received last. -/
def Chain.fromUpstream (c : Chain) : Bool :=
  match c.rx.head? with
  | some f => f.tick % max 1 c.count == (c.pos + c.count - 1) % max 1 c.count
  | none => false

/-- Whether the power state permits the reception of an update over the chain (R234). -/
def Dev.receives (d : Dev) : Bool := d.inRun || d.sy.power == .sleep

/-- MANIFEST_CHUNK (R358, R422): a whole manifest is taken as by UPDATE_MANIFEST. While an activation proceeds, chunks are
ignored (DEDUCED, log 76). -/
def execManifestChunk (msg : List Byte) (s : State) : Host.Outcome State Fault Refusal :=
  s.onBoth fun d n =>
    let off := leAt msg 2 2
    if d.ln.chn.st ≠ .formed ∨ !d.ln.chn.fromUpstream ∨ byteAt msg 0 ≠ 5 ∨ n.upd = .activating ∨ !d.receives then (d, n)
    else
      let d := d.modChn fun c => { c with man := addChunk off (msg.drop 4) (if off = 0 then [] else c.man) }
      let l := d.ln.chn.man
      match (manifestUnits l).bind fun k => wholeItem k l with
      | none => (d, n)
      | some b =>
        let d := d.modChn fun c => { c with man := [] }
        match d.takeManifest n (byteAt msg 1) b with
        | .error c => (d.relayReject c, n)
        | .ok (e, n, _) => (e, n)

/-- A piece that the chain has assembled goes to the update process (R416, R422), in a late frame not yet (R216, R235). -/
def Dev.chainPiece (d : Dev) (n : Nv) (origin p : Nat) (b : List Byte) (readOk : Bool) : Dev × Nv :=
  if !d.onTime then
    (d.onSy fun y => { y with pieceQ := y.pieceQ ++ [{ chain := true, origin := origin, num := p, bytes := b, readOk := readOk }] }, n)
  else
    let r := d.takePiece n origin p b readOk
    match r.2.2 with
    | .bad => (r.1.relayReject p, r.2.1)
    | _ => (r.1, r.2.1)

/-- PIECE_CHUNK (R358, R416, R422): a whole piece is taken as by UPDATE_PIECE; in LINER no piece is received (R234). -/
def execPieceChunk (msg : List Byte) (readOk : Bool) (s : State) : Host.Outcome State Fault Refusal :=
  s.onBoth fun d n =>
    let p := leAt msg 2 2
    let off := byteAt msg 4
    if d.ln.chn.st ≠ .formed ∨ !d.ln.chn.fromUpstream ∨ byteAt msg 0 ≠ 6 ∨ n.upd = .activating ∨ !d.receives then (d, n)
    else
      let d := d.modChn fun c => { c with piece := some p, chunks := addChunk off (msg.drop 5) (if c.piece = some p then c.chunks else []) }
      match wholeItem 256 d.ln.chn.chunks with
      | none => (d, n)
      | some b =>
        let d := d.modChn fun c => { c with piece := none, chunks := [] }
        d.chainPiece n (byteAt msg 1) p b readOk

/-! ### SYNC (R362) -/

/-- Whether an edge is good (R362): its period within 1 ms ± 0.1 %, and no more than 2 µs from its predicted time, in ns. -/
def syncGoodEdge (period : Nat) (off : Int) : Bool :=
  decide (999000 ≤ period) && decide (period ≤ 1001000) && decide (off.natAbs ≤ 2000)

/-- SYNC_EDGE (R362): a rising edge, ns after the last and from its predicted time, of a pulse `width` ns wide; in input mode, and
only on the crown of a formed chain. Three bad edges in a row end the lock, eight good ones lock the grid; SYNC_RELOCKED follows a
loss. -/
def execSyncEdge (period : Nat) (off : Int) (s : State) (width : Nat := 0) : Host.Outcome State Fault Refusal :=
  s.onDev fun d =>
    let c := d.ln.chn
    let good := syncGoodEdge period off
    let wide := decide (2000 < width)
    if fld c.ctrl 9 2 ≠ 2 ∨ !d.sy.ticking ∨ (c.st = .formed ∧ c.role ≠ 1) then d
    else if good then
      let d := d.modChn fun c => { c with syncBad := 0, syncGood := satInc 8 c.syncGood }
      if c.syncLock then
        let d := d.modChn fun c => { c with edgeAt := d.now, syncPer := period }
        d.onSy fun y => { y with
          tick := y.tick.lockTo 0 d.now, cframe := y.cframe.lockTo 1 d.now
          pframe := if wide then y.pframe.lockTo 2 d.now else y.pframe }
      else if 8 ≤ d.ln.chn.syncGood then
        let was := d.ho.glb.evcond.contains (condKey evSyncLost 0)
        let d := ((d.modChn fun c => { c with syncLock := true, edgeAt := d.now, syncPer := period }).offset evSyncLost 0).stepGrid
        d.when was fun e => e.raise evSyncRelocked none []
      else d
    else
      let d := d.modChn fun c => { c with syncGood := 0, syncBad := satInc 3 c.syncBad }
      if c.syncLock ∧ 3 ≤ d.ln.chn.syncBad then
        ((d.modChn fun c => { c with syncLock := false }).onset evSyncLost 0 none []).rebaseGrid
      else d

end Sys2Proof.Machine
end

