-- ==== Sys2Proof/Machine/PolicyFrame.lean ====
section
/-! DEFINITION. The policy-frame boundary (R211) with the class D work that a late frame deferred (R216, R235). -/

namespace Sys2Proof.Machine

/-- A deferred piece is taken as it would have been when it arrived (R216, R343, R422). While an activation proceeds a piece of
the chain is ignored (DEDUCED, log 76). -/
def Dev.latePiece (d : Dev) (n : Nv) (x : LatePiece) : Dev × Nv :=
  if !x.chain then d.hbPiece n x.num x.bytes x.readOk
  else if n.upd = .activating then (d, n)
  else d.chainPiece n x.origin x.num x.bytes x.readOk

/-- The deferred pieces, oldest first, in frames without lag. -/
def Dev.latePieces (d : Dev) (n : Nv) : Dev × Nv :=
  if !d.onTime then (d, n)
  else (d.sy.pieceQ).foldl (fun a x => a.1.latePiece a.2 x) (d.onSy fun y => { y with pieceQ := [] }, n)

/-- POLICY_FRAME_BOUNDARY (R211): it falls on a charge frame; arbitration, levers, ageing, brim, motion, and deferred pieces.
`meas` are the ageing measurements of the frame (R251), and `late` says that the plan of a shortened frame leaves its class B work
out (R216; DESIGN CHOICE, log 160). -/
def execPolicyFrameBoundary (meas : List AgeMeas) (s : State) (late : Bool := false) : Host.Outcome State Fault Refusal :=
  s.onBoth fun d n =>
    let may := d.sy.ticking && !d.sy.takeover && d.sy.cframe.last == d.now && d.mayFall 2 d.now
    if !may then (d, n) else (d.policyFrame meas late).latePieces n

end Sys2Proof.Machine
end

