-- ==== Sys2Proof/Machine/Flags.lean ====
section
/-! DEFINITION. The words that the set-up registers read: status, flags and counters computed from the state (R178, R195,
R201, R220, R247, R293, R319, R324, R347, R348, R353, R363, R378, R406, R418, R429, R441, R444, R445). -/

namespace Sys2Proof.Machine

/-! ### GLB, HIF, PWR -/

/-- GLB_EVSTATj (R441, R447). -/
def Glb.evstatWord (g : Glb) (j : Nat) : Word :=
  wd (g.evstat.foldl (fun a e => if e / 32 = j then a + 2 ^ (e % 32) else a) 0)

/-- The GLB registers (R440, R441). -/
def Dev.glbWord (d : Dev) (n : Nv) (off : Nat) : Option Word :=
  let g := d.ho.glb
  if off = 0x00 then some (wd (0x9640 + 65536 * Config.siliconRev))
  else if off = 0x04 then some (wd (n.runRel % 16777216))
  else if off = 0x08 then some (wd (g.behav % 256 + 256 * (g.inForce % 256) + 65536 * (n.runBeh % 256) + 16777216 * b2n g.locked))
  else if off = 0x10 then some g.accLog
  else if off = 0x14 then some (wd g.accCnt)
  else if off = 0x20 then some g.auxMode0
  else if off = 0x24 then some g.auxMode1
  else if off = 0x28 then some (g.maskAux g.auxIn)
  else if off = 0x2C then some g.auxOut
  else if 0x40 ≤ off ∧ off < 0x60 then some (g.evstatWord ((off - 0x40) / 4))
  else if 0x100 ≤ off ∧ off < 0x200 then some (g.evvec.getD ((off - 0x100) / 4) 0)
  else none

/-- READY: the ring engine fetches in this power state (R291, R293). -/
def Dev.ready (d : Dev) : Bool := d.inRun || d.sy.power == .sleep

/-- HIF_STATUS (R293). -/
def Dev.hifStatus (d : Dev) : Word :=
  wd (b2n d.qspiMode + 2 * b2n d.ready + 4 * d.ho.hif.link + 65536 * (d.ho.rings.filter fun p => p.2.st == .active).length)

/-- The HIF registers (R293). -/
def Dev.hifWord (d : Dev) (off : Nat) : Option Word :=
  let h := d.ho.hif
  if off = 0x400 then some (wd (b2n h.enable + 2 * b2n h.intnEn))
  else if off = 0x404 then some d.hifStatus
  else if off = 0x408 then some h.asqLo
  else if off = 0x40C then some h.asqHi
  else if off = 0x410 then some h.acqLo
  else if off = 0x414 then some h.acqHi
  else if off = 0x418 then some h.acfg
  else if off = 0x41C then some (wd ((4000 - d.generalHeld) + 65536 * d.ho.tags.length))
  else if off = 0x420 then some h.pendLo
  else if off = 0x424 then some h.pendHi
  else none

/-- PWR_STATUS (R406). -/
def Dev.pwrStatus (d : Dev) (n : Nv) : Word :=
  let s := d.sy
  wd (s.power.ctorIdx + 8 * s.startKind.ctorIdx + 32 * b2n s.liner.runs + 64 * s.activeSup + 256 * b2n s.standbyOk +
      512 * b2n s.holdOn + 1024 * s.slot + 2048 * (n.bootFails % 8))

/-- The PWR registers (R406). -/
def Dev.pwrWord (d : Dev) (n : Nv) (off : Nat) : Option Word :=
  let s := d.sy
  if off = 0x800 then some (d.pwrStatus n)
  else if off = 0x804 then some (s.straps.setWidth 32)
  else if off = 0x808 then some (wd (s.wakeCause + 16 * s.wakeSrc))
  else if off = 0x80C then some (wd (s.warmStarts + 256 * s.takeovers + 65536 * s.lastTake))
  else if off = 0x810 then some (s.domains.setWidth 32)
  else none

/-! ### WDT, TMR, motion -/

/-- The WDT registers (R378). -/
def Dev.wdtWord (d : Dev) (off : Nat) : Option Word :=
  let w := d.sy.wdt
  if off = 0xC00 then some (wd (b2n w.en + 2 * b2n w.clkSel + 65536 * w.period))
  else if off = 0xC04 then some 0
  else if off = 0xC08 then some (wd (Config.wdtWindow + 4 * b2n w.opened + 8 * b2n w.heldCnt + 16 * w.lastCause +
    128 * b2n d.sy.time.aonRc + 256 * w.elapsed))
  else if off = 0xC0C then some (wd w.resets)
  else none

/-- TMRt_STATUS (R378). -/
def Timer.statusWord (x : Timer) : Word :=
  wd (b2n x.run + 2 * x.hits + 8 * b2n x.cmpFlag + 16 * b2n x.endFlag + 32 * b2n x.capVal + 64 * b2n x.capOvr)

/-- The TMR registers (R378). -/
def Dev.tmrWord (d : Dev) (off : Nat) : Option Word :=
  if off < 0x1200 then
    let x := d.timer ((off - 0x1000) / 32)
    match (off % 32) / 4 with
    | 0 => some x.ctrl
    | 1 => some x.mode
    | 2 => some x.count
    | 3 => some x.cmp
    | 4 => some x.top
    | 5 => some x.cap
    | 6 => some x.statusWord
    | _ => none
  else if off = 0x1200 then some d.sy.motion.ctl
  else if off = 0x1204 then some d.sy.motion.thr
  else if off = 0x1208 then
    some (wd (b2n d.sy.motion.moving + 2 * b2n d.pw.moving + 65536 * min 65535 d.sy.motion.pulses))
  else none

/-! ### MBX and LCK as the host sees them -/

/-- The MBX and LCK registers in the host set-up window: no side effect; the host is not secure, so secure mailboxes and
locks read 0 (R317-R319, R324). -/
def Dev.mbxWord (d : Dev) (off : Nat) : Option Word :=
  if off < 0x1800 then
    let n := (off - 0x1400) / 16
    let x := d.sy.mbx.getD n {}
    if n < 16 then some 0
    else match (off % 16) / 4 with
      | 2 => some (if x.full then x.ptr else 0)
      | 3 => some (x.statusWord n)
      | _ => some 0
  else if off < 0x1A00 then
    let n := (off - 0x1800) / 8
    let x := d.sy.lck.getD n {}
    if n < 8 then some 0 else some (if off % 8 = 0 then wd x.owner else x.statusWord)
  else if off = 0x1A00 then some (wd (d.sy.lckOrder + 65536 * d.sy.lckBroken))
  else none

/-! ### Side links -/

/-- The two-wire registers (R347, R348). -/
def Dev.twoWireWord (d : Dev) (off : Nat) : Option Word :=
  if off < 0x2080 then
    let t := d.twtOf ((off - 0x2000) / 64)
    match (off % 64) / 4 with
    | 0 => some t.addr
    | 1 => some t.timing
    | 2 => some t.hb
    | 3 => some (wd (t.nackBusy + 256 * t.stretch + 65536 * t.reqs + 16777216 * t.reqTo))
    | _ => none
  else if off < 0x20A0 then some (d.ln.hb.evMask.getD ((off - 0x2080) / 4) 0)
  else if 0x2100 ≤ off ∧ off < 0x2180 then
    let t := d.twcOf ((off - 0x2100) / 32)
    let r := (off % 32) / 4
    if r < 5 then some (t.regs.getD r 0)
    else if r = 5 then some (wd (t.arbLost + 256 * t.arbCond + 65536 * t.nack + 16777216 * t.timeout))
    else none
  else none

/-- The CAN registers (R353). -/
def Dev.canWord (d : Dev) (off : Nat) : Option Word :=
  if 0x2880 ≤ off then none
  else
    let c := d.canOf ((off - 0x2800) / 64)
    match (off % 64) / 4 with
    | 0 => some c.ctrl
    | 1 => some c.nbt
    | 2 => some c.dbt
    | 3 => some c.txid
    | 4 => some (wd (c.tec + 256 * c.rxErr + 65536 * c.st + 16777216 * c.short))
    | _ => none

/-- The CHN registers (R363). -/
def Dev.chnWord (d : Dev) (off : Nat) : Option Word :=
  let c := d.ln.chn
  if off = 0x3000 then some c.ctrl
  else if off = 0x3004 then some (wd (c.st.ctorIdx + 8 * c.role + 32 * c.pos + 512 * c.count + 16384 * c.crownId + 262144 * b2n c.syncLock))
  else if off = 0x3008 then some (wd (min 65535 c.loopNs + 65536 * c.cable))
  else if off = 0x300C then some (wd (c.frameErr + 65536 * c.losses + 16777216 * c.formed))
  else none

/-! ### Measurement -/

/-- The MU registers (R178). REF_DEV stops at the ends of its signed field (DESIGN CHOICE, log 187). -/
def Dev.muWord (d : Dev) (off : Nat) : Option Word :=
  let r := d.ms.ref
  if off = 0x3400 then some (wd (b2n r.bufEn))
  else if off = 0x3404 then
    some (wd (b2n r.settled + 2 * b2n r.suspect + 4 * b2n r.fault + 8 * b2n r.timeout + 65536 * enc 2 (clampI (-32768) 32767 r.dev)))
  else if off = 0x3408 then some (r.pairEn.setWidth 32)
  else if 0x3410 ≤ off ∧ off < 0x3450 then
    let u := d.unit ((off - 0x3410) / 4)
    let ok := (List.range 4).foldl (fun a i => if u.sliceOk.getD i true then a + 8 * 2 ^ i else a) 0
    some (wd (u.corr.ctorIdx + ok + 128 * b2n u.active + 256 * u.dropped + 65536 * u.late + 16777216 * u.skips))
  else if 0x3450 ≤ off ∧ off < 0x3490 then
    let u := d.unit ((off - 0x3450) / 4)
    some (wd (u.owner + 128 * b2n u.leased))
  else none

/-- What a reader's latch of an accumulator holds (R196). -/
def Dev.accHeld (d : Dev) (reader n : Nat) : Option AccLatch := d.ms.accL.find? fun l => l.reader == reader && l.acc == n

/-- SUM_LO as a reader sees it: the present low word, or what the read of its DEMOD mate latched (R196). -/
def Dev.accLow (d : Dev) (reader n : Nat) : Word :=
  match d.accHeld reader n with
  | some l => if l.byMate then l.lo else (d.accLatch reader n).lo
  | none => (d.accLatch reader n).lo

/-- The ACC registers for a reader: the other three read as latched, 0 before the first latch (R195, R196). -/
def Dev.accWord (d : Dev) (reader off : Nat) : Word :=
  let n := (off - 0x4000) / 16
  match (off % 16) / 4, d.accHeld reader n with
  | 0, _ => d.accLow reader n
  | 1, some l => l.hi
  | 2, some l => l.count
  | 3, some l => l.status
  | _, _ => 0

/-- The MMX registers for a reader; before the first latch the other three read their reset values (R201). -/
def Dev.mmxWord (d : Dev) (reader off : Nat) : Word :=
  let n := (off - 0x6000) / 16
  let l := d.ms.mmxL.find? fun l => l.reader == reader && l.mmx == n
  match (off % 16) / 4, l with
  | 0, _ => wd (enc 4 (d.ms.mmx.getD n {}).min)
  | 1, some l => l.max
  | 2, some l => l.minT
  | 3, some l => l.maxT
  | 1, none => 0x80000000
  | _, _ => 0

/-! ### Phases -/

/-- PHn_STATE (R444). -/
def Dev.phState (d : Dev) (p : Nat) : Word :=
  let x := d.phase p
  let m := d.pw.map.mitOf p
  let lead := match m with | some i => (d.mitten i).lead == some p | none => false
  wd (x.st.ctorIdx + 8 * x.range + 32 * b2n x.coarse + 64 * b2n x.clamped + 128 * b2n lead + 256 * m.getD 0 + 4096 * b2n m.isSome)

/-- The PH registers (R444): the set-up registers read as last written. -/
def Dev.phWord (d : Dev) (off : Nat) : Option Word :=
  let p := (off - 0x7000) / 64
  let x := d.phase p
  match (off % 64) / 4 with
  | 0 => some x.held.dt
  | 1 => some x.held.ocp
  | 2 => some x.held.prot
  | 3 => some x.held.t1
  | 4 => some x.held.t2
  | 5 => some x.held.t3
  | 6 => some (d.phState p)
  | 7 => some (wd (x.suppressed + 256 * x.skipped + 65536 * x.missed + 16777216 * x.ocTrips))
  | _ => none

/-! ### FRM, HLT, UPD, SEC -/

/-- FRM_STATUS (R220). -/
def Dev.frmStatus (d : Dev) : Word :=
  wd (b2n (d.sy.power == .limp) + 2 * d.sy.limpCause.toNat + 256 * d.pw.stage.st.ctorIdx + 1024 * d.pw.stage.step +
      65536 * d.sy.overruns + 16777216 * d.sy.limpCount)

/-- FRM_LAG (R220): 10 ns units, ticks and charge frames, rounded up. -/
def Dev.frmLag (d : Dev) : Word :=
  wd (min 65535 (d.sy.tick.lag / 10) + 65536 * min 255 (ceilDiv d.sy.cframe.lag 10000) +
      16777216 * min 255 (ceilDiv d.sy.pframe.lag 1000000))

/-- Whether an agent's unit is RETIRED (R247, R316). -/
def Dev.agentRetired (d : Dev) (a : Nat) : Bool :=
  if 1 ≤ a ∧ a ≤ 4 then d.sy.supRetired.getD (a - 1) false
  else if 6 ≤ a ∧ a < 18 then (d.source (a - 6)).st == .retired
  else if 18 ≤ a ∧ a < 34 then (d.string (a - 18)).st == .retired
  else if 34 ≤ a ∧ a < 98 then (d.phase (a - 34)).st == .retired
  else false

/-- Register i of a set of agents (R247). -/
def agentWord (i : Nat) (p : Nat → Bool) : Word :=
  wd ((List.range 32).foldl (fun a b => if p (32 * i + b) then a + 2 ^ b else a) 0)

/-- The FRM and HLT registers (R31, R220, R247). -/
def Dev.frmWord (d : Dev) (off : Nat) : Option Word :=
  if off = 0x8000 then some d.frmStatus
  else if off = 0x8004 then some d.frmLag
  else if off = 0x8008 + 4 * (Config.mapIdWord 0).val then some (wd d.pw.map.mapId)
  else if 0x8100 ≤ off ∧ off < 0x8110 then some (agentWord ((off - 0x8100) / 4) fun a => d.sy.stall.contains a)
  else if 0x8110 ≤ off ∧ off < 0x8120 then some (agentWord ((off - 0x8110) / 4) d.agentRetired)
  else if off = 0x8120 then some (wd (d.sy.stalls + 65536 * d.sy.revokes))
  else none

/-- Whether the active key slot is slot B (R424, R429). -/
def Nv.keyInB (n : Nv) : Bool := n.keyB.valid && !(n.keyA.valid && decide (n.keyB.gen ≤ n.keyA.gen))

/-- SEC_STATUS (R429). -/
def Nv.secStatus (n : Nv) : Word :=
  wd (b2n n.owned + 2 * b2n n.ownerLock + 4 * b2n n.keyInB + 8 * b2n n.erasePend + 65536 * (n.keyGen % 65536))

/-- The UPD and SEC registers (R418, R429). -/
def Dev.updWord (d : Dev) (n : Nv) (off : Nat) : Option Word :=
  let u := d.ln.upd
  if off = 0x8200 then some u.ctrl
  else if off = 0x8204 then some (wd (n.upd.ctorIdx + 4 * (1 - d.sy.slot) + 65536 * n.bitmap.length))
  else if off = 0x8208 then some (wd (u.rejects + 65536 * u.relayRej))
  else if off = 0x8300 then some n.secStatus
  else if off = 0x8304 then some (wd (u.ctxBusy.toNat + 256 * u.waiters))
  else if off = 0x8308 then some (wd u.authFails)
  else none

/-! ### The AON window (R445) -/

/-- The 16 bytes of a sense entry (R26). -/
def SenseEntry.bytes (e : SenseEntry) : List Byte :=
  leBytes 1 e.mode ++ leBytes 1 (b2n e.invert) ++ leBytes 1 e.unit ++ [0] ++ leBytes 4 (enc 4 e.fsEng) ++
  leBytes 4 (enc 4 e.offset) ++ [0, 0, 0, 0]

/-- The 48 bytes of a liner record (R391, R445). -/
def linerBytes (r : SenseEntry × SenseEntry × Nat) : List Byte :=
  let b := r.1.bytes ++ r.2.1.bytes ++ leBytes 4 r.2.2
  b ++ leBytes 4 (crc32 b).toNat ++ List.replicate 8 0

/-- The bytes of the AON window below the firmware's part; the marker and, without a liner record, its bytes have no given
value (free, log 6). -/
def Dev.aonWord (d : Dev) (off : Nat) : Word :=
  let t := d.sy.time
  let i := off - 0xF000
  if i < 8 then Config.freeValue (d.freeIx + i / 4)
  else if i < 0x10 then wd (t.te / 2 ^ (8 * (i - 8)))
  else if i < 0x18 then wd (t.ae % 281474976710656 / 2 ^ (8 * (i - 0x10)))
  else if i < 0x20 then wd (t.anchor / 2 ^ (8 * (i - 0x18)))
  else if i < 0x28 then wd (t.anchorT / 2 ^ (8 * (i - 0x20)))
  else if i < 0x2C then wd t.quality
  else if i < 0x30 then 0
  else if i < 0x60 then
    match d.sy.liner.record with
    | some r => wd (leAt (linerBytes r) (i - 0x30) 4)
    | none => Config.freeValue (d.freeIx + i / 4)
  else 0

/-! ### The set-up window -/

/-- The word at an aligned offset of BAR0; none where the offset is unmapped (R434, R435). Latches are those of the host
set-up window. -/
def Dev.regWord (d : Dev) (n : Nv) (off : Nat) : Option Word :=
  if off < 0x0400 then d.glbWord n off
  else if off < 0x0800 then d.hifWord off
  else if off < 0x0C00 then d.pwrWord n off
  else if off < 0x1000 then d.wdtWord off
  else if off < 0x1400 then d.tmrWord off
  else if off < 0x2000 then d.mbxWord off
  else if off < 0x2800 then d.twoWireWord off
  else if off < 0x3000 then d.canWord off
  else if off < 0x3400 then d.chnWord off
  else if off < 0x4000 then d.muWord off
  else if off < 0x6000 then some (d.accWord agHost off)
  else if off < 0x7000 then some (d.mmxWord agHost off)
  else if off < 0x8000 then d.phWord off
  else if off < 0x8200 then d.frmWord off
  else if off < 0x8400 then d.updWord n off
  else if off < 0xF000 then none
  else some (d.aonWord off)

/-! ### Read actions (R7, R437) -/

/-- What reading a whole tracker register does: MIN latches the other three (R201). -/
def Dev.mmxAct (d : Dev) (reader n : Nat) : Dev :=
  let x := d.ms.mmx.getD n {}
  let l : MmxLatch := { reader := reader, mmx := n, max := wd (enc 4 x.max), minT := wd x.minT, maxT := wd x.maxT }
  d.onMs fun m => { m with mmxL := l :: m.mmxL.filter (fun y => !(y.reader == reader && y.mmx == n)) }

/-- What reading a whole SUM_LO does (R196): it latches the accumulator, and with an even DEMOD accumulator its mate too; the read
that takes what the mate latched only uses that up (DEDUCED, log 158). -/
def Dev.accAct (d : Dev) (reader n : Nat) : Dev :=
  let a := d.ms.acc.getD n {}
  let used (l : AccLatch) : AccLatch := if l.reader = reader ∧ l.acc = n then { l with byMate := false } else l
  if (d.accHeld reader n).any (·.byMate) then d.onMs fun m => { m with accL := m.accL.map used }
  else
    let d := d.latchAcc reader n false
    if a.cfg.mode = .demod then d.latchAcc reader (n + 1) true else d

/-- RC fields clear, latches are taken, and a read of CAP clears CAP_VALID; LCK_COUNT keeps its value for the host (R318). -/
def Dev.readAct (d : Dev) (off : Nat) : Dev :=
  if off = 0x14 then d.modGlb fun g => { g with accCnt := 0 }
  else if off = 0x80C then d.onSy fun s => { s with warmStarts := 0, takeovers := 0 }
  else if 0x1000 ≤ off ∧ off < 0x1200 then
    (if off % 32 = 0x14 then d.modTmr ((off - 0x1000) / 32) fun x => { x with capVal := false } else d)
  else if off = 0x200C ∨ off = 0x204C then
    d.modTwt ((off - 0x2000) / 64) fun t => { t with nackBusy := 0, stretch := 0, reqs := 0, reqTo := 0 }
  else if 0x2100 ≤ off ∧ off < 0x2180 then
    (if off % 32 = 0x14 then d.modTwc ((off - 0x2100) / 32) fun t => { t with arbLost := 0, arbCond := 0, nack := 0, timeout := 0 } else d)
  else if off = 0x2810 ∨ off = 0x2850 then d.modCan ((off - 0x2800) / 64) fun c => { c with short := 0 }
  else if off = 0x300C then d.modChn fun c => { c with frameErr := 0, losses := 0, formed := 0 }
  else if 0x3410 ≤ off ∧ off < 0x3450 then d.modMu ((off - 0x3410) / 4) fun u => { u with dropped := 0, late := 0, skips := 0 }
  else if 0x4000 ≤ off ∧ off < 0x6000 then (if off % 16 = 0 then d.accAct agHost ((off - 0x4000) / 16) else d)
  else if 0x6000 ≤ off ∧ off < 0x7000 then (if off % 16 = 0 then d.mmxAct agHost ((off - 0x6000) / 16) else d)
  else if 0x7000 ≤ off ∧ off < 0x8000 then
    (if off % 64 = 0x1C then d.modPh ((off - 0x7000) / 64) fun x => { x with suppressed := 0, skipped := 0, missed := 0, ocTrips := 0 } else d)
  else if off = 0x8000 then d.onSy fun s => { s with overruns := 0, limpCount := 0 }
  else if off = 0x8120 then d.onSy fun s => { s with stalls := 0, revokes := 0 }
  else if off = 0x8208 then d.modUpd fun u => { u with rejects := 0, relayRej := 0 }
  else if off = 0x8308 then d.modUpd fun u => { u with authFails := 0 }
  else d

end Sys2Proof.Machine
end

