-- ==== Sys2Proof/Machine/Registers.lean ====
section
/-! DEFINITION. Reads and writes of the set-up window and BAR2 (R7, R48, R176, R262, R293, R346, R349, R434-R446), and the
meanings of their rows. -/

namespace Sys2Proof.Machine

/-! ### Writes of one register -/

/-- A value outside a field's range, or a non-zero reserved field: ignored, SETUP_VALUE_INVALID (R439). -/
def Dev.invalid (d : Dev) (off : Nat) : Dev := d.accessError 3 0 off evSetupValueInvalid (d2 off)

/-- The reserved bits of a TMR register (R378). -/
def tmrReserved (off : Nat) : Word :=
  if off < 0x1200 then
    (match (off % 32) / 4 with
     | 0 => 0xE0000000
     | 1 => 0xFFFFC000
     | 6 => 0xFFFFFF80
     | _ => 0)
  else if off = 0x1200 then 0xFFC00000
  else if off = 0x1208 then 0x0000FFFC
  else 0

/-- The reserved bits of a TWT, TWC or CAN register (R347, R348, R353). -/
def linkReserved (off : Nat) : Word :=
  if off < 0x2080 then
    (match (off % 64) / 4 with
     | 0 => 0x7F008080
     | 1 => 0xFFFFF000
     | 2 => 0xFFFFFFF8
     | _ => 0)
  else if off < 0x2800 then (if off % 32 = 0 ∧ 0x2100 ≤ off then 0xFFF000E0 else 0)
  else
    match (off % 64) / 4 with
    | 0 => 0xFF0000E0
    | 1 => 0xF8000000
    | 2 => 0xFC000000
    | 3 => 0xC0000000
    | 4 => 0x00FC0000
    | _ => 0

/-- The reserved bits of a PH register (R444). -/
def phReserved (off : Nat) : Word :=
  match (off % 64) / 4 with
  | 0 => 0xFC000000
  | 1 => 0x80000000
  | 2 => 0xC0800000
  | 3 => 0xFFFC00F8
  | 4 => 0xFFFC00F8
  | 5 => 0xFFFC00F8
  | 6 => 0xFFFFE000
  | _ => 0

/-- The reserved bits of the registers with an offset of their own. -/
def oneReserved : List (Nat × Word) :=
  [(0x0000, 0xFF000000), (0x0004, 0xFF000000), (0x0008, 0xFE000000), (0x0010, 0xFFF00000), (0x0014, 0xFFFF0000),
   (0x0400, 0xFFFFFFFC), (0x0404, 0xF800FF80), (0x0408, 0x0000003F), (0x0410, 0x0000003F), (0x0418, 0x0000C000),
   (0x041C, 0xE000F000), (0x0800, 0xFFFFC000), (0x0804, 0xFFFFF000), (0x0808, 0xFFFFFF00), (0x0810, 0xFF000000),
   (0x0C0C, 0x7FFF0000)] ++
  [(0x3000, 0xFFFFF800), (0x3004, 0xFFF80000), (0x3400, 0xFFFFFFFE), (0x3404, 0x0000FFF0), (0x3408, 0xFFFFFF00),
   (0x8000, 0x0000C0E0), (0x8200, 0x000000C0), (0x8204, 0xF800FFF8), (0x8300, 0x0000FFF0), (0x8304, 0xFFFFF0F0),
   (0x8308, 0xFFFF0000)]

/-- The bits of a register that its table reserves. -/
def reservedBits (off : Nat) : Word :=
  if 0x1000 ≤ off ∧ off < 0x1400 then tmrReserved off
  else if 0x2000 ≤ off ∧ off < 0x3000 then linkReserved off
  else if 0x3450 ≤ off ∧ off < 0x3490 then 0xFFFFFF00
  else if 0x4000 ≤ off ∧ off < 0x6000 then (if off % 16 = 12 then 0x00000800 else 0)
  else if 0x7000 ≤ off ∧ off < 0x8000 then phReserved off
  else (look off oneReserved).getD 0

/-- Whether an offset is closed to the host: WDT_CTRL, WDT_KEY, MBX, LCK and the AON window (R318, R373, R445). -/
def closedOff (off : Nat) : Bool :=
  off == 0x0C00 || off == 0x0C04 || (decide (0x1400 ≤ off) && decide (off < 0x2000)) || decide (0xF000 ≤ off)

/-- GLB_BEHAV (R10, R442). -/
def Dev.writeBehav (d : Dev) (n : Nv) (v : Word) : Dev :=
  let l := fld v 0 8
  let g := d.ho.glb
  if g.locked && l == g.inForce then d
  else if g.locked || l == 0 || decide (n.runBeh % 256 < l) then d.raise evBehaviourLevelIgnored .none []
  else d.modGlb fun g => { g with behav := l }

/-- Whether an AUX port is in use (R443). -/
def Dev.auxInUse (d : Dev) (a : Nat) : Bool :=
  (d.pw.map.senseE (80 + a)).mode != 0 ||
  ((List.range 16).any fun m => (d.mitE m).used && d.mp m 13 == a) ||
  ((List.range 12).any fun k => d.sp k 36 == a) ||
  ((List.range 16).any fun t =>
    let x := d.timer t
    (bit x.ctrl 18 && fld x.ctrl 19 5 == a) || (x.run && (fld x.ctrl 13 5 == a || fld x.mode 8 5 == a))) ||
  (d.sy.motion.en && fld (d.timer (fld d.sy.motion.ctl 1 4)).ctrl 13 5 == a)

/-- GLB_AUXMODE0 or 1: ignored whole where it changes a port in use (R443). -/
def Dev.writeAuxMode (d : Dev) (hi : Bool) (v : Word) : Dev :=
  let old := if hi then d.ho.glb.auxMode1 else d.ho.glb.auxMode0
  let base := if hi then 16 else 0
  if (List.range 16).any fun i => fld old (2 * i) 2 != fld v (2 * i) 2 && d.auxInUse (base + i) then
    d.invalid (if hi then 0x24 else 0x20)
  else d.modGlb fun g => if hi then { g with auxMode1 := v } else { g with auxMode0 := v }

/-- The GLB_EVVEC byte of an event at reset: EN 0, VECTOR the group (R449). -/
def resetVec (e : Nat) : Nat := (e + 16) / 32

/-- The event numbers of the catalogue (R449). -/
def definedEvent (e : Nat) : Bool :=
  decide (e ≤ 11) || (decide (16 ≤ e) && decide (e ≤ 30)) || (decide (48 ≤ e) && decide (e ≤ 64)) ||
  (decide (80 ≤ e) && decide (e ≤ 91)) || (decide (112 ≤ e) && decide (e ≤ 130)) || (decide (144 ≤ e) && decide (e ≤ 157)) ||
  (decide (176 ≤ e) && decide (e ≤ 192)) || (decide (208 ≤ e) && decide (e ≤ 213))

/-- GLB_EVVECi: bit 6 of a defined event's byte is reserved; a reserved event's byte keeps its reset value (R441, R450). -/
def Dev.writeEvvec (d : Dev) (i : Nat) (v : Word) : Dev :=
  if (List.range 4).any fun b => definedEvent (4 * i + b) && bit v (8 * b + 6) then d.invalid (0x100 + 4 * i)
  else
    let w := (List.range 4).foldl (fun a b =>
      a + 2 ^ (8 * b) * (if definedEvent (4 * i + b) then fld v (8 * b) 8 else resetVec (4 * i + b))) 0
    d.modGlb fun g => { g with evvec := g.evvec.set i (wd w) }

/-- The W1C write of GLB_EVSTATj: a class C bit stays while its condition stands (R447). -/
def Dev.writeEvstat (d : Dev) (j : Nat) (v : Word) : Dev :=
  d.modGlb fun g => { g with evstat := g.evstat.filter fun e =>
    !(e / 32 == j && bit v (e % 32)) || g.evcond.any fun c => c / 256 == e }

/-- The GLB registers (R441-R443). -/
def Dev.writeGlb (d : Dev) (n : Nv) (off : Nat) (v : Word) : Dev :=
  if off = 0x08 then d.writeBehav n v
  else if off = 0x20 then d.writeAuxMode false v
  else if off = 0x24 then d.writeAuxMode true v
  else if off = 0x2C then d.modGlb fun g => { g with auxOut := v }
  else if 0x40 ≤ off ∧ off < 0x60 then d.writeEvstat ((off - 0x40) / 4) v
  else if 0x100 ≤ off ∧ off < 0x200 then d.writeEvvec ((off - 0x100) / 4) v
  else d

/-- The HIF registers: the admin base and configuration registers are ignored while ENABLE is 1 (R293). -/
def Dev.writeHif (d : Dev) (off : Nat) (v : Word) : Dev :=
  if off = 0x400 then d.writeHifCtrl v
  else if off = 0x420 then d.modHif fun h => { h with pendLo := h.pendLo &&& ~~~v }
  else if off = 0x424 then d.modHif fun h => { h with pendHi := h.pendHi &&& ~~~v }
  else if d.ho.hif.enable then d
  else if off = 0x408 then d.modHif fun h => { h with asqLo := v }
  else if off = 0x40C then d.modHif fun h => { h with asqHi := v }
  else if off = 0x410 then d.modHif fun h => { h with acqLo := v }
  else if off = 0x414 then d.modHif fun h => { h with acqHi := v }
  else if off = 0x418 then d.modHif fun h => { h with acfg := v }
  else d

/-- TMRt_CTRL: the fields, then ARM, STOP and FORCE_CMP in this order (R366, R368, R378). -/
def Dev.writeTmrCtrl (d : Dev) (t : Nat) (v : Word) : Dev :=
  let d := d.modTmr t fun x => { x with ctrl := v &&& 0xFFFFFFF8#32 }
  let d := d.when (bit v 0) fun e => e.modTmr t Timer.arm
  let d := d.when (bit v 1) fun e => e.modTmr t fun x => { x with run := false }
  d.when (bit v 2) fun e => (e.compareEvent t).modTmr t fun x => { x with cmpDis := x.run }

/-- The TMR registers (R368, R370, R371, R378). -/
def Dev.writeTmr (d : Dev) (off : Nat) (v : Word) : Dev :=
  if off < 0x1200 then
    let t := (off - 0x1000) / 32
    match (off % 32) / 4 with
    | 0 => d.writeTmrCtrl t v
    | 1 => d.writeMode t v
    | 3 => d.modTmr t fun x => { x with cmp := v, atCmp := false }
    | 4 => d.modTmr t fun x => { x with top := v, atTop := false }
    | 6 => d.modTmr t fun x => { x with cmpFlag := x.cmpFlag && !bit v 3, endFlag := x.endFlag && !bit v 4,
                                        capOvr := x.capOvr && !bit v 6 }
    | _ => d
  else if off = 0x1200 then
    (if fld v 5 7 < 1 ∨ 100 < fld v 5 7 ∨ fld v 12 10 < 1 ∨ 600 < fld v 12 10 then d.invalid off
     else d.writeMotion v)
  else if off = 0x1204 then d.onSy fun s => { s with motion := { s.motion with thr := v } }
  else d

/-- The grade's limits of a timing register in 10 ns units: minimum of the low field, minimum and maximum of the high one
(R333, R346). -/
def gradeLimit (speed reg : Nat) : Nat × Nat × Nat :=
  match reg, speed with
  | 1, 0 => (500, 420, 65535)
  | 1, 1 => (140, 70, 65535)
  | 1, _ => (55, 30, 65535)
  | 2, 0 => (500, 420, 65535)
  | 2, 1 => (70, 70, 65535)
  | 2, _ => (30, 30, 65535)
  | 3, 0 => (420, 500, 65535)
  | 3, 1 => (70, 140, 65535)
  | 3, _ => (30, 55, 65535)
  | _, 0 => (30, 0, 340)
  | _, 1 => (12, 0, 85)
  | _, _ => (6, 0, 40)

/-- A timing register of a controller port: fields below the grade's minimum are raised, TDH is capped (R346). -/
def Dev.writeTiming (d : Dev) (c reg : Nat) (v : Word) : Dev :=
  let g := gradeLimit (fld ((d.twcOf c).regs.getD 0 0) 1 2) reg
  let lo := max g.1 (fld v 0 16)
  let hi := min g.2.2 (max g.2.1 (fld v 16 16))
  d.modTwc c fun t => { t with regs := t.regs.set reg (wd (lo + 65536 * hi)) }

/-- The two-wire registers (R347, R348). -/
def Dev.writeTwoWire (d : Dev) (off : Nat) (v : Word) : Dev :=
  if off < 0x2080 then
    let i := (off - 0x2000) / 64
    match (off % 64) / 4 with
    | 0 => d.modTwt i fun t => { t with addr := v }
    | 1 => if fld v 0 8 < 3 ∨ 100 < fld v 0 8 ∨ 10 < fld v 8 4 then d.invalid off else d.modTwt i fun t => { t with timing := v }
    | 2 => d.modTwt i fun t => { t with hb := v }
    | _ => d
  else if off < 0x20A0 then d.modHb fun h => { h with evMask := h.evMask.set ((off - 0x2080) / 4) v }
  else
    let c := (off - 0x2100) / 32
    let r := (off % 32) / 4
    if r = 0 then
      (if fld v 1 2 = 3 ∨ fld v 8 8 = 0 ∨ 10 < fld v 16 4 then d.invalid off
       else d.modTwc c fun t => { t with regs := t.regs.set 0 v })
    else if r < 5 then d.writeTiming c r v
    else d

/-- Whether the bit rates of a CAN controller are within 1 and 5 Mbit/s: at least 100 and 20 protocol clocks a bit (R349). -/
def Can.rateOk (c : Can) : Bool :=
  decide (100 ≤ (fld c.nbt 0 5 + 1) * (1 + (fld c.nbt 5 8 + 1) + (fld c.nbt 13 7 + 1))) &&
  decide (20 ≤ (fld c.dbt 0 5 + 1) * (1 + (fld c.dbt 5 5 + 1) + (fld c.dbt 10 4 + 1)))

/-- CANk_CTRL: EN = 1 with a bit rate above its limit is ignored; EN written again ends bus-off (R349, R352, R353). -/
def Dev.writeCanCtrl (d : Dev) (k : Nat) (v : Word) : Dev :=
  let c := d.canOf k
  if bit v 0 && !c.rateOk then d.raise evCanConfigInvalid .none []
  else
    let was := bit c.ctrl 0
    let d := d.modCan k fun x => { x with ctrl := v }
    if bit v 0 && (!was || c.st == 2) then d.canActive k
    else if !bit v 0 && was then (d.canActive k).modCan k fun x => { x with st := 3 }
    else d

/-- The CAN registers (R353). -/
def Dev.writeCan (d : Dev) (off : Nat) (v : Word) : Dev :=
  let k := (off - 0x2800) / 64
  match (off % 64) / 4 with
  | 0 => d.writeCanCtrl k v
  | 1 => if fld v 5 8 = 0 then d.invalid off else d.modCan k fun x => { x with nbt := v }
  | 2 => d.modCan k fun x => { x with dbt := v }
  | 3 => d.modCan k fun x => { x with txid := v }
  | _ => d

/-- MU_REF_CTRL (R176). -/
def Dev.writeBufEn (d : Dev) (v : Word) : Dev :=
  if bit v 0 then d.modRef fun x => { x with bufEn := true }
  else if (d.pw.mit.any fun m => m.st != .stopped) || (d.pw.str.any fun x => x.st == .running) then
    d.raise evMeasRefBusy .none []
  else (d.modRef fun x => { x with bufEn := false, settled := false, timeout := false }).offset evMeasRefTimeout 0

/-- Whether a phase's set-up value is outside its ranges (R47, R444). -/
def phInvalid (reg : Nat) (v : Word) : Bool :=
  match reg with
  | 0 => decide (fld v 16 10 < 20) || decide (1000 < fld v 16 10)
  | 2 => fld v 8 8 == 0 || decide (8 < fld v 16 4) || decide (fld v 24 6 < 4) || decide (32 < fld v 24 6)
  | 3 => decide (5 < fld v 0 3)
  | 4 => decide (5 < fld v 0 3)
  | 5 => decide (5 < fld v 0 3)
  | _ => false

/-- Store a set-up register of a phase. -/
def PhRegs.put (r : PhRegs) (reg : Nat) (v : Word) : PhRegs :=
  match reg with
  | 0 => { r with dt := v }
  | 1 => { r with ocp := v }
  | 2 => { r with prot := v }
  | 3 => { r with t1 := v }
  | 4 => { r with t2 := v }
  | 5 => { r with t3 := v }
  | _ => r

/-- A set-up register of a phase: held, and in effect by the phase's state (R48, R444). -/
def Dev.writePh (d : Dev) (off : Nat) (v : Word) : Dev :=
  let p := (off - 0x7000) / 64
  let reg := (off % 64) / 4
  if phInvalid reg v then d.invalid off
  else if 5 < reg then d
  else (d.modPh p fun x => { x with held := x.held.put reg v }).setupNow p

/-- UPD_CTRL (R418). -/
def Dev.writeUpdCtrl (d : Dev) (v : Word) : Dev :=
  if (15 < fld v 1 5 ∧ fld v 1 5 ≠ 31) ∨ 100 < fld v 8 8 then d.invalid 0x8200 else d.modUpd fun u => { u with ctrl := v }

/-- MU_PAIR_CTRL (R178, R179): the two units of a pair that is enabled align the skew between them, which their CORR_STATE shows as
REACQUIRING until it has converged (DEDUCED, log 159). -/
def Dev.writePairEn (d : Dev) (v : BitVec 8) : Dev :=
  let old := d.ms.ref.pairEn
  (d.modRef fun x => { x with pairEn := v }).each (List.range 16) fun k e => e.modMu k fun u =>
    if v.getLsbD (k / 2) && !old.getLsbD (k / 2) && (u.corr == .converged || u.corr == .degraded) then u.reacquire d.now else u

/-- A whole aligned word written to a mapped register that is open to the host, no reserved bit set; RO and RC registers
ignore it (R7; DEDUCED, log 65). -/
def Dev.writeOpen (d : Dev) (n : Nv) (off : Nat) (v : Word) : Dev :=
  if off < 0x0400 then d.writeGlb n off v
  else if off < 0x0800 then d.writeHif off v
  else if off = 0x0C0C then d.clearWdt v
  else if off < 0x1000 then d
  else if off < 0x1400 then d.writeTmr off v
  else if off < 0x2800 then d.writeTwoWire off v
  else if off < 0x3000 then d.writeCan off v
  else if off = 0x3000 then d.writeChnCtrl v
  else if off = 0x3008 then d.modChn fun c =>
    { c with cable := fld v 16 16, dly := if c.st = .formed then chainDelay (fld v 16 16) c.loopNs c.pos c.count else c.dly }
  else if off = 0x3400 then d.writeBufEn v
  else if off = 0x3408 then d.writePairEn (BitVec.ofNat 8 v.toNat)
  else if 0x7000 ≤ off ∧ off < 0x8000 then d.writePh off v
  else if off = 0x8200 then d.writeUpdCtrl v
  else d

/-- A whole aligned word written to the set-up window (R318, R373, R439): an unmapped or closed offset is SETUP_WRITE_IGNORED,
a reserved bit SETUP_VALUE_INVALID. -/
def Dev.writeReg (d : Dev) (n : Nv) (off : Nat) (v : Word) : Dev :=
  if closedOff off ∨ (d.regWord n off).isNone then d.ignoredWrite off
  else if v &&& reservedBits off ≠ 0 then d.invalid off
  else d.writeOpen n off v

/-! ### The windows -/

/-- The bytes of an entry of the MSI-X table (R260). -/
def Hif.vecBytes (h : Hif) (v : Nat) : List Byte :=
  h.vecEntry v ++ leBytes 4 (b2n (h.vecMask.getLsbD v))

/-- Byte of BAR2 at an offset (R260, R274). -/
def Dev.bar2Byte (d : Dev) (o : Nat) : Byte :=
  if o < 0x2000 then (leBytes 8 (d.doorbellRead (o / 8))).getD (o % 8) 0
  else if o < 0x2400 then (d.ho.hif.vecBytes ((o - 0x2000) / 16)).getD (o % 16) 0
  else if 0x3000 ≤ o ∧ o < 0x3008 then (leBytes 8 d.ho.hif.pba.toNat).getD (o % 8) 0
  else 0

/-- Unmask a vector: a pending one sends its message (R259, R282). -/
def Dev.setVecMask (d : Dev) (v : Nat) (mask : Bool) : Dev :=
  let h := d.ho.hif
  let d := d.modHif fun h => { h with vecMask := if mask then h.vecMask ||| (1#64 <<< v) else h.vecMask &&& ~~~(1#64 <<< v) }
  if !mask && h.pba.getLsbD v && h.msixEn && !h.msixMask && d.linkUp then d.sendMsix v else d

/-- Write address or data bytes of an entry of the MSI-X table. -/
def Hif.putVec (h : Hif) (e o : Nat) (b : List Byte) : Hif :=
  { h with vecAddr := assign e (putBytes (h.vecEntry e) o b) h.vecAddr }

/-- A word written to BAR2 outside the doorbells: the MSI-X table, else ignored (R260). -/
def Dev.writeBar2 (d : Dev) (o : Nat) (v : Word) : Dev :=
  if 0x2000 ≤ o ∧ o < 0x2400 then
    let e := (o - 0x2000) / 16
    if o % 16 = 12 then d.setVecMask e (bit v 0)
    else d.modHif fun h => h.putVec e (o % 16) (leBytes 4 v.toNat)
  else d

/-- A byte of the recovery window: what the host wrote, the response and its length (R431). -/
def UpdSec.romByte (u : UpdSec) (a : Nat) : Byte :=
  if 8 ≤ a ∧ a < 12 then (leBytes 4 u.romResp.length).getD (a - 8) 0
  else if 0x3000 ≤ a ∧ a < 0x4000 then u.romResp.getD (a - 0x3000) 0
  else winGet u.romWin a

/-- Whether the host can write a byte of the recovery window (R431). -/
def romWritable (a : Nat) : Bool := decide (a < 8) || (decide (0x1000 ≤ a) && decide (a < 0x3000))

/-- Bytes written to the recovery window. -/
def romWrite (w : List Host.Cell) (a : Nat) : List Byte → List Host.Cell
  | [] => w
  | b :: t => romWrite (if romWritable a then winSet w a b else w) (a + 1) t

/-- Bytes that the host writes to the recovery window (R431). -/
def Dev.romPut (d : Dev) (a : Nat) (b : List Byte) : Dev := d.modUpd fun u => { u with romWin := romWrite u.romWin a b }

/-- A write of the host to the set-up window or BAR2, by R262's map (R436, R438, R439): alignment is tested first (DEDUCED,
log 66); 8 bytes are two words, low address first; a doorbell takes 8 bytes, or 4 at its low half (R274). -/
def Dev.hostWriteAt (d : Dev) (n : Nv) (a : Nat) (b : List Byte) : Dev :=
  let len := b.length
  let space := if a < 0x10000 then 0 else 1
  let off := a % 0x10000
  let odd := (len = 1 ∨ len = 2 ∨ len = 4 ∨ len = 8) ∧ a % len ≠ 0
  if d.sy.power = .recovery then d.romPut a b
  else if !d.windowUp ∨ 0x14000 ≤ a then d
  else if odd then d.accessError 1 space off evAccessAlign (d2 off)
  else if space = 1 ∧ off < 0x2000 then
    (if (len = 4 ∧ off % 8 = 0) ∨ len = 8 then d.doorbell (off / 8) (BitVec.ofNat 64 (leNat b)) len
     else d.accessError 0 1 off evAccessWidth (d2 off))
  else if len = 4 then (if space = 0 then d.writeReg n off (wd (leNat b)) else d.writeBar2 off (wd (leNat b)))
  else if len = 8 then
    (if space = 0 then (d.writeReg n off (wd (leNat b))).writeReg n (off + 4) (wd (leAt b 4 4))
     else (d.writeBar2 off (wd (leNat b))).writeBar2 (off + 4) (wd (leAt b 4 4)))
  else d.accessError 0 space off evAccessWidth (d2 off)

/-- Bytes `lo` to `lo + k - 1` of the word at an aligned address of R262's map, with the read action where the whole word is
read (R435, R437); the free bytes of the AON window are taken once (log 6). -/
def Dev.readWordAt (d : Dev) (n : Nv) (a lo k : Nat) : Dev × List Byte :=
  if a < 0x10000 then
    let w := (d.regWord n a).getD 0
    let b := ((leBytes 4 w.toNat).drop lo).take k
    let d := if k = 4 then d.readAct a else d
    (if 0xF000 ≤ a then { d with freeIx := d.freeIx + 24 } else d, b)
  else if a < 0x14000 then (d, (List.range k).map fun i => d.bar2Byte (a - 0x10000 + lo + i))
  else if 0x40000 ≤ a ∧ a < 0x80000 then (d, winRead d.ho.win (a - 0x40000 + lo) k)
  else (d, List.replicate k 0)

/-- Bytes from an address onward, word by word. -/
def Dev.readSpan (d : Dev) (n : Nv) : Nat → Nat → Nat → Dev × List Byte
  | 0, _, _ => (d, [])
  | w + 1, a, len =>
    if len = 0 then (d, [])
    else
      let lo := a % 4
      let k := min len (4 - lo)
      let r := d.readWordAt n (a - lo) lo k
      let t := r.1.readSpan n w (a + k) (len - k)
      (t.1, r.2 ++ t.2)

/-- A read of the host of 1, 2, 4 or 8 bytes from the set-up window or BAR2; an unaligned one returns 0 (R435-R438). -/
def Dev.hostReadAt (d : Dev) (n : Nv) (a len : Nat) : Dev :=
  let space := if a < 0x10000 then 0 else 1
  let off := a % 0x10000
  if d.sy.power = .recovery then d.reply ((List.range len).map fun i => d.ln.upd.romByte (a + i))
  else if !d.windowUp ∨ 0x14000 ≤ a then d
  else if len ≠ 0 ∧ a % len ≠ 0 then (d.accessError 1 space off evAccessAlign (d2 off)).reply (List.replicate len 0)
  else
    let r := d.readSpan n 2 a len
    r.1.reply r.2

/-! ### Rows -/

/-- RC_READ (R7, R435-R438): a read of the host set-up window; a whole register read clears its RC fields. An internal agent reaches
the MBX and LCK registers at the same offsets (R317-R325). -/
def execRcRead (off : BitVec 24) (bytes : Nat) (s : State) (agent : Fin 128 := 98) (secure : Bool := false) :
    Host.Outcome State Fault Refusal :=
  s.onDev fun d =>
    if agent.val = agHost then d.hostReadAt s.nv off.toNat bytes
    else if isAgent agent then d.boxRead agent secure off.toNat bytes
    else d

/-- W1C_WRITE (R7, R447): a word written by the host. -/
def execW1cWrite (off : BitVec 24) (val : Word) (s : State) : Host.Outcome State Fault Refusal :=
  s.onDev fun d => d.hostWriteAt s.nv off.toNat (leBytes 4 val.toNat)

/-- SETUP_REGISTER_WRITE (R436-R439). -/
def execSetupRegisterWrite (off : BitVec 24) (data : List Byte) (s : State) : Host.Outcome State Fault Refusal :=
  s.onDev fun d => d.hostWriteAt s.nv off.toNat data

/-- BEHAVIOUR_LEVEL_WRITE (R10, R442). -/
def execBehaviourLevelWrite (val : Word) (s : State) : Host.Outcome State Fault Refusal :=
  s.onDev fun d => d.when d.windowUp fun e => e.writeReg s.nv 0x0008 val

/-- AUXMODE_WRITE (R443). -/
def execAuxmodeWrite (hi : Bool) (val : Word) (s : State) : Host.Outcome State Fault Refusal :=
  s.onDev fun d => d.when d.windowUp fun e => e.writeReg s.nv (if hi then 0x0024 else 0x0020) val

/-- PH_SETUP_WRITE (R48, R444). -/
def execPhSetupWrite (ph : Fin 64) (reg : Fin 6) (val : Word) (s : State) : Host.Outcome State Fault Refusal :=
  s.onDev fun d => d.when d.windowUp fun e => e.writeReg s.nv (0x7000 + 64 * ph + 4 * reg) val

/-- BUF_EN_WRITE (R176). -/
def execBufEnWrite (val : Word) (s : State) : Host.Outcome State Fault Refusal :=
  s.onDev fun d => d.when d.windowUp fun e => e.writeReg s.nv 0x3400 val

/-- TWC_TIMING_WRITE (R346): register 0-3 is CLK, OPEN, CLOSE, DATA. -/
def execTwcTimingWrite (port : Fin 4) (reg : Fin 4) (val : Word) (s : State) : Host.Outcome State Fault Refusal :=
  s.onDev fun d => d.when d.windowUp fun e => e.writeReg s.nv (0x2104 + 32 * port + 4 * reg) val

/-- CAN_ENABLE_WRITE (R349). -/
def execCanEnableWrite (can : Fin 2) (val : Word) (s : State) : Host.Outcome State Fault Refusal :=
  s.onDev fun d => d.when d.windowUp fun e => e.writeReg s.nv (0x2800 + 64 * can) val

/-- ACC_SUM_LO_READ (R195, R196): the low word, with SUM[63:32], COUNT and STATUS latched for the reader; an even DEMOD
accumulator latches its mate whole. -/
def execAccSumLoRead (reader : Fin 128) (acc : Fin 512) (s : State) : Host.Outcome State Fault Refusal :=
  s.onDev fun d => if !latchReader reader then d else (d.accAct reader acc).replyW (d.accLow reader acc)

/-- MMX_MIN_READ (R201): MIN, with the other three registers latched for the reader. -/
def execMmxMinRead (reader : Fin 128) (mmx : Fin 256) (s : State) : Host.Outcome State Fault Refusal :=
  s.onDev fun d =>
    if !latchReader reader then d else (d.mmxAct reader mmx).replyW (wd (enc 4 (d.ms.mmx.getD mmx {}).min))

/-! ### Quad-SPI (R262) -/

/-- Whether an address of R262's map is mapped. -/
def qspiMapped (a : Nat) : Bool := decide (a < 0x14000) || (decide (0x40000 ≤ a) && decide (a < 0x80000))

/-- Whether bytes from an address onward touch an unmapped address. -/
def qspiStray (a len : Nat) : Bool := (List.range len).any fun i => !qspiMapped (a + i)

/-- The status of a WRITE: ERR_WIDTH for the set-up window and the doorbells, ERR_ALIGN, ERR_ADDR (R262; DEDUCED, log 66). -/
def qspiWriteErr (a len : Nat) : Nat :=
  let bell := decide (0x10000 ≤ a) && decide (a < 0x12000)
  let reg := decide (a < 0x14000) && !bell
  let width := (decide (a < 0x10000) && (a % 4 != 0 || len % 4 != 0)) || (bell && len != 4 && len != 8)
  let align := (reg && a % 4 != 0) || (bell && (if len = 8 then a % 8 != 0 else a % 4 != 0))
  b2n width + 2 * b2n align + 4 * b2n (qspiStray a len)

/-- The words of a WRITE in turn, each at its address. -/
def Dev.qspiWords (d : Dev) (n : Nv) : Nat → Nat → List Byte → Dev
  | 0, _, _ => d
  | w + 1, a, b =>
    if b.isEmpty then d
    else if 0x40000 ≤ a then d.onHo fun h => { h with win := winWrite h.win (a - 0x40000) b }
    else (d.hostWriteAt n a (b.take 4)).qspiWords n w (a + 4) (b.drop 4)

/-- The events of a WRITE that ends with ERR_WIDTH or ERR_ALIGN (R436). -/
def Dev.qspiFault (d : Dev) (a err : Nat) : Dev :=
  let space := if a < 0x10000 then 0 else 1
  let off := a % 0x10000
  if err.testBit 1 then d.accessError 1 space off evAccessAlign (d2 off)
  else if err.testBit 0 then d.accessError 0 space off evAccessWidth (d2 off)
  else d

/-- A WRITE without error acts; one with an error changes no register and no doorbell, and ring-window bytes before the error
stand (R262). -/
def Dev.qspiWrite (d : Dev) (n : Nv) (a : Nat) (b : List Byte) : Dev :=
  let err := qspiWriteErr a b.length
  let d := d.onHo fun h => { h with qspi := BitVec.ofNat 8 err }
  if err ≠ 0 then
    (if 0x40000 ≤ a then d.onHo fun h => { h with win := winWrite h.win (a - 0x40000) b } else d).qspiFault a err
  else if 0x10000 ≤ a ∧ a < 0x12000 then d.hostWriteAt n a b
  else d.qspiWords n b.length a b

/-- QSPI_READ (R262, R431, R437): a byte stream with the read actions of the whole registers it covers. -/
def execQspiRead (addr : BitVec 24) (len : Nat) (frameErr : Bool) (s : State) : Host.Outcome State Fault Refusal :=
  s.onDev fun d =>
    let a := addr.toNat
    if !d.qspiMode then d
    else if frameErr then (d.onHo fun h => { h with qspi := 8 }).reply []
    else if d.sy.power = .recovery then
      (d.onHo fun h => { h with qspi := 0 }).reply ((List.range len).map fun i => d.ln.upd.romByte (a + i))
    else if !d.windowUp then d
    else
      let r := d.readSpan s.nv (len / 4 + 2) a len
      (r.1.onHo fun h => { h with qspi := if qspiStray a len then 4 else 0 }).reply r.2

/-- QSPI_WRITE (R262, R431, R436). -/
def execQspiWrite (addr : BitVec 24) (data : List Byte) (frameErr : Bool) (s : State) : Host.Outcome State Fault Refusal :=
  s.onDev fun d =>
    if !d.qspiMode then d
    else if frameErr then d.onHo fun h => { h with qspi := 8 }
    else if d.sy.power = .recovery then
      (d.onHo fun h => { h with qspi := 0 }).romPut addr.toNat data
    else if !d.windowUp then d
    else d.qspiWrite s.nv addr.toNat data

/-- QSPI_STATUS (R262). -/
def execQspiStatus (s : State) : Host.Outcome State Fault Refusal :=
  s.onDev fun d =>
    if d.qspiMode && (d.windowUp || d.sy.power == .recovery) then d.reply [d.ho.qspi] else d

end Sys2Proof.Machine
end

