-- ==== Sys2Proof/Machine/Recovery.lean ====
section
/-! DEFINITION. The recovery ROM (R430-R432), boundary scan (R235), and the meanings of their rows. -/

namespace Sys2Proof.Machine

/-! ### Packets (R431) -/

/-- A response: CMD with bit 7, SEQ, LEN, STATUS, data (the order DEDUCED from R431's packet, log 80); it is kept for a repeated
packet, and GO clears. -/
def Dev.romAnswer (d : Dev) (pkt : List Byte) (status : Nat) (data : List Byte) : Dev :=
  let r := [(pkt.getD 0 0) ||| 0x80] ++ leBytes 1 (byteAt pkt 1) ++ leBytes 2 (1 + data.length) ++ leBytes 1 status ++ data
  (d.modUpd fun u => { u with romSeq := some (byteAt pkt 1), romResp := r, romWin := winSet u.romWin 0 0 }).reply r

/-- Bytes with the escapes of UREC (R431). -/
def romEscape (l : List Byte) : List Byte := l.flatMap fun b => if b = 0x7E ∨ b = 0x7D then [0x7D, b ^^^ 0x20] else [b]

/-- Bytes without the escapes of UREC; none where a flag stands inside or an escape is cut off. -/
def romUnescape : List Byte → Option (List Byte)
  | [] => some []
  | [b] => if b = 0x7E ∨ b = 0x7D then none else some [b]
  | b :: c :: t =>
    if b = 0x7E ∨ (b = 0x7D ∧ c = 0x7E) then none
    else if b = 0x7D then (romUnescape t).map ((c ^^^ 0x20) :: ·)
    else (romUnescape (c :: t)).map (b :: ·)

/-- A UREC frame: a flag before and after, the escapes, and the CRC of R146 over the content, low byte first (R431; DEDUCED, log
80). -/
def romFrame (l : List Byte) : List Byte := [0x7E] ++ romEscape (l ++ leBytes 2 (crc16 l).toNat) ++ [0x7E]

/-- The content of a UREC frame whose flags, escapes and CRC are right. -/
def romUnframe (f : List Byte) : Option (List Byte) :=
  if f.length < 2 ∨ f.head? ≠ some 0x7E ∨ f.getLast? ≠ some 0x7E then none
  else match romUnescape (f.drop 1).dropLast with
    | none => none
    | some b =>
      let l := b.take (b.length - 2)
      if 2 ≤ b.length ∧ leAt b (b.length - 2) 2 = (crc16 l).toNat then some l else none

/-- The packet that an attachment delivers; none for a frame or CRC error. -/
def romPacket (att : RomAtt) (raw : List Byte) : Option (List Byte) :=
  match att with
  | .window => some raw
  | .uart => romUnframe raw

/-- Whether the ROM serves an attachment: the one that delivered the first valid packet, or any before that (R431). -/
def Dev.romServes (d : Dev) (att : RomAtt) : Bool := d.ln.upd.romAtt.all (· == att)

/-- The attachment of a valid packet is the one that the ROM serves from now on. -/
def Dev.romBy (d : Dev) (att : RomAtt) : Dev := d.modUpd fun u => { u with romAtt := some att }

/-- Send the response over the attachment. -/
def Dev.romSend (d : Dev) (att : RomAtt) : Dev :=
  match att with
  | .window => d
  | .uart => d.reply (romFrame d.out.bytes)

/-- A packet that the ROM takes as the command of a row, in RECOVERY, over the attachment it serves: a frame or CRC error and a wrong
LEN get status 1, a repeated SEQ the previous response, an unknown CMD status 6; the packet of another row changes nothing
(log 80). -/
def Dev.romRow (d : Dev) (n : Nv) (code : Nat) (raw : List Byte) (att : RomAtt) (f : List Byte → Dev → Nv → Dev × Nv) : Dev × Nv :=
  if d.sy.power ≠ .recovery ∨ !d.romServes att then (d, n)
  else match romPacket att raw with
    | none => ((d.reply ([0x80, 0] ++ leBytes 2 1 ++ leBytes 1 1)).romSend att, n)
    | some pkt =>
      let cmd := byteAt pkt 0
      let e := d.romBy att
      if pkt.length < 4 ∨ pkt.length ≠ 4 + leAt pkt 2 2 then ((d.romAnswer pkt 1 []).romSend att, n)
      else if d.ln.upd.romSeq = some (byteAt pkt 1) then
        (((e.modUpd fun u => { u with romWin := winSet u.romWin 0 0 }).reply d.ln.upd.romResp).romSend att, n)
      else if cmd = 0 ∨ 6 < cmd then ((e.romAnswer pkt 6 []).romSend att, n)
      else if cmd ≠ code then (d, n)
      else
        let r := f pkt e n
        (r.1.romSend att, r.2)

/-- The slot of the manifest that the ROM holds; one held before RECOVERY is for the slot that was not active (DEDUCED,
log 80). -/
def Dev.romSlot (d : Dev) (n : Nv) : Option Nat :=
  if n.held.isNone then none else some (d.ln.upd.romSlot.getD (1 - n.activeSlot))

/-- Put data bytes of a manifest at their addresses. -/
def romAssemble (l : List (Nat × Byte)) (off : Nat) : List Byte → List (Nat × Byte)
  | [] => l
  | b :: t => romAssemble (assign off b l) (off + 1) t

/-- The manifest, where it is whole: its header says how many pieces it lists (R413). -/
def romWhole (l : List (Nat × Byte)) : Option (List Byte) :=
  match look 2 l, look 3 l with
  | some a, some b =>
    let len := 4096 + 32 * (a.toNat + 256 * b.toNat)
    if (List.range len).all fun i => (look i l).isSome then some ((List.range len).map fun i => (look i l).getD 0) else none
  | _, _ => none

/-! ### Rows (R432) -/

/-- ROM_HELLO: part code, silicon revision, ROM version, BOOT_FAILS, SEC_STATUS and the state of both slots; the version and
the slot states have no given coding (free, log 6). -/
def execRomHello (pkt : List Byte) (s : State) (att : RomAtt := .window) : Host.Outcome State Fault Refusal :=
  s.onBoth fun d n => d.romRow n 1 pkt att fun pkt d n =>
    let slots := [BitVec.ofNat 8 (Config.freeValue d.freeIx).toNat, BitVec.ofNat 8 (Config.freeValue (d.freeIx + 1)).toNat]
    ((d.romAnswer pkt 0 ([0x40, 0x96] ++ leBytes 1 Config.siliconRev ++ [Config.freeRomVersion 0] ++ leBytes 1 n.bootFails ++
      leBytes 4 n.secStatus.toNat ++ slots)).tickFree.tickFree, n)

/-- ROM_MANIFEST: assembled by address for its slot, and checked under R414 when whole. -/
def execRomManifest (pkt : List Byte) (s : State) (att : RomAtt := .window) : Host.Outcome State Fault Refusal :=
  s.onBoth fun d n => d.romRow n 2 pkt att fun pkt d n =>
    let p := pkt.drop 4
    let slot := byteAt p 0
    let off := leAt p 1 4
    let data := p.drop 5
    if 1 < slot then (d.romAnswer pkt 7 [], n)
    else if p.length < 5 ∨ 4096 < data.length then (d.romAnswer pkt 1 [], n)
    else
      let d := d.modUpd fun u => { u with romAsm := slot, romMan := romAssemble (if u.romAsm = slot then u.romMan else []) off data }
      match romWhole d.ln.upd.romMan with
      | none => (d.romAnswer pkt 0 [], n)
      | some b =>
        let d := d.modUpd fun u => { u with romMan := [] }
        match checkManifest n d.romLevel b with
        | some c => (d.romAnswer pkt 2 (leBytes 1 c), n)
        | none =>
          let same := d.romSlot n == some slot
          let n := if same then n else { n with held := none }
          ((d.modUpd fun u => { u with romSlot := some slot }).romAnswer pkt 0 [], (n.acceptManifest slot (parseManifest b)).1)

/-- ROM_PIECE (R416); `readOk` says whether the piece reads back well. -/
def execRomPiece (pkt : List Byte) (readOk : Bool) (s : State) (att : RomAtt := .window) : Host.Outcome State Fault Refusal :=
  s.onBoth fun d n => d.romRow n 3 pkt att fun pkt d n =>
    let p := pkt.drop 4
    let slot := byteAt p 0
    let num := leAt p 1 2
    if d.romSlot n ≠ some slot then (d.romAnswer pkt 7 [], n)
    else if p.length ≠ 4099 then (d.romAnswer pkt 1 [], n)
    else
      let r := n.takePiece slot num (p.drop 3) readOk
      (if r.2 = .bad then d.romAnswer pkt 3 (leBytes 2 num) else d.romAnswer pkt 0 [], r.1)

/-- ROM_BITMAP. -/
def execRomBitmap (pkt : List Byte) (s : State) (att : RomAtt := .window) : Host.Outcome State Fault Refusal :=
  s.onBoth fun d n => d.romRow n 4 pkt att fun pkt d n =>
    let p := pkt.drop 4
    if d.romSlot n ≠ some (byteAt p 0) ∨ p.length ≠ 1 then (d.romAnswer pkt 7 [], n)
    else (d.romAnswer pkt 0 (bitmapBytes n.bitmap), n)

/-- The status that refuses a COMMIT of a slot, if one does (R432): the owner lock admits only an image activated before; the
manifest held needs its whole bitmap, the other slot a manifest stored in it that passes R414; a failed verification is status 4
(DEDUCED, log 80). -/
def Dev.commitRefusal (d : Dev) (n : Nv) (slot : Nat) (verified : Bool) : Option Nat :=
  let own := d.romSlot n == some slot
  let man := if own then n.held else (n.flash slot).man
  match man with
  | none => some 7
  | some m =>
    if 1 < slot ∨ (!own && !d.slotPasses n slot) = true then some 7
    else if n.ownerLock && !n.activated.contains m.imgHash then some 5
    else if (own && n.bitmap.length != m.pieces) || !verified then some 4
    else none

/-- ROM_COMMIT: ACTIVE_SLOT and BOOT_FAILS are written, and a cold start follows; `verified` says whether the slot passes the
check of R420 step 2. -/
def execRomCommit (pkt : List Byte) (verified : Bool) (boot : BootIn) (s : State) (att : RomAtt := .window) : Host.Outcome State Fault Refusal :=
  s.onBoth fun d n => d.romRow n 5 pkt att fun pkt d n =>
    let p := pkt.drop 4
    let slot := byteAt p 0
    match d.commitRefusal n slot verified with
    | some st => (d.romAnswer pkt st [], n)
    | none =>
      let own := d.romSlot n == some slot
      let m := (if own then n.held else (n.flash slot).man).getD {}
      let n := { n with activeSlot := slot, bootFails := 0, activated := (m.imgHash :: n.activated.filter (· ≠ m.imgHash)).take 2 }
      let n := if own then { n with held := none, bitmap := [], upd := .none } else n
      (d.romAnswer pkt 0 []).boot n .cold boot

/-- ROM_RESET: BOOT_FAILS is written 0 and a cold start follows. -/
def execRomReset (pkt : List Byte) (boot : BootIn) (s : State) (att : RomAtt := .window) : Host.Outcome State Fault Refusal :=
  s.onBoth fun d n => d.romRow n 6 pkt att fun pkt d n => (d.romAnswer pkt 0 []).boot { n with bootFails := 0 } .cold boot

/-! ### Boundary scan -/

/-- JTAG_INSTRUCTION (R235): one that drives or samples balls is taken while RESET_N is low; else BYPASS and JTAG_REFUSED. -/
def execJtagInstruction (ir : BitVec 8) (drives : Bool) (resetLow : Bool) (s : State) : Host.Outcome State Fault Refusal :=
  s.onDev fun d =>
    if drives && !resetLow then (d.onSy fun y => { y with jtagIr := 0xFF }).raise evJtagRefused .none []
    else d.onSy fun y => { y with jtagIr := ir }

end Sys2Proof.Machine
end

