-- ==== Sys2Proof/Machine/Ticks.lean ====
section
/-! DEFINITION. The control tick as a whole (R73, R210-R214, R357, R395), and the meaning of its row. -/

namespace Sys2Proof.Machine

/-- A mitten able to carry energy into BUS0 is in RUN (MC09, R395). -/
def Dev.feedsBus0 (d : Dev) : Bool :=
  (List.range 16).any fun m => (d.mitE m).into (.bus 0) && (d.mitten m).st == .run

/-- The liner after hand-over stops where another mitten feeds BUS0 (R395). -/
def Dev.linerRule (d : Dev) : Dev := if d.inRun && d.feedsBus0 then d.linerStop else d

/-- The chain's part of a tick: an order that falls due, the count of ticks without a frame, and the latch of frame t - 2 (R91,
R357, R358, R360). -/
def Dev.chainTick (d : Dev) : Dev :=
  let d := d.orderTick
  if d.ln.chn.st = .isolated then
    d.each (List.range 16) fun m e => e.modMit m fun x => { x with noSet := satInc 2 x.noSet }
  else if d.ln.chn.st != .formed then d
  else
    let d := d.modChn fun c => { c with quiet := satInc 2 c.quiet }
    if d.ln.chn.role = 1 then d.crownTick else if d.ln.chn.role = 2 then d.followerTick else d

/-- The soft start of a running liner over a tick (R392). -/
def Dev.linerSoftTick (d : Dev) : Dev :=
  d.onSy fun s => if s.liner.st = .running then
    { s with liner := { s.liner with softNs := min linerSoft (s.liner.softNs + s.tick.dt) } } else s

/-- The engines' part of a tick: all of it in RUN, LIMP and SLEEP; in LINER the taps and the coulomb counts (R143, R145, R171,
R234). -/
def Dev.engineTick (d : Dev) : Dev :=
  let d := d.linerSoftTick
  if d.inRun || d.sy.power == .sleep then ((d.tickWork.each (List.range 16) fun k e => e.impTick k)).linerRule
  else
    let d := d.onMs fun m => { m with tap := m.tap.map Tap.latch }
    if d.sy.power = .liner then d.each (List.range 16) fun k e => e.stringTick k else d

/-- A pair capture takes one window in a tick; a tick without one is counted (R180). -/
def Capture.newTick (c : Capture) : Capture :=
  { c with tickDone := false, idle := if c.tickDone then 0 else satInc 1000 c.idle }

/-- DEMOD windows end with the crossings of their generators, whether or not a result follows (R194). -/
def Dev.turnWindows (d : Dev) : Dev :=
  d.onMs fun m => { m with acc := m.acc.map fun a =>
    if a.demodWindow then a.turn ((m.gen.getD a.cfg.ref {}).turns d.now) else a }

/-- CONTROL_TICK (R73, R91, R210-R214, R356, R357): `cycles` timer-clock cycles after the last tick, with the levels of the AUX
balls, the event completions that waited for the link (R291), and whether the embedded flash has been erasing a sector (R376; log
41). A boundary earlier than the lag rule permits, or in a power state without ticks, is no boundary and changes nothing (log 18). -/
def execControlTick (cycles : Nat) (aux : BitVec 32) (s : State) (erase : Bool := false) : Host.Outcome State Fault Refusal :=
  s.onDev fun d =>
    if !(d.sy.ticking && d.mayFall 0 (d.now + 10 * cycles)) then d
    else
      let d := (d.tickTime cycles).wdtTick (10 * cycles) erase
      let d := d.modGlb fun g => { g with auxIn := g.maskAux aux }
      let d := (d.onMs fun m => { m with cap := m.cap.map fun c => c.map Capture.newTick }).turnWindows
      let d := d.chainTick.engineTick
      let d := d.each ((d.ho.rings.filter fun p => !p.2.evWait.isEmpty).map (·.1)) fun r e => e.flushRing r
      if d.ln.chn.st == .formed && d.ln.chn.role == 1 then d.emitFrame else d

end Sys2Proof.Machine
end

