-- ==== Sys2Proof/Machine/Dispatch.lean ====
section
/-! DEFINITION. The dispatch: one arm per command of the table, each one direct call of its meaning. -/

namespace Sys2Proof.Machine

/-- The effect of one command on everything but the queue. -/
def exec (i : Instr) (s : State) : Host.Outcome State Fault Refusal :=
  match i with
  | .powerOn boot => Sys2Proof.Machine.execPowerOn boot s
  | .resetNLow boot => Sys2Proof.Machine.execResetNLow boot s
  | .brownOut boot vaon => Sys2Proof.Machine.execBrownOut boot s vaon
  | .clockLost boot => Sys2Proof.Machine.execClockLost boot s
  | .engineClockLockLoss boot => Sys2Proof.Machine.execEngineClockLockLoss boot s
  | .aonRcFallback => Sys2Proof.Machine.execAonRcFallback s
  | .recoveryWakeNHold => Sys2Proof.Machine.execRecoveryWakeNHold s
  | .wakeStart boot => Sys2Proof.Machine.execWakeStart boot s
  | .handOver => Sys2Proof.Machine.execHandOver s
  | .linerSourceTestPass obs => Sys2Proof.Machine.execLinerSourceTestPass obs s
  | .linerBusOvervoltage busUv => Sys2Proof.Machine.execLinerBusOvervoltage s busUv
  | .linerSourceLow srcUv => Sys2Proof.Machine.execLinerSourceLow s srcUv
  | .linerBusCollapse busUv => Sys2Proof.Machine.execLinerBusCollapse s busUv
  | .bootFailsClear => Sys2Proof.Machine.execBootFailsClear s
  | .controlTick cycles aux erase => Sys2Proof.Machine.execControlTick cycles aux s erase
  | .chargeFrameBoundary all => Sys2Proof.Machine.execChargeFrameBoundary s all
  | .policyFrameBoundary meas late => Sys2Proof.Machine.execPolicyFrameBoundary meas s late
  | .capacitanceMeasurement bus mit => Sys2Proof.Machine.execCapacitanceMeasurement bus mit s
  | .checkpointComplete => Sys2Proof.Machine.execCheckpointComplete s
  | .frameLagLimp level => Sys2Proof.Machine.execFrameLagLimp level s
  | .limpLeft => Sys2Proof.Machine.execLimpLeft s
  | .pwmCycleBoundary ph at0 => Sys2Proof.Machine.execPwmCycleBoundary ph s at0
  | .sampleTrigger ph trig clk => Sys2Proof.Machine.execSampleTrigger ph trig clk s
  | .urgentConversionDone ph code cmBad => Sys2Proof.Machine.execUrgentConversionDone ph code cmBad s
  | .comparatorTrip ph trip => Sys2Proof.Machine.execComparatorTrip ph s trip
  | .phaseOvercurrent ph => Sys2Proof.Machine.execPhaseOvercurrent ph s
  | .phaseDriverFault ph => Sys2Proof.Machine.execPhaseDriverFault ph s
  | .phaseSenseFault ph => Sys2Proof.Machine.execPhaseSenseFault ph s
  | .quadSupplyFault quad => Sys2Proof.Machine.execQuadSupplyFault quad s
  | .delayLineCalibration quad fails => Sys2Proof.Machine.execDelayLineCalibration quad fails s
  | .phaseRejoinCheckEnd ph maxMa flt => Sys2Proof.Machine.execPhaseRejoinCheckEnd ph maxMa s flt
  | .backoffExpiry unit flt => Sys2Proof.Machine.execBackoffExpiry unit s flt
  | .gauntletStep mit obs => Sys2Proof.Machine.execGauntletStep mit obs s
  | .gauntletEnd mit => Sys2Proof.Machine.execGauntletEnd mit s
  | .gauntletNoSupply mit => Sys2Proof.Machine.execGauntletNoSupply mit s
  | .softStartComplete mit => Sys2Proof.Machine.execSoftStartComplete mit s
  | .standbyCurrentFinding ph avgMa => Sys2Proof.Machine.execStandbyCurrentFinding ph s avgMa
  | .mittenShort mit => Sys2Proof.Machine.execMittenShort mit s
  | .mittenOvervoltage mit => Sys2Proof.Machine.execMittenOvervoltage mit s
  | .mittenOvertemp mit => Sys2Proof.Machine.execMittenOvertemp mit s
  | .mittenUnderstaffed mit => Sys2Proof.Machine.execMittenUnderstaffed mit s
  | .setpointLoss mit => Sys2Proof.Machine.execSetpointLoss mit s
  | .sourceQualified src => Sys2Proof.Machine.execSourceQualified src s
  | .sourceUndervoltageLoss src => Sys2Proof.Machine.execSourceUndervoltageLoss src s
  | .rippleLoss src => Sys2Proof.Machine.execRippleLoss src s
  | .rideThroughExpiry src => Sys2Proof.Machine.execRideThroughExpiry src s
  | .sourceOvervoltage src => Sys2Proof.Machine.execSourceOvervoltage src s
  | .alternatorSurgeHoldExpiry src => Sys2Proof.Machine.execAlternatorSurgeHoldExpiry src s
  | .sourceOvercurrent src => Sys2Proof.Machine.execSourceOvercurrent src s
  | .sourceReverse src => Sys2Proof.Machine.execSourceReverse src s
  | .sourceSenseFault src => Sys2Proof.Machine.execSourceSenseFault src s
  | .sourceSwitchFault src => Sys2Proof.Machine.execSourceSwitchFault src s
  | .switchOpen port => Sys2Proof.Machine.execSwitchOpen port s
  | .changeoverSwitchClose src => Sys2Proof.Machine.execChangeoverSwitchClose src s
  | .holdoffEnd src => Sys2Proof.Machine.execHoldoffEnd src s
  | .mpptStep src => Sys2Proof.Machine.execMpptStep src s
  | .solarScanStep src => Sys2Proof.Machine.execSolarScanStep src s
  | .solarScanStart src => Sys2Proof.Machine.execSolarScanStart src s
  | .generatorWarmUpEnd src => Sys2Proof.Machine.execGeneratorWarmUpEnd src s
  | .startOutRelease src => Sys2Proof.Machine.execStartOutRelease src s
  | .lendEndCondition src reason => Sys2Proof.Machine.execLendEndCondition src reason s
  | .busUndervoltage bus => Sys2Proof.Machine.execBusUndervoltage bus s
  | .supplementReturn mit => Sys2Proof.Machine.execSupplementReturn mit s
  | .stringAbsent str => Sys2Proof.Machine.execStringAbsent str s
  | .stringPresent str => Sys2Proof.Machine.execStringPresent str s
  | .prechargeEntry str => Sys2Proof.Machine.execPrechargeEntry str s
  | .prechargeEnd str => Sys2Proof.Machine.execPrechargeEnd str s
  | .stringPrechargeTimeout str => Sys2Proof.Machine.execStringPrechargeTimeout str s
  | .stepExit str => Sys2Proof.Machine.execStepExit str s
  | .stringTieLimit str => Sys2Proof.Machine.execStringTieLimit str s
  | .tieRearmExpiry str => Sys2Proof.Machine.execTieRearmExpiry str s
  | .pauseEnd str => Sys2Proof.Machine.execPauseEnd str s
  | .packMonitorRecord str rec => Sys2Proof.Machine.execPackMonitorRecord str rec s
  | .packMonitorLost str => Sys2Proof.Machine.execPackMonitorLost str s
  | .stringDischargeLimit str => Sys2Proof.Machine.execStringDischargeLimit str s
  | .stringOvervoltage str => Sys2Proof.Machine.execStringOvervoltage str s
  | .stringOvercurrent str => Sys2Proof.Machine.execStringOvercurrent str s
  | .stringOvertemp str => Sys2Proof.Machine.execStringOvertemp str s
  | .stringSenseFault str current => Sys2Proof.Machine.execStringSenseFault str current s
  | .stringTempFault str => Sys2Proof.Machine.execStringTempFault str s
  | .stringSwitchFault str => Sys2Proof.Machine.execStringSwitchFault str s
  | .impedanceRunStart str => Sys2Proof.Machine.execImpedanceRunStart str s
  | .impedanceSettleEnd str => Sys2Proof.Machine.execImpedanceSettleEnd str s
  | .impedancePointEnd str => Sys2Proof.Machine.execImpedancePointEnd str s
  | .impedanceRepeat str => Sys2Proof.Machine.execImpedanceRepeat str s
  | .passStart mu behind clk => Sys2Proof.Machine.execPassStart mu behind s clk
  | .visitEnd mu samples cmBad clipped time => Sys2Proof.Machine.execVisitEnd mu samples cmBad clipped time s
  | .correctionSlot mu coef => Sys2Proof.Machine.execCorrectionSlot mu coef s
  | .correctionConverged mu => Sys2Proof.Machine.execCorrectionConverged mu s
  | .muSliceFault mu slice => Sys2Proof.Machine.execMuSliceFault mu slice s
  | .muUnitFault mu stall => Sys2Proof.Machine.execMuUnitFault mu s stall
  | .measTapStale tap => Sys2Proof.Machine.execMeasTapStale tap s
  | .pairWindow pair samples time => Sys2Proof.Machine.execPairWindow pair samples time s
  | .captureTriggerTimeout pair => Sys2Proof.Machine.execCaptureTriggerTimeout pair s
  | .referenceSettled => Sys2Proof.Machine.execReferenceSettled s
  | .measRefTimeout => Sys2Proof.Machine.execMeasRefTimeout s
  | .measRefMismatch => Sys2Proof.Machine.execMeasRefMismatch s
  | .measRefFault => Sys2Proof.Machine.execMeasRefFault s
  | .engineStall agent start => Sys2Proof.Machine.execEngineStall agent start s
  | .takeoverComplete micros start => Sys2Proof.Machine.execTakeoverComplete micros start s
  | .standbyOk => Sys2Proof.Machine.execStandbyOk s
  | .holdExpired => Sys2Proof.Machine.execHoldExpired s
  | .eccCorrected agent => Sys2Proof.Machine.execEccCorrected agent s
  | .eccUncorrectable agent buf start => Sys2Proof.Machine.execEccUncorrectable agent buf start s
  | .watchdogTimeout start => Sys2Proof.Machine.execWatchdogTimeout start s
  | .wdtWindowOpen => Sys2Proof.Machine.execWdtWindowOpen s
  | .wdtKeyWrite agent val start => Sys2Proof.Machine.execWdtKeyWrite agent val start s
  | .wdtKeyLapse => Sys2Proof.Machine.execWdtKeyLapse s
  | .wdtEnWrite agent val => Sys2Proof.Machine.execWdtEnWrite agent val s
  | .wdtResetClear val => Sys2Proof.Machine.execWdtResetClear val s
  | .tmrArm tmr => Sys2Proof.Machine.execTmrArm tmr s
  | .tmrStop tmr => Sys2Proof.Machine.execTmrStop tmr s
  | .tmrForceCmp tmr => Sys2Proof.Machine.execTmrForceCmp tmr s
  | .tmrCompare tmr => Sys2Proof.Machine.execTmrCompare tmr s
  | .tmrEnd tmr => Sys2Proof.Machine.execTmrEnd tmr s
  | .tmrCapture tmr => Sys2Proof.Machine.execTmrCapture tmr s
  | .tmrCapRead tmr => Sys2Proof.Machine.execTmrCapRead tmr s
  | .tmrCmpWrite tmr val => Sys2Proof.Machine.execTmrCmpWrite tmr val s
  | .tmrTopWrite tmr val => Sys2Proof.Machine.execTmrTopWrite tmr val s
  | .tmrModeWrite tmr val => Sys2Proof.Machine.execTmrModeWrite tmr val s
  | .motionChanged => Sys2Proof.Machine.execMotionChanged s
  | .functionLevelReset => Sys2Proof.Machine.execFunctionLevelReset s
  | .busMasterEnableClear => Sys2Proof.Machine.execBusMasterEnableClear s
  | .doorbellSqTail ring val bytes => Sys2Proof.Machine.execDoorbellSqTail ring val bytes s
  | .doorbellCqHead ring val bytes => Sys2Proof.Machine.execDoorbellCqHead ring val bytes s
  | .doorbellArm ring val bytes => Sys2Proof.Machine.execDoorbellArm ring val bytes s
  | .descriptorAdmit ring tag read => Sys2Proof.Machine.execDescriptorAdmit ring tag read s
  | .ringError ring => Sys2Proof.Machine.execRingError ring s
  | .completionWrite tag => Sys2Proof.Machine.execCompletionWrite tag s
  | .vectorFire ring waited => Sys2Proof.Machine.execVectorFire ring s waited
  | .eventsLost ring => Sys2Proof.Machine.execEventsLost ring s
  | .ringDrainEnd ring => Sys2Proof.Machine.execRingDrainEnd ring s
  | .qspiRead addr len frameErr => Sys2Proof.Machine.execQspiRead addr len frameErr s
  | .qspiWrite addr data frameErr => Sys2Proof.Machine.execQspiWrite addr data frameErr s
  | .qspiStatus => Sys2Proof.Machine.execQspiStatus s
  | .ringCreate tag => Sys2Proof.Machine.execRingCreate tag s
  | .ringDelete tag => Sys2Proof.Machine.execRingDelete tag s
  | .ringReset tag => Sys2Proof.Machine.execRingReset tag s
  | .ringModify tag => Sys2Proof.Machine.execRingModify tag s
  | .abortCmd tag posted => Sys2Proof.Machine.execAbort tag posted s
  | .eventSubscribe tag => Sys2Proof.Machine.execEventSubscribe tag s
  | .stageBegin tag => Sys2Proof.Machine.execStageBegin tag s
  | .stageCommit tag => Sys2Proof.Machine.execStageCommit tag s
  | .stageAbort tag => Sys2Proof.Machine.execStageAbort tag s
  | .pathMapLoad tag => Sys2Proof.Machine.execPathMapLoad tag s
  | .mittenConfig tag => Sys2Proof.Machine.execMittenConfig tag s
  | .sourceConfig tag => Sys2Proof.Machine.execSourceConfig tag s
  | .stringConfig tag => Sys2Proof.Machine.execStringConfig tag s
  | .stringProgram tag => Sys2Proof.Machine.execStringProgram tag s
  | .profileSet tag => Sys2Proof.Machine.execProfileSet tag s
  | .measSequence tag => Sys2Proof.Machine.execMeasSequence tag s
  | .accConfig tag => Sys2Proof.Machine.execAccConfig tag s
  | .mmxConfig tag => Sys2Proof.Machine.execMmxConfig tag s
  | .mittenStart tag => Sys2Proof.Machine.execMittenStart tag s
  | .mittenStop tag => Sys2Proof.Machine.execMittenStop tag s
  | .stringStart tag => Sys2Proof.Machine.execStringStart tag s
  | .stringStop tag => Sys2Proof.Machine.execStringStop tag s
  | .returnToService tag => Sys2Proof.Machine.execReturnToService tag s
  | .lendStart tag => Sys2Proof.Machine.execLendStart tag s
  | .lendStop tag => Sys2Proof.Machine.execLendStop tag s
  | .motionSet tag => Sys2Proof.Machine.execMotionSet tag s
  | .shed tag => Sys2Proof.Machine.execShed tag s
  | .disconnect tag => Sys2Proof.Machine.execDisconnect tag s
  | .hold tag => Sys2Proof.Machine.execHold tag s
  | .measFilterSync tag => Sys2Proof.Machine.execMeasFilterSync tag s
  | .measPairCapture tag => Sys2Proof.Machine.execMeasPairCapture tag s
  | .accClear tag => Sys2Proof.Machine.execAccClear tag s
  | .mmxRead tag => Sys2Proof.Machine.execMmxRead tag s
  | .impedanceRun tag => Sys2Proof.Machine.execImpedanceRun tag s
  | .impedanceAbort tag => Sys2Proof.Machine.execImpedanceAbort tag s
  | .impedanceRead tag => Sys2Proof.Machine.execImpedanceRead tag s
  | .selfTest tag => Sys2Proof.Machine.execSelfTest tag s
  | .selfTestDone conv scrub => Sys2Proof.Machine.execSelfTestDone conv s scrub
  | .statusRead tag => Sys2Proof.Machine.execStatusRead tag s
  | .recordRead tag cut => Sys2Proof.Machine.execRecordRead tag s cut
  | .brimRead tag => Sys2Proof.Machine.execBrimRead tag s
  | .brimFloorSet tag => Sys2Proof.Machine.execBrimFloorSet tag s
  | .ageingRebase tag => Sys2Proof.Machine.execAgeingRebase tag s
  | .powerState tag => Sys2Proof.Machine.execPowerState tag s
  | .powerStateEntry aonCount => Sys2Proof.Machine.execPowerStateEntry aonCount s
  | .wakeNLow => Sys2Proof.Machine.execWakeNLow s
  | .sourceWakeComparator src ballUv fell => Sys2Proof.Machine.execSourceWakeComparator src s ballUv fell
  | .deviceRestart tag start => Sys2Proof.Machine.execDeviceRestart tag start s
  | .timeRead tag => Sys2Proof.Machine.execTimeRead tag s
  | .timeAnchor tag => Sys2Proof.Machine.execTimeAnchor tag s
  | .updateManifest tag => Sys2Proof.Machine.execUpdateManifest tag s
  | .updatePiece tag badRead cut => Sys2Proof.Machine.execUpdatePiece tag badRead s cut
  | .updateStatus tag => Sys2Proof.Machine.execUpdateStatus tag s
  | .updateActivate tag start => Sys2Proof.Machine.execUpdateActivate tag start s
  | .activationResume start => Sys2Proof.Machine.execActivationResume start s
  | .updateCancel tag => Sys2Proof.Machine.execUpdateCancel tag s
  | .ownerLock tag => Sys2Proof.Machine.execOwnerLock tag s
  | .keyUpdate tag => Sys2Proof.Machine.execKeyUpdate tag s
  | .mbxPtrStage agent secure box val => Sys2Proof.Machine.execMbxPtrStage agent secure box val s
  | .mbxSend agent secure box val => Sys2Proof.Machine.execMbxSend agent secure box val s
  | .mbxRecv agent secure box wide => Sys2Proof.Machine.execMbxRecv agent secure box s wide
  | .lckTake agent secure lock => Sys2Proof.Machine.execLckTake agent secure lock s
  | .lckRelease agent secure lock val => Sys2Proof.Machine.execLckRelease agent secure lock val s
  | .accSumLoRead reader acc => Sys2Proof.Machine.execAccSumLoRead reader acc s
  | .mmxMinRead reader mmx => Sys2Proof.Machine.execMmxMinRead reader mmx s
  | .rcRead off bytes agent secure => Sys2Proof.Machine.execRcRead off bytes s agent secure
  | .w1cWrite off val => Sys2Proof.Machine.execW1cWrite off val s
  | .behaviourLevelWrite val => Sys2Proof.Machine.execBehaviourLevelWrite val s
  | .auxmodeWrite hi val => Sys2Proof.Machine.execAuxmodeWrite hi val s
  | .phSetupWrite ph reg val => Sys2Proof.Machine.execPhSetupWrite ph reg val s
  | .bufEnWrite val => Sys2Proof.Machine.execBufEnWrite val s
  | .hifEnable val => Sys2Proof.Machine.execHifEnable val s
  | .hifDisable val => Sys2Proof.Machine.execHifDisable val s
  | .twcTimingWrite port reg val => Sys2Proof.Machine.execTwcTimingWrite port reg val s
  | .canEnableWrite can val => Sys2Proof.Machine.execCanEnableWrite can val s
  | .chainEnable val => Sys2Proof.Machine.execChainEnable val s
  | .setupRegisterWrite off data => Sys2Proof.Machine.execSetupRegisterWrite off data s
  | .jtagInstruction ir drives resetLow => Sys2Proof.Machine.execJtagInstruction ir drives resetLow s
  | .twtWriteTransfer port addr data => Sys2Proof.Machine.execTwtWriteTransfer port addr data s
  | .twtReadTransfer port addr len => Sys2Proof.Machine.execTwtReadTransfer port addr len s
  | .inBandRequest => Sys2Proof.Machine.execInBandRequest s
  | .requestAcknowledge => Sys2Proof.Machine.execRequestAcknowledge s
  | .requestTimeout => Sys2Proof.Machine.execRequestTimeout s
  | .hatbandStatus => Sys2Proof.Machine.execHatbandStatus s
  | .hatbandTime => Sys2Proof.Machine.execHatbandTime s
  | .hatbandMotion => Sys2Proof.Machine.execHatbandMotion s
  | .hatbandPower => Sys2Proof.Machine.execHatbandPower s
  | .hatbandWake => Sys2Proof.Machine.execHatbandWake s
  | .hatbandUpdateChunk readOk => Sys2Proof.Machine.execHatbandUpdateChunk readOk s
  | .packMonitorPoll port str reply => Sys2Proof.Machine.execPackMonitorPoll port str reply s
  | .twcArbitrationLost port => Sys2Proof.Machine.execTwcArbitrationLost port s
  | .twcArbLostCond port => Sys2Proof.Machine.execTwcArbLostCond port s
  | .twcTimeout port => Sys2Proof.Machine.execTwcTimeout port s
  | .canFrameReceived can ident ide data => Sys2Proof.Machine.execCanFrameReceived can ident ide data s
  | .canStatusFrame can => Sys2Proof.Machine.execCanStatusFrame can s
  | .canErrorPassive can => Sys2Proof.Machine.execCanErrorPassive can s
  | .canBusOff can => Sys2Proof.Machine.execCanBusOff can s
  | .canBusOffRecovery can => Sys2Proof.Machine.execCanBusOffRecovery can s
  | .chainSymbolLock => Sys2Proof.Machine.execChainSymbolLock s
  | .chainFormed form => Sys2Proof.Machine.execChainFormed form s
  | .chainFrame frame codeErr side => Sys2Proof.Machine.execChainFrame frame codeErr s side
  | .chainInterleave msg => Sys2Proof.Machine.execChainInterleave msg s
  | .chainOrder msg => Sys2Proof.Machine.execChainOrder msg s
  | .chainConfigCheck msg => Sys2Proof.Machine.execChainConfigCheck msg s
  | .chainEvent msg => Sys2Proof.Machine.execChainEvent msg s
  | .manifestChunk msg => Sys2Proof.Machine.execManifestChunk msg s
  | .pieceChunk msg readOk => Sys2Proof.Machine.execPieceChunk msg readOk s
  | .chainLost => Sys2Proof.Machine.execChainLost s
  | .chainFramesReturn present => Sys2Proof.Machine.execChainFramesReturn present s
  | .syncEdge period off width => Sys2Proof.Machine.execSyncEdge period off s width
  | .romHello pkt att => Sys2Proof.Machine.execRomHello pkt s att
  | .romManifest pkt att => Sys2Proof.Machine.execRomManifest pkt s att
  | .romPiece pkt readOk att => Sys2Proof.Machine.execRomPiece pkt readOk s att
  | .romBitmap pkt att => Sys2Proof.Machine.execRomBitmap pkt s att
  | .romCommit pkt verified boot att => Sys2Proof.Machine.execRomCommit pkt verified boot s att
  | .romReset pkt boot att => Sys2Proof.Machine.execRomReset pkt boot s att
  | .idealDiodeTurnOff port => Sys2Proof.Machine.execIdealDiodeTurnOff port s
  | .idealDiodeTurnOn port => Sys2Proof.Machine.execIdealDiodeTurnOn port s
  | .quadSupplyRecovery quad => Sys2Proof.Machine.execQuadSupplyRecovery quad s
  | .linerSoftStartRepeat busUv => Sys2Proof.Machine.execLinerSoftStartRepeat s busUv
  | .linerOvervoltageRelease busUv => Sys2Proof.Machine.execLinerOvervoltageRelease s busUv
  | .tmrCountedEdge tmr => Sys2Proof.Machine.execTmrCountedEdge tmr s
  | .pcieLinkL0 wide speed msixEn msixMask bme => Sys2Proof.Machine.execPcieLinkL0 wide speed msixEn msixMask s bme
  | .pcieConventionalReset => Sys2Proof.Machine.execPcieConventionalReset s

end Sys2Proof.Machine
end

