-- ==== Sys2Proof/WellFormed.lean ====
section
/-! DEFINITION. The commands a sender can form: list operands of the lengths their rules give. -/

namespace Sys2Proof

/-- Whether a command's list operands have lengths the hardware can carry; every other operand is bounded by its type. A
descriptor is 64 bytes (R267); a payload is at most 65,535 bytes (R267); a quad-SPI write carries a byte or more and so does a
read (R262); a register write 1-8 bytes (R435, R436); a visit has one or more samples (R160); a register read is 1, 2, 4 or 8
bytes (R435); a chain message is at most 32 bytes (R358); a warm start reports one die temperature for each unit (R398). -/
def Instr.wf : Instr → Bool
  | .descriptorAdmit _ _ read => read.desc.length == 64 && decide (read.payload.length ≤ 65535)
  | .qspiWrite _ data _ => decide (1 ≤ data.length)
  | .qspiRead _ len _ => decide (1 ≤ len)
  | .setupRegisterWrite _ data => decide (1 ≤ data.length) && decide (data.length ≤ 8)
  | .rcRead _ bytes _ _ => bytes == 1 || bytes == 2 || bytes == 4 || bytes == 8
  | .chainInterleave msg => decide (msg.length ≤ 32)
  | .chainOrder msg => decide (msg.length ≤ 32)
  | .chainConfigCheck msg => decide (msg.length ≤ 32)
  | .chainEvent msg => decide (msg.length ≤ 32)
  | .manifestChunk msg => decide (msg.length ≤ 32)
  | .pieceChunk msg _ => decide (msg.length ≤ 32)
  | .visitEnd _ samples _ _ _ => decide (1 ≤ samples.length)
  | .engineStall _ start => start.warm.dieTemps.length == 16
  | .takeoverComplete _ start => start.warm.dieTemps.length == 16
  | .eccUncorrectable _ _ start => start.warm.dieTemps.length == 16
  | .watchdogTimeout start => start.warm.dieTemps.length == 16
  | .wdtKeyWrite _ _ start => start.warm.dieTemps.length == 16
  | .deviceRestart _ start => start.warm.dieTemps.length == 16
  | .updateActivate _ start => start.warm.dieTemps.length == 16
  | .activationResume start => start.warm.dieTemps.length == 16
  | _ => true

end Sys2Proof
end

