-- ==== Sys2Proof/Safety.lean ====
section
/-! DEFINITION. What counts as a safe run, and the invariants that claims are stated in terms of. -/

namespace Sys2Proof.Machine

/-- Every waiting command is one that a sender can form. -/
def State.queueWf (s : State) : Prop := ∀ c ∈ s.pending, c.wf = true

/-- A step that does not stop. -/
def State.steps (s : State) : Prop := ∃ t, step s = .next t

/-- The bookkeeping of starts and updates in the non-volatile state (R399, R408, R415-R417, R420): the active slot is A or B,
BOOT_FAILS is within its 3 bits, at most two images are remembered as activated, the bitmap names pieces of the held manifest
without repeats, and an update is READY or ACTIVATING only with every piece held. -/
structure Nv.wf (n : Nv) : Prop where
  slot    : n.activeSlot ≤ 1
  fails   : n.bootFails ≤ 7
  images  : n.activated.length ≤ 2
  distinct : n.bitmap.Nodup
  pieces  : ∀ p ∈ n.bitmap, ∃ m, n.held = some m ∧ p < m.pieces
  whole   : n.upd = .ready ∨ n.upd = .activating → ∃ m, n.held = some m ∧ n.bitmap.length = m.pieces

end Sys2Proof.Machine
end

