-- ==== Sys2Proof/Certificates/Slice0/Obligations.lean ====
section
/-! DEFINITION. The statements for the provers: what the commands and the machine do, by the spec's rules. -/

open Sys2Proof Sys2Proof.Machine

/-- A step on a queue with a command at its front is `exec` of that command on the state with the queue's rest, and `exec` leaves
the queue as it is; on an empty queue the step changes nothing (the model's choice, log 1). -/
def Obligations.StepRunsFront : Prop :=
  (∀ (s : State) (c : Instr) (rest : List Instr), s.pending = c :: rest → step s = exec c { s with pending := rest }) ∧
  (∀ (s t : State) (c : Instr), exec c s = .next t → t.pending = s.pending) ∧
  (∀ s : State, s.pending = [] → step s = .next s)

/-- MBX_PTR_STAGE, MBX_SEND, MBX_RECV (R320, R321): for an access that R317 admits, a staged pointer is always taken; a send to
an empty mailbox copies the staged pointer, the type and the writer, one to a full mailbox is a bus error that changes
nothing, and one with a reserved bit set is ignored (R439); the receiver's read returns the pending pointer, moves TYPE into
STATUS.TYPE and clears FULL and SENDER, and a read of 64 bits returns the status behind the pointer. LCK_TAKE (R325): the
four checks of a TAKE read in their order. R317 and R318: a non-secure agent's read of a secure mailbox or lock gives 0 and
its write a bus error, and the host set-up window's write is ignored with SETUP_WRITE_IGNORED; nothing else of the device
changes. -/
def Obligations.MailboxesAndLocks : Prop :=
  ((∀ (a : Fin 128) (sec : Bool) (n : Fin 64) (v : Word) (s : State),
    isAgent a = true → a.val ≠ agHost → (n.val < 16 → isSecure a sec = true) →
    exec (.mbxPtrStage a sec n v) s =
      .next { s with dev := (s.dev.reply []).modMbx n fun x => { x with staged := v } }) ∧
  (∀ (a : Fin 128) (sec : Bool) (n : Fin 64) (v : Word) (x : Mailbox) (s : State),
    isAgent a = true → a.val ≠ agHost → (n.val < 16 → isSecure a sec = true) →
    s.dev.sy.mbx[n.val]? = some x → x.full = false → x.revoked = false → v.toNat < 256 →
    exec (.mbxSend a sec n v) s = .next { s with dev := ((s.dev.reply []).modMbx n fun _ =>
      { x with full := true, ptr := x.staged, type := v.toNat % 256, sender := a.val }) }) ∧
  (∀ (a : Fin 128) (sec : Bool) (n : Fin 64) (v : Word) (x : Mailbox) (s : State),
    isAgent a = true → a.val ≠ agHost → (n.val < 16 → isSecure a sec = true) →
    s.dev.sy.mbx[n.val]? = some x → x.full = true → v.toNat < 256 →
    exec (.mbxSend a sec n v) s = .next { s with dev := s.dev.busError }) ∧
  (∀ (a : Fin 128) (sec : Bool) (n : Fin 64) (v : Word) (s : State),
    isAgent a = true → a.val ≠ agHost → (n.val < 16 → isSecure a sec = true) → 256 ≤ v.toNat →
    exec (.mbxSend a sec n v) s = .next { s with dev := (s.dev.reply []).invalidValue (0x1404 + 16 * n.val) }) ∧
  (∀ (a : Fin 128) (sec : Bool) (n : Fin 64) (x : Mailbox) (s : State),
    isAgent a = true → a.val ≠ agHost → (n.val < 16 → isSecure a sec = true) →
    s.dev.sy.mbx[n.val]? = some x → x.receiver = a.val →
    exec (.mbxRecv a sec n) s = .next { s with dev := (if x.full then (s.dev.replyW x.ptr).modMbx n fun _ =>
        { x with full := false, sender := 0, lastType := x.type, ptr := 0 } else s.dev.replyW 0) } ∧
    exec (.mbxRecv a sec n true) s = .next { s with dev := (if x.full then
        ((s.dev.modMbx n fun _ => { x with full := false, sender := 0, lastType := x.type, ptr := 0 }).reply
          (leBytes 4 x.ptr.toNat ++
            leBytes 4 (({ x with full := false, sender := 0, lastType := x.type, ptr := 0 } : Mailbox).statusWord n).toNat))
        else s.dev.reply (leBytes 4 0 ++ leBytes 4 (x.statusWord n).toNat)) })) ∧
  ((∀ (a : Fin 128) (sec : Bool) (n : Fin 64) (h : Nat) (s : State),
    isAgent a = true → a.val ≠ agHost → (n.val < 8 → isSecure a sec = true) → s.dev.sy.higherLock a n = some h →
    exec (.lckTake a sec n) s = .next { s with dev :=
      (((s.dev.onSy fun t => { t with lckOrder := satInc 65535 t.lckOrder }).raise evLockOrderViolation (some a.val)
        (d2 a ++ d2 n ++ d2 h)).replyW 127) }) ∧
  (∀ (a : Fin 128) (sec : Bool) (n : Fin 64) (x : Lock) (s : State),
    isAgent a = true → a.val ≠ agHost → (n.val < 8 → isSecure a sec = true) → s.dev.sy.higherLock a n = none →
    s.dev.sy.lck[n.val]? = some x →
    (x.owner = 0 → exec (.lckTake a sec n) s =
      .next { s with dev := (s.dev.modLck n fun y => { y with owner := a.val }).replyW 0 }) ∧
    (x.owner ≠ 0 → x.owner = a.val → exec (.lckTake a sec n) s = .next { s with dev := s.dev.replyW 0 }) ∧
    (x.owner ≠ 0 → x.owner ≠ a.val → exec (.lckTake a sec n) s =
      .next { s with dev := s.dev.replyW (BitVec.ofNat 32 x.owner) }))) ∧
  ((∀ (a : Fin 128) (sec : Bool) (n : Fin 64) (v : Word) (s : State), isAgent a = true → a.val ≠ agHost →
    isSecure a sec = false →
    (n.val < 16 → exec (.mbxRecv a sec n) s = .next { s with dev := s.dev.replyW 0 } ∧
      exec (.mbxPtrStage a sec n v) s = .next { s with dev := s.dev.busError } ∧
      exec (.mbxSend a sec n v) s = .next { s with dev := s.dev.busError }) ∧
    (n.val < 8 → exec (.lckTake a sec n) s = .next { s with dev := s.dev.replyW 0 } ∧
      exec (.lckRelease a sec n v) s = .next { s with dev := s.dev.busError })) ∧
  (∀ (sec : Bool) (n : Fin 64) (v : Word) (s : State),
    exec (.mbxPtrStage 98 sec n v) s = .next { s with dev := (s.dev.ignoredWrite (0x1400 + 16 * n.val)).reply [] } ∧
    exec (.mbxSend 98 sec n v) s = .next { s with dev := (s.dev.ignoredWrite (0x1404 + 16 * n.val)).reply [] } ∧
    exec (.lckRelease 98 sec n v) s = .next { s with dev := (s.dev.ignoredWrite (0x1804 + 8 * n.val)).reply [] }))

/-- A notice is what is taken: a send into an empty mailbox of the lower notices and the receiver's next read give the reader the
staged pointer and leave the mailbox empty with the notice's type in STATUS.TYPE (R320, R321). -/
def Obligations.NoticeArrives : Prop :=
  ∀ (a r : Fin 128) (sa sr : Bool) (n : Fin 64) (v : Word) (x : Mailbox) (s t u : State),
    isAgent a = true → a.val ≠ agHost → (n.val < 16 → isSecure a sa = true) →
    isAgent r = true → r.val ≠ agHost → (n.val < 16 → isSecure r sr = true) →
    s.dev.sy.mbx[n.val]? = some x → x.full = false → x.revoked = false → x.receiver = r.val → v.toNat < 256 →
    exec (.mbxSend a sa n v) s = .next t → exec (.mbxRecv r sr n) t = .next u →
    u.dev.out = { bytes := leBytes 4 x.staged.toNat, busErr := false } ∧
    (∃ y, u.dev.sy.mbx[n.val]? = some y ∧ y.full = false ∧ y.sender = 0 ∧ y.lastType = v.toNat % 256 ∧
      y.staged = x.staged ∧ y.receiver = r.val) ∧
    (∀ k, k ≠ n.val → u.dev.sy.mbx[k]? = s.dev.sy.mbx[k]?) ∧ u.dev.sy.lck = s.dev.sy.lck ∧ u.dev.pw = s.dev.pw ∧
    u.dev.ms = s.dev.ms ∧ u.dev.ho = s.dev.ho ∧ u.dev.ln = s.dev.ln ∧ u.nv = s.nv

/-- The timers' commands (R366, R368, R369): ARM, STOP, a counted edge, a capture edge, a read of CAP and writes to CMP and TOP
each change their timer alone, and MODE is written where it names a lower-numbered master and ignored where it names none
that a slave mode or CLK_SEL 3 needs (R370). The events of a run (R366, R367): COUNT equal to CMP performs the compare event,
equal to TOP the end event, which clears RUN and keeps COUNT; FORCE_CMP performs the compare event and disables the
comparator for the rest of the run (R368). With no slave, no interrupt and no output the timer alone changes. MOTION_CHANGED
(R371): MOVING_PULSE is set when the pulses of the window exceed THRESH and cleared after CLEAR_S seconds at or below it; the
change raises MOTION_CHANGED. -/
def Obligations.Timers : Prop :=
  (∀ (t : Fin 16) (v : Word) (s : State),
    exec (.tmrArm t) s = .next { s with dev := (s.dev.modTmr t fun x =>
      { x with count := 0, run := true, hits := 0, cmpDis := false, atCmp := x.cmp == 0, atTop := x.top == 0 }) } ∧
    exec (.tmrStop t) s = .next { s with dev := s.dev.modTmr t fun x => { x with run := false } } ∧
    (s.dev.sy.timersRun = true → (s.dev.timer t).slaveMode ≠ 1 → (s.dev.timer t).clkSel ≠ 3 →
      ((s.dev.timer t).clkSel = 2 → s.dev.ho.glb.auxMode ((s.dev.timer t).ctrl.toNat / 8192 % 32) = 1) →
      exec (.tmrCountedEdge t) s = .next { s with dev := (s.dev.modTmr t fun x => if x.run then
        { x with count := x.count + 1, atCmp := x.count + 1 == x.cmp && x.count + 1 != 0,
                 atTop := x.count + 1 == x.top && x.count + 1 != 0 } else x) }) ∧
    ((s.dev.timer t).slaveMode = 1 → (s.dev.timer (s.dev.timer t).master).run = false →
      exec (.tmrCountedEdge t) s = .next s) ∧
    ((s.dev.timer t).capEdge ≠ 0 → exec (.tmrCapture t) s = .next { s with dev := (s.dev.modTmr t fun x =>
      if x.run then { x with cap := x.count, capOvr := x.capOvr || x.capVal, capVal := true } else x) }) ∧
    exec (.tmrCapRead t) s = .next { s with dev :=
      ((s.dev.replyW (s.dev.timer t).cap).modTmr t fun x => { x with capVal := false }) } ∧
    exec (.tmrCmpWrite t v) s = .next { s with dev := s.dev.modTmr t fun x => { x with cmp := v, atCmp := false } } ∧
    exec (.tmrTopWrite t v) s = .next { s with dev := s.dev.modTmr t fun x => { x with top := v, atTop := false } } ∧
    (v.toNat < 16384 → v.toNat % 16 < t.val →
      exec (.tmrModeWrite t v) s = .next { s with dev := s.dev.modTmr t fun x => { x with mode := v } }) ∧
    (v.toNat < 16384 → t.val ≤ v.toNat % 16 → v.toNat % 64 ≠ 0 →
      exec (.tmrModeWrite t v) s = .next { s with dev := s.dev.raise evTmrConfigInvalid none [] }) ∧
    (v.toNat < 16384 → t.val ≤ v.toNat % 16 → (s.dev.timer t).clkSel = 3 →
      exec (.tmrModeWrite t v) s = .next { s with dev := s.dev.raise evTmrConfigInvalid none [] }) ∧
    ((s.dev.timer t).clkSel = 3 → exec (.tmrCountedEdge t) s = .next s)) ∧
  ((∀ (t : Fin 16) (s : State), (s.dev.timer t).run = true → (s.dev.timer t).atCmp = true → (s.dev.timer t).cmpDis = false →
    exec (.tmrCompare t) s = .next { s with dev := s.dev.compareEvent t }) ∧
  (∀ (t : Fin 16) (s : State), (s.dev.timer t).run = true → (s.dev.timer t).atTop = true →
    ((s.dev.timer t).atCmp = false ∨ (s.dev.timer t).cmpDis = true) →
    exec (.tmrEnd t) s = .next { s with dev := s.dev.endEvent t }) ∧
  (∀ (t : Fin 16) (s : State),
    exec (.tmrForceCmp t) s = .next { s with dev := (s.dev.compareEvent t).modTmr t fun x => { x with cmpDis := x.run } }) ∧
  (∀ (t : Fin 16) (x : Timer) (d : Dev), d.sy.tmr[t.val]? = some x → d.slaves t = [] → x.irqEn = false →
    x.ctrl.getLsbD 18 = false →
    d.compareEvent t = d.modTmr t (fun _ => { x with cmpFlag := true, hits := min 3 (x.hits + 1), atCmp := false }) ∧
    (d.sy.motion.ctl.getLsbD 0 = false →
      d.endEvent t = d.modTmr t fun _ => { x with run := false, endFlag := true, atTop := false }))) ∧
  ((∀ s : State, s.dev.sy.motion.en = true → s.dev.sy.motion.moving = false →
    s.dev.sy.motion.thr.toNat < s.dev.sy.motion.pulses →
    exec .motionChanged s = .next { s with dev :=
      ((s.dev.onSy fun y => { y with motion := { y.motion with moving := true } }).raise evMotionChanged none []) }) ∧
  (∀ s : State, s.dev.sy.motion.moving = true →
    (s.dev.sy.motion.ctl.toNat / 4096 % 1024) * 1000000000 ≤ s.dev.sy.motion.calmNs →
    exec .motionChanged s = .next { s with dev :=
      ((s.dev.onSy fun y => { y with motion := { y.motion with moving := false } }).raise evMotionChanged none []) }))

/-- The watchdog's registers (R372, R373, R378): EN, CLK_SEL and PERIOD are taken once from the active supervisor and locked by
EN, the window opens, an opening key lapses, and CLR clears the count and the cause. Warm starts (R374, R396, R397, R402):
with BOOT_FAILS below 3 outside RECOVERY a watchdog timeout, a key outside its window and a wrong key adopt the newest
checkpoint and count the cause and the start; a correct service restarts the period, and its second write after the key has
lapsed does nothing. -/
def Obligations.Watchdog : Prop :=
  ((∀ (a : Fin 128) (v : Word) (s : State), a.val ≠ agHost → a.val = s.dev.sy.activeSup → s.dev.sy.wdt.en = false →
    65536 ≤ v.toNat → v.toNat % 65536 < 4 →
    exec (.wdtEnWrite a v) s = .next { s with dev := (s.dev.onSy fun y => { y with wdt := { y.wdt with
      countNs := 0, heldNs := 0, keyOpen := false, lapsed := false, opened := decide (Config.wdtWindow = 0), en := v.getLsbD 0, clkSel := v.getLsbD 1,
      period := v.toNat / 65536 } }) }) ∧
  (∀ (a : Fin 128) (v : Word) (s : State), a.val ≠ agHost → (a.val ≠ s.dev.sy.activeSup ∨ s.dev.sy.wdt.en = true) →
    exec (.wdtEnWrite a v) s = .next s) ∧
  (∀ s : State, s.dev.wdtRuns = true → s.dev.sy.wdt.reaches (25 * Config.wdtWindow) = true →
    exec .wdtWindowOpen s = .next { s with dev := s.dev.onSy fun y => { y with wdt := { y.wdt with opened := true } } }) ∧
  (∀ s : State,
    exec .wdtKeyLapse s = .next { s with dev := s.dev.onSy fun y => { y with wdt := { y.wdt with keyOpen := false, lapsed := y.wdt.lapsed || y.wdt.keyOpen } } }) ∧
  (∀ (v : Word) (s : State), v.toNat = 0x80000000 →
    exec (.wdtResetClear v) s = .next { s with dev := (s.dev.onSy fun y => { y with wdt := { y.wdt with
      resets := 0, lastCause := 0 } }) })) ∧
  ((∀ (i : StartIn) (s : State), s.dev.sy.wdt.en = true → s.dev.sy.wdt.reaches 100 = true → s.nv.bootFails < 3 → i.warm.imageOk = true →
    s.dev.sy.power = .run →
    ∃ t, exec (.watchdogTimeout i) s = .next t ∧ t.dev.sy.startKind = .warm ∧ t.dev.sy.wdt.lastCause = 1 ∧
      t.dev.sy.wdt.resets = min 65535 (s.dev.sy.wdt.resets + 1) ∧ t.dev.sy.power = .run ∧ t.dev.sy.noSup = false ∧
      t.dev.sy.wdt.countNs = 0 ∧ t.nv.bootFails = s.nv.bootFails + 1 ∧ t.dev.pw.map = s.dev.pw.map) ∧
  (∀ (a : Fin 128) (i : StartIn) (s : State), a.val ≠ agHost → a.val = s.dev.sy.activeSup → s.dev.sy.wdt.en = true →
    (s.dev.sy.wdt.keyOpen = false → exec (.wdtKeyWrite a 0x0000C35A i) s = .next { s with dev := (s.dev.onSy fun y =>
      { y with wdt := { y.wdt with keyOpen := true, lapsed := false } }) }) ∧
    (s.dev.sy.wdt.lapsed = true → exec (.wdtKeyWrite a 0x00003CA5 i) s = .next { s with dev := (s.dev.onSy fun y =>
      { y with wdt := { y.wdt with lapsed := false } }) }) ∧
    (s.dev.sy.wdt.keyOpen = true → s.dev.sy.wdt.lapsed = false → s.dev.sy.wdt.opened = true → s.dev.sy.wdt.expired = false →
      exec (.wdtKeyWrite a 0x00003CA5 i) s = .next { s with dev := (s.dev.onSy fun y => { y with wdt := { y.wdt with
        countNs := 0, heldNs := 0, keyOpen := false, lapsed := false, opened := decide (Config.wdtWindow = 0) } }) })))

/-- The four resets that change nothing of the watchdog's record start a cold start (R396, R397): with BOOT_FAILS below 3, the
AON power kept, a verified image and good settings the device is in LINER from the active slot with BOOT_FAILS counted, the
straps as sampled, the stored map and settings in force, and no ring, tag, event or lock left; SEC_MIN, the owner counter and
the keys stand. CLOCK_LOST is a cold start that the watchdog's record counts with cause CLOCK_LOST (R374, R375), and
WAKE_START the start of a device that a wake source woke from DEEP or SHIP, which keeps its wake cause (R386, R397). Events
of the device's clocks and of BOOT_FAILS: the RC fallback is reported in AON_RC (R375); BOOT_FAILS_CLEAR clears BOOT_FAILS,
raises SEC_MIN to the running image's level and erases nothing where no erase is ready (R399, R414); a WAKE_N held low at a
cold start enters RECOVERY (R430). -/
def Obligations.Starts : Prop :=
  (∀ (b : BootIn) (s : State), b.aonLost = false → b.imageOk = true → b.slotOk = true → b.settingsOk = true →
    s.dev.slotPasses s.nv s.nv.activeSlot = true → s.nv.bootFails < 3 →
    ∀ c ∈ [Instr.powerOn b, .resetNLow b, .brownOut b, .engineClockLockLoss b],
    ∃ t, exec c s = .next t ∧ t.dev.sy.power = .liner ∧ t.dev.sy.startKind = .cold ∧ t.dev.sy.straps = b.straps ∧
      t.dev.pw.map = s.dev.sy.set.map ∧ t.dev.pw.profile = s.dev.sy.set.profile ∧ t.dev.sy.set = s.dev.sy.set ∧
      t.dev.ho.rings = [] ∧ t.dev.ho.tags = [] ∧ t.dev.ho.glb.evstat = [] ∧ t.dev.ho.win = [] ∧
      t.dev.sy.lck = List.replicate 64 {} ∧ t.dev.sy.wdt.resets = s.dev.sy.wdt.resets ∧
      t.nv.bootFails = s.nv.bootFails + 1 ∧ t.nv.activeSlot = s.nv.activeSlot ∧ t.nv.secMin = s.nv.secMin ∧
      t.nv.ownerCnt = s.nv.ownerCnt ∧ t.nv.keyA = s.nv.keyA ∧ t.nv.keyB = s.nv.keyB ∧ t.pending = s.pending) ∧
  ((∀ (b : BootIn) (s : State), b.aonLost = false → b.imageOk = true → b.slotOk = true → b.settingsOk = true →
    s.dev.slotPasses s.nv s.nv.activeSlot = true → s.nv.bootFails < 3 →
    ∃ t, exec (.clockLost b) s = .next t ∧ t.dev.sy.power = .liner ∧ t.dev.sy.startKind = .cold ∧
      t.dev.sy.wdt.lastCause = 4 ∧ t.dev.sy.wdt.resets = min 65535 (s.dev.sy.wdt.resets + 1) ∧
      t.nv.bootFails = s.nv.bootFails + 1 ∧ t.dev.pw.map = s.dev.sy.set.map ∧ t.pending = s.pending) ∧
  (∀ (b : BootIn) (s : State), (s.dev.sy.power = .deep ∨ s.dev.sy.power = .ship) → s.dev.sy.wakeCause ≠ 0 →
    b.aonLost = false → b.imageOk = true → b.settingsOk = true →
    s.dev.slotPasses s.nv s.nv.activeSlot = true → s.nv.bootFails < 3 →
    ∃ t, exec (.wakeStart b) s = .next t ∧ t.dev.sy.power = .liner ∧ t.dev.sy.startKind = .wake ∧
      t.dev.sy.wakeCause = s.dev.sy.wakeCause ∧ t.dev.sy.wakeSrc = s.dev.sy.wakeSrc ∧
      t.dev.sy.time.now = s.dev.sy.time.te + spanNs ((b.aonCount + 281474976710656 -
        s.dev.sy.time.ae % 281474976710656) % 281474976710656) ∧
      t.nv.bootFails = s.nv.bootFails + 1 ∧ t.dev.pw.map = s.dev.sy.set.map ∧ t.pending = s.pending)) ∧
  ((∀ s : State, exec .aonRcFallback s = .next { s with dev := (s.dev.onSy fun y => { y with
    time := { y.time with aonRc := true, rcSpan := true } }) }) ∧
  (∀ s : State, s.dev.inRun = true → s.nv.eraseReady = false →
    exec .bootFailsClear s = .next { s with nv := { s.nv with bootFails := 0, secMin := max s.nv.secMin s.nv.runSecVer } }) ∧
  (∀ s : State, s.dev.inRun = true → s.nv.eraseReady = true → s.nv.keyA.valid = true → s.nv.keyB.valid = true →
    exec .bootFailsClear s = .next { s with nv := { s.nv with
      bootFails := 0, secMin := max s.nv.secMin s.nv.runSecVer, erasePend := false, eraseReady := false,
      keyA := if s.nv.keyB.gen ≤ s.nv.keyA.gen then s.nv.keyA else {},
      keyB := if s.nv.keyB.gen ≤ s.nv.keyA.gen then {} else s.nv.keyB } }) ∧
  (∀ s : State, s.dev.sy.startKind = .cold → s.dev.sy.power = .liner →
    ∃ t, exec .recoveryWakeNHold s = .next t ∧ t.dev.sy.power = .recovery ∧ t.nv = s.nv ∧ t.dev.ho.rings = s.dev.ho.rings))

/-- R399: a cold start that finds BOOT_FAILS at 3 starts the other slot and raises IMAGE_SLOT_SWITCHED, and one that brings it to
6 or more enters RECOVERY. A warm start counts itself in BOOT_FAILS and starts its image; where it finds 3 it is a cold start
from the other slot (R399): the watchdog's timeout in both cases. -/
def Obligations.SlotSwitch : Prop :=
  ((∀ (b : BootIn) (s : State), b.aonLost = false → b.imageOk = true → b.slotOk = true → b.settingsOk = true →
    s.dev.slotPasses s.nv (1 - s.nv.activeSlot) = true → s.nv.bootFails = 3 →
    ∃ t, exec (.resetNLow b) s = .next t ∧ t.nv.activeSlot = 1 - s.nv.activeSlot ∧ t.nv.bootFails = 4 ∧
      t.dev.sy.slot = 1 - s.nv.activeSlot ∧ evImageSlotSwitched ∈ t.dev.ho.glb.evstat ∧ t.dev.sy.power = .liner) ∧
  (∀ (b : BootIn) (s : State), 5 ≤ s.nv.bootFails →
    ∃ t, exec (.resetNLow b) s = .next t ∧ t.dev.sy.power = .recovery ∧ t.nv.activeSlot = s.nv.activeSlot)) ∧
  (∀ (i : StartIn) (s : State), s.dev.wdtRuns = true → s.dev.sy.wdt.reaches 100 = true → s.nv.bootFails = 3 → i.boot.aonLost = false →
    i.boot.imageOk = true → i.boot.slotOk = true → i.boot.settingsOk = true →
    s.dev.slotPasses s.nv (1 - s.nv.activeSlot) = true →
    ∃ t, exec (.watchdogTimeout i) s = .next t ∧ t.dev.sy.startKind = .cold ∧ t.nv.activeSlot = 1 - s.nv.activeSlot ∧
      t.nv.bootFails = 4 ∧ t.dev.sy.power = .liner ∧ t.dev.sy.wdt.lastCause = 1)

/-- The liner's commands (R392, R393): a source at 1.05 times the target passes its test into RUNNING with the phases that pass
the gauntlet and a soft start from the measured BUS0 voltage, or fails where none does; overvoltage above the target + 10 %,
collapse below 10 %, their ends and a source below 1.02 times the target move the liner alone. HAND_OVER (R394, R397): with a
verified image, a settled reference, no liner that holds its outputs and no LIMP cause that stands, firmware enters RUN. -/
def Obligations.LinerAndHandOver : Prop :=
  ((∀ (o : LinerObs) (s : State), s.dev.sy.liner.st = .test → 105 * s.dev.sy.linerTarget ≤ 100 * s.dev.linerSource o.srcUv →
    ((∃ p, p < 4 ∧ s.dev.linerFinding o p = none) →
      ∃ w f, (∀ p, p < 4 → w.getLsbD p = (s.dev.linerFinding o p).isNone) ∧
        (∀ p n, (p, n) ∈ f ↔ p < 4 ∧ s.dev.linerFinding o p = some n) ∧
        exec (.linerSourceTestPass o) s = .next { s with dev := ((s.dev.setSwitch s.dev.sy.linerSrc .on).modLiner fun l =>
          { l with passed := w, fltLow := 0, st := .running, findings := f, v0 := s.dev.linerBus o.busUv, softNs := 0 }) }) ∧
    ((∀ p, p < 4 → s.dev.linerFinding o p ≠ none) →
      ∃ t, exec (.linerSourceTestPass o) s = .next t ∧ t.dev.sy.liner.st = .failed ∧
        t.dev.sy.liner.findings.map Prod.fst = [0, 1, 2, 3])) ∧
  (∀ (v : Int) (s : State), s.dev.sy.liner.st = .running →
    (11 * s.dev.sy.linerTarget < 10 * s.dev.linerBus v →
      exec (.linerBusOvervoltage v) s = .next { s with dev := (s.dev.modLiner fun l => { l with st := .heldHigh }).linerLow }) ∧
    (10 * s.dev.linerBus v < s.dev.sy.linerTarget →
      exec (.linerBusCollapse v) s = .next { s with dev := (s.dev.modLiner fun l => { l with st := .collapsed }).linerLow }) ∧
    (100 * s.dev.linerSource v < 102 * s.dev.sy.linerTarget →
      exec (.linerSourceLow v) s = .next { s with dev :=
        (((s.dev.modLiner fun l => { l with st := .test }).linerLow).setSwitch s.dev.sy.linerSrc .off) })) ∧
  (∀ (v : Int) (s : State), s.dev.sy.liner.st = .heldHigh → s.dev.linerBus v < s.dev.sy.linerTarget →
    exec (.linerOvervoltageRelease v) s = .next { s with dev := s.dev.modLiner fun l => { l with st := .running } }) ∧
  (∀ (v : Int) (s : State), s.dev.sy.liner.st = .collapsed →
    exec (.linerSoftStartRepeat v) s = .next { s with dev := s.dev.modLiner fun l =>
      { l with st := .running, v0 := s.dev.linerBus v, softNs := 0 } })) ∧
  (∀ s : State, s.dev.sy.power = .liner → s.dev.sy.imageOk = true → s.dev.ms.ref.settled = true →
    s.dev.sy.liner.st ≠ .heldHigh → s.dev.sy.liner.st ≠ .collapsed → s.dev.sy.startKind = .cold →
    s.dev.sy.limpCause = 0 →
    ∃ t, exec .handOver s = .next t ∧ t.dev.sy.power = .run ∧ t.dev.sy.liner.findings = [] ∧
      t.nv = s.nv ∧ t.pending = s.pending)

/-- Failover (R246, R402, R405): an active supervisor that stalls with its standby ready hands over to it; the takeover adopts
the newest checkpoint, is counted and raises SUP_TAKEOVER; a standby that has read a checkpoint is ready. Errors in memory
and the end of a hold: a corrected error raises ECC_CORRECTED, an uncorrectable one in a checkpoint buffer makes that buffer
partial, an uncorrectable one of a source engine is the fault of its agent (R248), and a hold that expires puts every charge
ceiling to 0 and ends every lend (R403). -/
def Obligations.FailoverAndMemory : Prop :=
  ((∀ (i : StartIn) (s : State), s.dev.sy.activeSup = 1 → s.dev.sy.standbyOk = true → s.dev.sy.takeover = false →
    ∃ t, exec (.engineStall 1 i) s = .next t ∧ t.dev.sy.activeSup = 2 ∧ t.dev.sy.takeover = true ∧ t.dev.sy.noSup = true ∧
      t.dev.sy.standbyOk = false ∧ t.dev.sy.stalls = min 65535 (s.dev.sy.stalls + 1) ∧ t.nv = s.nv) ∧
  (∀ (us : Nat) (i : StartIn) (s : State), s.dev.sy.takeover = true → s.dev.sy.imageOk = true → s.dev.sy.newestCk ≠ none →
    exec (.takeoverComplete us i) s = .next { s with
      dev := ((s.dev.adopt.1.onSy fun y => { y with
          takeovers := satInc 255 y.takeovers, lastTake := min us 65535, tookAt := some y.time.now }).raise evSupTakeover none
        (d4 s.dev.adopt.2 ++ dDur us)),
      nv := s.nv.reactivate }) ∧
  (∀ s : State, s.dev.inRun = true → s.dev.sy.takeover = false → s.dev.sy.supRetired = [false, false, false, false] →
    s.dev.sy.stall = [] → s.dev.sy.newestCk ≠ none →
    exec .standbyOk s = .next { s with dev := s.dev.onSy fun y => { y with standbyOk := true } })) ∧
  ((∀ (a : Fin 128) (s : State), exec (.eccCorrected a) s = .next { s with dev := s.dev.raise evEccCorrected (some a.val) [] }) ∧
  (∀ (a : Fin 128) (k : Fin 2) (i : StartIn) (s : State),
    exec (.eccUncorrectable a (some k) i) s = .next { s with dev := (s.dev.onSy fun y => { y with
      ck := y.ck.modify k.val fun b => { b with bad := true } }) }) ∧
  (∀ (a : Fin 128) (i : StartIn) (s : State), 1 ≤ a.val → a.val < 98 → a.val ≠ s.dev.sy.activeSup →
    exec (.eccUncorrectable a none i) s = .next { s with dev := s.dev.agentFault a evAgentDeclared }) ∧
  (∀ s : State, s.dev.sy.holdOn = true → s.dev.sy.holdOut = false → s.dev.sy.tookAt ≠ some s.dev.now →
    exec .holdExpired s = .next { s with dev :=
      ((((s.dev.onSy fun y => { y with holdOut := true }).onset evHoldExpired 0 none []).each (List.range 16) fun k e =>
        (e.modStr k fun x => { x with iCeil := 0 }).endImp k 5).each (List.range 12) fun k e => e.endLend k 9) }))

/-- BACKOFF_EXPIRY (R61, R238) of a FAULTED unit starts its retry: a phase's rejoin check, a source's qualification, a
supervisor's recovery and a unit's re-acquisition, each counted in its retry record; a mitten's retry gauntlet. A string
whose TEMP pause ends goes on from START, or in PRECHARGE where its battery is dead (R149). A phase whose driver fault stands
keeps waiting. -/
def Obligations.BackoffRetries : Prop :=
  (∀ (p : Fin 64) (flt : Bool) (s : State), (s.dev.phase p).st = .faulted → (s.dev.phase p).rejoin = false →
    s.dev.pw.quadBad.getD (p.val / 4) false = false → (flt = false ∨ (s.dev.phase p).lad.cause ≠ evPhaseDriverFault) →
    s.dev.sy.power ≠ .sleep → s.dev.sy.order ≠ some .sleep → s.dev.sy.sleepNext = false →
    exec (.backoffExpiry (.phase p) flt) s = .next { s with dev := ((s.dev.modPh p fun x => { x with
      rejoin := true, latch := false, flt := flt,
      lad := { retries := x.lad.recent s.dev.now ++ [s.dev.now], backoff := none, cause := x.lad.cause } }).recoverAgent (34 + p.val)) }) ∧
  (∀ (k : Fin 12) (flt : Bool) (ms : Nat) (s : State), (s.dev.source k).st = .faulted → (s.dev.source k).lad.backoff = some ms →
    exec (.backoffExpiry (.source k) flt) s = .next { s with dev := (((s.dev.modSrc k fun x => { x with
      st := .absent, lad := { retries := x.lad.recent s.dev.now ++ [s.dev.now], backoff := none, cause := x.lad.cause } }).modSw
        k fun w => { w with openFlt := false }).recoverAgent (6 + k.val)) }) ∧
  (∀ (m : Fin 16) (flt : Bool) (ms : Nat) (s : State), (s.dev.mitten m).st = .faulted →
    (s.dev.mitten m).lad.backoff = some ms → (s.dev.mitten m).disc = false → (s.dev.mitten m).held = false →
    (s.dev.mitten m).mismatch = false → s.dev.sy.power ≠ .sleep → s.dev.sy.order ≠ some .sleep → s.dev.sy.sleepNext = false → (∀ c, (s.dev.mitten m).lad.cause = evMittenOvertemp →
      s.dev.stageT m = some c → c < s.dev.mp m 14) →
    exec (.backoffExpiry (.mitten m) flt) s = .next { s with dev := ((s.dev.modMit m fun x => { x with
      lad := { retries := x.lad.recent s.dev.now ++ [s.dev.now], backoff := none, cause := x.lad.cause } }).beginGauntlet m
        (s.dev.startRev m) true) }) ∧
  (∀ (k : Fin 16) (flt : Bool) (ms : Nat) (d : Dev) (s : State), (s.dev.string k).st ≠ .faulted → (s.dev.string k).lad.backoff = some ms →
    d = (((s.dev.modStr k fun x => { x with
      tFault := false, lad := { retries := x.lad.recent s.dev.now ++ [s.dev.now], backoff := none, cause := x.lad.cause } }).modSw
        (12 + k.val) fun w => { w with openFlt := false }).recoverAgent (18 + k.val)) →
    exec (.backoffExpiry (.string k) flt) s = .next { s with dev :=
      (if ((s.dev.string k).st = .running ∨ (s.dev.string k).st = .paused) ∧ (s.dev.switch (12 + k.val)).hold = false ∧
        d.deadBattery k = true then (d.endImp k 3).enterPre k else d.toStart k) } ∧
    ((s.dev.string k).st ≠ .running → (s.dev.string k).st ≠ .paused → d.toStart k = d)) ∧
  (∀ (k : Fin 16) (flt : Bool) (ms : Nat) (s : State), (s.dev.unit k).fault = true → (s.dev.unit k).lad.backoff = some ms →
    exec (.backoffExpiry (.unit k) flt) s = .next { s with dev := (s.dev.modMu k fun x => { x.start .acquiring s.dev.now with
      fault := false, lad := { retries := x.lad.recent s.dev.now ++ [s.dev.now], backoff := none, cause := x.lad.cause } }) }) ∧
  (∀ (a : Fin 4) (flt : Bool) (l : Ladder) (ms : Nat) (s : State), s.dev.sy.supLad[a.val]? = some l → l.backoff = some ms →
    exec (.backoffExpiry (.supervisor a) flt) s = .next { s with dev := ((s.dev.onSy fun y => { y with
      supLad := y.supLad.set a { retries := l.recent s.dev.now ++ [s.dev.now], backoff := none, cause := l.cause } }).recoverAgent
        (a.val + 1)) }) ∧
  (∀ (p : Fin 64) (s : State), (s.dev.phase p).st = .faulted → (s.dev.phase p).rejoin = false →
    (s.dev.phase p).lad.cause = evPhaseDriverFault →
    exec (.backoffExpiry (.phase p) true) s = .next { s with dev := ((s.dev.modPh p fun x => { x with
      flt := true, lad := { x.lad with backoff := none } }).recoverAgent (34 + p.val)) })

/-- The retry ladder (R238): the k-th entry within 60 s waits 10 ms x 2^k, k from 0 to 4, and a unit with five retries in the
last 60 s has spent its ladder. -/
def Obligations.RetryLadder : Prop :=
  ∀ (l : Ladder) (now cause : Nat),
    (l.enter now cause).backoff = some (10 * 2 ^ (l.retries.filter fun t => now < t + 60000000000).length) ∧
    (l.enter now cause).cause = cause ∧
    (l.spent now = false → ∃ ms ∈ [10, 20, 40, 80, 160], (l.enter now cause).backoff = some ms) ∧
    (l.spent now = false → ((l.enter now cause).start now).retries.length =
      (l.retries.filter fun t => now < t + 60000000000).length + 1) ∧
    (∀ later, later ≤ now → (l.start now).recent later ≠ []) ∧
    (∀ later, (∀ t ∈ l.retries, t + 60000000000 ≤ later) → l.spent later = false)

/-- Power-state entries and wakes (R361, R385, R386): an accepted DEEP or SHIP is entered at the boundary with its time latched,
not before the tick that a chain's order names, SLEEP waits for its checkpoint, and PWR_EN is low in SHIP until the wake
(R455); WAKE_N wakes DEEP and SHIP with cause 1 and SLEEP to RUN; a source's comparator wakes where WAKE_EN is set. -/
def Obligations.PowerEntryAndWake : Prop :=
  (∀ (n : Nat) (s : State), s.dev.inRun = true → s.dev.sy.order = some .sleep → s.dev.sy.orderAt ≤ s.dev.sy.tick.count →
    exec (.powerStateEntry n) s = .next { s with dev := s.dev.onSy fun y => { y with sleepNext := true, order := none } }) ∧
  (∀ (n : Nat) (s : State), s.dev.inRun = true → (s.dev.sy.order = some .deep ∨ s.dev.sy.order = some .ship) →
    s.dev.sy.orderAt ≤ s.dev.sy.tick.count →
    ∃ t, exec (.powerStateEntry n) s = .next t ∧ some t.dev.sy.power = s.dev.sy.order ∧ t.dev.sy.order = none ∧
      t.dev.sy.time.ae = n ∧ t.dev.sy.wakeCause = 0 ∧ t.dev.sy.pwrEn = decide (s.dev.sy.order = some .deep) ∧ t.dev.sy.tmr = List.replicate 16 {} ∧ t.nv = s.nv) ∧
  (∀ (n : Nat) (s : State), s.dev.sy.tick.count < s.dev.sy.orderAt → exec (.powerStateEntry n) s = .next s) ∧
  (∀ s : State, (s.dev.sy.power = .deep ∨ s.dev.sy.power = .ship) → s.dev.sy.wakeCause = 0 → s.dev.sy.order = none →
    s.dev.sy.sleepNext = false →
    exec .wakeNLow s = .next { s with dev := s.dev.onSy fun y => { y with
      wakeCause := 1, wakeSrc := 0, pwrEn := true } }) ∧
  (∀ s : State, s.dev.sy.power = .sleep → s.dev.sy.order = none → s.dev.ln.chn.role ≠ 1 →
    exec .wakeNLow s = .next { s with dev := (s.dev.onSy fun y => { y with
      power := .run, wakeCause := 1, sleepNext := false, wdt := y.wdt.restart }) }) ∧
  (∀ (k : Fin 12) (uv : Nat) (fell : Bool) (s : State), (s.dev.sy.power = .deep ∨ s.dev.sy.power = .ship) →
    s.dev.sy.wakeCause = 0 → (s.dev.srcE k).type ≠ 0 → s.dev.sp k 38 = 1 → s.dev.trips k uv = true →
    ((s.dev.source k).wakeAbove = false ∨ fell = true) →
    exec (.sourceWakeComparator k uv fell) s = .next { s with dev := (s.dev.onSy fun y => { y with
      wakeCause := 2, wakeSrc := k.val, pwrEn := true }) })

/-- CONTROL_TICK, CHARGE_FRAME_BOUNDARY and POLICY_FRAME_BOUNDARY (R73, R210, R211): where the grid and the lag rule permit a
boundary, time moves and the parts of the tick run in their order; a charge frame places its checkpoint first (R401), and in
LINER it serves the reference alone; a policy frame of LINER runs its unit, motion and FRAME-cause work. The rows that a
frame's work or a lag makes: 64 boundaries with lag enter LIMP with cause FRAME (R218), LIMP ends when its causes have
cleared (R233), the measurement of a bus capacitance begins on a mitten that can serve it (R251), and CLOSE_SEQ makes the
completions of the checkpoint's commands due (R401). -/
def Obligations.FrameBoundaries : Prop :=
  ((∀ (n : Nat) (aux : BitVec 32) (er : Bool) (s : State), s.dev.sy.ticking = true →
    s.dev.mayFall 0 (s.dev.now + 10 * n) = true →
    ∃ d, d = ((((((s.dev.tickTime n).wdtTick (10 * n) er).modGlb fun g => { g with auxIn := g.maskAux aux }).onMs fun m =>
        { m with cap := m.cap.map fun c => c.map Capture.newTick }).turnWindows).chainTick).engineTick ∧
      exec (.controlTick n aux er) s = .next { s with dev :=
        (let e := d.each ((d.ho.rings.filter fun p => !p.2.evWait.isEmpty).map (·.1)) fun r e => e.flushRing r
        if e.ln.chn.st == .formed && e.ln.chn.role == 1 then e.emitFrame else e) }) ∧
  (∀ (all : Bool) (s : State), s.dev.sy.power = .liner → s.dev.sy.takeover = false → s.dev.sy.ckOpen = false →
    s.dev.mayFall 1 s.dev.now = true →
    exec (.chargeFrameBoundary all) s = .next { s with dev := ((s.dev.boundary 1).showBoundary 1).refFrame }) ∧
  (∀ (all : Bool) (s : State), s.dev.inRun = true → s.dev.sy.takeover = false → s.dev.sy.ckOpen = false → s.dev.mayFall 1 s.dev.now = true →
    exec (.chargeFrameBoundary all) s = .next { s with dev :=
      (let d := ((s.dev.writeCheckpoint.boundary 1).showBoundary 1).refFrame
      let d := (d.each (List.range 16) fun k e => e.stringFrame k).each (List.range 12) fun k e => e.sourceFrame k
      let d := d.frameCounts.each (List.range 16) fun m e => e.senseFrame m
      let d := d.each (List.range 16) fun k e => e.modMu k fun u => { u with syncNow := u.syncNow ||| u.syncChg, syncChg := 0 }
      let d := (if d.pw.arbDue && d.supWorks && d.inRun then d.arbitrate else d).applySwitches true
      let d := (if d.supWorks then d.commitStep all else d).each (List.range 16) fun m e => e.joinRule m
      if d.sy.lateB && d.supWorks && d.onTime then d.policyB else d) }) ∧
  (∀ (l : List AgeMeas) (late : Bool) (s : State), s.dev.sy.power = .liner → s.dev.sy.takeover = false → s.dev.sy.pieceQ = [] →
    s.dev.sy.cframe.last = s.dev.now → s.dev.mayFall 2 s.dev.now = true →
    exec (.policyFrameBoundary l late) s = .next { s with dev :=
      (((((s.dev.boundary 2).showBoundary 2).cleanFrames).each (List.range 16) fun k e => e.modMu k fun u =>
        u.policy s.dev.now).motionFrame) })) ∧
  ((∀ (l : Fin 3) (s : State), 64 ≤ (s.dev.sy.level l).lagRun →
    exec (.frameLagLimp l) s = .next { s with dev := s.dev.enterLimp 0 }) ∧
  (∀ s : State, s.dev.sy.power = .limp → s.dev.sy.limpCause &&& 7#4 = 0 →
    exec .limpLeft s = .next { s with dev := (((s.dev.onSy fun y => { y with power := .run }).each (List.range 16) fun k e =>
      e.reenter k).raise evLimpLeft none []) }) ∧
  (∀ (b : Fin 4) (m : Fin 16) (s : State), (s.dev.pw.map.busE b).enable = true → s.dev.classC = true →
    s.dev.sy.pframe.lag = 0 → s.dev.ln.chn.role = 0 → (s.dev.busOf b).capRun = none →
    (∀ t, (s.dev.busOf b).capAt = some t → t + 86400000000000 ≤ s.dev.now) →
    s.dev.capFits b m = true →
    exec (.capacitanceMeasurement b m) s = .next { s with dev := s.dev.modBus b fun y => { y with capRun := some { mit := m } } }) ∧
  (∀ s : State, s.dev.sy.ckOpen = true → s.dev.sy.noSup = false → s.dev.sy.holdOn = false → s.dev.sy.actDue = none →
    s.dev.sy.sleepNext = false → s.dev.ln.hb.wait = none →
    exec .checkpointComplete s = .next { s with dev := ((s.dev.onSy fun y => { y with
        ckOpen := false, ck := y.ck.modify ((s.dev.sy.ckNext - 1) % 2) fun b => { b with closeSeq := s.dev.sy.ckNext - 1 } }).onHo
      fun h => { h with tags := h.tags.map fun x => if x.st = .awaiting ∧ x.ckAt ≠ 0 ∧ x.ckAt ≤ s.dev.sy.ckNext - 1 then
        { x with st := .due } else x }) }) ∧
  (∀ s : State, s.dev.sy.ckOpen = true → s.dev.sy.noSup = false → s.dev.sy.holdOn = false → s.dev.sy.actDue = none →
    s.dev.sy.sleepNext = true →
    ∃ t, exec .checkpointComplete s = .next t ∧ t.dev.sy.power = .sleep ∧ t.dev.sy.sleepNext = false))

/-- What a boundary of a level does (R210-R212, R217): the count goes up by one, dt is the time since the last boundary, the lag
is how far the boundary lies behind its nominal place, and a lag over two periods raises FRAME_OVERRUN once in its episode. -/
def Obligations.LevelGrid : Prop :=
  (∀ (v : Level) (l now rep : Nat), let w := v.boundary l now rep none
    w.count = v.count + 1 ∧ w.last = now ∧ w.dt = now - v.last ∧ w.epoch = v.epoch ∧
    ((now : Int) ≤ v.epoch + (v.count + 1) * levelPeriod l → w.lag = 0 ∧ (rep = 0 → w.lagRun = 0 ∧ w.episode = false)) ∧
    (v.epoch + (v.count + 1) * levelPeriod l < (now : Int) →
      (w.lag : Int) = now - (v.epoch + (v.count + 1) * levelPeriod l) ∧ w.lagRun = v.lagRun + 1 ∧ w.episode = v.episode)) ∧
  (∀ (d : Dev) (l : Nat), l ≤ 2 → (l = 0 → d.sy.gridNew = false) →
    ((d.boundary l).sy.level l).count = (d.sy.level l).count + 1 ∧
    (d.boundary l).pw = d.pw ∧ (d.boundary l).ms = d.ms ∧ (d.boundary l).sy.time = d.sy.time) ∧
  (∀ (d : Dev) (l : Nat), l ≤ 2 → d.ln.chn.role = 0 → d.ln.chn.syncLock = false → d.sy.gridNew = false → (d.sy.level l).episode = false →
    (d.sy.level l).epoch + ((d.sy.level l).count + 1) * levelPeriod l + 2 * levelPeriod l < (d.now : Int) →
    evFrameOverrun ∈ (d.boundary l).ho.glb.evstat ∧ ((d.boundary l).sy.level l).episode = true ∧
    (d.boundary l).sy.overruns = min 255 (d.sy.overruns + 1))

/-- PWM_CYCLE_BOUNDARY (R45, R59, R61, R73): on an active phase that is not its mitten's lead and whose mitten changes no
direction, the next cycle starts with the period, the target and the set-up that were pending; a tripped cycle counts towards
OC_PERSIST, an untripped one clears the count; no other phase changes. The protections of a phase (R40, R51, R57, R58, R61):
a comparator trip outside blanking, an overcurrent, a driver fault in each state, and a sense fault take their reactions; in
IDLE, FAULTED or RETIRED a driver fault is reported and latched, with no retry entry. A negative crossing trips BIDIR and
FSBB mittens only, and an unpowered quad has no driver fault. Quad rows (R46, R61): a quad supply fault is recorded and
faults the quad's phases, its recovery lets the waiting retries start, a calibration without a failed line marks its phases
calibrated, and a rejoin check that fails is a further entry of the ladder. -/
def Obligations.PhaseRows : Prop :=
  (∀ (p : Fin 64) (m : Nat) (x : Phase) (s : State), s.dev.pw.ph[p.val]? = some x → x.st = .active →
    s.dev.pw.map.mitOf p = some m → s.dev.leadOf m ≠ some p.val → (s.dev.mitten m).dir = .none →
    ∃ t y, exec (.pwmCycleBoundary p) s = .next t ∧ t.dev.pw.ph[p.val]? = some y ∧
      y.period = (if x.coarse then (x.periodNext + 10) / 20 * 20 else x.periodNext) ∧ y.target = x.targetNext ∧
      y.regs = x.held ∧ y.trip = false ∧
      y.ocRun = (if x.trip then x.ocRun + 1 else 0) ∧ y.senseRun = (if x.badCyc then x.senseRun + 1 else 0) ∧
      y.st = .active ∧ y.lad = x.lad ∧ (∀ q, q ≠ p.val → t.dev.pw.ph[q]? = s.dev.pw.ph[q]?) ∧
      t.dev.pw.mit = s.dev.pw.mit ∧ t.dev.pw.str = s.dev.pw.str ∧ t.dev.ms = s.dev.ms ∧ t.dev.sy = s.dev.sy ∧ t.nv = s.nv) ∧
  ((∀ (p : Fin 64) (at' : TripAt) (s : State), (s.dev.phase p).st ≠ .unpowered → (s.dev.phase p).trip = false →
    s.dev.sy.liner.drives p = false →
    (at'.negative = false ∨ ∃ m, s.dev.pw.map.mitOf p = some m ∧ ((s.dev.mitE m).topo = 3 ∨ (s.dev.mitE m).topo = 4)) →
    (s.dev.phase p).regs.prot.toNat % 256 ≤ at'.edge →
    ((s.dev.phase p).mark = false ∨ max ((s.dev.phase p).regs.prot.toNat % 256) 80 ≤ at'.cycle) →
    exec (.comparatorTrip p at') s = .next { s with dev := ((s.dev.rethreshold p).modPh p fun x =>
      { x.cutAt at'.cycle with trip := true, ocTrips := satInc 255 x.ocTrips }) }) ∧
  (∀ (p : Fin 64) (s : State), (s.dev.phase p).st = .active →
    (s.dev.phase p).ocPersist ≤ (s.dev.phase p).ocRun + (if (s.dev.phase p).trip then 1 else 0) →
    exec (.phaseOvercurrent p) s = .next { s with dev := (((s.dev.fault evPhaseOvercurrent (some p.val) []).phaseTransient p
      evPhaseOvercurrent).modPh p fun x => { x with ocRun := 0 }) }) ∧
  (∀ (p : Fin 64) (s : State), ((s.dev.phase p).st = .active ∨ (s.dev.phase p).st = .shed) →
    s.dev.pw.quadOn.getD (p.val / 4) false = true →
    exec (.phaseDriverFault p) s = .next { s with dev := (((s.dev.modPh p fun x => { x with
      duty := 0, onTime := 0, lowTime := 0, burstN := 0, flt := true, latch := true }).fault
      evPhaseDriverFault (some p.val) []).phaseTransient p evPhaseDriverFault) }) ∧
  (∀ (p : Fin 64) (s : State), (s.dev.phase p).st = .gauntlet → s.dev.pw.quadOn.getD (p.val / 4) false = true →
    exec (.phaseDriverFault p) s = .next { s with dev := (((s.dev.modPh p fun x => { x with
      duty := 0, onTime := 0, lowTime := 0, burstN := 0, flt := true, latch := true }).fault
      evPhaseDriverFault (some p.val) []).gauntletTransient p evPhaseDriverFault) }) ∧
  (∀ (p : Fin 64) (s : State), (4 ≤ p.val ∨ s.dev.sy.liner.st = .off) → s.dev.pw.quadOn.getD (p.val / 4) false = true →
    ((s.dev.phase p).st = .idle ∧ (s.dev.phase p).idledAt ≠ some s.dev.sy.tick.count ∨ (s.dev.phase p).st = .faulted ∨
      (s.dev.phase p).st = .retired) →
    exec (.phaseDriverFault p) s = .next { s with dev := ((s.dev.modPh p fun x => { x with
      duty := 0, onTime := 0, lowTime := 0, burstN := 0, flt := true, latch := true }).fault
      evPhaseDriverFault (some p.val) []) }) ∧
  (∀ (p : Fin 64) (s : State), p.val < 4 → s.dev.sy.liner.st ≠ .off → (s.dev.phase p).st = .idle →
    s.dev.pw.quadOn.getD (p.val / 4) false = true → (s.dev.phase p).idledAt ≠ some s.dev.sy.tick.count →
    exec (.phaseDriverFault p) s = .next { s with dev := (((s.dev.modPh p fun x => { x with
      duty := 0, onTime := 0, lowTime := 0, burstN := 0, flt := true, latch := true }).onSy fun y => { y with liner := { y.liner with fltLow := y.liner.fltLow ||| (1#4 <<< p.val) } }).fault
        evPhaseDriverFault (some p.val) []) }) ∧
  (∀ (p : Fin 64) (s : State), ((s.dev.phase p).st = .active ∨ (s.dev.phase p).st = .shed) →
    16 ≤ (s.dev.phase p).senseRun + (if (s.dev.phase p).badCyc then 1 else 0) →
    (∀ m, s.dev.pw.map.mitOf p = some m → (s.dev.mitE m).fsbb = false) →
    exec (.phaseSenseFault p) s = .next { s with dev := (((s.dev.fault evPhaseSenseFault (some p.val) []).phaseTransient p
      evPhaseSenseFault).modPh p fun x => { x with senseRun := 0 }) }) ∧
  (∀ (p : Fin 64) (at' : TripAt) (s : State), (at'.negative = true ∧ (∀ m, s.dev.pw.map.mitOf p = some m →
      (s.dev.mitE m).topo ≠ 3 ∧ (s.dev.mitE m).topo ≠ 4) ∨ at'.edge < (s.dev.phase p).regs.prot.toNat % 256) →
    exec (.comparatorTrip p at') s = .next s) ∧
  (∀ (p : Fin 64) (s : State), s.dev.pw.quadOn.getD (p.val / 4) false = false → exec (.phaseDriverFault p) s = .next s)) ∧
  ((∀ (q : Fin 16) (s : State), s.dev.pw.quadOn.getD q false = true →
    exec (.quadSupplyFault q) s = .next { s with dev := (((s.dev.onPw fun w => { w with quadBad := w.quadBad.set q true }).fault
      evQuadSupplyFault (some q.val) []).quadFault q evQuadSupplyFault) }) ∧
  (∀ (q : Fin 16) (s : State), (∀ p, 4 * q.val ≤ p → p < 4 * q.val + 4 → (s.dev.phase p).st ≠ .faulted) →
    exec (.quadSupplyRecovery q) s = .next { s with dev := s.dev.onPw fun w => { w with quadBad := w.quadBad.set q false } }) ∧
  (∀ (q : Fin 16) (s : State), s.dev.pw.quadOn.getD q false = true → (∀ m, (s.dev.mitten m).gnt = none) →
    ∃ t, exec (.delayLineCalibration q 0) s = .next t ∧ t.dev.ho = s.dev.ho ∧ t.nv = s.nv ∧
      (∀ p x, s.dev.pw.ph[p]? = some x → t.dev.pw.ph[p]? = some (if p / 4 = q.val then
        { x with calOk := true, coarse := false, calAt := s.dev.now, calTemp := (s.dev.unit q).dieT } else x))) ∧
  (∀ (p : Fin 64) (ma : Nat) (s : State), (s.dev.phase p).st = .faulted → (s.dev.phase p).rejoin = true →
    (s.dev.phase p).lad.spent s.dev.now = false →
    exec (.phaseRejoinCheckEnd p ma true) s = .next { s with dev := (s.dev.modPh p fun x => { x with
      rejoin := false, flt := true, latch := true, lad := x.lad.enter s.dev.now (s.dev.phase p).lad.cause }) }) ∧
  (∀ (p : Fin 64) (ma m : Nat) (s : State), (s.dev.phase p).st = .faulted → (s.dev.phase p).rejoin = true →
    s.dev.pw.quadBad.getD (p.val / 4) false = false → s.dev.pw.map.mitOf p = some m →
    (ma : Int) < s.dev.mp m 16 → (s.dev.mitE m).fsbb = false →
    exec (.phaseRejoinCheckEnd p ma false) s = .next { s with dev := (if (s.dev.mitten m).looping then
        (s.dev.modPh p fun x => { x with rejoin := false, flt := false, latch := false, st := .active }).respread m
      else s.dev.modPh p fun x => { x with rejoin := false, flt := false, latch := false, st := .idle }) }))

/-- SAMPLE_TRIGGER (R54, R55, R167): a trigger that does not fire in the cycle counts as skipped; else the request takes the
slice that frees first where that is free, else the slice of other work whose sample started last, or waits in the queue of
four, or is dropped: counted as missed. The law takes the phase's prediction for a skipped or missed trigger of its own (T0,
and T1 under AVG). URGENT_CONVERSION_DONE (R27, R50, R51, R55): the oldest urgent conversion of the phase is done; the phase
engine takes its sample at the scale of its range, a single-ended input against 0.9 V, or its prediction where the sample is
marked or the reference has not settled. The law's triggers are T0 and, under AVG, T1 (R53): no other changes a sample the
law sees. -/
def Obligations.UrgentSamples : Prop :=
  ((∀ (p : Fin 64) (t : Fin 4) (clk : Nat) (s : State), ((s.dev.phase p).st = .active ∨ (s.dev.phase p).st = .gauntlet) →
    ((s.dev.phase p).trigger t).1 ≠ 0 → (s.dev.phase p).fires t = false →
    exec (.sampleTrigger p t clk) s = .next { s with dev := s.dev.modPh p fun x =>
      { x.atTrigger t x.pred with skipped := satInc 255 x.skipped } }) ∧
  (∀ (p : Fin 64) (t : Fin 4) (clk : Nat) (v : MUnit) (s : State),
    ((s.dev.phase p).st = .active ∨ (s.dev.phase p).st = .gauntlet) → ((s.dev.phase p).trigger t).1 ≠ 0 →
    (s.dev.phase p).fires t = true → (s.dev.unit (p.val / 4)).corr ≠ .off →
    (s.dev.unit (p.val / 4)).request (Urgent.mk p.val ((s.dev.phase p).trigSample + 16) clk t.val) = some v →
    exec (.sampleTrigger p t clk) s = .next { s with dev := s.dev.modMu (p.val / 4) fun _ => v }) ∧
  (∀ (p : Fin 64) (t : Fin 4) (clk : Nat) (s : State),
    ((s.dev.phase p).st = .active ∨ (s.dev.phase p).st = .gauntlet) → ((s.dev.phase p).trigger t).1 ≠ 0 →
    (s.dev.phase p).fires t = true → ((s.dev.unit (p.val / 4)).corr = .off ∨
      (s.dev.unit (p.val / 4)).request (Urgent.mk p.val ((s.dev.phase p).trigSample + 16) clk t.val) = none) →
    exec (.sampleTrigger p t clk) s = .next { s with dev := ((s.dev.modPh p fun x =>
      { x.atTrigger t x.pred with missed := satInc 255 x.missed }).modMu (p.val / 4) fun u =>
        { u with dropped := satInc 255 u.dropped }) }) ∧
  (∀ (u : MUnit) (r : Urgent), u.plan = [] → u.corrDue = none → u.queue = [] →
    (∀ i, u.firstFree = some i → (u.slice i).till ≤ r.at0 → u.request r = some { u with
      slices := u.slices.set i (Slice.mk (.urgent r.ph) r.at0 (r.at0 + r.dur) 0), urg := u.urg ++ [(r.ph, 0, r.trig)] }) ∧
    (∀ i j, u.firstFree = some i → r.at0 < (u.slice i).till → u.latest r.at0 = some j → (u.slice j).use = .window →
      u.request r = some { u with
        slices := u.slices.set j (Slice.mk (.urgent r.ph) r.at0 (r.at0 + r.dur) 0), urg := u.urg ++ [(r.ph, 0, r.trig)] }) ∧
    (∀ i, u.firstFree = some i → r.at0 < (u.slice i).till → u.latest r.at0 = none → u.request r = some { u with queue := [r] })) ∧
  (∀ (u : MUnit) (r : Urgent), 4 ≤ (u.advance r.at0).queue.length → u.request r = none)) ∧
  (∀ (p : Fin 64) (code : Int) (bad : Bool) (x : Phase) (u : MUnit) (late trig : Nat) (s : State),
    s.dev.pw.ph[p.val]? = some x → s.dev.ms.mu[p.val / 4]? = some u →
    (u.urg.find? fun q => q.1 == p.val) = some (p.val, late, trig) →
    (∀ m, s.dev.pw.map.mitOf p = some m → (s.dev.mitE m).fsbb = false) → -8192 ≤ code → code ≤ 8191 →
    ∃ t y, exec (.urgentConversionDone p code bad) s = .next t ∧ t.dev.pw.ph[p.val]? = some y ∧
      t.dev.ms.mu[p.val / 4]? = some { u with urg := u.urg.erase (p.val, late, trig) } ∧
      (∃ v, (s.dev.ms.ref.settled = true → x.mark = false → late = 0 → v =
          roundDiv ((if (s.dev.pw.map.senseE (phIx p)).invert then -1 else 1) *
              (if (s.dev.pw.map.senseE (phIx p)).mode = 2 then 10 * code + 9 * (8192 * 2 ^ x.range) else 10 * code) *
                (s.dev.pw.map.senseE (phIx p)).fsEng)
            (10 * (8192 * 2 ^ x.range)) + (s.dev.pw.map.senseE (phIx p)).offset) ∧
        ((s.dev.ms.ref.settled = false ∨ x.mark = true) → v = x.pred) ∧
        y.sample = (if trig = 0 then v else x.sample) ∧
        y.sampleB = (if trig = 1 ∧ x.law = .avg then v else x.sampleB)) ∧
      y.late = late ∧ y.target = x.target ∧ y.st = x.st ∧
      (∀ q, q ≠ p.val → t.dev.pw.ph[q]? = s.dev.pw.ph[q]?) ∧ t.dev.ho = s.dev.ho ∧ t.nv = s.nv)

/-- A transient fault of an ACTIVE phase (R61, R238): FAULTED with the backoff of its ladder and no target, or RETIRED once five
retries started within 60 s; a FAULTED, IDLE or RETIRED phase does not change, but one that a mitten fault of the same tick
has made IDLE enters FAULTED too (R89). -/
def Obligations.PhaseTransient : Prop :=
  ∀ (d : Dev) (p ev : Nat) (x : Phase), d.pw.ph[p]? = some x →
    (x.st = .active → x.lad.spent d.now = false → ∃ y, (d.phaseTransient p ev).pw.ph[p]? = some y ∧ y.st = .faulted ∧
      y.target = 0 ∧ y.targetNext = 0 ∧ y.lad.cause = ev ∧ y.rejoin = false ∧
      y.lad.backoff = some (10 * 2 ^ (x.lad.retries.filter fun t => d.now < t + 60000000000).length)) ∧
    (x.st = .active → x.lad.spent d.now = true → ∃ y, (d.phaseTransient p ev).pw.ph[p]? = some y ∧ y.st = .retired ∧
      y.lad.backoff = none ∧ evPhaseRetired ∈ (d.phaseTransient p ev).ho.glb.evstat) ∧
    ((x.st = .faulted ∨ x.st = .idle ∧ x.idledAt ≠ some d.sy.tick.count ∨ x.st = .retired ∨ x.st = .unpowered) →
      d.phaseTransient p ev = d) ∧
    (x.st = .idle → x.idledAt = some d.sy.tick.count → x.lad.spent d.now = false →
      ∃ y, (d.phaseTransient p ev).pw.ph[p]? = some y ∧ y.st = .faulted ∧ y.lad.cause = ev)

/-- The gauntlet (R81-R83): each timed step applies the held set-up and takes its findings: the common mode of a member's sense
outside 0.3-1.5 V, an average of four samples at GNT_ITHR, FLT in the window of a pulse; a later FLT is a driver fault. With
every member passed and at least MIN_PHASES of them the mitten enters SOFTSTART, with too few on a start it is stopped with
MITTEN_UNDERSTAFFED, and without supply it returns to STOPPED. Mittens in service (R79, R84, R85, R87, R93): the end of a
soft start, a standby finding, and the four mitten faults each take their reaction where their condition stands; a follower
that loses its setpoints places its members in SHED. -/
def Obligations.GauntletsAndMittens : Prop :=
  ((∀ (m : Fin 16) (g : Gauntlet) (o : GntObs) (s : State), (s.dev.mitten m).gnt = some g → g.step = 0 →
    (∀ p ∈ g.members, (s.dev.phase p).calOk = true) → (∀ p ∈ s.dev.inGauntlet g, s.dev.testable m p = true) →
    exec (.gauntletStep m o) s = .next { s with dev := (((s.dev.each (s.dev.inGauntlet g) fun p e => e.applySetup p false).each
        (s.dev.inGauntlet g) fun p e => if (look p o.cm).all (fun v => decide (300 ≤ v) && decide (v ≤ 1500)) then e
          else (e.fault evPhaseSenseFault (some p) []).gauntletTransient p evPhaseSenseFault).modMit m fun x =>
      { x with gnt := some { g with step := 1 } }) }) ∧
  (∀ (m : Fin 16) (g : Gauntlet) (o : GntObs) (s : State), (s.dev.mitten m).gnt = some g → g.step = 1 →
    (∀ p ∈ s.dev.inGauntlet g, s.dev.testable m p = true) →
    exec (.gauntletStep m o) s = .next { s with dev := (((s.dev.each (s.dev.inGauntlet g) fun p e => e.applySetup p false).each
        (s.dev.inGauntlet g) fun p e => if overAvg (s.dev.mp m 16) ((look p o.samples).getD []) then e.finding p 1 else e).modMit m
      fun x => { x with gnt := some { g with step := 2 } }) }) ∧
  (∀ (m : Fin 16) (g : Gauntlet) (o : GntObs) (i p : Nat) (s : State), (s.dev.mitten m).gnt = some g → g.step = i + 2 →
    g.members[i]? = some p → o.fltAt = none → ((s.dev.phase p).st = .gauntlet → s.dev.testable m p = true) →
    exec (.gauntletStep m o) s = .next { s with dev := ((s.dev.each (s.dev.inGauntlet g) fun p e => e.applySetup p false).modMit m
      fun x => { x with gnt := some { g with step := i + 3 } }) }) ∧
  (∀ (m : Fin 16) (g : Gauntlet) (o : GntObs) (i p w : Nat) (s : State), (s.dev.mitten m).gnt = some g → g.step = i + 2 →
    g.members[i]? = some p → g.members.Nodup → o.fltAt = some w → (s.dev.phase p).st = .gauntlet → s.dev.testable m p = true →
    ((w : Int) ≤ s.dev.mp m 17 + 100 → exec (.gauntletStep m o) s = .next { s with dev :=
      ((((s.dev.each (s.dev.inGauntlet g) fun q e => e.applySetup q false).modPh p fun x =>
        { x with flt := true, latch := true }).finding p 2).modMit m fun x => { x with gnt := some { g with step := i + 3 } }) }) ∧
    (s.dev.mp m 17 + 100 < (w : Int) → exec (.gauntletStep m o) s = .next { s with dev :=
      (((((s.dev.each (s.dev.inGauntlet g) fun q e => e.applySetup q false).modPh p fun x =>
        { x with flt := true, latch := true }).fault evPhaseDriverFault (some p) []).gauntletTransient p
          evPhaseDriverFault).modMit m fun x => { x with gnt := some { g with step := i + 3 } }) })) ∧
  (∀ (m : Fin 16) (g : Gauntlet) (s : State), (s.dev.mitten m).gnt = some g → g.members.length + 2 ≤ g.step →
    g.join = false → g.test = false → (s.dev.mitE m).fsbb = false →
    (∀ p ∈ g.members, (s.dev.phase p).st = .gauntlet ∧ (s.dev.phase p).gntPass = true) →
    s.dev.mp m 18 ≤ (g.members.length : Int) →
    exec (.gauntletEnd m) s = .next { s with dev := ((s.dev.each g.members fun p e => e.modPh p fun x =>
      { x with st := .active, gntPass := false }).enterSoft m) }) ∧
  (∀ (m : Fin 16) (g : Gauntlet) (s : State), (s.dev.mitten m).gnt = some g → g.members.length + 2 ≤ g.step →
    g.join = false → g.test = false → g.retry = false → (∀ p ∈ g.members, (s.dev.phase p).st ≠ .gauntlet) → 0 < s.dev.mp m 18 →
    exec (.gauntletEnd m) s = .next { s with dev :=
      ((s.dev.fault evMittenUnderstaffed (some m.val) []).gauntletStop m false) }) ∧
  (∀ (m : Fin 16) (g : Gauntlet) (s : State), (s.dev.mitten m).gnt = some g → g.join = false →
    s.dev.supplied m = false →
    exec (.gauntletNoSupply m) s = .next { s with dev :=
      ((s.dev.raise evGauntletNoSupply (some m.val) []).gauntletStop m g.test) }) ∧
  (∀ (thr : Int) (l : List Int), overAvg thr l = true ↔ ∃ (i : Nat) (a b c e : Int) (r : List Int),
    l.drop i = a :: b :: c :: e :: r ∧ 4 * thr ≤ ((a + b + c + e).natAbs : Int))) ∧
  ((∀ (m : Fin 16) (s : State), (s.dev.mitten m).st = .softstart → s.dev.rampDone m = true →
    exec (.softStartComplete m) s = .next { s with dev := s.dev.modMit m fun x => { x with st := .run } }) ∧
  (∀ (p : Fin 64) (ma m : Nat) (s : State), s.dev.pw.map.mitOf p = some m → (s.dev.mitten m).st = .standby →
    (s.dev.phase p).st = .active → s.dev.mp m 16 ≤ (ma : Int) →
    exec (.standbyCurrentFinding p ma) s = .next { s with dev := s.dev.finding p 1 }) ∧
  (∀ (m : Fin 16) (s : State), (s.dev.mitten m).st = .run → 10 * s.dev.endV (s.dev.outNode m) < (s.dev.mitten m).vSet →
    exec (.mittenShort m) s = .next { s with dev := s.dev.mittenFault m evMittenShort [] }) ∧
  (∀ (m : Fin 16) (s : State), (s.dev.mitten m).looping = true →
    (s.dev.nMax (s.dev.outNode m) < s.dev.endV (s.dev.outNode m) →
      exec (.mittenOvervoltage m) s = .next { s with dev := s.dev.mittenFault m evMittenOvervoltage [] }) ∧
    (∀ t, s.dev.stageT m = some t → s.dev.mp m 15 + 500 < t →
      exec (.mittenOvertemp m) s = .next { s with dev := s.dev.mittenFault m evMittenOvertemp [] }) ∧
    ((s.dev.mitten m).st = .run → (s.dev.nActive m : Int) < s.dev.mp m 18 →
      exec (.mittenUnderstaffed m) s = .next { s with dev := s.dev.mittenFault m evMittenUnderstaffed [] })) ∧
  (∀ (m : Fin 16) (s : State), (s.dev.mitE m).used = true → s.dev.remote m = true → 2 ≤ (s.dev.mitten m).noSet →
    exec (.setpointLoss m) s = .next { s with dev := (s.dev.each (s.dev.active m) fun p e => e.modPh p fun x =>
      { x with st := .shed, target := 0, targetNext := 0, duty := 0, burstN := 0, gntPass := false }) }))

/-- The reaction to a transient mitten fault (R87, R88, R238): the event is raised, no member stays ACTIVE, and the mitten is
FAULTED with its backoff; after five retries it is RETIRED with MITTEN_RETIRED. -/
def Obligations.MittenFaultReaction : Prop :=
  ∀ (d : Dev) (m ev : Nat) (x : Mitten), d.pw.mit[m]? = some x →
    (∀ k, (d.source k).lend = none) → d.sy.power = .run → d.sy.order = none → d.sy.sleepNext = false →
    (ev = evMittenShort ∨ ev = evMittenOvervoltage ∨ ev = evMittenOvertemp ∨ ev = evMittenUnderstaffed) →
    ev ∈ (d.mittenFault m ev []).ho.glb.evstat ∧
    (∀ p ∈ (d.mitE m).members, ((d.mittenFault m ev []).phase p).st ≠ .active) ∧
    (x.lad.spent d.now = false → ∃ y, (d.mittenFault m ev []).pw.mit[m]? = some y ∧ y.st = .faulted ∧ y.iCmd = 0 ∧
      y.lad.cause = ev ∧ y.lad.backoff = some (10 * 2 ^ (x.lad.retries.filter fun t => d.now < t + 60000000000).length)) ∧
    (x.lad.spent d.now = true → ∃ y, (d.mittenFault m ev []).pw.mit[m]? = some y ∧ y.st = .retired ∧ y.retiredBy = ev ∧
      evMittenRetired ∈ (d.mittenFault m ev []).ho.glb.evstat)

/-- Qualification and loss of a source (R96, R98-R100): a qualifying source inside its window becomes AVAILABLE with
SOURCE_QUALIFIED; a SELECTED one below its window with T_RIDE rides through with rations of 0; any other loss makes it ABSENT
with SOURCE_LOST; a HOLDOFF ends below LEND_RX_MIN. Source faults (R100, R114): each detection takes the reaction of R114
where its condition stands; an alternator's overvoltage raises the event and starts its hold first; a current through an OFF
switch is permanent and retires the port. -/
def Obligations.SourceRows : Prop :=
  ((∀ (k : Fin 12) (s : State), (s.dev.source k).st = .qualifying → s.dev.sp k 1 ≤ s.dev.nodeV (.src k) →
    s.dev.nodeV (.src k) ≤ s.dev.sp k 2 →
    exec (.sourceQualified k) s = .next { s with dev := ((s.dev.modSrc k fun x =>
      { x with st := .available, ripBad := 0 }).raise evSourceQualified (some k.val) []) }) ∧
  (∀ (k : Fin 12) (s : State), s.dev.nodeV (.src k) < s.dev.sp k 1 - s.dev.sp k 3 →
    ((s.dev.source k).st = .selected → 0 < s.dev.sp k 6 →
      exec (.sourceUndervoltageLoss k) s = .next { s with dev := (s.dev.modSrc k fun x => { x with
        rations := List.replicate 16 0, base := 0, iAvail := 0, st := .rideThrough }) }) ∧
    (((s.dev.source k).st = .selected ∧ s.dev.sp k 6 ≤ 0 ∨ (s.dev.source k).st = .available) →
      exec (.sourceUndervoltageLoss k) s = .next { s with dev := s.dev.loseSource k })) ∧
  (∀ (k : Fin 12) (s : State), (s.dev.source k).st = .rideThrough →
    exec (.rideThroughExpiry k) s = .next { s with dev := s.dev.loseSource k }) ∧
  (∀ (k : Fin 12) (s : State), 0 < s.dev.sp k 5 → 10 ≤ (s.dev.source k).ripBad →
    exec (.rippleLoss k) s = .next { s with dev := s.dev.loseSource k }) ∧
  (∀ (k : Fin 12) (s : State), (s.dev.source k).st = .holdoff → s.dev.nodeV (.src k) < (s.dev.source k).rxMin →
    exec (.holdoffEnd k) s = .next { s with dev := s.dev.modSrc k fun x => { x with st := .absent } }) ∧
  (∀ (k : Nat) (x : Source) (d : Dev), d.pw.src[k]? = some x → x.st = .available →
    evSourceLost ∈ (d.loseSource k).ho.glb.evstat ∧ ∃ y, (d.loseSource k).pw.src[k]? = some y ∧ y.st = .absent ∧
      y.selAt = none ∧ y.lad = x.lad)) ∧
  ((∀ (k : Fin 12) (s : State), s.dev.overHigh k = true → (s.dev.source k).st ≠ .disabled → (s.dev.source k).st ≠ .retired →
    (s.dev.source k).st ≠ .faulted →
    ((s.dev.srcE k).type ≠ 3 →
      exec (.sourceOvervoltage k) s = .next { s with dev := s.dev.sourceFault k evSourceOvervoltage true }) ∧
    ((s.dev.srcE k).type = 3 → (s.dev.source k).surge = false →
      exec (.sourceOvervoltage k) s = .next { s with dev := ((s.dev.modSrc k fun x => { x with surge := true }).fault
        evSourceOvervoltage (some k.val) []) }) ∧
    ((s.dev.source k).surge = true →
      exec (.alternatorSurgeHoldExpiry k) s = .next { s with dev := s.dev.sourceFault k evSourceOvervoltage false })) ∧
  (∀ (k : Fin 12) (s : State), (s.dev.source k).st ≠ .disabled → (s.dev.source k).st ≠ .retired →
    (s.dev.source k).st ≠ .faulted →
    (110 * s.dev.sp k 7 < 100 * s.dev.nodeI (.src k) →
      exec (.sourceOvercurrent k) s = .next { s with dev := s.dev.sourceFault k evSourceOvercurrent true }) ∧
    ((s.dev.switch k).mode = .on → (s.dev.source k).st ≠ .lending → s.dev.nodeI (.src k) < -((s.dev.srcE k).irev : Int) →
      exec (.sourceReverse k) s = .next { s with dev := s.dev.sourceFault k evSourceReverse true }) ∧
    ((16 ≤ (s.dev.ms.tap.getD (2 * k) {}).bad ∨ 16 ≤ (s.dev.ms.tap.getD (2 * k) {}).stale ∨
        16 ≤ (s.dev.ms.tap.getD (2 * k + 1) {}).bad ∨ 16 ≤ (s.dev.ms.tap.getD (2 * k + 1) {}).stale) →
      exec (.sourceSenseFault k) s = .next { s with dev := (((s.dev.modTap (2 * k) fun x => { x with
        bad := 0, stale := 0 }).modTap (2 * k + 1) fun x => { x with bad := 0, stale := 0 }).sourceFault k evSourceSenseFault
          true) }) ∧
    ((s.dev.source k).st ≠ .lending → s.dev.srcLeak k = true →
      exec (.sourceSwitchFault k) s = .next { s with dev := ((((s.dev.fault evSourceSwitchFault (some k.val) []).stopAt k).modSrc k
        fun x => { x with switchFlt := true }).retireSource k evSourceSwitchFault) })))

/-- The switches of the ports (R14, R15, R113, R248): an ideal-diode pair conducts and stops conducting by its comparator, a tie
that fails to conduct is a transient fault of its port with the switch OFF, and an incoming switch closes into ON one tick
after the others of its group are off, with SWITCH_BLOCKED where R15 forbids the closing. Solar sources and generators
(R107-R109): an MPPT step moves I_MPP by MPPT_STEP and reverses where the power did not rise; a scan, the first one or one
SCAN_PERIOD after the last while RATION was in charge of the preceding policy frame, starts at 5 %, records the mean power of
each step and ends below V_DROOP or after 20 steps at the best one, whose power SUP-L records (R251); a warm-up ends, and an
unwanted generator's START_OUT is released. Lends and supplement (R36, R119): a lend ends with the code of the condition that
stands, counting what it delivered, and its source enters HOLDOFF with LEND_ENDED; a reversed mitten without current for ten
charge frames returns forward; a bus that cannot be held above V_MIN raises BUS_UNDERVOLTAGE (R33). -/
def Obligations.PortRows : Prop :=
  ((∀ (p : Fin 28) (s : State), (s.dev.switch p).mode = .idealDiode →
    exec (.idealDiodeTurnOff p) s = .next { s with dev := s.dev.modSw p fun x => { x with conduct := false } } ∧
    exec (.idealDiodeTurnOn p) s = .next { s with dev := s.dev.modSw p fun x => { x with conduct := true } }) ∧
  (∀ (k : Fin 12) (s : State), (s.dev.pw.map.portE k).type ≠ 0 → (s.dev.pw.map.portE k).place = 1 →
    (s.dev.switch k).mode = .on → (s.dev.source k).st = .selected →
    (s.dev.pw.map.portE k).vClose < (s.dev.nodeV (.src k) - s.dev.nodeV (.bus (s.dev.pw.map.portE k).tieBus)).natAbs →
    (s.dev.nodeI (.src k)).natAbs < (s.dev.pw.map.portE k).irev →
    exec (.switchOpen ⟨k.val, by omega⟩) s = .next { s with dev := (((s.dev.openNow k).sourceFault k evSwitchOpen true).modSw k fun x =>
      { x with openFlt := true }) }) ∧
  (∀ (k : Fin 16) (s : State), (s.dev.pw.map.portE (12 + k)).type ≠ 0 → (s.dev.pw.map.portE (12 + k)).place = 1 →
    (s.dev.switch (12 + k)).mode = .on → (s.dev.string k).st = .running →
    (s.dev.pw.map.portE (12 + k)).vClose <
      (s.dev.nodeV (.str k) - s.dev.nodeV (.bus (s.dev.pw.map.portE (12 + k)).tieBus)).natAbs →
    (s.dev.nodeI (.str k)).natAbs < (s.dev.pw.map.portE (12 + k)).irev →
    exec (.switchOpen ⟨12 + k.val, by omega⟩) s = .next { s with dev := ((s.dev.stringFault k evSwitchOpen evStringOvercurrent
      false).modSw (12 + k) fun x => { x with openFlt := true }) }) ∧
  (∀ (k : Fin 12) (s : State), (s.dev.source k).pendClose = true → (s.dev.source k).st = .selected →
    (s.dev.switch k).disc = false → (s.dev.switch k).hold = false → (s.dev.switch k).openFlt = false →
    (s.dev.srcE k).allows .on = true → (∀ i ∈ s.dev.pw.map.group k, i = k.val ∨ (s.dev.switch i).mode = .off ∧
      (s.dev.switch i).offTick < s.dev.sy.tick.count) → (s.dev.switch k).mode = .off → (s.dev.switch k).blocked = false →
    (s.dev.mayClose k = true → k.val < s.dev.pw.sw.length →
      exec (.changeoverSwitchClose k) s = .next { s with dev := (((s.dev.setSwitch k .on).modSrc k fun x =>
        { x with pendClose := false }).each (s.dev.pw.map.mitsAt k) fun m e => if (e.mitten m).dChange then
          (e.modMit m fun x => { x with
            dChange := false,
            dHost := x.dHost || (decide (16 ≤ (e.mitE m).toN) && decide ((e.mitE m).toN < 32)) }).startMit m else e) }) ∧
    (s.dev.mayClose k = false →
      exec (.changeoverSwitchClose k) s = .next { s with dev := ((s.dev.modSw k fun x => { x with blocked := true }).onset
        evSwitchBlocked k (some k.val) []) }))) ∧
  ((∀ (k : Fin 12) (i : Int) (s : State), (s.dev.srcE k).type = 4 → (s.dev.source k).st = .selected →
    (s.dev.source k).scan = none → (s.dev.source k).iMpp = some i → s.dev.rationed k = true →
    exec (.mpptStep k) s = .next { s with dev := ((s.dev.modSrc k fun x => { x with
        mppUp := if (s.dev.source k).meanPower ≤ (s.dev.source k).mppPrev then !(s.dev.source k).mppUp else (s.dev.source k).mppUp,
        iMpp := some (clampI 0 (s.dev.sp k 7)
          (if ((s.dev.source k).meanPower ≤ (s.dev.source k).mppPrev ↔ (s.dev.source k).mppUp = false)
           then i + floorDiv (s.dev.sp k 32 * s.dev.sp k 7) 1000 else i - floorDiv (s.dev.sp k 32 * s.dev.sp k 7) 1000)),
        mppPrev := (s.dev.source k).meanPower, pAcc := 0, pN := 0 }).newPeriod k) }) ∧
  (∀ (k : Fin 12) (s : State), (s.dev.srcE k).type = 4 → (s.dev.source k).st = .selected → (s.dev.source k).scan = none →
    (s.dev.source k).scanAt = none →
    exec (.solarScanStart k) s = .next { s with dev := ((s.dev.modSrc k fun x => { x with
      scan := some { step := 0, bestP := 0, bestI := 0 }, iMpp := some (floorDiv (s.dev.sp k 7 * 5) 100), pAcc := 0,
      pN := 0 }).newPeriod k) }) ∧
  (∀ (k : Fin 12) (c : Scan) (i : Int) (s : State), (s.dev.source k).scan = some c → (s.dev.source k).iMpp = some i → 0 < c.step →
    (c.step + 1 < 20 → s.dev.sp k 9 ≤ s.dev.nodeV (.src k) →
      exec (.solarScanStep k) s = .next { s with dev := ((s.dev.modSrc k fun x => { x with
        scan := some { step := c.step + 1, bestP := max c.bestP (s.dev.source k).meanPower,
                       bestI := if c.bestP < (s.dev.source k).meanPower then i else c.bestI },
        mppPrev := (s.dev.source k).meanPower,
        iMpp := some (floorDiv (s.dev.sp k 7 * (5 * (c.step + 2))) 100), pAcc := 0, pN := 0 }).newPeriod k) }) ∧
    ((19 ≤ c.step ∨ s.dev.nodeV (.src k) < s.dev.sp k 9) →
      exec (.solarScanStep k) s = .next { s with dev := (
        let d := (s.dev.modSrc k fun x => { x with
          scan := none, scanAt := some s.dev.now, iMpp := some (if c.bestP < (s.dev.source k).meanPower then i else c.bestI),
          mppPrev := max c.bestP (s.dev.source k).meanPower, pAcc := 0, pN := 0 }).newPeriod k
        if d.classC then d.addLog 2 d.now 7 k (leBytes 4 (enc 4 (sat32 (max c.bestP (s.dev.source k).meanPower))) ++
          List.replicate 4 0) else d) })) ∧
  (∀ (k : Fin 12) (s : State),
    exec (.generatorWarmUpEnd k) s = .next { s with dev := s.dev.modSrc k fun x => { x with warming := false } } ∧
    ((s.dev.source k).wanted = false →
      exec (.startOutRelease k) s = .next { s with dev := s.dev.modSrc k fun x => { x with startOut := false } })) ∧
  (∀ (k : Fin 12) (a b : Nat) (s : State), (s.dev.srcE k).type = 4 → (s.dev.source k).st = .selected →
    (s.dev.source k).scan = none → (s.dev.source k).scanAt = some a → (s.dev.source k).entAt = some b → 0 < s.dev.sp k 33 →
    a + s.dev.sp k 33 * 60000000000 ≤ s.dev.now → s.dev.rationedFrame k = true →
    exec (.solarScanStart k) s = .next { s with dev := ((s.dev.modSrc k fun x => { x with
      scan := some { step := 0, bestP := 0, bestI := 0 }, iMpp := some (floorDiv (s.dev.sp k 7 * 5) 100), pAcc := 0,
      pN := 0 }).newPeriod k) })) ∧
  ((∀ (k : Fin 12) (r : LendEnd) (l : Lend) (s : State), (s.dev.source k).lend = some l → s.dev.lendEnds k l r = true →
    exec (.lendEndCondition k r) s = .next { s with dev := s.dev.endLend k (lendCode r) }) ∧
  (∀ (k : Nat) (r : Nat) (l : Lend) (x : Source) (d : Dev), d.pw.src[k]? = some x → x.lend = some l → x.st = .lending →
    evLendEnded ∈ (d.endLend k r).ho.glb.evstat ∧
    ∃ y, (d.endLend k r).pw.src[k]? = some y ∧ y.lend = none ∧ y.st = .holdoff ∧ y.cfg = x.cfg) ∧
  (∀ (m : Fin 16) (s : State), (s.dev.mitten m).dSupp = true → 10 ≤ (s.dev.mitten m).zeroFrames →
    exec (.supplementReturn m) s = .next { s with dev := s.dev.modMit m fun x => { x with dSupp := false, zeroFrames := 0, back := x.rev } }) ∧
  (∀ (j : Fin 4) (s : State), (s.dev.pw.map.busE j).enable = true → s.dev.nodeV (.bus j) ≤ s.dev.nMin (.bus j) →
    exec (.busUndervoltage j) s = .next { s with dev := ((s.dev.modBus j fun b => { b with uv := true, uvOk := 0 }).onset
      evBusUndervoltage j (some (16 + j.val)) []) }))

/-- Presence and precharge of a string (R34, R129, R142): below 10 % with its switch off it is ABSENT, above it STOPPED again or,
with AUTOSTART, started; below the precharge threshold it enters PRECHARGE, and a precharge ends after a second at its target
or is retired once its running time reaches PRE_TIMEOUT. A string that a class-0 HOLD freezes does neither (R141). Steps and
pauses (R134, R140, R141): the exit condition whose count has reached its CONFIRM is taken to its step with STRING_STEP, a
tied string above its ceiling loses its tie until TIE_REARM, and a string whose last pause reason has ended resumes at the
same step with every confirm count at 0; while another reason stands PACK and HOST end alone. -/
def Obligations.StringRows : Prop :=
  ((∀ (k : Fin 16) (s : State), (s.dev.string k).st ≠ .disabled → (s.dev.string k).st ≠ .absent →
    (s.dev.string k).st ≠ .retired → (s.dev.switch (12 + k)).mode = .off → s.dev.nodeV (.str k) < s.dev.absentLevel k →
    (∀ i, (s.dev.source i).lend = none) →
    ∃ t, exec (.stringAbsent k) s = .next t ∧ t.dev.pw.src = s.dev.pw.src ∧ t.nv = s.nv ∧
      (∀ x, s.dev.pw.str[k.val]? = some x → ∃ y, t.dev.pw.str[k.val]? = some y ∧ y.st = .absent ∧ y.iCeil = 0 ∧
        y.chgMit = none ∧ y.preMit = none ∧ y.prog = x.prog ∧ y.cfg = x.cfg ∧ y.q = x.q)) ∧
  (∀ (k : Fin 16) (s : State), (s.dev.string k).st = .absent → s.dev.absentLevel k < s.dev.nodeV (.str k) →
    s.dev.stp k 2 = 0 →
    exec (.stringPresent k) s = .next { s with dev := ((s.dev.modStr k fun x => { x with st := .stopped }).offset
      evStringAbsent k) }) ∧
  (∀ (k : Fin 16) (s : State), ((s.dev.string k).st = .running ∨ (s.dev.string k).st = .paused ∨
      (s.dev.string k).st = .stopped ∨ (s.dev.string k).st = .lent) →
    s.dev.nodeV (.str k) < (s.dev.strE k).cells * s.dev.stp k 4 → (s.dev.switch (12 + k)).hold = false →
    exec (.prechargeEntry k) s = .next { s with dev := ((s.dev.endImp k 3).endDonor k 8).enterPre k }) ∧
  (∀ (k : Fin 16) (p : Program) (s : State), (s.dev.string k).st = .precharge → 1000 ≤ (s.dev.string k).preOk →
    (s.dev.string k).prog = some p → (s.dev.string k).progNew = false → (s.dev.switch (12 + k)).hold = false → (∀ q ∈ p.steps, q.type ≠ 1) →
    ∃ t, exec (.prechargeEnd k) s = .next t ∧ t.nv = s.nv ∧ evStringStep ∈ t.dev.ho.glb.evstat ∧
      (∀ x, s.dev.pw.str[k.val]? = some x → ∃ y, t.dev.pw.str[k.val]? = some y ∧ y.st = .running ∧ y.step = p.start ∧
        y.stepNs = 0 ∧ y.preMit = none)) ∧
  (∀ (k : Fin 16) (s : State), (s.dev.string k).st = .precharge →
    s.dev.stp k 7 * 60000000000 ≤ ((s.dev.string k).preNs : Int) →
    exec (.stringPrechargeTimeout k) s = .next { s with dev := ((s.dev.fault evStringPrechargeTimeout (some (32 + k.val))
      []).retireString k evStringPrechargeTimeout) }) ∧
  (∀ (k : Fin 16) (s : State), (s.dev.string k).st = .absent → s.dev.absentLevel k < s.dev.nodeV (.str k) →
    s.dev.stp k 2 = 1 → (s.dev.inRun = true ∨ s.dev.sy.power = .sleep) →
    exec (.stringPresent k) s = .next { s with dev := (((s.dev.modStr k fun x => { x with st := .stopped }).offset
      evStringAbsent k).runFromStart k) }) ∧
  (∀ (k : Fin 16) (s : State), (s.dev.switch (12 + k)).hold = true →
    exec (.prechargeEntry k) s = .next s ∧ exec (.prechargeEnd k) s = .next s)) ∧
  ((∀ (k : Fin 16) (p : Program) (q : Step) (i : Nat) (c : ExitCond) (s : State), (s.dev.string k).st = .running →
    (s.dev.switch (12 + k)).hold = false → (s.dev.string k).cur = some (p, q) → s.dev.sy.power = .run →
    firstReached q (s.dev.string k).cnt = some (i, c) → ¬ (c.code = 1 ∧ (q.type = 4 ∨ q.type = 5)) →
    (c.next < 16 → exec (.stepExit k) s = .next { s with dev := s.dev.toStep k c.next }) ∧
    (c.next = 0xFE → exec (.stepExit k) s = .next { s with dev := s.dev.stopStr k }) ∧
    (c.next = 0xFF → q.type ≠ 1 → exec (.stepExit k) s = .next { s with dev := ((s.dev.stopStr k).raise evChargeProgramFault
      (some (32 + k.val)) (d2 (s.dev.string k).step ++ d2 i)) })) ∧
  (∀ (k : Fin 16) (p : Program) (q : Step) (s : State), (s.dev.string k).st = .running → s.dev.stepNow k = some (p, q) →
    s.dev.tied k q = true → (s.dev.string k).tieRearm = false → (s.dev.string k).iCeil < s.dev.nodeI (.str k) →
    exec (.stringTieLimit k) s = .next { s with dev := ((s.dev.modStr k fun x => { x with tieRearm := true }).raise
      evStringTieLimit (some (32 + k.val)) []) }) ∧
  (∀ (k : Fin 16) (s : State),
    exec (.tieRearmExpiry k) s = .next { s with dev := s.dev.modStr k fun x => { x with tieRearm := false } }) ∧
  (∀ (k : Fin 16) (s : State), (s.dev.string k).st = .paused → (s.dev.string k).pTemp = false →
    (s.dev.string k).pNoPath = false → (s.dev.string k).pSupp = false → (s.dev.string k).packBad = false →
    (s.dev.switch (12 + k)).disc = false → (s.dev.switch (12 + k)).hold = false →
    exec (.pauseEnd k) s = .next { s with dev := ((s.dev.modStr k fun x => { x with
      st := .running, pPack := false, pHost := false, cnt := [0, 0, 0, 0] }).publish k) }) ∧
  (∀ (k : Fin 16) (s : State), (s.dev.string k).st = .paused → ((s.dev.string k).pTemp = true ∨
    (s.dev.string k).pNoPath = true ∨ (s.dev.string k).pSupp = true) → (s.dev.string k).packBad = false →
    (s.dev.switch (12 + k)).disc = false → (s.dev.switch (12 + k)).hold = false →
    exec (.pauseEnd k) s = .next { s with dev := s.dev.modStr k fun x => { x with pPack := false, pHost := false } }) ∧
  (∀ (k : Fin 16) (s : State), (s.dev.switch (12 + k)).hold = true → exec (.pauseEnd k) s = .next s))

/-- Pack monitors (R141, R146-R148): a record whose CRC matches and whose SEQ is new is kept for the next charge frame and ends
PACK_MONITOR_LOST, and any other one changes nothing; a lost monitor raises PACK_MONITOR_LOST and pauses a RUNNING or PAUSED
string that no class-0 HOLD freezes, with no charge ceiling; a discharge current through the string's tie above the record's
limit raises STRING_DISCHARGE_LIMIT and changes no switch. String faults (R149, R257): where its condition stands each
detection of a string in service takes its reaction - the string is FAULTED with its backoff and no charge ceiling, and an
overcurrent or a current sense fault also stops every mitten at the terminal - and against a FAULTED string it is the event
alone; a temperature reading out of range pauses a string that has no pack monitor; a current through an OFF tie is permanent
and retires the string. -/
def Obligations.StringMonitors : Prop :=
  ((∀ (k : Fin 16) (b : List Byte) (s : State), s.dev.stp k 12 ≠ 0 → 16 ≤ b.length → (s.dev.string k).st ≠ .disabled →
    (crc16 (b.take 14)).toNat = leAt b 14 2 → (s.dev.string k).pmSeq ≠ some (byteAt b 13) →
    exec (.packMonitorRecord k b) s = .next { s with dev := ((s.dev.modStr k fun x => { x with
      pmPending := some {
        vMax := leAt b 0 2, vMin := leAt b 2 2, tMax := s16 (leAt b 4 2), tMin := s16 (leAt b 6 2), chgLim := leAt b 8 2,
        dsgLim := leAt b 10 2, chgInh := (byteAt b 12).testBit 0, dsgInh := (byteAt b 12).testBit 1, seq := byteAt b 13 },
      pmSeq := some (byteAt b 13), pmLost := false, pmMiss := 0 }).offset evPackMonitorLost k) }) ∧
  (∀ (k : Fin 16) (b : List Byte) (s : State), (s.dev.stp k 12 = 0 ∨ (s.dev.string k).st = .disabled ∨ b.length < 16 ∨
      (crc16 (b.take 14)).toNat ≠ leAt b 14 2 ∨ (s.dev.string k).pmSeq = some (byteAt b 13)) →
    exec (.packMonitorRecord k b) s = .next s) ∧
  (∀ (k : Fin 16) (s : State), s.dev.stp k 12 ≠ 0 →
    ((s.dev.string k).st = .running ∨ (s.dev.string k).st = .paused) → (s.dev.switch (12 + k)).hold = false →
    exec (.packMonitorLost k) s = .next { s with dev := ((s.dev.modStr k fun x => { x with
      pmLost := true, pPack := true, st := .paused, cnt := [0, 0, 0, 0], iCeil := 0 }).onset evPackMonitorLost k
        (some (32 + k.val)) []) }) ∧
  (∀ (k : Fin 16) (s : State), s.dev.stp k 12 ≠ 0 → (s.dev.string k).st ≠ .disabled →
    ((s.dev.string k).st ≠ .running ∧ (s.dev.string k).st ≠ .paused ∨ (s.dev.switch (12 + k)).hold = true) →
    exec (.packMonitorLost k) s = .next { s with dev := ((s.dev.modStr k fun x => { x with pmLost := true }).onset
      evPackMonitorLost k (some (32 + k.val)) []) }) ∧
  (∀ (k : Fin 16) (s : State), (s.dev.stp k 12 = 0 ∨ (s.dev.string k).st = .disabled) →
    exec (.packMonitorLost k) s = .next s) ∧
  (∀ (k : Fin 16) (r : PmRec) (s : State), (s.dev.string k).pm = some r → r.dsgLim ≠ 0xFFFF → (s.dev.strE k).place = 1 →
    (s.dev.switch (12 + k)).mode ≠ .off → 100 * (r.dsgLim : Int) < s.dev.tieOut (.str k) (-s.dev.nodeI (.str k)) →
    exec (.stringDischargeLimit k) s = .next { s with dev := s.dev.raise evStringDischargeLimit (some (32 + k.val)) [] }) ∧
  (∀ (k : Fin 16) (s : State), ((s.dev.strE k).place ≠ 1 ∨ (s.dev.switch (12 + k)).mode = .off ∨
      ∀ r, (s.dev.string k).pm = some r →
        r.dsgLim = 0xFFFF ∨ s.dev.tieOut (.str k) (-s.dev.nodeI (.str k)) ≤ 100 * (r.dsgLim : Int)) →
    exec (.stringDischargeLimit k) s = .next s) ∧
  (∀ (d : Dev) (k : Nat), d.pw.map.mitsOn (.str k) = [] → d.tieOut (.str k) (-d.nodeI (.str k)) = -d.nodeI (.str k))) ∧
  ((∀ (k : Fin 16) (s : State), (s.dev.string k).st ≠ .disabled → (s.dev.string k).st ≠ .absent →
    (s.dev.string k).st ≠ .retired → (s.dev.string k).st ≠ .faulted →
    (s.dev.nMax (.str k) < s.dev.nodeV (.str k) →
      exec (.stringOvervoltage k) s = .next { s with dev := s.dev.stringFault k evStringOvervoltage evStringOvervoltage false }) ∧
    (pctOf 110 (s.dev.strE k).iRated < ((s.dev.nodeI (.str k)).natAbs : Int) →
      exec (.stringOvercurrent k) s = .next { s with dev := s.dev.stringFault k evStringOvercurrent evStringOvercurrent true }) ∧
    (s.dev.tChgHi k + 1000 < s.dev.strT k →
      exec (.stringOvertemp k) s = .next { s with dev := s.dev.stringFault k evStringOvertemp evStringOvertemp false }) ∧
    ((16 ≤ (s.dev.ms.tap.getD (32 + 3 * k) {}).bad ∨ 16 ≤ (s.dev.ms.tap.getD (32 + 3 * k) {}).stale) →
      exec (.stringSenseFault k false) s = .next { s with dev := ((s.dev.modTap (32 + 3 * k) fun x => { x with
        bad := 0, stale := 0 }).stringFault k evStringSenseFault evStringSenseFault false) }) ∧
    ((16 ≤ (s.dev.ms.tap.getD (33 + 3 * k) {}).bad ∨ 16 ≤ (s.dev.ms.tap.getD (33 + 3 * k) {}).stale) →
      exec (.stringSenseFault k true) s = .next { s with dev := ((s.dev.modTap (33 + 3 * k) fun x => { x with
        bad := 0, stale := 0 }).stringFault k evStringSenseFault causeSenseI true) })) ∧
  (∀ (k : Fin 16) (s : State), (s.dev.string k).st = .faulted →
    (s.dev.nMax (.str k) < s.dev.nodeV (.str k) →
      exec (.stringOvervoltage k) s = .next { s with dev := s.dev.fault evStringOvervoltage (some (32 + k.val)) [] }) ∧
    (pctOf 110 (s.dev.strE k).iRated < ((s.dev.nodeI (.str k)).natAbs : Int) →
      exec (.stringOvercurrent k) s = .next { s with dev := s.dev.fault evStringOvercurrent (some (32 + k.val)) [] }) ∧
    (s.dev.tChgHi k + 1000 < s.dev.strT k →
      exec (.stringOvertemp k) s = .next { s with dev := s.dev.fault evStringOvertemp (some (32 + k.val)) [] })) ∧
  (∀ (k : Nat) (ev cause : Nat) (all : Bool) (x : Str) (d : Dev), d.pw.str[k]? = some x → x.lad.spent d.now = false →
    (∀ i, (d.source i).lend = none) →
    (∃ y, (d.stringFault k ev cause all).pw.str[k]? = some y ∧ y.st = .faulted ∧ y.iCeil = 0 ∧ y.chgMit = none ∧
      y.preMit = none ∧ y.cnt = [0, 0, 0, 0] ∧ y.cfg = x.cfg ∧ y.prog = x.prog ∧ y.step = x.step ∧ y.q = x.q ∧
      y.lad = x.lad.enter d.now cause) ∧
    (all = true → ∀ m ∈ d.pw.map.mitsAt (12 + k), (d.mitten m).st = .run →
      ((d.stringFault k ev cause all).mitten m).st = .stopped)) ∧
  (∀ (k : Fin 16) (s : State), (s.dev.string k).st ≠ .disabled → (s.dev.string k).st ≠ .retired →
    (s.dev.string k).tFault = false → (s.dev.strT k < -5000 ∨ 15000 < s.dev.strT k) →
    (s.dev.string k).lad.spent s.dev.now = false →
    ∃ t, exec (.stringTempFault k) s = .next t ∧ evStringTempFault ∈ t.dev.ho.glb.evstat ∧
      ∀ x, s.dev.pw.str[k.val]? = some x → ∃ y, t.dev.pw.str[k.val]? = some y ∧ y.tFault = true ∧
        y.lad = (if x.st = .faulted then x.lad else x.lad.enter s.dev.now evStringTempFault) ∧
        y.st = (if x.pm = none ∧ x.st = .running then .paused else x.st)) ∧
  (∀ (k : Fin 16) (s : State), (s.dev.string k).st ≠ .disabled → (s.dev.switch (12 + k)).mode = .off →
    (∀ m ∈ s.dev.pw.map.mitsAt (12 + k), (s.dev.mitten m).quiet = true) →
    pctOf 2 (s.dev.strE k).iRated < ((s.dev.nodeI (.str k)).natAbs : Int) →
    exec (.stringSwitchFault k) s = .next { s with dev := ((((s.dev.fault evStringSwitchFault (some (32 + k.val)) []).endImp k
      8).stopAt (12 + k)).retireString k evStringSwitchFault) }))

/-- A string fault that R149 gives a tie OFF opens the string's switch at once (R32 rank 1) and puts the string in FAULTED with
no charge ceiling. -/
def Obligations.OvercurrentOpensTie : Prop :=
  ∀ (d : Dev) (k : Nat) (x : Str) (w : Switch), d.pw.str[k]? = some x → d.pw.sw[12 + k]? = some w → w.blocked = false →
    x.lad.spent d.now = false → (∀ i, (d.source i).lend = none) →
    ∃ y v, (d.stringFault k evStringOvercurrent evStringOvercurrent true).pw.str[k]? = some y ∧
      (d.stringFault k evStringOvercurrent evStringOvercurrent true).pw.sw[12 + k]? = some v ∧
      y.st = .faulted ∧ y.iCeil = 0 ∧ y.chgMit = none ∧ y.lad.cause = evStringOvercurrent ∧ v.mode = .off ∧
      (∀ i, i ≠ 12 + k → (d.stringFault k evStringOvercurrent evStringOvercurrent true).pw.sw[i]? = d.pw.sw[i]?)

/-- A visit's end (R160-R162, R185, R189): where a pass runs on a unit in service the visit's samples become a FAST output or a
PRECISE input, and the pass advances to its next entry or ends; a visit of the wrong number of samples changes nothing, and
an empty list of samples, which no visit has, stops the model. Units of the fabric (R162, R164, R169, R173-R175, R182): a
pass starts on its pace boundary, is counted late or is skipped with MEAS_SEQ_OVERRUN; a correction slot that a slice has
taken stores its coefficients; correction converges; a slice whose correction has left its range is retired and its sample
retaken, a second one being the unit's fault; a stall, or ten bad charge frames of the reference or of input 12, are the
unit's fault. -/
def Obligations.UnitPasses : Prop :=
  ((∀ (k : Fin 16) (l : List Int) (cm cl : Bool) (time : Nat) (e : SeqEntry) (s : State),
    (s.dev.unit k).inPass = true → (s.dev.unit k).works = true → (s.dev.seqOf k).entries[(s.dev.unit k).entry]? = some e →
    l.length = 2 ^ e.samples →
    exec (.visitEnd k l cm cl time) s = .next { s with dev :=
      ((if e.precise then s.dev.precise k (s.dev.unit k).entry e (l.foldl (· + ·) 0)
          { s.dev.baseMarks k e with cm := cm, ovr := cl } (time / 10 * 10)
        else s.dev.fast k e (l.foldl (· + ·) 0) { s.dev.baseMarks k e with cm := cm, ovr := cl } (time / 10 * 10)).modMu k fun u =>
      let z := u.advance (time * 2 / 5 + 1)
      if z.entry + 1 < (s.dev.seqOf k).entries.length then { z with entry := z.entry + 1 } else z.endPass).beginVisit k }) ∧
  (∀ (k : Fin 16) (l : List Int) (cm cl : Bool) (time : Nat) (e : SeqEntry) (s : State),
    (s.dev.unit k).inPass = true → (s.dev.unit k).works = true → (s.dev.seqOf k).entries[(s.dev.unit k).entry]? = some e →
    l ≠ [] → l.length ≠ 2 ^ e.samples → exec (.visitEnd k l cm cl time) s = .next s) ∧
  (∀ (k : Fin 16) (cm cl : Bool) (time : Nat) (s : State), exec (.visitEnd k [] cm cl time) s = .fault .illFormed)) ∧
  ((∀ (k : Fin 16) (b clk : Nat) (s : State), (s.dev.unit k).works = true → (s.dev.unit k).inPass = false → b ≤ clk →
    s.dev.onPace (s.dev.seqOf k).period (clk - b) = true →
    (s.dev.unit k).seqNext = none → (s.dev.unit k).leaseDue = false → (s.dev.unit k).unleaseDue = false →
    (s.dev.unit k).syncNow = 0 → (∀ p ∈ s.dev.ms.accNext, p.1 ≠ k.val) → (∀ p ∈ s.dev.ms.mmxNext, p.1 ≠ k.val) →
    ((s.dev.seqOf k).period = 0 ∨ b < (s.dev.seqOf k).period) →
    exec (.passStart k b clk) s = .next { s with dev := ((s.dev.modMu k fun u =>
      { u.startPlan clk ((s.dev.seqOf k).entries.map fun e => (2 ^ e.samples, e.ts)) with
        late := if (s.dev.seqOf k).period ≠ 0 ∧ 0 < b then satInc 255 u.late else u.late, inPass := true, entry := 0,
        pass := u.pass + 1 }).beginVisit k) }) ∧
  (∀ (k : Fin 16) (b clk : Nat) (s : State), (s.dev.unit k).works = true → (s.dev.unit k).inPass = false → b ≤ clk →
    s.dev.onPace (s.dev.seqOf k).period (clk - b) = true →
    (s.dev.seqOf k).period ≠ 0 → (s.dev.seqOf k).period ≤ b → (s.dev.unit k).noted = false →
    exec (.passStart k b clk) s = .next { s with dev := (((s.dev.skipPass k).modMu k fun u => { u with
      skips := satInc 255 u.skips, noted := true }).raise evMeasSeqOverrun (some k.val) []) }) ∧
  (∀ (k : Fin 16) (c : SliceCoef) (s : State), (s.dev.unit k).works = true →
    (s.dev.unit k).sliceUp c.slice = true → (s.dev.unit k).corrRun.contains c.slice.val = true →
    exec (.correctionSlot k c) s = .next { s with dev := (s.dev.modMu k fun u => { u with
      dev := c.devPpm, in12 := c.in12, corrRun := u.corrRun.erase c.slice.val,
      coefs := u.coefs.set c.slice (c.offset, c.gain, c.skew) }) }) ∧
  (∀ (k : Fin 16) (s : State), ((s.dev.unit k).corr = .acquiring ∨ (s.dev.unit k).corr = .reacquiring) →
    exec (.correctionConverged k) s = .next { s with dev := (s.dev.modMu k fun u => { u with
      corr := if u.sliceOk.all id then .converged else .degraded, calAt := s.dev.now, calTemp := u.dieT }) }) ∧
  (∀ (k : Fin 16) (i : Fin 4) (s : State), (s.dev.unit k).corr ≠ .off → (s.dev.unit k).retired = false →
    (s.dev.unit k).sliceUp i = true → (s.dev.unit k).fault = false → (s.dev.ms.imp.getD k {}).run = none →
    s.dev.ms.cap.getD (k.val / 2) none = none →
    ((s.dev.unit k).sliceBad i s.dev.now = false → exec (.muSliceFault k i) s = .next s) ∧
    ((s.dev.unit k).sliceBad i s.dev.now = true → 3 < (s.dev.unit k).up.length →
      exec (.muSliceFault k i) s = .next { s with dev := ((s.dev.fault evMuSliceFault (some k.val) []).modMu k fun u =>
        { u.retire i s.dev.clk with corr := .degraded }) }) ∧
    ((s.dev.unit k).sliceBad i s.dev.now = true → (s.dev.unit k).up.length ≤ 3 →
      exec (.muSliceFault k i) s = .next { s with dev := (((s.dev.fault evMuSliceFault (some k.val) []).modMu k fun u =>
        { u.retire i s.dev.clk with corr := .degraded }).unitFault k) })) ∧
  (∀ (k : Fin 16) (stall : Bool) (s : State), (s.dev.unit k).corr ≠ .off → (s.dev.unit k).retired = false →
    (stall = true ∨ 10 ≤ (s.dev.unit k).devRun ∨ 10 ≤ (s.dev.unit k).in12Run →
      exec (.muUnitFault k stall) s = .next { s with dev :=
        ((if stall = true then s.dev.stallSeen none else s.dev).unitFault k) }) ∧
    (stall = false → (s.dev.unit k).devRun < 10 → (s.dev.unit k).in12Run < 10 →
      exec (.muUnitFault k stall) s = .next s)))

/-- Stale taps, captures and the reference (R172, R176, R177, R180): sixteen stale latches of a source's tap are its sense fault;
1,000 ticks without a window end a capture; a capture takes one window in a tick, DELAY after its trigger; the reference
settles and times out, and is suspect or faults after ten frames of its deviation. PAIR_WINDOW with any samples (R180): the
window is counted, and no accumulator outside those of the capture's indices, no tap and nothing of the power path changes. -/
def Obligations.ReferenceAndPairs : Prop :=
  ((∀ (i : Fin 112) (s : State), i.val < 24 → 16 ≤ (s.dev.ms.tap.getD i {}).stale →
    exec (.measTapStale i) s = .next { s with dev := ((s.dev.modTap i fun x => { x with bad := 0, stale := 0 }).srcFaultRow
      (i.val / 2) evSourceSenseFault) }) ∧
  (∀ (j : Fin 8) (c : Capture) (s : State), s.dev.ms.cap[j.val]? = some (some c) → 1000 ≤ c.idle →
    exec (.captureTriggerTimeout j) s = .next { s with dev := (((s.dev.onMs fun m => { m with cap := m.cap.set j none }).raise
      evMeasCaptureDone (some (2 * j.val)) (d2 (Config.captureReason 1).toNat ++ d2 c.taken)).powerUnits) }) ∧
  (∀ (j : Fin 8) (c : Capture) (ev sp at0 : Nat) (s : State), s.dev.ms.cap[j.val]? = some (some c) → c.tickDone = false →
    s.dev.triggerAt c at0 = some ev → c.taken + 1 < c.rep →
    sp = spacing (s.dev.unit (2 * j.val + b2n c.odd)).up.length c.ts →
    exec (.pairWindow j [] at0) s = .next { s with dev := (s.dev.each [0, 1] fun u x => x.modMu (2 * j.val + u) fun y =>
        y.window ((ev + c.delay) / 20 - c.ts) (ceilDiv ((c.window - 1) * sp) 2 + (c.ts + 16)) sp (u * (sp / 2))).onMs fun m => { m with
      cap := m.cap.set j (some { c with taken := c.taken + 1, tickDone := true, idle := 0 }) } }) ∧
  (∀ (j : Fin 8) (c : Capture) (l : List (Option WinSample)) (at0 : Nat) (s : State), s.dev.ms.cap[j.val]? = some (some c) →
    s.dev.triggerAt c at0 = none → exec (.pairWindow j l at0) s = .next s) ∧
  (∀ s : State, s.dev.ms.ref.bufEn = true → s.dev.ms.ref.settled = false →
    (s.dev.ms.ref.dev.natAbs ≤ 1000 →
      exec .referenceSettled s = .next { s with dev := ((s.dev.modRef fun r => { r with settled := true, timeout := false }).offset
        evMeasRefTimeout 0) }) ∧
    exec .measRefTimeout s = .next { s with dev := ((s.dev.modRef fun r => { r with timeout := true }).onset evMeasRefTimeout 0
      none []) }) ∧
  (∀ s : State, 10 ≤ s.dev.ms.ref.over5 →
    exec .measRefMismatch s = .next { s with dev := ((s.dev.modRef fun r => { r with suspect := true, okFrames := 0 }).onset
      evMeasRefMismatch 0 none []) }) ∧
  (∀ s : State, 10 ≤ s.dev.ms.ref.over20 → s.dev.ms.ref.fault = false →
    exec .measRefFault s = .next { s with dev := (((s.dev.modRef fun r => { r with
      fault := true, suspect := true, okFrames := 0, goneAt := some s.dev.now }).fault evMeasRefFault none []).enterLimp 1) })) ∧
  (∀ (j : Fin 8) (c : Capture) (l : List (Option WinSample)) (ev at0 : Nat) (s : State),
    s.dev.ms.cap[j.val]? = some (some c) → c.tickDone = false → s.dev.triggerAt c at0 = some ev → c.taken + 1 < c.rep →
    ∃ t, exec (.pairWindow j l at0) s = .next t ∧ t.dev.ms.cap[j.val]? = some (some
        { c with taken := c.taken + 1, tickDone := true, idle := 0 }) ∧
      (∀ n, (n < c.accBase ∨ c.accBase + c.window < n) → t.dev.ms.acc[n]? = s.dev.ms.acc[n]?) ∧
      t.dev.ms.tap = s.dev.ms.tap ∧ t.dev.pw = s.dev.pw ∧ t.nv = s.nv)

/-- Impedance runs (R203-R207): a requested run of a string whose step permits it starts with its base current, its amplitude and
its first point, or ends where the sequence in force leaves the leases no place (R166); a settled point opens its four
windows; an ended point is recorded and the next begins; a repetition asks for a new run. -/
def Obligations.ImpedanceRows : Prop :=
  (∀ (k : Fin 16) (r : ImpRun) (q : Step) (m : Nat) (s : State), (s.dev.ms.imp.getD k {}).run = some r → r.running = false →
    s.dev.impStep k = some q → (s.dev.string k).chgMit = some m → r.freqs = [] → (s.dev.baseSeq k).takesLeases = true →
    exec (.impedanceRunStart k) s = .next { s with dev := ((((s.dev.modImp k fun i => { i with
        run := some { r with
          running := true, point := 0, i0 := min (s.dev.strTargets k).2.1 (s.dev.iLimit m),
          amp := if q.type = 9 then floorDiv (r.ampl * q.iStep) 100
            else floorDiv (r.ampl * min (s.dev.strTargets k).2.1 (s.dev.iLimit m)) 100,
          points := [], startAt := s.dev.now, mitten := m, rest := q.type == 9, measure := false, clipped := false },
        runs := i.runs + 1 }).modMu k fun u => { u with leaseDue := true }).modMit m fun x => { x with dither := 0 }).publish k) }) ∧
  (∀ (k : Fin 16) (r : ImpRun) (q : Step) (m : Nat) (f : ImpFreq) (l : List ImpFreq) (s : State),
    s.dev.ms.imp[k.val]?.map (·.run) = some (some r) → r.running = false → s.dev.impStep k = some q →
    (s.dev.string k).chgMit = some m → r.freqs = f :: l → (s.dev.baseSeq k).takesLeases = true →
    ∃ t y, exec (.impedanceRunStart k) s = .next t ∧ t.dev.ms.imp[k.val]?.map (·.run) = some (some y) ∧ y.running = true ∧
      y.point = 0 ∧ y.mitten = m ∧ y.points = [] ∧ y.freqs = r.freqs ∧ t.nv = s.nv ∧
      (k.val < s.dev.ms.gen.length → t.dev.ms.gen[k.val]? = some { freq := f.freq, at0 := s.dev.now })) ∧
  (∀ (k : Fin 16) (r : ImpRun) (s : State), (s.dev.ms.imp.getD k {}).run = some r → r.running = false →
    (s.dev.baseSeq k).takesLeases = false → exec (.impedanceRunStart k) s = .next { s with dev := s.dev.endImp k 6 }) ∧
  (∀ (k : Fin 16) (r : ImpRun) (s : State), (s.dev.ms.imp.getD k {}).run = some r → r.running = true → r.measure = false →
    exec (.impedanceSettleEnd k) s = .next { s with dev := ((s.dev.each (List.range' r.accBase 4) fun n e => e.modAcc n fun a =>
      a.open (e.turnsOf n)).modRun k fun x => { x with measure := true }) }) ∧
  (∀ (k : Fin 16) (r : ImpRun) (f : ImpFreq) (s : State), (s.dev.ms.imp.getD k {}).run = some r → r.running = true →
    r.measure = true → r.freqs[r.point]? = some f → r.point + 1 < r.freqs.length →
    exec (.impedancePointEnd k) s = .next { s with dev := ((((s.dev.modRun k fun _ => { r with
        points := r.points ++ [s.dev.impPoint k r f], point := r.point + 1 }).tickFree).tickFree).startPoint k { r with
          points := r.points ++ [s.dev.impPoint k r f], point := r.point + 1 }) }) ∧
  (∀ (k : Fin 16) (r : ImpRun) (s : State), (s.dev.ms.imp.getD k {}).ended = some r → r.rep ≠ 0 →
    s.dev.impRefusal k r.ampl r.accBase r.freqs = none → s.dev.ringPermits r.ring k = true →
    exec (.impedanceRepeat k) s = .next { s with dev := (s.dev.modImp k fun i => { i with
      run := some { ampl := r.ampl, accBase := r.accBase, rep := r.rep, freqs := r.freqs, ring := r.ring } }) }) ∧
  (∀ (k : Fin 16) (r : ImpRun) (s : State), (s.dev.ms.imp.getD k {}).ended = some r → s.dev.ringPermits r.ring k = false →
    exec (.impedanceRepeat k) s = .next s)

/-- Accumulators (R192, R193, R197): a taken result of a SUM or SUMSQ accumulator adds once, counts once and never leaves the
64-bit range; the saturation is marked and announced once. -/
def Obligations.AccumulatorSums : Prop :=
  ∀ (a : Acc) (x : Int) (ovr : Bool) (ix turns : Nat), (a.cfg.mode = .sum ∨ a.cfg.mode = .sumsq) → a.full = false →
    a.cfg.periods = 0 →
    (a.add x ovr ix turns).1.count = a.count + 1 ∧
    (let v := if a.cfg.mode = .sum then x else x * x
     (-9223372036854775808 ≤ a.sum + v → a.sum + v ≤ 9223372036854775807 →
       (a.add x ovr ix turns).1.sum = a.sum + v ∧ (a.add x ovr ix turns).1.sat = a.sat ∧ (a.add x ovr ix turns).2 = false) ∧
     (9223372036854775807 < a.sum + v → (a.add x ovr ix turns).1.sum = 9223372036854775807 ∧
       (a.add x ovr ix turns).1.sat = true ∧ (a.add x ovr ix turns).2 = !a.satSent)) ∧
    -9223372036854775808 ≤ (a.add x ovr ix turns).1.sum ∧ (a.add x ovr ix turns).1.sum ≤ 9223372036854775807 ∧
    ((a.add x ovr ix turns).1.full = true ↔ 0xFFFFFFFF ≤ a.count + 1) ∧
    (a.add x ovr ix turns).1.new = a.new ∧ (a.add x ovr ix turns).1.windows = a.windows

/-- Trackers (R199): over any list of taken results MIN and MAX of a tracker at reset are results of the list, bound every one of
them, and COUNT counts them. -/
def Obligations.TrackerExtremes : Prop :=
  ∀ (l : List (Int × Nat)) (x : Mmx), l ≠ [] → x.min = 0x7FFFFFFF → x.max = -0x80000000 → x.count = 0 →
    (∀ p ∈ l, -0x80000000 < p.1 ∧ p.1 < 0x7FFFFFFF) → l.length < 0xFFFFFFFF →
    let y := l.foldl (fun (z : Mmx) p => z.add p.1 p.2 false) x
    (∃ p ∈ l, y.min = p.1 ∧ y.minT = p.2) ∧ (∃ p ∈ l, y.max = p.1 ∧ y.maxT = p.2) ∧
    (∀ p ∈ l, y.min ≤ p.1 ∧ p.1 ≤ y.max) ∧ y.count = l.length

/-- FUNCTION_LEVEL_RESET, BUS_MASTER_ENABLE_CLEAR and PCIE_CONVENTIONAL_RESET (R261): in PCIe mode every ring is deleted and
ENABLE clears, the commands admitted run on with their completions discarded, and the power path, the measurement fabric, the
system part, the links and the non-volatile state keep what they hold; a function-level and a conventional reset also clear
the host's MSI-X settings, and a conventional one the link's width and speed (the model's choice, log 48). PCIE_LINK_L0
(R284, R293) shows the link and releases WAKE#, and the pending messages of unmasked vectors are sent (R282). The clearing of
Bus Master Enable bars every access to host memory until the host sets it again. HIF_CTRL (R293): ENABLE = 1 with valid
attributes creates ring 0 from the HIF registers, or is ignored with ADMIN_CONFIG_INVALID; ENABLE = 0 leaves no ring that is
not being deleted, and the tags in flight stand. In OFF, SHIP, DEEP and RECOVERY the register does not answer (R291, R383). -/
def Obligations.HostInterface : Prop :=
  ((∀ (c : Instr) (s : State), s.dev.qspiMode = false →
    c = .functionLevelReset ∨ c = .busMasterEnableClear ∨ c = .pcieConventionalReset →
    ∃ t, exec c s = .next t ∧ t.dev.ho.rings = [] ∧ t.dev.ho.hif.enable = false ∧
      t.dev.ho.tags.map (·.tag) = s.dev.ho.tags.map (·.tag) ∧ (∀ x ∈ t.dev.ho.tags, x.drop = true) ∧
      { t.dev.pw with stage := s.dev.pw.stage } = s.dev.pw ∧ t.dev.ms = s.dev.ms ∧ t.dev.sy = s.dev.sy ∧ t.dev.ln = s.dev.ln ∧
      t.dev.ho.win = s.dev.ho.win ∧ t.dev.ho.glb = s.dev.ho.glb ∧ t.nv = s.nv ∧ t.pending = s.pending ∧
      (c = .busMasterEnableClear → t.dev.ho.hif = { s.dev.ho.hif with enable := false, bme := false }) ∧
      (c ≠ .busMasterEnableClear → t.dev.ho.hif.bme = false ∧ t.dev.ho.hif.msixEn = false ∧ t.dev.ho.hif.pba = 0) ∧
      (c = .pcieConventionalReset → t.dev.ho.hif.link = 0)) ∧
  (∀ (wide en mask bme : Bool) (speed : Fin 3) (s : State), s.dev.qspiMode = false → s.dev.ho.hif.pba = 0 →
    exec (.pcieLinkL0 wide speed en mask bme) s = .next { s with dev := (s.dev.modHif fun h => { h with
      inL2 := false, wakeLow := false, link := (if wide then 2 else 1) + 4 * (speed.val + 1), bme := bme, msixEn := en,
      msixMask := mask }) }) ∧
  (∀ (wide : Bool) (speed : Fin 3) (v : Fin 64) (s : State), s.dev.qspiMode = false → s.dev.inRun = true →
    s.dev.ho.hif.pba.getLsbD v = true → s.dev.ho.hif.vecMask.getLsbD v = false →
    ∃ t, exec (.pcieLinkL0 wide speed true false true) s = .next t ∧ .msix v.val (s.dev.ho.hif.vecEntry v) ∈ t.dev.ho.posted ∧
      t.dev.ho.hif.pba.getLsbD v = false ∧ t.dev.ho.hif.vecMask = s.dev.ho.hif.vecMask ∧ t.dev.ho.rings = s.dev.ho.rings ∧
      t.dev.pw = s.dev.pw ∧ t.dev.sy = s.dev.sy ∧ t.nv = s.nv)) ∧
  ((∀ (v : Word) (s : State), v.toNat < 4 → v.getLsbD 0 = true → s.dev.ho.hif.enable = false → s.dev.windowUp = true →
    (s.dev.ho.hif.ring0.badPlace s.dev.qspiMode = false → exec (.hifEnable v) s =
      .next { s with dev := ((s.dev.modHif fun h => { h with intnEn := v.getLsbD 1, enable := true }).setRing 0
        s.dev.ho.hif.ring0) }) ∧
    (s.dev.ho.hif.ring0.badPlace s.dev.qspiMode = true → exec (.hifEnable v) s =
      .next { s with dev := (s.dev.modHif fun h => { h with intnEn := v.getLsbD 1 }).raise evAdminConfigInvalid none [] })) ∧
  (∀ (v : Word) (s : State), v.toNat < 4 → v.getLsbD 0 = false → s.dev.ho.hif.enable = true → s.dev.windowUp = true →
    ∃ t, exec (.hifDisable v) s = .next t ∧ t.dev.ho.hif = { s.dev.ho.hif with enable := false, intnEn := v.getLsbD 1 } ∧
      (∀ r, (t.dev.ring r).st = .none ∨ (t.dev.ring r).st = .deleting) ∧ t.dev.ho.tags = s.dev.ho.tags ∧
      t.dev.ms = s.dev.ms ∧ t.dev.sy = s.dev.sy ∧ t.dev.ln = s.dev.ln ∧ t.nv = s.nv) ∧
  (∀ (v : Word) (s : State), s.dev.windowUp = false → exec (.hifEnable v) s = .next s ∧ exec (.hifDisable v) s = .next s))

/-- Doorbells (R272, R273, R282): in RUN or LIMP, on a ring that is not being deleted, a value with SQ_VALID sets SQ_TAIL, one
with CQ_VALID sets CQ_HEAD and releases the entries before it, and one with ARM arms the interrupt; each changes that ring
alone. -/
def Obligations.Doorbells : Prop :=
  ∀ (r : Fin 1024) (n : Nat) (g : Ring) (s : State), s.dev.inRun = true → s.dev.sy.order = none → s.dev.sy.sleepNext = false →
    look r.val s.dev.ho.rings = some g → (g.st = .active ∨ g.st = .error) → (n = 8 ∨ n = 4) →
    (∀ i, i < g.sqLen → i < 4096 → exec (.doorbellSqTail r (BitVec.ofNat 64 (0x8000 + i)) n) s =
      .next { s with dev := s.dev.setRing r { g with sqTail := i } }) ∧
    (∀ h, h < g.cqLen → h < 4096 → g.released h ≤ g.unrel →
      exec (.doorbellCqHead r (BitVec.ofNat 64 (0x80000000 + 65536 * h)) n) s =
        .next { s with dev := s.dev.setRing r { g with cqHead := h, unrel := g.unrel - g.released h } }) ∧
    exec (.doorbellArm r 0x40000000 n) s = .next { s with dev := s.dev.setRing r { g with arm := true } } ∧
    (∀ h, h < 4096 → g.cqLen ≤ h → exec (.doorbellCqHead r (BitVec.ofNat 64 (0x80000000 + 65536 * h)) n) s =
      .next { s with dev := s.dev.raise evRingDoorbellInvalid none (d2 r ++ leBytes 8 (0x80000000 + 65536 * h)) })

/-- DESCRIPTOR_ADMIT (R276, R277, R279, R280, R285): where it is the ring's turn, an admitted descriptor takes the tag, its slot
and the ring's next SEQ; the fetch head and SEQ advance, and a fetch slot of the ring's class is used; a marked slot
completes with ABORTED, a descriptor that fails a check with that check's status, and every other one waits for execution.
Where it is not the ring's turn nothing changes. -/
def Obligations.DescriptorAdmission : Prop :=
  ∀ (r : Fin 1024) (tag : Tag) (rd : HostRead) (g : Ring) (s : State),
    s.dev.tagOf tag = none → look r.val s.dev.ho.rings = some g →
    (s.dev.mayAdmit r = false → exec (.descriptorAdmit r tag rd) s = .next s) ∧
    (s.dev.mayAdmit r = true →
    ∃ t x, exec (.descriptorAdmit r tag rd) s = .next t ∧ t.dev.tagOf tag = some x ∧ x.ring = r.val ∧ x.slot = g.head ∧
      x.cls = g.cls ∧ t.dev.ho.arb = s.dev.ho.arb.served g.cls r ∧
      x.seq = g.seq ∧ x.desc = s.dev.descBytes g rd ∧ (t.dev.ring r).head = (g.head + 1) % g.sqLen ∧
      (t.dev.ring r).seq = g.seq + 1 ∧
      (g.marked.contains g.head = true → x.st = .due ∧ x.status = stAborted) ∧
      (g.marked.contains g.head = false →
        s.dev.checkDesc r g g.seq (s.dev.descBytes g rd) (s.dev.payloadBytes (s.dev.descBytes g rd) rd) rd.payErr = none →
        x.st = .admitted) ∧
      (∀ f, g.marked.contains g.head = false →
        s.dev.checkDesc r g g.seq (s.dev.descBytes g rd) (s.dev.payloadBytes (s.dev.descBytes g rd) rd) rd.payErr = some f →
        x.st = .due ∧ x.status = f.1 ∧ x.result = f.2) ∧
      t.dev.pw = s.dev.pw ∧ t.dev.ms = s.dev.ms ∧ t.dev.sy = s.dev.sy ∧ t.nv = s.nv ∧
      (∀ k, k ≠ r.val → look k t.dev.ho.rings = look k s.dev.ho.rings))

/-- Rows of the ring engine (R270, R282, R284, R286, R287, R294): RING_ERROR puts an ACTIVE ring in ERROR; a due completion of a
discarded tag frees it without an entry, and any other that need not wait is written; an armed ring with COAL_COUNT
unreleased entries, or one that has waited COAL_TIME, fires its vector and disarms, and with fewer it waits; EVENTS_LOST is
posted where an entry is free and clears the count; a ring without tags in flight ends its deletion or its reset and
completes that command. -/
def Obligations.RingEngine : Prop :=
  (∀ (r : Fin 1024) (s : State), (s.dev.ring r).st = .active → exec (.ringError r) s =
    .next { s with dev := ((s.dev.modRing r fun g => { g with st := .error }).raise evRingError none (d2 r)) }) ∧
  (∀ (tag : Tag) (x : TagRec) (s : State), s.dev.tagOf tag = some x → x.st = .due →
    (x.drop = true → exec (.completionWrite tag) s = .next { s with dev := (s.dev.atCompletion x).freeTag tag }) ∧
    (x.drop = false → s.dev.linkUp = true → s.dev.waitsFor x = false →
      exec (.completionWrite tag) s = .next { s with dev := s.dev.complete x })) ∧
  (∀ (r : Fin 1024) (waited : Bool) (s : State), (s.dev.ring r).st ≠ .none → (s.dev.ring r).arm = true →
    0 < (s.dev.ring r).unrel → (s.dev.ring r).vector < 64 → s.dev.linkUp = true →
    (waited = true ∨ (s.dev.ring r).coalT = 0 ∨ (s.dev.ring r).coalN ≤ (s.dev.ring r).unrel → exec (.vectorFire r waited) s =
      .next { s with dev := (s.dev.modRing r fun g => { g with arm := false }).fire (s.dev.ring r).vector }) ∧
    (waited = false → (s.dev.ring r).coalT ≠ 0 → (s.dev.ring r).unrel < (s.dev.ring r).coalN →
      exec (.vectorFire r waited) s = .next s)) ∧
  (∀ (r : Fin 1024) (g : Ring) (s : State), look r.val s.dev.ho.rings = some g → g.st ≠ .none → g.lost ≠ 0 →
    s.dev.sy.holdOn = false → s.dev.inFlight r + g.unrel < g.cqLen → s.dev.linkUp = true → g.evWait = [] →
    ∃ t, exec (.eventsLost r) s = .next t ∧ (t.dev.ring r).lost = 0 ∧ (t.dev.ring r).unrel = g.unrel + 1 ∧
      evEventsLost ∈ t.dev.ho.glb.evstat ∧ t.dev.pw = s.dev.pw ∧ t.dev.ms = s.dev.ms ∧ t.dev.sy = s.dev.sy ∧ t.nv = s.nv) ∧
  (∀ (r : Fin 1024) (tag : Nat) (s : State), s.dev.inFlight r = 0 →
    ((s.dev.ring r).st = .deleting → (s.dev.ring r).deleteTag = some tag → (s.dev.ring r).resetTag = none →
      exec (.ringDrainEnd r) s = .next { s with dev := ((s.dev.dropStage r).setRing r {}).ok tag }) ∧
    ((s.dev.ring r).st = .error → (s.dev.ring r).resetTag = some tag →
      exec (.ringDrainEnd r) s = .next { s with dev := ((s.dev.modRing r fun g => { g with
        st := .active, head := 0, sqTail := 0, cqTail := 0, cqHead := 0, unrel := 0, phaseBit := true, arm := true,
        marked := [], slots := [], fence := none, resetTag := none }).ok tag) }))

/-- A completion entry in quad-SPI mode (R270, R271, R273): 16 bytes at CQ_BASE + 16 x CQ_TAIL carry CID, the slot's head,
STATUS, the tag with PHASE, and RESULT; CQ_TAIL advances and PHASE inverts as it wraps; the tag is free again, and no other
byte of the ring window changes. -/
def Obligations.CompletionEntry : Prop :=
  ∀ (tag : Tag) (x : TagRec) (g : Ring) (s : State), s.dev.qspiMode = true → s.dev.tagOf tag = some x → x.st = .due →
    x.drop = false → x.resp = [] → s.dev.linkUp = true → s.dev.waitsFor x = false → look x.ring s.dev.ho.rings = some g →
    g.st = .active → g.cqTail < g.cqLen → g.cqBase + 16 * g.cqLen ≤ 262144 →
    byteAt x.desc 0 ≠ opRingModify → byteAt x.desc 0 ≠ opEventSubscribe →
    ∃ t, exec (.completionWrite tag) s = .next t ∧ t.dev.tagOf tag = none ∧
      t.dev.ring x.ring = { g with
        cqTail := (g.cqTail + 1) % g.cqLen, unrel := g.unrel + 1,
        phaseBit := if g.cqTail + 1 = g.cqLen then !g.phaseBit else g.phaseBit } ∧
      winRead t.dev.ho.win (g.cqBase + 16 * g.cqTail) 16 =
        leBytes 6 (leAt x.desc 2 2 + 65536 * g.head + 4294967296 * x.status) ++
        leBytes 2 (x.tag % 32768 + 32768 * b2n g.phaseBit) ++ leBytes 8 x.result ∧
      (∀ a, (a < g.cqBase + 16 * g.cqTail ∨ g.cqBase + 16 * g.cqTail + 16 ≤ a) →
        winGet t.dev.ho.win a = winGet s.dev.ho.win a) ∧
      t.dev.pw = s.dev.pw ∧ t.dev.ms = s.dev.ms ∧ t.dev.sy = s.dev.sy ∧ t.dev.ln = s.dev.ln ∧ t.nv = s.nv

/-- Quad-SPI accesses of the ring window (R262): in quad-SPI mode a WRITE inside the window stores its bytes and no other, and
STATUS is then clear; a READ inside the window returns the bytes there and changes nothing else; QSPI_STATUS returns the last
status; a frame error sets ERR_FRAME alone. -/
def Obligations.QuadSpiWindow : Prop :=
  ∀ (a : BitVec 24) (b : List Byte) (n : Nat) (s : State), s.dev.qspiMode = true → s.dev.windowUp = true →
    (0x40000 ≤ a.toNat → a.toNat + b.length ≤ 0x80000 → exec (.qspiWrite a b false) s =
      .next { s with dev := (s.dev.onHo fun h => { h with qspi := 0, win := winWrite h.win (a.toNat - 0x40000) b }) }) ∧
    (0x40000 ≤ a.toNat → a.toNat + n ≤ 0x80000 → exec (.qspiRead a n false) s =
      .next { s with dev := (s.dev.onHo fun h => { h with qspi := 0 }).reply (winRead s.dev.ho.win (a.toNat - 0x40000) n) }) ∧
    exec .qspiStatus s = .next { s with dev := s.dev.reply [s.dev.ho.qspi] } ∧
    exec (.qspiWrite a b true) s = .next { s with dev := (s.dev.onHo fun h => { h with qspi := 8 }) } ∧
    exec (.qspiRead a n true) s = .next { s with dev := (s.dev.onHo fun h => { h with qspi := 8 }).reply [] }

/-- The ring window keeps what was written (R262): bytes written by a quad-SPI WRITE come back in a READ of the same span, and
the window stays in its canonical form. -/
def Obligations.QuadSpiReadsBack : Prop :=
  ∀ (a : BitVec 24) (b : List Byte) (s t u : State), s.dev.qspiMode = true → s.dev.windowUp = true → winWf s.dev.ho.win = true →
    0x40000 ≤ a.toNat → a.toNat + b.length ≤ 0x80000 → exec (.qspiWrite a b false) s = .next t →
    exec (.qspiRead a b.length false) t = .next u →
    u.dev.out = { bytes := b, busErr := false } ∧ winWf u.dev.ho.win = true ∧
    (∀ k, (k < a.toNat - 0x40000 ∨ a.toNat - 0x40000 + b.length ≤ k) → winGet u.dev.ho.win k = winGet s.dev.ho.win k) ∧
    u.dev.ho.rings = s.dev.ho.rings ∧ u.dev.pw = s.dev.pw ∧ u.dev.sy = s.dev.sy ∧ u.nv = s.nv

/-- The administrative commands (R285, R287, R288, R301, R302), accepted: RING_CREATE adds the described ring; RING_DELETE and
RING_RESET stop the ring and wait for its tags; RING_MODIFY and EVENT_SUBSCRIBE succeed and act with their completion; ABORT
completes its target with ABORTED, and marks a posted slot; a class-0 target is ALREADY_DONE. -/
def Obligations.AdminCommands : Prop :=
  ∀ (tag : Tag) (x : TagRec) (s : State),
    (s.dev.command tag opRingCreate = some x → 0 < leAt x.desc 32 2 → leAt x.desc 32 2 < 1024 →
      look (leAt x.desc 32 2) s.dev.ho.rings = none → byteAt x.desc 59 = 0 → x.payload.length = 16 →
      badAttr x.desc s.dev.qspiMode = none → maskReserved x.payload = none →
      (byteAt x.desc 34 = 0 → (s.dev.ho.rings.filter fun q => q.2.cls == 0).length < 8) →
      exec (.ringCreate tag) s = .next { s with dev :=
        ((s.dev.setRing (leAt x.desc 32 2) (newRing x.desc x.payload [] false)).ok tag) }) ∧
    (s.dev.command tag opRingDelete = some x → 0 < leAt x.desc 32 2 → leAt x.desc 32 2 < 1024 →
      ((s.dev.ring (leAt x.desc 32 2)).st = .active ∨ (s.dev.ring (leAt x.desc 32 2)).st = .error) →
      exec (.ringDelete tag) s = .next { s with dev := ((s.dev.modRing (leAt x.desc 32 2) fun g => { g with
        st := .deleting, deleteTag := some tag.val }).modTag tag fun y => { y with st := .executing }) }) ∧
    (s.dev.command tag opRingReset = some x → leAt x.desc 32 2 < 1024 → (s.dev.ring (leAt x.desc 32 2)).st = .error →
      (s.dev.ring (leAt x.desc 32 2)).resetTag = none →
      exec (.ringReset tag) s = .next { s with dev := ((s.dev.modRing (leAt x.desc 32 2) fun g => { g with
        resetTag := some tag.val }).modTag tag fun y => { y with st := .executing }) }) ∧
    (s.dev.command tag opRingModify = some x → 0 < leAt x.desc 32 2 → leAt x.desc 32 2 < 1024 →
      ((s.dev.ring (leAt x.desc 32 2)).st = .active ∨ (s.dev.ring (leAt x.desc 32 2)).st = .error) →
      (s.dev.ring (leAt x.desc 32 2)).secure = false → (byteAt x.desc 34).testBit 1 = true → x.payload.length = 16 →
      badModify (s.dev.ring (leAt x.desc 32 2)) x.desc = none → maskReserved x.payload = none →
      exec (.ringModify tag) s = .next { s with dev := s.dev.ok tag }) ∧
    (∀ (y : TagRec) (cid : BitVec 16), s.dev.command tag opAbort = some x → x.ring = 0 →
      s.dev.abortTarget (leAt x.desc 32 2) (leAt x.desc 34 2) (leAt x.desc 36 2) = some y → y.tag ≠ tag.val →
      y.st = .admitted → (s.dev.ring (leAt x.desc 32 2)).cls ≠ 0 →
      exec (.abortCmd tag cid) s = .next { s with dev := (((s.dev.refuse y.tag stAborted 0).done tag stSuccess 0 []).modTag tag
        fun z => { z with after := some (leAt x.desc 32 2, leAt x.desc 34 2) }) }) ∧
    (∀ cid : BitVec 16, s.dev.command tag opAbort = some x → x.ring = 0 →
      s.dev.abortTarget (leAt x.desc 32 2) (leAt x.desc 34 2) (leAt x.desc 36 2) = none →
      (s.dev.ring (leAt x.desc 32 2)).posted (leAt x.desc 34 2) = true →
      ((s.dev.ring (leAt x.desc 32 2)).st = .active ∨ (s.dev.ring (leAt x.desc 32 2)).st = .error) →
      s.dev.postedCid (s.dev.ring (leAt x.desc 32 2)) (leAt x.desc 34 2) cid = leAt x.desc 36 2 →
      ((s.dev.ring (leAt x.desc 32 2)).cls = 0 →
        exec (.abortCmd tag cid) s = .next { s with dev := s.dev.done tag stAlreadyDone 0 [] }) ∧
      ((s.dev.ring (leAt x.desc 32 2)).cls ≠ 0 →
        exec (.abortCmd tag cid) s = .next { s with dev := (((s.dev.modRing (leAt x.desc 32 2) fun g => { g with
          marked := insertN (leAt x.desc 34 2) g.marked }).done tag stSuccess 0 []).modTag tag
            fun z => { z with after := some (leAt x.desc 32 2, leAt x.desc 34 2) }) })) ∧
    (s.dev.command tag opEventSubscribe = some x → x.payload.length = 32 →
      exec (.eventSubscribe tag) s = .next { s with dev := s.dev.ok tag })

/-- The staging commands (R28, R29, R163, R192, R200, R223, R224, R226, R228, R300, R304) of the ring that owns the open stage,
accepted: each puts its object into the stage and nothing in force changes; STAGE_BEGIN opens a stage, STAGE_COMMIT starts
its stepping, STAGE_ABORT discards it. -/
def Obligations.StagingCommands : Prop :=
  (∀ (tag : Tag) (x : TagRec) (s : State), s.dev.command tag opStageBegin = some x → s.dev.pw.stage.st = .none →
    exec (.stageBegin tag) s = .next { s with dev :=
      ((s.dev.modStage fun g => { st := .opened, owner := x.ring, step := g.step }).ok tag) }) ∧
  (∀ (tag : Tag) (x : TagRec) (s : State), s.dev.pw.stage.st = .opened → s.dev.pw.stage.owner = x.ring →
    (s.dev.command tag opStageCommit = some x → s.dev.pw.stage.empty = false →
      exec (.stageCommit tag) s = .next { s with dev := ((s.dev.modStage fun g => { g with
        st := .stepping, tag := some tag.val }).modTag tag fun y => { y with st := .executing }) }) ∧
    (s.dev.command tag opStageAbort = some x → s.dev.pw.stage.begun = false → s.dev.pw.stage.tag = none →
      exec (.stageAbort tag) s = .next { s with dev := (s.dev.modStage fun g => { step := g.step }).ok tag }) ∧
    (s.dev.command tag opPathMapLoad = some x →
      exec (.pathMapLoad tag) s = .next { s with dev := (match checkMap x.payload (s.dev.mapCtx (s.dev.ring x.ring)) with
        | some f => s.dev.refuse tag stMapInvalid (checkResult f.1 f.2)
        | none => (s.dev.modStage fun g => { g with map := some (parseMap (x.payload.take 4368)) }).ok tag) }) ∧
    (∀ c, s.dev.command tag opMittenConfig = some x → (s.dev.newMap.mitE (byteAt x.desc 32)).used = true →
      buildSet (startSet (byteAt x.desc 33 == 1) (look (byteAt x.desc 32) s.dev.pw.stage.mitCfg)
        (s.dev.mitten (byteAt x.desc 32)).cfg) x.payload mitIds (mitRange (s.dev.newMap.mitE (byteAt x.desc 32))
          (s.dev.nOf (byteAt x.desc 32) (s.dev.newMap.mitE (byteAt x.desc 32))))
        (mitP (s.dev.newMap.mitE (byteAt x.desc 32)) (s.dev.nOf (byteAt x.desc 32) (s.dev.newMap.mitE (byteAt x.desc 32)))) [] (mitExtra s.dev.newMap (s.dev.newMap.mitE (byteAt x.desc 32))) = .ok c →
      exec (.mittenConfig tag) s = .next { s with dev :=
        ((s.dev.modStage fun g => { g with mitCfg := assign (byteAt x.desc 32) c g.mitCfg }).ok tag) }) ∧
    (∀ c, s.dev.command tag opSourceConfig = some x → (s.dev.newMap.srcE (byteAt x.desc 32)).type ≠ 0 →
      buildSet (startSet (byteAt x.desc 33 == 1) (look (byteAt x.desc 32) s.dev.pw.stage.srcCfg)
        (s.dev.source (byteAt x.desc 32)).cfg) x.payload srcIds (srcRange (s.dev.newMap.srcE (byteAt x.desc 32)))
        (srcP (s.dev.newMap.srcE (byteAt x.desc 32))) srcDerived (srcExtra s.dev.ho.glb
          (s.dev.newMap.senseE (2 * byteAt x.desc 32)) (s.dev.newMap.srcE (byteAt x.desc 32))) = .ok c →
      exec (.sourceConfig tag) s = .next { s with dev :=
        ((s.dev.modStage fun g => { g with srcCfg := assign (byteAt x.desc 32) c g.srcCfg }).ok tag) }) ∧
    (∀ c, s.dev.command tag opStringConfig = some x → (s.dev.newMap.strE (byteAt x.desc 32)).type ≠ 0 →
      buildSet (startSet (byteAt x.desc 33 == 1) (look (byteAt x.desc 32) s.dev.pw.stage.strCfg)
        (s.dev.string (byteAt x.desc 32)).cfg) x.payload strIds (strRange (s.dev.newMap.strE (byteAt x.desc 32)))
        (strP (s.dev.newMap.strE (byteAt x.desc 32))) strDerived (fun c =>
          if (s.dev.newMap.strE (byteAt x.desc 32)).chem = 8 ∧ strP (s.dev.newMap.strE (byteAt x.desc 32)) c 1 = 0 then [[1]]
          else []) = .ok c →
      exec (.stringConfig tag) s = .next { s with dev :=
        ((s.dev.modStage fun g => { g with strCfg := assign (byteAt x.desc 32) c g.strCfg }).ok tag) }) ∧
    (s.dev.command tag opStringProgram = some x → (s.dev.newMap.strE (byteAt x.desc 32)).type ≠ 0 →
      checkProgram x.payload (s.dev.newMap.strE (byteAt x.desc 32))
        ((s.dev.ring x.ring).nodeMask.getLsbD (32 + byteAt x.desc 32)) = none →
      exec (.stringProgram tag) s = .next { s with dev := ((s.dev.modStage fun g => { g with
        progs := assign (byteAt x.desc 32) (parseProgram (x.payload.take (leAt x.payload 2 2))) g.progs }).ok tag) }) ∧
    (s.dev.command tag opProfileSet = some x →
      byteAt x.desc 32 + byteAt x.desc 33 + byteAt x.desc 34 + byteAt x.desc 35 = 100 →
      exec (.profileSet tag) s = .next { s with dev := ((s.dev.modStage fun g => { g with
        profile := some { e := byteAt x.desc 32, r := byteAt x.desc 33, p := byteAt x.desc 34, m := byteAt x.desc 35 } }).ok tag) }) ∧
    (s.dev.command tag opMeasSequence = some x →
      checkSeq x.payload (s.dev.seqCtx (s.dev.ring x.ring) (byteAt x.payload 2)) = none →
      exec (.measSequence tag) s = .next { s with dev := ((s.dev.modStage fun g => { g with
        seqs := assign (byteAt x.payload 2) (parseSeq x.payload) g.seqs }).ok tag) }) ∧
    (s.dev.command tag opAccConfig = some x → s.dev.badAcc x.desc = none →
      exec (.accConfig tag) s = .next { s with dev :=
        ((s.dev.modStage fun g => { g with accs := assign (leAt x.desc 32 2) (accOf x.desc) g.accs }).ok tag) }) ∧
    (s.dev.command tag opMmxConfig = some x → byteAt x.desc 34 ≠ 0 → s32At x.desc 36 < s32At x.desc 40 →
      0 ≤ s32At x.desc 44 → 2 * s32At x.desc 44 ≤ s32At x.desc 40 - s32At x.desc 36 →
      exec (.mmxConfig tag) s = .next { s with dev := ((s.dev.modStage fun g => { g with
        mmxs := assign (byteAt x.desc 32) (MmxCfg.mk (byteAt x.desc 33 == 1) (s32At x.desc 36)
          (s32At x.desc 40) (s32At x.desc 44) (byteAt x.desc 34)) g.mmxs }).ok tag) }) ∧
    (s.dev.command tag opMmxConfig = some x → byteAt x.desc 34 = 0 →
      exec (.mmxConfig tag) s = .next { s with dev := s.dev.refuse tag stInvalidParameter 34 }))

/-- The control commands (R86, R116-R119, R151, R240, R305) where their conditions hold: MITTEN_START and MITTEN_STOP start and
stop a mitten for the host, STRING_START and STRING_STOP a string, RETURN_TO_SERVICE returns a RETIRED unit whose cause has
gone, but none that a fault retired in the same tick (R257), LEND_START starts the lend its payload describes, LEND_STOP ends
one, and MOTION_SET writes MOVING. -/
def Obligations.ControlCommands : Prop :=
  ∀ (tag : Tag) (x : TagRec) (k : Nat) (s : State), byteAt x.desc 32 = k → k < 16 →
    (s.dev.command tag opMittenStart = some x → (s.dev.mitE k).used = true → (s.dev.mitten k).st = .stopped →
      (s.dev.mitten k).held = false → (s.dev.mitten k).disc = false → s.dev.portRetired k = false →
      (s.dev.mitten k).mismatch = false →
      exec (.mittenStart tag) s = .next { s with dev :=
        (((s.dev.modMit k fun z => { z with dHost := true }).startMit k).ok tag) }) ∧
    (s.dev.command tag opMittenStop = some x → (s.dev.mitE k).used = true → (s.dev.mitten k).held = false →
      (s.dev.mitten k).st ≠ .retired → (s.dev.mitten k).st ≠ .stopped →
      exec (.mittenStop tag) s = .next { s with dev := (s.dev.hostStopMit k).ok tag }) ∧
    (s.dev.command tag opStringStart = some x → (s.dev.strE k).type ≠ 0 → (s.dev.string k).st = .stopped →
      (s.dev.switch (12 + k)).disc = false → (s.dev.switch (12 + k)).hold = false → (s.dev.program k).isSome = true →
      exec (.stringStart tag) s = .next { s with dev :=
        ((s.dev.runFromStart k).ok tag) }) ∧
    (s.dev.command tag opStringStop = some x → (s.dev.strE k).type ≠ 0 →
      ((s.dev.string k).st = .running ∨ (s.dev.string k).st = .paused ∨ (s.dev.string k).st = .precharge ∨
        (s.dev.string k).st = .faulted) →
      exec (.stringStop tag) s = .next { s with dev := (((s.dev.modStr k Str.dropRetry).stopStr k).ok tag) }) ∧
    (∀ e, s.dev.command tag opReturnToService = some x → k ≤ 6 → byteAt x.desc 33 < rtsCount k →
      s.dev.rtsMissing k (byteAt x.desc 33) = none → s.dev.returned k (byteAt x.desc 33) = some (some e) →
      (s.dev.goneAt k (byteAt x.desc 33) ≠ some s.dev.now →
        exec (.returnToService tag) s = .next { s with dev := e.ok tag }) ∧
      (s.dev.goneAt k (byteAt x.desc 33) = some s.dev.now →
        exec (.returnToService tag) s = .next { s with dev := s.dev.refuse tag stCausePresent 0 })) ∧
    (∀ j, s.dev.command tag opLendStart = some x → x.payload.length = 32 → (s.dev.mitE k).used = true →
      s.dev.sy.power = .run → (s.dev.mitE k).lend = true → s.dev.pw.map.lendSrc (s.dev.mitE k) = some j →
      lendRange (s.dev.srcE j) (s.dev.pw.map.nodeMin ((s.dev.mitE k).other (.src j)))
        (s.dev.pw.map.nodeMax ((s.dev.mitE k).other (.src j))) (lendOf k (s.dev.srcE j) ((s.dev.mitE k).other (.src j)).code
          (s.dev.pw.map.nodeMin ((s.dev.mitE k).other (.src j))) s.dev.now x.payload) = none →
      s.dev.lendRefusal k j (lendOf k (s.dev.srcE j) ((s.dev.mitE k).other (.src j)).code
        (s.dev.pw.map.nodeMin ((s.dev.mitE k).other (.src j))) s.dev.now x.payload) = none →
      exec (.lendStart tag) s = .next { s with dev := ((s.dev.startLend k j (lendOf k (s.dev.srcE j)
        ((s.dev.mitE k).other (.src j)).code (s.dev.pw.map.nodeMin ((s.dev.mitE k).other (.src j))) s.dev.now
        x.payload)).ok tag) }) ∧
    (∀ (j : Nat) (l : Lend), s.dev.command tag opLendStop = some x → (s.dev.mitE k).used = true → j < 12 →
      (s.dev.source j).lend = some l → l.mit = k → (∀ i, i ≠ j → (s.dev.source i).lend = none) →
      (s.dev.mitten k).held = false →
      exec (.lendStop tag) s = .next { s with dev := ((s.dev.modSrc j fun y => { y with
        lend := y.lend.map fun l => { l with stopTag := some tag.val } }).endLend j 1) }) ∧
    (s.dev.command tag opMotionSet = some x →
      exec (.motionSet tag) s = .next { s with dev := (s.dev.onPw fun p => { p with moving := k % 2 == 1 }).ok tag })

/-- Class 0 (R222, R307): SHED drives the members of the named mittens low through the protection latch and stops them;
DISCONNECT demands OFF of the named ports and stops the named mittens, or releases them; HOLD keeps the named ports and
mittens, or releases them, and changes no switch, phase, source or string. -/
def Obligations.ClassZero : Prop :=
  ∀ (tag : Tag) (x : TagRec) (s : State),
    (s.dev.command tag opShed = some x → exec (.shed tag) s = .next { s with dev :=
      ((s.dev.each (bitsSet 16 (leAt x.desc 40 2)) fun m e => e.shedMit m).ok tag) }) ∧
    (s.dev.command tag opDisconnect = some x → byteAt x.desc 42 % 2 = 0 → exec (.disconnect tag) s = .next { s with dev :=
      (((s.dev.each (portsOf (leAt x.desc 32 8)) fun p e => e.disconnectPort p).each (bitsSet 16 (leAt x.desc 40 2))
        fun m e => e.disconnectMit m).ok tag) }) ∧
    (s.dev.command tag opDisconnect = some x → byteAt x.desc 42 % 2 = 1 → exec (.disconnect tag) s = .next { s with dev :=
      (((s.dev.each (portsOf (leAt x.desc 32 8)) fun p e =>
          if 12 ≤ p then (e.modSw p fun w => { w with disc := false }).modStr (p - 12) fun y => { y with pHost := false }
          else e.modSw p fun w => { w with disc := false }).each (bitsSet 16 (leAt x.desc 40 2))
        fun m e => e.modMit m fun y => { y with disc := false }).ok tag) }) ∧
    (s.dev.command tag opHold = some x → exec (.hold tag) s = .next { s with dev :=
      (((s.dev.each (portsOf (leAt x.desc 32 8)) fun p e => e.modSw p fun w => { w with hold := byteAt x.desc 42 % 2 == 0 }).each
        (bitsSet 16 (leAt x.desc 40 2)) fun m e => e.modMit m fun y => { y with held := byteAt x.desc 42 % 2 == 0 }).ok tag) }) ∧
    (s.dev.command tag opHold = some x → ∃ t, exec (.hold tag) s = .next t ∧
      (∀ (k : Nat) (w : Switch), s.dev.pw.sw[k]? = some w → ∃ v : Switch, t.dev.pw.sw[k]? = some v ∧ v.mode = w.mode ∧ v.disc = w.disc) ∧
      t.dev.pw.ph = s.dev.pw.ph ∧ t.dev.pw.src = s.dev.pw.src ∧ t.dev.pw.str = s.dev.pw.str ∧ t.dev.sy = s.dev.sy ∧
      t.dev.ms = s.dev.ms ∧ t.dev.ln = s.dev.ln ∧ t.nv = s.nv)

/-- The measurement commands (R180, R181, R188, R198, R202-R204, R207-R209, R249, R308). MEAS_FILTER_SYNC asks entries for a
synchronising reset at once, at the charge frame or at the policy frame, by its POINT. MEAS_PAIR_CAPTURE starts the capture
its parameters describe, or is turned away by the first parameter outside its range or the first condition of R181. ACC_CLEAR
clears accumulators and marks an impedance point that uses one of them. MMX_READ returns the records of trackers and empties
them where asked. IMPEDANCE_RUN requests a run, or is turned away by the first condition of R204. IMPEDANCE_ABORT ends a run
with HOST_ABORT, and with no run completes with NO_CHANGE. IMPEDANCE_READ returns the latest record, where there is one.
SELF_TEST begins the gauntlets in RUN, and in LIMP is turned away. SELF_TEST_DONE completes the oldest self-test once no test
runs, with the number of its findings: those of the gauntlets, of the conversions of inputs 12 and 13, and of the memory
scrub. -/
def Obligations.MeasurementCommands : Prop :=
  ∀ (tag : Tag) (x : TagRec) (s : State),
    (s.dev.command tag opMeasFilterSync = some x →
      (byteAt x.desc 36 = 0 → exec (.measFilterSync tag) s = .next { s with dev := ((s.dev.each (bitsSet 16 (leAt x.desc 32 2))
        fun k e => e.modMu k fun u => { u with syncNow := u.syncNow ||| BitVec.ofNat 16 (leAt x.desc 34 2) }).ok tag) }) ∧
      (byteAt x.desc 36 = 1 → exec (.measFilterSync tag) s = .next { s with dev := ((s.dev.each (bitsSet 16 (leAt x.desc 32 2))
        fun k e => e.modMu k fun u => { u with syncChg := u.syncChg ||| BitVec.ofNat 16 (leAt x.desc 34 2) }).ok tag) }) ∧
      (byteAt x.desc 36 = 2 → exec (.measFilterSync tag) s = .next { s with dev := ((s.dev.each (bitsSet 16 (leAt x.desc 32 2))
        fun k e => e.modMu k fun u => { u with syncPol := u.syncPol ||| BitVec.ofNat 16 (leAt x.desc 34 2) }).ok tag) }) ∧
      (2 < byteAt x.desc 36 → exec (.measFilterSync tag) s =
        .next { s with dev := s.dev.refuse tag stInvalidParameter 36 })) ∧
    (s.dev.command tag opMeasPairCapture = some x →
      (∀ o, (captureOf x.desc).bad = some o →
        exec (.measPairCapture tag) s = .next { s with dev := s.dev.refuse tag stInvalidParameter o }) ∧
      (∀ r, (captureOf x.desc).bad = none → s.dev.captureRefusal (byteAt x.desc 32) (captureOf x.desc) = some r →
        exec (.measPairCapture tag) s = .next { s with dev := s.dev.wrong tag r.1 0xFFFF r.2 }) ∧
      ((captureOf x.desc).bad = none → s.dev.captureRefusal (byteAt x.desc 32) (captureOf x.desc) = none →
        exec (.measPairCapture tag) s = .next { s with dev := ((s.dev.onMs fun m => { m with
          cap := m.cap.set (byteAt x.desc 32) (some (captureOf x.desc)) }).ok tag) })) ∧
    (s.dev.command tag opAccClear = some x → 0 < leAt x.desc 34 2 → leAt x.desc 32 2 + leAt x.desc 34 2 ≤ 512 →
      exec (.accClear tag) s = .next { s with dev :=
        (((s.dev.each (List.range' (leAt x.desc 32 2) (leAt x.desc 34 2)) fun i e => e.clearAcc i).clipRuns (leAt x.desc 32 2)
          (leAt x.desc 34 2)).ok tag) }) ∧
    (s.dev.command tag opMmxRead = some x → 0 < leAt x.desc 34 2 → byteAt x.desc 32 + leAt x.desc 34 2 ≤ 256 →
      (byteAt x.desc 36 % 2 = 0 → exec (.mmxRead tag) s = .next { s with dev := (s.dev.done tag stSuccess 0
        ((List.range' (byteAt x.desc 32) (leAt x.desc 34 2)).flatMap fun i => (s.dev.ms.mmx.getD i {}).record)) }) ∧
      (byteAt x.desc 36 % 2 = 1 → exec (.mmxRead tag) s = .next { s with dev :=
        ((s.dev.each (List.range' (byteAt x.desc 32) (leAt x.desc 34 2)) fun i e => e.modMmx i Mmx.emptied).done tag stSuccess 0
        ((List.range' (byteAt x.desc 32) (leAt x.desc 34 2)).flatMap fun i => (s.dev.ms.mmx.getD i {}).record)) })) ∧
    (∀ l, s.dev.command tag opImpedanceRun = some x → byteAt x.desc 32 < 16 → 0 < byteAt x.desc 33 → byteAt x.desc 33 ≤ 10 →
      leAt x.desc 34 2 % 2 = 0 → leAt x.desc 34 2 ≤ 508 → leAt x.desc 36 2 ≤ 1440 →
      x.payload.length = 16 + 8 * byteAt x.payload 2 → parseFreqs x.payload = .ok l →
      (s.dev.strE (byteAt x.desc 32)).type ≠ 0 →
      (s.dev.impRefusal (byteAt x.desc 32) (byteAt x.desc 33) (leAt x.desc 34 2) l = none →
        exec (.impedanceRun tag) s = .next { s with dev := ((s.dev.modImp (byteAt x.desc 32) fun i => { i with
          run := some { ampl := byteAt x.desc 33, accBase := leAt x.desc 34 2, rep := leAt x.desc 36 2, freqs := l,
                        ring := x.ring } }).ok tag) }) ∧
      (∀ o, s.dev.impRefusal (byteAt x.desc 32) (byteAt x.desc 33) (leAt x.desc 34 2) l = some o →
        exec (.impedanceRun tag) s = .next { s with dev :=
          (s.dev.wrong tag (impReason o) (if o = 1 then 0xFFFF else 0x200 + byteAt x.desc 32) o) })) ∧
    (s.dev.command tag opImpedanceAbort = some x → byteAt x.desc 32 < 16 → (s.dev.strE (byteAt x.desc 32)).type ≠ 0 →
      ((s.dev.ms.imp.getD (byteAt x.desc 32) {}).run.isSome = true →
        exec (.impedanceAbort tag) s = .next { s with dev :=
          ((s.dev.modRun (byteAt x.desc 32) fun r => { r with abortTag := some tag.val }).endImp (byteAt x.desc 32) 2) }) ∧
      ((s.dev.ms.imp.getD (byteAt x.desc 32) {}).run = none →
        exec (.impedanceAbort tag) s = .next { s with dev := s.dev.done tag stNoChange 0 [] })) ∧
    (s.dev.command tag opImpedanceRead = some x →
      ((s.dev.ms.imp.getD (byteAt x.desc 32) {}).record = none →
        exec (.impedanceRead tag) s = .next { s with dev := s.dev.ok tag }) ∧
      (∀ r, (s.dev.ms.imp.getD (byteAt x.desc 32) {}).record = some r →
        exec (.impedanceRead tag) s = .next { s with dev := s.dev.done tag stSuccess 0 (r.bytes (byteAt x.desc 32)) })) ∧
    (s.dev.command tag opSelfTest = some x →
      (s.dev.sy.power = .run →
        exec (.selfTest tag) s = .next { s with dev := (((s.dev.each (List.range 16) fun m e => e.testMit m).onSy fun y =>
          { y with selfTest := y.selfTest ++ [tag.val] }).modTag tag fun y => { y with st := .executing }) }) ∧
      (s.dev.sy.power ≠ .run →
        exec (.selfTest tag) s = .next { s with dev := s.dev.wrong tag 1 0xFFFF 0 })) ∧
    (∀ (conv : List TestConv) (scrub t : Nat) (l : List Nat), s.dev.sy.selfTest = t :: l →
      (∀ m ∈ s.dev.pw.mit, ∀ g, m.gnt = some g → g.test = false) →
      exec (.selfTestDone conv scrub) s = .next { s with dev :=
        (((conv.foldl Dev.testConv s.dev).onSy fun y => { y with selfTest := l, testFinds := 0 }).done t stSelfTestDone
          ((s.dev.sy.testFinds + conv.foldl (fun a c => a + convFinds c) 0 + scrub) % 65536) []) })

/-- The status, record, margin, power and time commands (R250, R252, R256, R285, R309-R312, R379, R380, R404). STATUS_READ
returns the records of a kind's units. RECORD_READ returns the records from a SEQ on, and where a pending ABORT cuts it short
the whole pieces of 4 KiB before that. BRIM_READ returns the margins, BRIM_FLOOR_SET sets the next FLOOR of the named rows,
AGEING_REBASE takes new baselines. POWER_STATE orders a transition, which a crown with a shared mitten passes to its chain,
or is turned away by its range, in LIMP, or by R312. DEVICE_RESTART restarts hitlessly and then completes, or completes and
then starts cold; while a commit is stepping it is turned away. TIME_READ returns the time, and TIME_ANCHOR sets the anchor. -/
def Obligations.ServiceCommands : Prop :=
  ∀ (tag : Tag) (x : TagRec) (s : State),
    (s.dev.command tag opStatusRead = some x → byteAt x.desc 32 ≤ 4 → 0 < byteAt x.desc 34 →
      byteAt x.desc 33 + byteAt x.desc 34 ≤ statusCount (byteAt x.desc 32) →
      exec (.statusRead tag) s = .next { s with dev := (s.dev.done tag stSuccess 0
        ((List.range' (byteAt x.desc 33) (byteAt x.desc 34)).flatMap fun i => s.dev.statusRecord (byteAt x.desc 32) i)) }) ∧
    (∀ (cut : Option Nat) (l : List LogRec), s.dev.command tag opRecordRead = some x → byteAt x.desc 32 ≤ 3 →
      0 < leAt x.desc 44 2 → leAt x.desc 44 2 ≤ 2047 →
      ((s.dev.ho.log.getD (byteAt x.desc 32) []).filter fun r => decide (leAt x.desc 36 8 ≤ r.seq)).take (leAt x.desc 44 2) = l →
      (s.dev.cutShort x cut (ceilDiv (l.flatMap LogRec.bytes).length 4096) = none →
        (l = [] → exec (.recordRead tag cut) s = .next { s with dev := s.dev.done tag stSuccess (leAt x.desc 36 8) [] }) ∧
        (∀ r, l.getLast? = some r → exec (.recordRead tag cut) s = .next { s with dev :=
          (s.dev.done tag stSuccess (r.seq + 1) (l.flatMap LogRec.bytes)) })) ∧
      (∀ k, s.dev.cutShort x cut (ceilDiv (l.flatMap LogRec.bytes).length 4096) = some k →
        exec (.recordRead tag cut) s = .next { s with dev :=
          (s.dev.done tag stAborted k ((l.flatMap LogRec.bytes).take (4096 * k))) })) ∧
    (s.dev.command tag opBrimRead = some x →
      exec (.brimRead tag) s = .next { s with dev := (s.dev.done tag stSuccess 0 (s.dev.pw.brim.flatMap fun r =>
        leBytes 1 r.pct ++ leBytes 1 r.floor ++ leBytes 1 r.target ++ leBytes 1 r.cause ++ [0, 0, 0, 0] ++
          leBytes 8 r.changed)) }) ∧
    (s.dev.command tag opBrimFloorSet = some x → 10 ≤ byteAt x.desc 36 → byteAt x.desc 36 ≤ 100 →
      exec (.brimFloorSet tag) s = .next { s with dev := ((s.dev.each (bitsSet 32 (leAt x.desc 32 4)) fun row e =>
        e.onPw fun p => { p with brim := p.brim.modify row fun r => { r with floorNext := some (byteAt x.desc 36) } }).ok tag) }) ∧
    (s.dev.command tag opAgeingRebase = some x →
      exec (.ageingRebase tag) s = .next { s with dev :=
        ((s.dev.ageRebase (byteAt x.desc 32) (byteAt x.desc 33)).ok tag) }) ∧
    (s.dev.command tag opPowerState = some x →
      (byteAt x.desc 32 = 0 ∨ 3 < byteAt x.desc 32 →
        exec (.powerState tag) s = .next { s with dev := s.dev.refuse tag stInvalidParameter 32 }) ∧
      (0 < byteAt x.desc 32 → byteAt x.desc 32 ≤ 3 → s.dev.sy.power = .limp →
        exec (.powerState tag) s = .next { s with dev := s.dev.wrong tag 1 0xFFFF 0 }) ∧
      (∀ r, 0 < byteAt x.desc 32 → byteAt x.desc 32 ≤ 3 → s.dev.sy.power ≠ .limp →
        s.dev.powerRefusal (byteAt x.desc 32) = some r →
        exec (.powerState tag) s = .next { s with dev := s.dev.wrong tag r.1 r.2.1 r.2.2 }) ∧
      (0 < byteAt x.desc 32 → byteAt x.desc 32 ≤ 3 → s.dev.sy.power ≠ .limp → s.dev.powerRefusal (byteAt x.desc 32) = none →
        (s.dev.ln.chn.role ≠ 1 ∨ s.dev.hasShared = false → exec (.powerState tag) s = .next { s with dev :=
          ((s.dev.onSy fun y => { y with order := some (orderOf (byteAt x.desc 32)), orderAt := 0 }).ok tag) }) ∧
        (s.dev.ln.chn.role = 1 → s.dev.hasShared = true → exec (.powerState tag) s = .next { s with dev :=
          ((((s.dev.onSy fun y => { y with
            order := some (orderOf (byteAt x.desc 32))
            orderAt := (s.dev.sy.tick.count + 2 + 9999) / 10000 * 10000 }).chainSend
            ([2, BitVec.ofNat 8 (byteAt x.desc 32)] ++
              leBytes 2 ((s.dev.sy.tick.count + 2 + 9999) / 10000 * 10000))).ok tag)) }))) ∧
    (∀ (i : StartIn), s.dev.command tag opDeviceRestart = some x →
      (1 < byteAt x.desc 32 →
        exec (.deviceRestart tag i) s = .next { s with dev := s.dev.refuse tag stInvalidParameter 32 }) ∧
      (byteAt x.desc 32 ≤ 1 → s.dev.pw.stage.st = .stepping →
        exec (.deviceRestart tag i) s = .next { s with dev := s.dev.wrong tag 9 0xFFFF 0 }) ∧
      (byteAt x.desc 32 = 0 → s.dev.pw.stage.st ≠ .stepping → exec (.deviceRestart tag i) s = .next { s with
        dev := ((s.dev.modTag tag fun y => { y with st := .executing }).hitless s.nv i).1.ok tag,
        nv := ((s.dev.modTag tag fun y => { y with st := .executing }).hitless s.nv i).2 }) ∧
      (byteAt x.desc 32 = 1 → s.dev.pw.stage.st ≠ .stepping → (x.drop = true ∨ s.dev.linkUp = false) →
        exec (.deviceRestart tag i) s = .next { s with
          dev := (s.dev.boot s.nv .cold i.boot).1, nv := (s.dev.boot s.nv .cold i.boot).2 }) ∧
      (byteAt x.desc 32 = 1 → s.dev.pw.stage.st ≠ .stepping → x.drop = false → s.dev.linkUp = true →
        let e := s.dev.complete { x with status := stSuccess }
        let g := s.dev.ring x.ring
        let f := if g.arm = true ∧ g.vector < 64 ∧ g.coalN ≤ g.unrel + 1 then e.fire g.vector else e
        exec (.deviceRestart tag i) s = .next { s with
          dev := (f.boot s.nv .cold i.boot).1, nv := (f.boot s.nv .cold i.boot).2 })) ∧
    (s.dev.command tag opTimeRead = some x →
      exec (.timeRead tag) s = .next { s with dev := (s.dev.done tag stSuccess 0
        (leBytes 8 s.dev.now ++ leBytes 4 s.nv.timeEpoch ++ leBytes 4 s.dev.sy.time.quality ++ leBytes 8 s.dev.sy.time.anchor ++
          leBytes 8 s.dev.sy.time.anchorT)) }) ∧
    (s.dev.command tag opTimeAnchor = some x →
      (x.payload.length ≠ 8 →
        exec (.timeAnchor tag) s = .next { s with dev := s.dev.refuse tag stInvalidParameter 4 }) ∧
      (x.payload.length = 8 →
        exec (.timeAnchor tag) s = .next { s with dev := ((s.dev.onSy fun y => { y with time := { y.time with
          anchor := leNat x.payload, anchorT := y.time.now, uncNs := 0, rcUsed := false, epochNew := false } }).ok tag) }))

/-- The update and key commands (R285, R311, R315, R414-R428). While an activation proceeds UPDATE_MANIFEST, UPDATE_PIECE,
UPDATE_CANCEL and KEY_UPDATE are turned away with WRONG_STATE, reason UNIT_STATE, UNIT 0xFFFF, and change nothing else.
Otherwise a manifest is taken or refused with its first failed check; the pieces of a command are taken in turn until one
fails or a pending ABORT cuts them short; UPDATE_STATUS returns the status; an activation is refused by R419 (which refuses
one while another proceeds: STATE is not READY), waits while a commit is stepping, and then acts, or is refused with reason 1
when it resumes with the host MOVING flag set; a cancellation drops the update that is held; OWNER_LOCK with the owner's
authentication sets the lock; a key record is refused under the lock, with a wrong length, without the owner's signature on
an owned device or where it does not decrypt, and is otherwise written. -/
def Obligations.UpdateCommands : Prop :=
  ∀ (tag : Tag) (x : TagRec) (s : State),
    (s.dev.command tag opUpdateManifest = some x → s.nv.upd = .activating →
      exec (.updateManifest tag) s = .next { s with dev := s.dev.wrong tag 2 0xFFFF 0 }) ∧
    (∀ (bad cut : Option Nat), s.dev.command tag opUpdatePiece = some x → s.nv.upd = .activating →
      exec (.updatePiece tag bad cut) s = .next { s with dev := s.dev.wrong tag 2 0xFFFF 0 }) ∧
    (s.dev.command tag opUpdateCancel = some x → s.nv.upd = .activating →
      exec (.updateCancel tag) s = .next { s with dev := s.dev.wrong tag 2 0xFFFF 0 }) ∧
    (s.dev.command tag opKeyUpdate = some x → s.nv.upd = .activating →
      exec (.keyUpdate tag) s = .next { s with dev := s.dev.wrong tag 2 0xFFFF 0 }) ∧
    (s.dev.command tag opUpdateManifest = some x → s.nv.upd ≠ .activating →
      exec (.updateManifest tag) s = .next (match s.dev.takeManifest s.nv s.dev.ln.chn.pos x.payload with
        | .error c => { s with dev := s.dev.refuse tag stManifestInvalid c }
        | .ok (e, n, new) => { s with
            dev := e.done tag (if new = true then stSuccess else stNoChange) 0 [], nv := n })) ∧
    (∀ (bad cut : Option Nat), s.dev.command tag opUpdatePiece = some x → s.nv.upd ≠ .activating →
      (byteAt x.desc 34 = 0 ∨ 15 < byteAt x.desc 34 →
        exec (.updatePiece tag bad cut) s = .next { s with dev := s.dev.refuse tag stInvalidParameter 34 }) ∧
      (0 < byteAt x.desc 34 → byteAt x.desc 34 ≤ 15 → x.payload.length ≠ 4096 * byteAt x.desc 34 →
        exec (.updatePiece tag bad cut) s = .next { s with dev := s.dev.refuse tag stInvalidParameter 4 }) ∧
      (∀ e n any first, 0 < byteAt x.desc 34 → byteAt x.desc 34 ≤ 15 → x.payload.length = 4096 * byteAt x.desc 34 →
        s.dev.takePieces s.nv bad x.payload (List.range' (leAt x.desc 32 2)
          ((s.dev.cutShort x cut (byteAt x.desc 34)).getD (byteAt x.desc 34))) 0 false = (e, n, any, first) →
        exec (.updatePiece tag bad cut) s = .next { s with nv := n, dev := match first, s.dev.cutShort x cut (byteAt x.desc 34) with
          | some p, _ => if any = true then (e.done tag stPieceInvalid p []).countOutcome stPieceInvalid
                         else e.refuse tag stPieceInvalid p
          | none, some k => e.done tag stAborted k []
          | none, none => e.done tag (if any = true then stSuccess else stNoChange) 0 [] })) ∧
    (s.dev.command tag opUpdateStatus = some x →
      exec (.updateStatus tag) s = .next { s with dev := s.dev.done tag stSuccess 0 (s.dev.updateStatus s.nv) }) ∧
    (∀ i, s.dev.command tag opUpdateActivate = some x →
      (s.nv.upd = .activating → s.nv.held ≠ none →
        exec (.updateActivate tag i) s = .next { s with dev := s.dev.refuse tag stActivationRefused 4 }) ∧
      (∀ r, s.dev.activationRefusal s.nv = some r →
        exec (.updateActivate tag i) s = .next { s with dev := s.dev.refuse tag stActivationRefused r }) ∧
      (s.dev.activationRefusal s.nv = none → s.dev.pw.stage.st = .stepping →
        exec (.updateActivate tag i) s = .next { s with
          dev := (s.dev.modTag tag fun y => { y with st := .executing }).onSy fun y => { y with waitAct := some tag.val },
          nv := { s.nv with upd := .activating } }) ∧
      (s.dev.activationRefusal s.nv = none → s.dev.pw.stage.st ≠ .stepping →
        exec (.updateActivate tag i) s = .next { s with
          dev := ((s.dev.modTag tag fun y => { y with st := .executing }).activate { s.nv with upd := .activating } tag i).1,
          nv := ((s.dev.modTag tag fun y => { y with st := .executing }).activate { s.nv with upd := .activating } tag i).2 })) ∧
    (∀ (t : Nat) (i : StartIn), s.dev.sy.waitAct = some t →
      (s.dev.pw.stage.st ≠ .stepping → s.dev.pw.moving = true →
        exec (.activationResume i) s = .next { s with
          dev := (s.dev.onSy fun y => { y with waitAct := none }).refuse t stActivationRefused 1, nv := { s.nv with upd := .ready } }) ∧
      (s.dev.pw.stage.st ≠ .stepping → s.dev.pw.moving = false →
        exec (.activationResume i) s = .next { s with dev := (s.dev.activate s.nv t i).1, nv := (s.dev.activate s.nv t i).2 }) ∧
      (s.dev.pw.stage.st = .stepping → exec (.activationResume i) s = .next s)) ∧
    (s.dev.command tag opUpdateCancel = some x → s.nv.upd ≠ .activating →
      (s.nv.held ≠ none → exec (.updateCancel tag) s = .next { s with
        dev := s.dev.ok tag, nv := { s.nv with held := none, bitmap := [], upd := .none } }) ∧
      (s.nv.held = none → exec (.updateCancel tag) s = .next { s with dev := s.dev.done tag stNoChange 0 [] })) ∧
    (s.dev.command tag opOwnerLock = some x →
      (x.payload.length ≠ 256 →
        exec (.ownerLock tag) s = .next { s with dev := s.dev.refuse tag stInvalidParameter 4 }) ∧
      (x.payload.length = 256 →
        exec (.ownerLock tag) s = .next (match ownerAuth s.nv 3 x.payload x.desc [] with
          | none => { s with dev := s.dev.refuse tag stAuthFailed 0 }
          | some a => { s with
              dev := (if (byteAt x.desc 32 % 2 == 1) = s.nv.ownerLock then s.dev
                else s.dev.raise evOwnerLockChanged none []).ok tag,
              nv := { s.nv with ownerCnt := a.1, ownerLock := byteAt x.desc 32 % 2 == 1 } }))) ∧
    (s.dev.command tag opKeyUpdate = some x → s.nv.upd ≠ .activating →
      (s.nv.ownerLock = true → exec (.keyUpdate tag) s = .next { s with dev := s.dev.refuse tag stOwnerLocked 0 }) ∧
      (s.nv.ownerLock = false → x.payload.length ≠ 1024 →
        exec (.keyUpdate tag) s = .next { s with dev := s.dev.refuse tag stInvalidParameter 4 }) ∧
      (s.nv.ownerLock = false → x.payload.length = 1024 →
        exec (.keyUpdate tag) s = .next (
          if s.nv.owned = true ∧
              Config.ecdsaVerify s.nv.ownerPub (Config.sha256 (x.payload.take 960)) (x.payload.drop 960) = false then
            { s with dev := s.dev.refuse tag stAuthFailed 0 }
          else match Config.gcmDecrypt (s.dev.ring x.ring).sessKey ((x.payload.drop 68).take 12) ((x.payload.drop 80).take 64)
              ((x.payload.drop 144).take 16) with
            | none => { s with dev := s.dev.refuse tag stAuthFailed 0 }
            | some plain => { s with
                dev := ((s.dev.modRing x.ring fun g => if g.claim then { g with sessKey := [] } else g).raise evKeyUpdated none
                  (d2 (s.nv.writeKey x.payload plain).keyGen)).ok tag,
                nv := s.nv.writeKey x.payload plain })))

/-- Reads of the set-up window (R7, R196, R201, R435-R438): a whole aligned word read below the AON window returns the register
and performs its read action, an RC register then reading 0; a word that is not aligned returns 0 with ERR_ALIGN and changes
no register; an internal agent reads the mailbox and lock registers at the same offsets; SUM_LO of an accumulator, with its
DEMOD mate, and MIN latch the registers beside them for the reader. -/
def Obligations.RegisterReads : Prop :=
  (∀ (o : BitVec 24) (s : State), s.dev.sy.power = .run → o.toNat < 0xF000 → o.toNat % 4 = 0 →
    exec (.rcRead o 4) s =
      .next { s with dev := (s.dev.readAct o.toNat).reply (leBytes 4 ((s.dev.regWord s.nv o.toNat).getD 0).toNat) }) ∧
  (∀ (o : BitVec 24) (s : State), s.dev.sy.power = .run → o.toNat < 0x10000 → o.toNat % 4 ≠ 0 →
    exec (.rcRead o 4) s =
      .next { s with dev := (s.dev.accessError 1 0 o.toNat evAccessAlign (d2 o.toNat)).reply (List.replicate 4 0) }) ∧
  (∀ (o : BitVec 24) (n : Nat) (a : Fin 128) (sec : Bool) (s : State), isAgent a = true → a.val ≠ agHost →
    exec (.rcRead o n a sec) s = .next { s with dev := s.dev.boxRead a sec o.toNat n }) ∧
  (∀ (d : Dev) (n : Nv) (o : Nat), o ∈ [0x200C, 0x204C, 0x2114, 0x2134, 0x2154, 0x2174, 0x300C, 0x8120, 0x8208, 0x8308] →
    d.ln.twt.length = 2 → d.ln.twc.length = 4 → (d.readAct o).regWord n o = some 0) ∧
  (∀ (r : Fin 128) (n : Fin 512) (a : Acc) (s : State), latchReader r = true → s.dev.ms.acc[n.val]? = some a →
    (∀ l ∈ s.dev.ms.accL, l.reader = r.val → l.acc = n.val → l.byMate = false) →
    (a.cfg.mode ≠ .demod → exec (.accSumLoRead r n) s =
      .next { s with dev := (s.dev.latchAcc r n false).replyW (BitVec.ofNat 32 (sumBits a.sum)) }) ∧
    (a.cfg.mode = .demod → exec (.accSumLoRead r n) s = .next { s with dev :=
      (((s.dev.latchAcc r n false).latchAcc r (n.val + 1) true).replyW (BitVec.ofNat 32 (sumBits a.sum))) })) ∧
  (∀ (r : Fin 128) (n : Fin 256) (x : Mmx) (s : State), latchReader r = true → s.dev.ms.mmx[n.val]? = some x →
    exec (.mmxMinRead r n) s = .next { s with dev := ((s.dev.onMs fun m => { m with
      mmxL := { reader := r, mmx := n, max := wd (enc 4 x.max), minT := wd x.minT, maxT := wd x.maxT } ::
        m.mmxL.filter fun y => !(y.reader == r.val && y.mmx == n.val) }).replyW (wd (enc 4 x.min))) })

/-- Writes of the set-up window in RUN (R7, R10, R48, R176, R346, R349, R355, R436-R439, R442-R444): a whole aligned word goes to
its register, one to a closed offset is ignored with SETUP_WRITE_IGNORED, and one that is not aligned or not a whole word is
an access error; the rows of single registers write theirs, or are turned away as their rules say. -/
def Obligations.RegisterWrites : Prop :=
  ∀ (v : Word) (s : State), s.dev.sy.power = .run →
    (∀ (o : BitVec 24) (b : List Byte), o.toNat < 0x10000 → b.length = 4 → o.toNat % 4 = 0 →
      exec (.setupRegisterWrite o b) s = .next { s with dev := s.dev.writeReg s.nv o.toNat (wd (leNat b)) } ∧
      (closedOff o.toNat = true → exec (.setupRegisterWrite o b) s = .next { s with dev := s.dev.ignoredWrite o.toNat })) ∧
    (∀ (o : BitVec 24) (b : List Byte), o.toNat < 0x10000 → b.length = 4 → o.toNat % 4 ≠ 0 →
      exec (.setupRegisterWrite o b) s =
        .next { s with dev := s.dev.accessError 1 0 o.toNat evAccessAlign (d2 o.toNat) }) ∧
    (∀ (o : BitVec 24) (b : List Byte), o.toNat < 0x10000 → b.length = 3 →
      exec (.setupRegisterWrite o b) s =
        .next { s with dev := s.dev.accessError 0 0 o.toNat evAccessWidth (d2 o.toNat) }) ∧
    (∀ j, j < 8 → exec (.w1cWrite (BitVec.ofNat 24 (0x40 + 4 * j)) v) s = .next { s with dev := s.dev.writeEvstat j v }) ∧
    (s.dev.ho.glb.locked = false → v.toNat < 256 → 0 < v.toNat → v.toNat ≤ s.nv.runBeh % 256 →
      exec (.behaviourLevelWrite v) s = .next { s with dev := s.dev.modGlb fun g => { g with behav := v.toNat } }) ∧
    (s.dev.ho.glb.locked = true → v.toNat < 256 → v.toNat ≠ s.dev.ho.glb.inForce →
      exec (.behaviourLevelWrite v) s = .next { s with dev := s.dev.raise evBehaviourLevelIgnored none [] }) ∧
    ((∀ i, i < 16 → s.dev.auxInUse i = false) →
      exec (.auxmodeWrite false v) s = .next { s with dev := s.dev.modGlb fun g => { g with auxMode0 := v } }) ∧
    ((∀ i, i < 16 → s.dev.auxInUse (16 + i) = false) →
      exec (.auxmodeWrite true v) s = .next { s with dev := s.dev.modGlb fun g => { g with auxMode1 := v } }) ∧
    (∀ (p : Fin 64) (r : Fin 6), v &&& phReserved (4 * r.val) = 0 → phInvalid r v = false →
      exec (.phSetupWrite p r v) s =
        .next { s with dev := (s.dev.modPh p fun x => { x with held := x.held.put r v }).setupNow p }) ∧
    (v = 1 → exec (.bufEnWrite v) s = .next { s with dev := s.dev.modRef fun x => { x with bufEn := true } }) ∧
    (v = 0 → (∃ m ∈ s.dev.pw.mit, m.st ≠ .stopped) →
      exec (.bufEnWrite v) s = .next { s with dev := s.dev.raise evMeasRefBusy none [] }) ∧
    (∀ (p : Fin 4) (r : Fin 4), exec (.twcTimingWrite p r v) s = .next { s with dev := s.dev.writeTiming p (r.val + 1) v }) ∧
    (∀ k : Fin 2, v &&& 0xFF0000E0#32 = 0 → v.getLsbD 0 = true → (s.dev.canOf k).rateOk = true →
      (s.dev.canOf k).ctrl.getLsbD 0 = false → k.val < s.dev.ln.can.length →
      exec (.canEnableWrite k v) s = .next { s with dev := (s.dev.modCan k fun x => { x with ctrl := v }).canActive k }) ∧
    (v.toNat < 2048 → v.getLsbD 0 = true → v.toNat / 512 % 4 = 2 → s.dev.ln.chn.ctrl.getLsbD 0 = false →
      exec (.chainEnable v) s = .next { s with dev := s.dev.modChn fun c => { c with ctrl := v, st := .training } }) ∧
    (∀ (ir : BitVec 8) (drives low : Bool),
      ((drives = false ∨ low = true) → exec (.jtagInstruction ir drives low) s =
        .next { s with dev := s.dev.onSy fun y => { y with jtagIr := ir } }) ∧
      (drives = true → low = false → exec (.jtagInstruction ir drives low) s =
        .next { s with dev := (s.dev.onSy fun y => { y with jtagIr := 0xFF }).raise evJtagRefused none [] }))

/-- W1C of GLB_EVSTAT (R7, R447): a bit written 1 clears unless it is a class C bit whose condition stands; every other bit keeps
its value. -/
def Obligations.StatusBitsClear : Prop :=
  ∀ (j : Nat) (v : Word) (s : State), s.dev.sy.power = .run → j < 8 →
    ∃ t, exec (.w1cWrite (BitVec.ofNat 24 (0x40 + 4 * j)) v) s = .next t ∧
      (∀ e, e ∈ t.dev.ho.glb.evstat ↔ e ∈ s.dev.ho.glb.evstat ∧
        ¬ (e / 32 = j ∧ v.getLsbD (e % 32) = true ∧ ∀ c ∈ s.dev.ho.glb.evcond, c / 256 ≠ e)) ∧
      t.dev.ho.glb.evcond = s.dev.ho.glb.evcond ∧ t.dev.ho.rings = s.dev.ho.rings ∧ t.dev.pw = s.dev.pw ∧
      t.dev.ms = s.dev.ms ∧ t.dev.sy = s.dev.sy ∧ t.dev.ln = s.dev.ln ∧ t.nv = s.nv

/-- The two-wire target ports (R336-R342): a matching read returns the window from the pointer on and moves the pointer; a write
moves the pointer and puts its bytes at their places; an address that does not match is not acknowledged. In-band requests
hold SDA until they are acknowledged or time out. -/
def Obligations.TwoWireTargets : Prop :=
  (∀ (i : Fin 2) (a : BitVec 7) (n : Nat) (s : State), s.dev.sy.power = .run → (s.dev.twtOf i).addr.getLsbD 31 = true →
    (s.dev.twtOf i).hits a = true → (s.dev.ln.hb.req ≠ .served ∨ i.val = 1) →
    exec (.twtReadTransfer i a n) s = .next { s with dev := ((s.dev.reply ((List.range n).map fun k =>
      (s.dev.window s.nv).getD (((s.dev.twtOf i).ptr.toNat + k) % 256) 0)).modTwt i fun x => { x with
        ptr := x.ptr + BitVec.ofNat 8 n }) }) ∧
  (∀ (i : Fin 2) (a : BitVec 7) (p : Byte) (s : State), s.dev.sy.power = .run → (s.dev.twtOf i).addr.getLsbD 31 = true →
    (s.dev.twtOf i).hits a = true → s.dev.ln.hb.go = false →
    exec (.twtWriteTransfer i a [p]) s = .next { s with dev := (s.dev.reply []).modTwt i fun x => { x with ptr := p } }) ∧
  (∀ (i : Fin 2) (a : BitVec 7) (p b : Byte) (s : State), s.dev.sy.power = .run → (s.dev.twtOf i).addr.getLsbD 31 = true →
    (s.dev.twtOf i).hits a = true → s.dev.ln.hb.go = false → 0x80 ≤ p.toNat → p.toNat < 0xC0 → p.toNat ≠ 0x81 →
    exec (.twtWriteTransfer i a [p, b]) s = .next { s with dev := (((s.dev.reply []).modTwt i fun x => { x with
      ptr := p + 1 }).modHb fun h => { h with cmd := h.cmd.set (p.toNat - 0x80) b }) }) ∧
  (∀ (i : Fin 2) (a : BitVec 7) (p : Byte) (l : List Byte) (s : State), s.dev.sy.power = .run →
    (s.dev.twtOf i).addr.getLsbD 31 = true → (s.dev.twtOf i).hits a = true → s.dev.ln.hb.go = false →
    exec (.twtWriteTransfer i a (p :: l)) s = .next { s with dev :=
      (((List.range l.length).foldl (fun e k => e.hbByte ((p.toNat + k) % 256) (l.getD k 0))
        ((s.dev.reply []).modTwt i fun x => { x with ptr := BitVec.ofNat 8 (p.toNat + l.length) })).when
          (goWritten p.toNat l) fun e => e.hbGo) }) ∧
  (∀ (i : Fin 2) (a : BitVec 7) (b : List Byte) (n : Nat) (s : State), (s.dev.twtOf i).hits a = false →
    exec (.twtReadTransfer i a n) s = .next { s with dev := s.dev.busError } ∧
    exec (.twtWriteTransfer i a b) s = .next { s with dev := s.dev.busError }) ∧
  (∀ s : State, s.dev.sy.power = .run → (s.dev.twtOf 0).addr.getLsbD 31 = true → (s.dev.twtOf 0).hb.getLsbD 0 = true →
    s.dev.ln.hb.pending ≠ 0 → s.dev.ln.hb.req = .idle →
    exec .inBandRequest s = .next { s with dev := s.dev.modHb fun h => { h with req := .holding } }) ∧
  (∀ s : State, s.dev.ln.hb.req = .holding →
    exec .requestAcknowledge s = .next { s with dev := ((s.dev.modHb fun h => { h with req := .served }).modTwt 0 fun t =>
      { t with reqs := min 255 (t.reqs + 1) }) } ∧
    exec .requestTimeout s = .next { s with dev := ((s.dev.modHb fun h => { h with req := .backoff }).modTwt 0 fun t =>
      { t with reqTo := min 255 (t.reqTo + 1) }) })

/-- The hatband's commands in RUN (R309, R311, R312, R343): with the privilege each needs, a started command answers with its
STATUS, RESULT and data, done at the next completed checkpoint; without it, it ends with PERMISSION_DENIED. -/
def Obligations.HatbandCommands : Prop :=
  ∀ (s : State), s.dev.sy.power = .run → s.dev.sy.order = none → s.dev.sy.sleepNext = false →
    (s.dev.hbReady 1 = true → s.dev.hbArg 0 ≤ 4 → s.dev.hbArg 1 < statusCount (s.dev.hbArg 0) →
      exec .hatbandStatus s = .next { s with dev := (s.dev.modHb fun h => { h.answer false stSuccess 32
        (s.dev.statusRecord (s.dev.hbArg 0) (s.dev.hbArg 1)) with wait := some 0 }) }) ∧
    (s.dev.hbReady 2 = true → exec .hatbandTime s = .next { s with dev := (s.dev.modHb fun h =>
      { h.answer false stSuccess 32 (s.dev.sy.time.bytes s.nv.timeEpoch) with wait := some 0 }) }) ∧
    (s.dev.hbReady 3 = true → (s.dev.twtOf 0).hb.getLsbD 1 = true → exec .hatbandMotion s = .next { s with dev :=
      ((s.dev.onPw fun p => { p with moving := s.dev.hbArg 0 % 2 == 1 }).modHb fun h =>
        { h.answer false stSuccess 0 [] with wait := some 0 }) }) ∧
    (s.dev.hbReady 3 = true → (s.dev.twtOf 0).hb.getLsbD 1 = false →
      exec .hatbandMotion s = .next { s with dev := s.dev.hbRefuse stPermissionDenied 0x201 }) ∧
    (s.dev.hbReady 4 = true → (s.dev.twtOf 0).hb.getLsbD 1 = true → 0 < s.dev.hbArg 0 → s.dev.hbArg 0 < 4 →
      s.dev.powerRefusal (s.dev.hbArg 0) = none → s.dev.hasShared = false → exec .hatbandPower s = .next { s with dev :=
        ((s.dev.onSy fun y => { y with order := some (orderOf (s.dev.hbArg 0)), orderAt := 0 }).modHb fun h =>
          { h.answer false stSuccess 0 [] with wait := some 0 }) }) ∧
    (s.dev.hbReady 5 = true → exec .hatbandWake s = .next { s with dev := (s.dev.modHb fun h =>
      { h.answer false stSuccess 0 [] with wait := some 0 }) }) ∧
    (∀ ok, s.dev.hbReady 6 = true → (s.dev.twtOf 0).hb.getLsbD 2 = true →
      exec (.hatbandUpdateChunk ok) s = .next { s with dev := (s.dev.hbChunk s.nv ok).1, nv := (s.dev.hbChunk s.nv ok).2 })

/-- The two-wire controllers and CAN (R146, R344, R345, R350-R352): a poll hands the record it accepts to its string and is
missed otherwise, a lost arbitration is counted and its poll repeated or missed, a CAN frame that passes a string's filter is
stored and taken as its record or counted as too short, a status frame is sent, and the error states change as R352 says. -/
def Obligations.ControllersAndCan : Prop :=
  (∀ (c : Fin 4) (k : Fin 16) (b : List Byte) (s : State), s.dev.twcOn c = true →
    (s.dev.stp k 12 = (c.val : Int) + 1 →
      (∀ j, j < k.val → s.dev.pollsOn c j = true → s.dev.pmDue j ≠ s.dev.pmDue k) →
      (s.dev.pmAccepts k b = true → exec (.packMonitorPoll c k (.record b)) s =
        .next { s with dev := ((s.dev.modTwc c fun t => { t with
          tries := 0, polled := pollBytes (s.dev.stp k 13).toNat }).pmRecord k b).modStr k fun y => { y with
            pmLast := s.dev.now } }) ∧
      (s.dev.pmAccepts k b = false → exec (.packMonitorPoll c k (.record b)) s =
        .next { s with dev := (s.dev.modTwc c fun t => { t with
          tries := 0, polled := pollBytes (s.dev.stp k 13).toNat }).pollMissed k }) ∧
      exec (.packMonitorPoll c k .nack) s =
        .next { s with dev := (s.dev.modTwc c fun t => { t with
          tries := 0, polled := pollBytes (s.dev.stp k 13).toNat, nack := min 255 (t.nack + 1) }).pollMissed k }) ∧
    ((s.dev.twcOf c).tries < fld ((s.dev.twcOf c).regs.getD 0 0) 3 2 →
      exec (.twcArbitrationLost c) s = .next { s with dev := (s.dev.modTwc c fun t => { t with
        arbLost := min 255 (t.arbLost + 1), tries := (s.dev.twcOf c).tries + 1 }) }) ∧
    (fld ((s.dev.twcOf c).regs.getD 0 0) 3 2 ≤ (s.dev.twcOf c).tries →
      exec (.twcArbitrationLost c) s = .next { s with dev := (s.dev.modTwc c fun t => { t with
        arbLost := min 255 (t.arbLost + 1), tries := 0 }).portMissed c }) ∧
    exec (.twcArbLostCond c) s = .next { s with dev := ((s.dev.modTwc c fun t => { t with
      arbCond := min 255 (t.arbCond + 1), tries := 0 }).raise evTwcArbLostCond (some c.val) (d2 c)).portMissed c } ∧
    exec (.twcTimeout c) s = .next { s with dev := ((s.dev.modTwc c fun t => { t with
      timeout := min 255 (t.timeout + 1), tries := 0 }).raise evTwcTimeout (some c.val) (d2 c)).portMissed c }) ∧
  (∀ (k : Fin 2) (n : Nat) (ident : BitVec 29) (ide : Bool) (b : List Byte) (s : State), s.dev.canOn k = true →
    s.dev.canStrings k = [n] → s.dev.canMatch n ident ide = true →
    (16 ≤ b.length → exec (.canFrameReceived k ident ide b) s = .next { s with dev :=
      ((s.dev.modCan k fun c => { c with bufs := c.bufs.set 0 b }).pmRecord n (b.take 16)) }) ∧
    (b.length < 16 → exec (.canFrameReceived k ident ide b) s = .next { s with dev :=
      (s.dev.modCan k fun c => { c with short := min 255 (c.short + 1) }) })) ∧
  (∀ (k : Fin 2) (s : State), s.dev.canOn k = true →
    ((s.dev.canOf k).ctrl.getLsbD 1 = true → (s.dev.canOf k).ctrl.getLsbD 4 = false →
      (s.dev.canOf k).ctrl.toNat / 256 % 65536 ≠ 0 → exec (.canStatusFrame k) s = .next { s with dev :=
        ((s.dev.modCan k fun x => { x with sent := s.dev.canStatus x.txSeq, sentId := x.txid, sentBrs := x.ctrl.getLsbD 2, txSeq := (x.txSeq + 1) % 256 }).tickFree) }) ∧
    ((s.dev.canOf k).st = 0 → exec (.canErrorPassive k) s = .next { s with dev :=
      ((s.dev.canErrors k 1).onset evCanErrorPassive k (some k.val) []) }) ∧
    exec (.canBusOff k) s = .next { s with dev :=
      (((s.dev.canErrors k 2).offset evCanErrorPassive k).onset evCanBusOff k (some k.val) []) }) ∧
  (∀ (k : Fin 2) (s : State), s.dev.canPowered = true → (s.dev.canOf k).ctrl.getLsbD 0 = true →
    (s.dev.canOf k).ctrl.getLsbD 3 = true → (s.dev.canOf k).st = 2 →
    exec (.canBusOffRecovery k) s = .next { s with dev := s.dev.canActive k })

/-- The chain's formation, loss and SYNC (R355, R359, R360, R362): symbol lock leads to ELECTING; a formation reaches FORMED, or
stays in ELECTING on a conflict of IDs or a loop above 8 us; a loss and the return of frames are noted by role; and the SYNC
edges keep the grid or lose its lock. -/
def Obligations.ChainStates : Prop :=
  (∀ s : State, s.dev.ln.chn.st = .training →
    exec .chainSymbolLock s = .next { s with dev := s.dev.modChn fun c => { c with st := .electing } }) ∧
  (∀ (f : Formation) (s : State), s.dev.ln.chn.st = .electing →
    ((f.conflict = true ∨ (f.keys.any (· % 16 == fld s.dev.ln.chn.ctrl 1 4)) = true) → exec (.chainFormed f) s = .next { s with dev :=
      ((s.dev.modChn fun c => { c with st := .electing, role := 0 }).raise evChainIdConflict none []) }) ∧
    (f.conflict = false → (f.keys.any (· % 16 == fld s.dev.ln.chn.ctrl 1 4)) = false → 8000 < f.loopNs → exec (.chainFormed f) s = .next { s with dev :=
      ((s.dev.modChn fun c => { c with st := .electing, role := 0, loopNs := f.loopNs }).raise evChainLoopTooLong none []) }) ∧
    (f.conflict = false → (f.keys.any (· % 16 == fld s.dev.ln.chn.ctrl 1 4)) = false → f.loopNs ≤ 8000 →
      s.dev.ln.chn.elects f = true → (∀ m, m < 16 → (s.dev.mitE m).shared = false) → s.dev.ln.chn.known = false →
      ∃ t, exec (.chainFormed f) s = .next t ∧ t.dev.ln.chn.st = .formed ∧
        t.dev.ln.chn.role = (if f.position = 0 then 1 else 2) ∧ t.dev.ln.chn.pos = f.position ∧ t.dev.ln.chn.count = f.count ∧
        t.dev.ln.chn.crownId = f.crownId ∧ t.dev.ln.chn.lost = false ∧ evChainFormed ∈ t.dev.ho.glb.evstat ∧
        t.dev.pw = s.dev.pw ∧ t.dev.ms = s.dev.ms ∧ t.dev.sy = s.dev.sy ∧ t.nv = s.nv)) ∧
  (∀ s : State, s.dev.ln.chn.st = .formed → s.dev.ln.chn.lost = false → 2 ≤ s.dev.ln.chn.quiet → s.dev.ln.chn.role = 1 →
    exec .chainLost s = .next { s with dev := ((s.dev.modChn fun c => { c with
      lost := true, losses := min 255 (c.losses + 1), rx := [], dueC := [], dueP := [],
      slots := c.slots.map fun x => { x with missed := 2 } }).onset evChainLost 0 none []) }) ∧
  (∀ s : State, s.dev.ln.chn.st = .formed → s.dev.ln.chn.lost = false → 2 ≤ s.dev.ln.chn.quiet → s.dev.ln.chn.role = 2 →
    ∃ t, exec .chainLost s = .next t ∧ t.dev.ln.chn.st = .isolated ∧ t.dev.ln.chn.lost = true ∧ t.dev.pw = s.dev.pw ∧
      t.dev.ms = s.dev.ms ∧ t.nv = s.nv) ∧
  (∀ (p : BitVec 16) (s : State), s.dev.ln.chn.lost = true →
    (s.dev.ln.chn.role ≠ 2 → exec (.chainFramesReturn p) s = .next { s with dev :=
      (((s.dev.modChn fun c => { c with lost := false, quiet := 0 }).offset evChainLost 0).modChn fun c => { c with
        slots := c.readmit p }) }) ∧
    (s.dev.ln.chn.role = 2 → exec (.chainFramesReturn p) s = .next { s with dev :=
      ((((s.dev.modChn fun c => { c with lost := false, quiet := 0 }).offset evChainLost 0).modChn fun c => { c with
        st := .formed }).stepGrid) })) ∧
  (∀ (p w : Nat) (o : Int) (s : State), s.dev.ln.chn.ctrl.toNat / 512 % 4 = 2 → s.dev.sy.ticking = true →
    (s.dev.ln.chn.st = .formed → s.dev.ln.chn.role = 1) → s.dev.ln.chn.syncLock = true →
    (999000 ≤ p → p ≤ 1001000 → o.natAbs ≤ 2000 → exec (.syncEdge p o w) s = .next { s with dev :=
      ((s.dev.modChn fun c => { c with syncBad := 0, syncGood := min 8 (c.syncGood + 1), edgeAt := s.dev.now, syncPer := p }).onSy fun y => { y with
        tick := y.tick.lockTo 0 s.dev.now, cframe := y.cframe.lockTo 1 s.dev.now,
        pframe := if 2000 < w then y.pframe.lockTo 2 s.dev.now else y.pframe }) }) ∧
    ((p < 999000 ∨ 1001000 < p ∨ 2000 < o.natAbs) →
      (s.dev.ln.chn.syncBad < 2 → exec (.syncEdge p o w) s = .next { s with dev := (s.dev.modChn fun c => { c with
        syncGood := 0, syncBad := min 3 (c.syncBad + 1) }) }) ∧
      (s.dev.ln.chn.syncBad = 2 → exec (.syncEdge p o w) s = .next { s with dev := (((s.dev.modChn fun c => { c with
        syncGood := 0, syncBad := 3, syncLock := false }).onset evSyncLost 0 none []).rebaseGrid) })))

/-- The chain's frames and messages (R90-R92, R356-R358, R360, R422): a frame with an error is dropped and a good one kept for
its latch; INTERLEAVE, CONFIG_CHECK and ORDER act on a follower; an EVENT of LIMP is noted; chunks of a manifest or a piece
that the upstream neighbour sends are collected until the item is whole. -/
def Obligations.ChainMessages : Prop :=
  (∀ (f : List Byte) (code : Bool) (side : ChainSide) (s : State), s.dev.ln.chn.st = .formed →
    ((code = true ∨ f.length ≠ 250 ∨ sealFrame f ≠ f) →
      exec (.chainFrame f code side) s = .next { s with dev := (s.dev.hearMarker f).dropFrame }) ∧
    (code = false → f.length = 250 → sealFrame f = f → s.dev.ln.chn.role = 1 →
      ∃ t r, exec (.chainFrame f code side) s = .next t ∧ t.dev.ln.chn.rx = (r :: s.dev.ln.chn.rx).take 3 ∧
        r.tick = leAt f 2 4 ∧ r.side = side ∧
        t.dev.pw = s.dev.pw ∧ t.dev.ms = s.dev.ms ∧ t.dev.sy = s.dev.sy ∧ t.dev.ho = s.dev.ho ∧ t.nv = s.nv)) ∧
  (∀ (f : List Byte) (code : Bool) (side : ChainSide) (s : State), s.dev.ln.chn.st = .isolated →
    (code = true ∨ f.length ≠ 250 ∨ sealFrame f ≠ f) →
    exec (.chainFrame f code side) s = .next { s with dev := (s.dev.modChn fun c => { c with
      frameErr := min 65535 (c.frameErr + 1) }) }) ∧
  (∀ (msg : List Byte) (m : Nat) (s : State), s.dev.ln.chn.follows = true → byteAt msg 1 = m → (s.dev.mitE m).used = true →
    (s.dev.mitE m).shared = true →
    (byteAt msg 0 = 1 → exec (.chainInterleave msg) s = .next { s with dev := (s.dev.modMit m fun x => { x with
      nTotal := byteAt msg 2, baseIx := byteAt msg (5 + s.dev.ln.chn.pos),
      keep := if s.dev.ln.chn.pos < 15 ∧ byteAt msg 2 < byteAt msg (6 + s.dev.ln.chn.pos)
        then some (byteAt msg 2 - byteAt msg (5 + s.dev.ln.chn.pos)) else none,
      switchTick := ((s.dev.sy.tick.count : Int) +
        s16 ((leAt msg 3 2 + 65536 - (s.dev.sy.tick.count + s.dev.ln.chn.off) % 65536) % 65536)).toNat,
      respread := true }) }) ∧
    (byteAt msg 0 = 3 → exec (.chainConfigCheck msg) s = .next { s with dev :=
      (if leAt msg 2 8 = (s.dev.sharedHash m).toNat then s.dev.modMit m fun x => { x with mismatch := false }
       else ((if (s.dev.mitten m).running && (s.dev.mitten m).st != .faulted then s.dev.stopMit m else s.dev).modMit m fun x =>
         { x with mismatch := true }).raise evSharedMismatch (some m) []) })) ∧
  (∀ (msg : List Byte) (s : State), s.dev.ln.chn.follows = true → byteAt msg 0 = 2 → 1 ≤ byteAt msg 1 → byteAt msg 1 ≤ 4 →
    exec (.chainOrder msg) s = .next { s with dev := (s.dev.modChn fun c => { c with
      orderKind := byteAt msg 1, orderTick := leAt msg 2 2 }) }) ∧
  (∀ (msg : List Byte) (s : State), s.dev.ln.chn.st = .formed → s.dev.ln.chn.role = 2 → byteAt msg 0 = 4 →
    byteAt msg 1 ≠ s.dev.ln.chn.pos → byteAt msg 1 < 16 → byteAt msg 2 = evLimpEntered →
    exec (.chainEvent msg) s = .next { s with dev := (s.dev.modChn fun c => { c with
      limpers := c.limpers ||| (1#16 <<< byteAt msg 1) }) }) ∧
  (∀ (msg : List Byte) (s : State), s.dev.ln.chn.st = .formed → s.dev.ln.chn.fromUpstream = true → s.dev.receives = true → byteAt msg 0 = 5 → s.nv.upd ≠ .activating →
    ((manifestUnits (addChunk (leAt msg 2 2) (msg.drop 4) (if leAt msg 2 2 = 0 then [] else s.dev.ln.chn.man))).all fun k =>
      (wholeItem k (addChunk (leAt msg 2 2) (msg.drop 4) (if leAt msg 2 2 = 0 then [] else s.dev.ln.chn.man))).isNone) = true →
    exec (.manifestChunk msg) s = .next { s with dev := (s.dev.modChn fun c => { c with
      man := addChunk (leAt msg 2 2) (msg.drop 4) (if leAt msg 2 2 = 0 then [] else c.man) }) }) ∧
  (∀ (msg : List Byte) (ok : Bool) (s : State), s.dev.ln.chn.st = .formed → s.dev.ln.chn.fromUpstream = true → s.dev.receives = true → byteAt msg 0 = 6 → s.nv.upd ≠ .activating →
    wholeItem 256 (addChunk (byteAt msg 4) (msg.drop 5)
      (if s.dev.ln.chn.piece = some (leAt msg 2 2) then s.dev.ln.chn.chunks else [])) = none →
    exec (.pieceChunk msg ok) s = .next { s with dev := (s.dev.modChn fun c => { c with
      piece := some (leAt msg 2 2),
      chunks := addChunk (byteAt msg 4) (msg.drop 5) (if c.piece = some (leAt msg 2 2) then c.chunks else []) }) })

/-- The recovery ROM (R431, R432): in RECOVERY, over the attachment that it serves, a whole packet of a new SEQ is answered by
its command; a repeated SEQ gets the previous response again, a wrong LEN and a frame or CRC error status 1. Over UREC both
packet and response are frames; once the ROM serves one attachment, a packet over the other changes nothing. -/
def Obligations.RecoveryRom : Prop :=
  (∀ (p : List Byte) (s : State), s.dev.sy.power = .recovery → s.dev.ln.upd.romAtt ≠ some .uart →
    4 ≤ p.length → p.length = 4 + leAt p 2 2 → s.dev.ln.upd.romSeq = some (byteAt p 1) →
    exec (.romHello p) s = .next { s with dev :=
      (((s.dev.romBy .window).modUpd fun u => { u with romWin := winSet u.romWin 0 0 }).reply s.dev.ln.upd.romResp) }) ∧
  (∀ (p : List Byte) (s : State), s.dev.sy.power = .recovery → s.dev.ln.upd.romAtt ≠ some .uart → p.length ≠ 4 + leAt p 2 2 →
    exec (.romBitmap p) s = .next { s with dev := s.dev.romAnswer p 1 [] }) ∧
  (∀ (p : List Byte) (s : State), s.dev.sy.power = .recovery → s.dev.ln.upd.romAtt ≠ some .uart →
    4 ≤ p.length → p.length = 4 + leAt p 2 2 → s.dev.ln.upd.romSeq ≠ some (byteAt p 1) →
    (byteAt p 0 = 1 → exec (.romHello p) s = .next { s with dev := (((s.dev.romBy .window).romAnswer p 0 ([0x40, 0x96] ++
      leBytes 1 Config.siliconRev ++ [Config.freeRomVersion 0] ++ leBytes 1 s.nv.bootFails ++ leBytes 4 s.nv.secStatus.toNat ++
      [BitVec.ofNat 8 (Config.freeValue s.dev.freeIx).toNat, BitVec.ofNat 8 (Config.freeValue (s.dev.freeIx + 1)).toNat])).tickFree.tickFree) }) ∧
    (byteAt p 0 = 2 → byteAt p 4 < 2 → 9 ≤ p.length → p.length ≤ 4105 →
      romWhole (romAssemble (if s.dev.ln.upd.romAsm = byteAt p 4 then s.dev.ln.upd.romMan else []) (leAt p 5 4) (p.drop 9)) = none →
      exec (.romManifest p) s = .next { s with dev := (((s.dev.romBy .window).modUpd fun u => { u with
        romAsm := byteAt p 4,
        romMan := romAssemble (if u.romAsm = byteAt p 4 then u.romMan else []) (leAt p 5 4) (p.drop 9) }).romAnswer p 0 []) }) ∧
    (∀ ok, byteAt p 0 = 3 → s.dev.romSlot s.nv = some (byteAt p 4) → p.length = 4103 →
      exec (.romPiece p ok) s = .next { s with
        dev := (if (s.nv.takePiece (byteAt p 4) (leAt p 5 2) (p.drop 7) ok).2 = .bad
          then (s.dev.romBy .window).romAnswer p 3 (leBytes 2 (leAt p 5 2)) else (s.dev.romBy .window).romAnswer p 0 []),
        nv := (s.nv.takePiece (byteAt p 4) (leAt p 5 2) (p.drop 7) ok).1 }) ∧
    (byteAt p 0 = 4 → s.dev.romSlot s.nv = some (byteAt p 4) → p.length = 5 →
      exec (.romBitmap p) s = .next { s with dev := (s.dev.romBy .window).romAnswer p 0 (bitmapBytes s.nv.bitmap) }) ∧
    (∀ (m : Manifest) (b : BootIn), byteAt p 0 = 5 → byteAt p 4 < 2 → s.dev.romSlot s.nv = some (byteAt p 4) →
      s.nv.held = some m → s.nv.ownerLock = false → s.nv.bitmap.length = m.pieces →
      ∃ t, exec (.romCommit p true b) s = .next t ∧
        t = { s with
          dev := (((s.dev.romBy .window).romAnswer p 0 []).boot { s.nv with
            activeSlot := byteAt p 4, bootFails := 0,
            activated := (m.imgHash :: s.nv.activated.filter (· ≠ m.imgHash)).take 2, held := none, bitmap := [],
            upd := .none } .cold b).1,
          nv := (((s.dev.romBy .window).romAnswer p 0 []).boot { s.nv with
            activeSlot := byteAt p 4, bootFails := 0,
            activated := (m.imgHash :: s.nv.activated.filter (· ≠ m.imgHash)).take 2, held := none, bitmap := [],
            upd := .none } .cold b).2 }) ∧
    (∀ b, byteAt p 0 = 6 → exec (.romReset p b) s = .next { s with
      dev := (((s.dev.romBy .window).romAnswer p 0 []).boot { s.nv with bootFails := 0 } .cold b).1,
      nv := (((s.dev.romBy .window).romAnswer p 0 []).boot { s.nv with bootFails := 0 } .cold b).2 })) ∧
  (∀ (f : List Byte) (s : State), s.dev.sy.power = .recovery → s.dev.ln.upd.romAtt ≠ some .window →
    (romUnframe f = none → exec (.romBitmap f .uart) s = .next { s with dev :=
      (s.dev.reply (romFrame ([0x80, 0] ++ leBytes 2 1 ++ leBytes 1 1))) }) ∧
    (∀ p, romUnframe f = some p → p.length = 5 → leAt p 2 2 = 1 → s.dev.ln.upd.romSeq ≠ some (byteAt p 1) → byteAt p 0 = 4 →
      s.dev.romSlot s.nv = some (byteAt p 4) →
      exec (.romBitmap f .uart) s = .next { s with dev :=
        (((s.dev.romBy .uart).romAnswer p 0 (bitmapBytes s.nv.bitmap)).reply
          (romFrame ((s.dev.romBy .uart).romAnswer p 0 (bitmapBytes s.nv.bitmap)).out.bytes)) })) ∧
  (∀ (p : List Byte) (s : State), s.dev.ln.upd.romAtt = some .uart → exec (.romBitmap p) s = .next s)

/-- LCK_RELEASE (R327): the owner's write of RELEASE = 1 frees the lock and clears BROKEN and BROKEN_BY; one by another agent or
to a free lock is a bus error and changes nothing; RELEASE = 0 has no effect on the lock; a value with a reserved bit set is
ignored (R439). -/
def Obligations.LockRelease : Prop :=
  ∀ (a : Fin 128) (sec : Bool) (n : Fin 64) (v : Word) (x : Lock) (s : State),
    isAgent a = true → a.val ≠ agHost → (n.val < 8 → isSecure a sec = true) → s.dev.sy.lck[n.val]? = some x →
    (v &&& 0x7F00FE80#32 ≠ 0 → exec (.lckRelease a sec n v) s =
      .next { s with dev := (s.dev.reply []).invalidValue (lckOff n 1) }) ∧
    (v &&& 0x7F00FE80#32 = 0 → v.getLsbD 31 = true → x.owner = a.val → exec (.lckRelease a sec n v) s =
      .next { s with dev := (s.dev.reply []).modLck n fun _ => { owner := 0, broken := false, brokenBy := 0 } }) ∧
    (v &&& 0x7F00FE80#32 = 0 → v.getLsbD 31 = true → (x.owner ≠ a.val ∨ x.owner = 0) → exec (.lckRelease a sec n v) s =
      .next { s with dev := s.dev.busError }) ∧
    (v &&& 0x7F00FE80#32 = 0 → v.getLsbD 31 = false → exec (.lckRelease a sec n v) s = .next { s with dev := s.dev.reply [] })

/-- Doorbell writes that are ignored as a whole (R275): a reserved bit set, SQ_TAIL of N or above, CQ_HEAD of C or above or past
CQ_TAIL, or a ring that does not exist or is DELETING; the ring and the value are in the event. -/
def Obligations.DoorbellIgnored : Prop :=
  ∀ (r : Fin 1024) (v : BitVec 64) (s : State),
    (s.dev.inRun = true ∨ s.dev.sy.power = .sleep ∨ s.dev.sy.power = .liner) →
    (v.toNat / 4096 % 8 ≠ 0 ∨ v.toNat / 268435456 % 4 ≠ 0 ∨ v.toNat / 4294967296 ≠ 0 ∨
      (v.getLsbD 15 = true ∧ (s.dev.ring r).sqLen ≤ v.toNat % 4096) ∨
      (v.getLsbD 31 = true ∧ ((s.dev.ring r).cqLen ≤ v.toNat / 65536 % 4096 ∨
        (s.dev.ring r).unrel < (s.dev.ring r).released (v.toNat / 65536 % 4096))) ∨
      (s.dev.ring r).st = .none ∨ (s.dev.ring r).st = .deleting) →
    ∀ c, c = Instr.doorbellSqTail r v 8 ∨ c = Instr.doorbellCqHead r v 8 ∨ c = Instr.doorbellArm r v 8 →
      exec c s = .next { s with dev := s.dev.raise evRingDoorbellInvalid none (d2 r ++ leBytes 8 v.toNat) }

/-- The limiter in charge (R74, R75): the command is the least candidate clamped at 0; the limiter reported is a candidate whose
clamped value equals the command, and the lowest code among those; where every candidate is at or below 0, it is the lowest-
numbered of them. The candidates of the loop stand in ascending code order. -/
def Obligations.LimiterInCharge : Prop :=
  (∀ (l : List (Nat × Int)) (cmd : Int), l ≠ [] → cmd = max 0 (leastOf l) → (l.map (·.1)).Pairwise (· < ·) →
    (∀ q ∈ l, leastOf l ≤ q.2) ∧
    ∃ p ∈ l, p.1 = codeOf l cmd ∧ max 0 p.2 = cmd ∧ (∀ q ∈ l, max 0 q.2 = cmd → p.1 ≤ q.1) ∧
      ((∀ q ∈ l, q.2 ≤ 0) → ∀ q ∈ l, p.1 ≤ q.1)) ∧
  (∀ (d : Dev) (m : Nat) (g : Goal) (vOut vIn vSet iV : Int),
    ((d.withPeers m (d.ceilings m g vOut vIn vSet) ++ [(8, iV)]).map fun p : Nat × Int => p.1).Pairwise (· < ·))

/-- The rations of a source (R103): they sum to the ration base, one for each drawing mitten, and none is negative where the base
and the demands are not and the weights are above 0. -/
def Obligations.RationsSumToBase : Prop :=
  ∀ (base : Int) (draw : List Nat) (demand weight : Nat → Int), draw ≠ [] → draw.Nodup →
    (splitBase base draw demand weight).map (·.1) = draw ∧
    ((splitBase base draw demand weight).map (·.2)).sum = base ∧
    (0 ≤ base → (∀ m ∈ draw, 0 ≤ demand m) → (∀ m ∈ draw, 0 < weight m) → ∀ p ∈ splitBase base draw demand weight, 0 ≤ p.2)

/-- Every step keeps the bookkeeping of updates and starts well formed (R399, R408, R415-R417, R420): a legal slot, a legal
BOOT_FAILS count, at most two activated images, a bitmap without repeats inside the held manifest, and a READY or ACTIVATING
update whose bitmap is whole. -/
def Obligations.UpdateBookkeepingKept : Prop :=
  ∀ s t : State, s.nv.wf → step s = .next t → t.nv.wf

/-- The machine right after reset has well-formed bookkeeping. -/
def Obligations.UpdateBookkeepingAtReset : Prop :=
  State.reset.nv.wf

/-- No step lowers SEC_MIN, the floor of the images that may be activated (R414), or OWNER_COUNTER, above which the counter of an
owner authentication block must lie (R425). -/
def Obligations.RollbackFloorsNeverFall : Prop :=
  ∀ s t : State, step s = .next t → s.nv.secMin ≤ t.nv.secMin ∧ s.nv.ownerCnt ≤ t.nv.ownerCnt

/-- Every step keeps the ring window and the recovery ROM's window in canonical form (R262; the form is the model's, log 8):
addresses strictly rising and below 256 KiB, and no byte listed that reads 0. -/
def Obligations.WindowsStayCanonical : Prop :=
  ∀ s t : State, winWf s.dev.ho.win = true → winWf s.dev.ln.upd.romWin = true → step s = .next t →
    winWf t.dev.ho.win = true ∧ winWf t.dev.ln.upd.romWin = true
end

