-- ==== Sys2Proof/Laws/State.lean ====
section
/-! SUPPORT. The field lemmas of the state: what each named update of the device leaves of each part. -/

namespace Sys2Proof.Machine

/-! ### Parts -/

@[simp] theorem Dev.onPw_pw (d : Dev) (g : Power → Power) : (d.onPw g).pw = g d.pw := rfl
@[simp] theorem Dev.onPw_ms (d : Dev) (g : Power → Power) : (d.onPw g).ms = d.ms := rfl
@[simp] theorem Dev.onPw_ho (d : Dev) (g : Power → Power) : (d.onPw g).ho = d.ho := rfl
@[simp] theorem Dev.onPw_sy (d : Dev) (g : Power → Power) : (d.onPw g).sy = d.sy := rfl
@[simp] theorem Dev.onPw_ln (d : Dev) (g : Power → Power) : (d.onPw g).ln = d.ln := rfl
@[simp] theorem Dev.onPw_freeIx (d : Dev) (g : Power → Power) : (d.onPw g).freeIx = d.freeIx := rfl
@[simp] theorem Dev.onPw_out (d : Dev) (g : Power → Power) : (d.onPw g).out = d.out := rfl

@[simp] theorem Dev.onMs_pw (d : Dev) (g : Meas → Meas) : (d.onMs g).pw = d.pw := rfl
@[simp] theorem Dev.onMs_ms (d : Dev) (g : Meas → Meas) : (d.onMs g).ms = g d.ms := rfl
@[simp] theorem Dev.onMs_ho (d : Dev) (g : Meas → Meas) : (d.onMs g).ho = d.ho := rfl
@[simp] theorem Dev.onMs_sy (d : Dev) (g : Meas → Meas) : (d.onMs g).sy = d.sy := rfl
@[simp] theorem Dev.onMs_ln (d : Dev) (g : Meas → Meas) : (d.onMs g).ln = d.ln := rfl
@[simp] theorem Dev.onMs_freeIx (d : Dev) (g : Meas → Meas) : (d.onMs g).freeIx = d.freeIx := rfl
@[simp] theorem Dev.onMs_out (d : Dev) (g : Meas → Meas) : (d.onMs g).out = d.out := rfl

@[simp] theorem Dev.onHo_pw (d : Dev) (g : HostSt → HostSt) : (d.onHo g).pw = d.pw := rfl
@[simp] theorem Dev.onHo_ms (d : Dev) (g : HostSt → HostSt) : (d.onHo g).ms = d.ms := rfl
@[simp] theorem Dev.onHo_ho (d : Dev) (g : HostSt → HostSt) : (d.onHo g).ho = g d.ho := rfl
@[simp] theorem Dev.onHo_sy (d : Dev) (g : HostSt → HostSt) : (d.onHo g).sy = d.sy := rfl
@[simp] theorem Dev.onHo_ln (d : Dev) (g : HostSt → HostSt) : (d.onHo g).ln = d.ln := rfl
@[simp] theorem Dev.onHo_freeIx (d : Dev) (g : HostSt → HostSt) : (d.onHo g).freeIx = d.freeIx := rfl
@[simp] theorem Dev.onHo_out (d : Dev) (g : HostSt → HostSt) : (d.onHo g).out = d.out := rfl

@[simp] theorem Dev.onSy_pw (d : Dev) (g : Sys → Sys) : (d.onSy g).pw = d.pw := rfl
@[simp] theorem Dev.onSy_ms (d : Dev) (g : Sys → Sys) : (d.onSy g).ms = d.ms := rfl
@[simp] theorem Dev.onSy_ho (d : Dev) (g : Sys → Sys) : (d.onSy g).ho = d.ho := rfl
@[simp] theorem Dev.onSy_sy (d : Dev) (g : Sys → Sys) : (d.onSy g).sy = g d.sy := rfl
@[simp] theorem Dev.onSy_ln (d : Dev) (g : Sys → Sys) : (d.onSy g).ln = d.ln := rfl
@[simp] theorem Dev.onSy_freeIx (d : Dev) (g : Sys → Sys) : (d.onSy g).freeIx = d.freeIx := rfl
@[simp] theorem Dev.onSy_out (d : Dev) (g : Sys → Sys) : (d.onSy g).out = d.out := rfl

@[simp] theorem Dev.onLn_pw (d : Dev) (g : Links → Links) : (d.onLn g).pw = d.pw := rfl
@[simp] theorem Dev.onLn_ms (d : Dev) (g : Links → Links) : (d.onLn g).ms = d.ms := rfl
@[simp] theorem Dev.onLn_ho (d : Dev) (g : Links → Links) : (d.onLn g).ho = d.ho := rfl
@[simp] theorem Dev.onLn_sy (d : Dev) (g : Links → Links) : (d.onLn g).sy = d.sy := rfl
@[simp] theorem Dev.onLn_ln (d : Dev) (g : Links → Links) : (d.onLn g).ln = g d.ln := rfl
@[simp] theorem Dev.onLn_freeIx (d : Dev) (g : Links → Links) : (d.onLn g).freeIx = d.freeIx := rfl
@[simp] theorem Dev.onLn_out (d : Dev) (g : Links → Links) : (d.onLn g).out = d.out := rfl

/-! ### Banks -/

@[simp] theorem Dev.modPh_pw (d : Dev) (n : Nat) (g : Phase → Phase) : (d.modPh n g).pw = { d.pw with ph := d.pw.ph.modify n g } := rfl
@[simp] theorem Dev.modPh_ms (d : Dev) (n : Nat) (g : Phase → Phase) : (d.modPh n g).ms = d.ms := rfl
@[simp] theorem Dev.modPh_ho (d : Dev) (n : Nat) (g : Phase → Phase) : (d.modPh n g).ho = d.ho := rfl
@[simp] theorem Dev.modPh_sy (d : Dev) (n : Nat) (g : Phase → Phase) : (d.modPh n g).sy = d.sy := rfl
@[simp] theorem Dev.modPh_ln (d : Dev) (n : Nat) (g : Phase → Phase) : (d.modPh n g).ln = d.ln := rfl
@[simp] theorem Dev.modPh_freeIx (d : Dev) (n : Nat) (g : Phase → Phase) : (d.modPh n g).freeIx = d.freeIx := rfl
@[simp] theorem Dev.modPh_out (d : Dev) (n : Nat) (g : Phase → Phase) : (d.modPh n g).out = d.out := rfl

@[simp] theorem Dev.modMit_pw (d : Dev) (n : Nat) (g : Mitten → Mitten) : (d.modMit n g).pw = { d.pw with mit := d.pw.mit.modify n g } := rfl
@[simp] theorem Dev.modMit_ms (d : Dev) (n : Nat) (g : Mitten → Mitten) : (d.modMit n g).ms = d.ms := rfl
@[simp] theorem Dev.modMit_ho (d : Dev) (n : Nat) (g : Mitten → Mitten) : (d.modMit n g).ho = d.ho := rfl
@[simp] theorem Dev.modMit_sy (d : Dev) (n : Nat) (g : Mitten → Mitten) : (d.modMit n g).sy = d.sy := rfl
@[simp] theorem Dev.modMit_ln (d : Dev) (n : Nat) (g : Mitten → Mitten) : (d.modMit n g).ln = d.ln := rfl
@[simp] theorem Dev.modMit_freeIx (d : Dev) (n : Nat) (g : Mitten → Mitten) : (d.modMit n g).freeIx = d.freeIx := rfl
@[simp] theorem Dev.modMit_out (d : Dev) (n : Nat) (g : Mitten → Mitten) : (d.modMit n g).out = d.out := rfl

@[simp] theorem Dev.modSrc_pw (d : Dev) (n : Nat) (g : Source → Source) : (d.modSrc n g).pw = { d.pw with src := d.pw.src.modify n g } := rfl
@[simp] theorem Dev.modSrc_ms (d : Dev) (n : Nat) (g : Source → Source) : (d.modSrc n g).ms = d.ms := rfl
@[simp] theorem Dev.modSrc_ho (d : Dev) (n : Nat) (g : Source → Source) : (d.modSrc n g).ho = d.ho := rfl
@[simp] theorem Dev.modSrc_sy (d : Dev) (n : Nat) (g : Source → Source) : (d.modSrc n g).sy = d.sy := rfl
@[simp] theorem Dev.modSrc_ln (d : Dev) (n : Nat) (g : Source → Source) : (d.modSrc n g).ln = d.ln := rfl
@[simp] theorem Dev.modSrc_freeIx (d : Dev) (n : Nat) (g : Source → Source) : (d.modSrc n g).freeIx = d.freeIx := rfl
@[simp] theorem Dev.modSrc_out (d : Dev) (n : Nat) (g : Source → Source) : (d.modSrc n g).out = d.out := rfl

@[simp] theorem Dev.modStr_pw (d : Dev) (n : Nat) (g : Str → Str) : (d.modStr n g).pw = { d.pw with str := d.pw.str.modify n g } := rfl
@[simp] theorem Dev.modStr_ms (d : Dev) (n : Nat) (g : Str → Str) : (d.modStr n g).ms = d.ms := rfl
@[simp] theorem Dev.modStr_ho (d : Dev) (n : Nat) (g : Str → Str) : (d.modStr n g).ho = d.ho := rfl
@[simp] theorem Dev.modStr_sy (d : Dev) (n : Nat) (g : Str → Str) : (d.modStr n g).sy = d.sy := rfl
@[simp] theorem Dev.modStr_ln (d : Dev) (n : Nat) (g : Str → Str) : (d.modStr n g).ln = d.ln := rfl
@[simp] theorem Dev.modStr_freeIx (d : Dev) (n : Nat) (g : Str → Str) : (d.modStr n g).freeIx = d.freeIx := rfl
@[simp] theorem Dev.modStr_out (d : Dev) (n : Nat) (g : Str → Str) : (d.modStr n g).out = d.out := rfl

@[simp] theorem Dev.modBus_pw (d : Dev) (n : Nat) (g : Bus → Bus) : (d.modBus n g).pw = { d.pw with bus := d.pw.bus.modify n g } := rfl
@[simp] theorem Dev.modBus_ms (d : Dev) (n : Nat) (g : Bus → Bus) : (d.modBus n g).ms = d.ms := rfl
@[simp] theorem Dev.modBus_ho (d : Dev) (n : Nat) (g : Bus → Bus) : (d.modBus n g).ho = d.ho := rfl
@[simp] theorem Dev.modBus_sy (d : Dev) (n : Nat) (g : Bus → Bus) : (d.modBus n g).sy = d.sy := rfl
@[simp] theorem Dev.modBus_ln (d : Dev) (n : Nat) (g : Bus → Bus) : (d.modBus n g).ln = d.ln := rfl
@[simp] theorem Dev.modBus_freeIx (d : Dev) (n : Nat) (g : Bus → Bus) : (d.modBus n g).freeIx = d.freeIx := rfl
@[simp] theorem Dev.modBus_out (d : Dev) (n : Nat) (g : Bus → Bus) : (d.modBus n g).out = d.out := rfl

@[simp] theorem Dev.modSw_pw (d : Dev) (n : Nat) (g : Switch → Switch) : (d.modSw n g).pw = { d.pw with sw := d.pw.sw.modify n g } := rfl
@[simp] theorem Dev.modSw_ms (d : Dev) (n : Nat) (g : Switch → Switch) : (d.modSw n g).ms = d.ms := rfl
@[simp] theorem Dev.modSw_ho (d : Dev) (n : Nat) (g : Switch → Switch) : (d.modSw n g).ho = d.ho := rfl
@[simp] theorem Dev.modSw_sy (d : Dev) (n : Nat) (g : Switch → Switch) : (d.modSw n g).sy = d.sy := rfl
@[simp] theorem Dev.modSw_ln (d : Dev) (n : Nat) (g : Switch → Switch) : (d.modSw n g).ln = d.ln := rfl
@[simp] theorem Dev.modSw_freeIx (d : Dev) (n : Nat) (g : Switch → Switch) : (d.modSw n g).freeIx = d.freeIx := rfl
@[simp] theorem Dev.modSw_out (d : Dev) (n : Nat) (g : Switch → Switch) : (d.modSw n g).out = d.out := rfl

@[simp] theorem Dev.modMu_pw (d : Dev) (n : Nat) (g : MUnit → MUnit) : (d.modMu n g).pw = d.pw := rfl
@[simp] theorem Dev.modMu_ms (d : Dev) (n : Nat) (g : MUnit → MUnit) : (d.modMu n g).ms = { d.ms with mu := d.ms.mu.modify n g } := rfl
@[simp] theorem Dev.modMu_ho (d : Dev) (n : Nat) (g : MUnit → MUnit) : (d.modMu n g).ho = d.ho := rfl
@[simp] theorem Dev.modMu_sy (d : Dev) (n : Nat) (g : MUnit → MUnit) : (d.modMu n g).sy = d.sy := rfl
@[simp] theorem Dev.modMu_ln (d : Dev) (n : Nat) (g : MUnit → MUnit) : (d.modMu n g).ln = d.ln := rfl
@[simp] theorem Dev.modMu_freeIx (d : Dev) (n : Nat) (g : MUnit → MUnit) : (d.modMu n g).freeIx = d.freeIx := rfl
@[simp] theorem Dev.modMu_out (d : Dev) (n : Nat) (g : MUnit → MUnit) : (d.modMu n g).out = d.out := rfl

@[simp] theorem Dev.modTap_pw (d : Dev) (n : Nat) (g : Tap → Tap) : (d.modTap n g).pw = d.pw := rfl
@[simp] theorem Dev.modTap_ms (d : Dev) (n : Nat) (g : Tap → Tap) : (d.modTap n g).ms = { d.ms with tap := d.ms.tap.modify n g } := rfl
@[simp] theorem Dev.modTap_ho (d : Dev) (n : Nat) (g : Tap → Tap) : (d.modTap n g).ho = d.ho := rfl
@[simp] theorem Dev.modTap_sy (d : Dev) (n : Nat) (g : Tap → Tap) : (d.modTap n g).sy = d.sy := rfl
@[simp] theorem Dev.modTap_ln (d : Dev) (n : Nat) (g : Tap → Tap) : (d.modTap n g).ln = d.ln := rfl
@[simp] theorem Dev.modTap_freeIx (d : Dev) (n : Nat) (g : Tap → Tap) : (d.modTap n g).freeIx = d.freeIx := rfl
@[simp] theorem Dev.modTap_out (d : Dev) (n : Nat) (g : Tap → Tap) : (d.modTap n g).out = d.out := rfl

@[simp] theorem Dev.modAcc_pw (d : Dev) (n : Nat) (g : Acc → Acc) : (d.modAcc n g).pw = d.pw := rfl
@[simp] theorem Dev.modAcc_ms (d : Dev) (n : Nat) (g : Acc → Acc) : (d.modAcc n g).ms = { d.ms with acc := d.ms.acc.modify n g } := rfl
@[simp] theorem Dev.modAcc_ho (d : Dev) (n : Nat) (g : Acc → Acc) : (d.modAcc n g).ho = d.ho := rfl
@[simp] theorem Dev.modAcc_sy (d : Dev) (n : Nat) (g : Acc → Acc) : (d.modAcc n g).sy = d.sy := rfl
@[simp] theorem Dev.modAcc_ln (d : Dev) (n : Nat) (g : Acc → Acc) : (d.modAcc n g).ln = d.ln := rfl
@[simp] theorem Dev.modAcc_freeIx (d : Dev) (n : Nat) (g : Acc → Acc) : (d.modAcc n g).freeIx = d.freeIx := rfl
@[simp] theorem Dev.modAcc_out (d : Dev) (n : Nat) (g : Acc → Acc) : (d.modAcc n g).out = d.out := rfl

@[simp] theorem Dev.modMmx_pw (d : Dev) (n : Nat) (g : Mmx → Mmx) : (d.modMmx n g).pw = d.pw := rfl
@[simp] theorem Dev.modMmx_ms (d : Dev) (n : Nat) (g : Mmx → Mmx) : (d.modMmx n g).ms = { d.ms with mmx := d.ms.mmx.modify n g } := rfl
@[simp] theorem Dev.modMmx_ho (d : Dev) (n : Nat) (g : Mmx → Mmx) : (d.modMmx n g).ho = d.ho := rfl
@[simp] theorem Dev.modMmx_sy (d : Dev) (n : Nat) (g : Mmx → Mmx) : (d.modMmx n g).sy = d.sy := rfl
@[simp] theorem Dev.modMmx_ln (d : Dev) (n : Nat) (g : Mmx → Mmx) : (d.modMmx n g).ln = d.ln := rfl
@[simp] theorem Dev.modMmx_freeIx (d : Dev) (n : Nat) (g : Mmx → Mmx) : (d.modMmx n g).freeIx = d.freeIx := rfl
@[simp] theorem Dev.modMmx_out (d : Dev) (n : Nat) (g : Mmx → Mmx) : (d.modMmx n g).out = d.out := rfl

@[simp] theorem Dev.modImp_pw (d : Dev) (n : Nat) (g : Imp → Imp) : (d.modImp n g).pw = d.pw := rfl
@[simp] theorem Dev.modImp_ms (d : Dev) (n : Nat) (g : Imp → Imp) : (d.modImp n g).ms = { d.ms with imp := d.ms.imp.modify n g } := rfl
@[simp] theorem Dev.modImp_ho (d : Dev) (n : Nat) (g : Imp → Imp) : (d.modImp n g).ho = d.ho := rfl
@[simp] theorem Dev.modImp_sy (d : Dev) (n : Nat) (g : Imp → Imp) : (d.modImp n g).sy = d.sy := rfl
@[simp] theorem Dev.modImp_ln (d : Dev) (n : Nat) (g : Imp → Imp) : (d.modImp n g).ln = d.ln := rfl
@[simp] theorem Dev.modImp_freeIx (d : Dev) (n : Nat) (g : Imp → Imp) : (d.modImp n g).freeIx = d.freeIx := rfl
@[simp] theorem Dev.modImp_out (d : Dev) (n : Nat) (g : Imp → Imp) : (d.modImp n g).out = d.out := rfl

@[simp] theorem Dev.modTmr_pw (d : Dev) (n : Nat) (g : Timer → Timer) : (d.modTmr n g).pw = d.pw := rfl
@[simp] theorem Dev.modTmr_ms (d : Dev) (n : Nat) (g : Timer → Timer) : (d.modTmr n g).ms = d.ms := rfl
@[simp] theorem Dev.modTmr_ho (d : Dev) (n : Nat) (g : Timer → Timer) : (d.modTmr n g).ho = d.ho := rfl
@[simp] theorem Dev.modTmr_sy (d : Dev) (n : Nat) (g : Timer → Timer) : (d.modTmr n g).sy = { d.sy with tmr := d.sy.tmr.modify n g } := rfl
@[simp] theorem Dev.modTmr_ln (d : Dev) (n : Nat) (g : Timer → Timer) : (d.modTmr n g).ln = d.ln := rfl
@[simp] theorem Dev.modTmr_freeIx (d : Dev) (n : Nat) (g : Timer → Timer) : (d.modTmr n g).freeIx = d.freeIx := rfl
@[simp] theorem Dev.modTmr_out (d : Dev) (n : Nat) (g : Timer → Timer) : (d.modTmr n g).out = d.out := rfl

@[simp] theorem Dev.modMbx_pw (d : Dev) (n : Nat) (g : Mailbox → Mailbox) : (d.modMbx n g).pw = d.pw := rfl
@[simp] theorem Dev.modMbx_ms (d : Dev) (n : Nat) (g : Mailbox → Mailbox) : (d.modMbx n g).ms = d.ms := rfl
@[simp] theorem Dev.modMbx_ho (d : Dev) (n : Nat) (g : Mailbox → Mailbox) : (d.modMbx n g).ho = d.ho := rfl
@[simp] theorem Dev.modMbx_sy (d : Dev) (n : Nat) (g : Mailbox → Mailbox) : (d.modMbx n g).sy = { d.sy with mbx := d.sy.mbx.modify n g } := rfl
@[simp] theorem Dev.modMbx_ln (d : Dev) (n : Nat) (g : Mailbox → Mailbox) : (d.modMbx n g).ln = d.ln := rfl
@[simp] theorem Dev.modMbx_freeIx (d : Dev) (n : Nat) (g : Mailbox → Mailbox) : (d.modMbx n g).freeIx = d.freeIx := rfl
@[simp] theorem Dev.modMbx_out (d : Dev) (n : Nat) (g : Mailbox → Mailbox) : (d.modMbx n g).out = d.out := rfl

@[simp] theorem Dev.modLck_pw (d : Dev) (n : Nat) (g : Lock → Lock) : (d.modLck n g).pw = d.pw := rfl
@[simp] theorem Dev.modLck_ms (d : Dev) (n : Nat) (g : Lock → Lock) : (d.modLck n g).ms = d.ms := rfl
@[simp] theorem Dev.modLck_ho (d : Dev) (n : Nat) (g : Lock → Lock) : (d.modLck n g).ho = d.ho := rfl
@[simp] theorem Dev.modLck_sy (d : Dev) (n : Nat) (g : Lock → Lock) : (d.modLck n g).sy = { d.sy with lck := d.sy.lck.modify n g } := rfl
@[simp] theorem Dev.modLck_ln (d : Dev) (n : Nat) (g : Lock → Lock) : (d.modLck n g).ln = d.ln := rfl
@[simp] theorem Dev.modLck_freeIx (d : Dev) (n : Nat) (g : Lock → Lock) : (d.modLck n g).freeIx = d.freeIx := rfl
@[simp] theorem Dev.modLck_out (d : Dev) (n : Nat) (g : Lock → Lock) : (d.modLck n g).out = d.out := rfl

@[simp] theorem Dev.modTwt_pw (d : Dev) (n : Nat) (g : Twt → Twt) : (d.modTwt n g).pw = d.pw := rfl
@[simp] theorem Dev.modTwt_ms (d : Dev) (n : Nat) (g : Twt → Twt) : (d.modTwt n g).ms = d.ms := rfl
@[simp] theorem Dev.modTwt_ho (d : Dev) (n : Nat) (g : Twt → Twt) : (d.modTwt n g).ho = d.ho := rfl
@[simp] theorem Dev.modTwt_sy (d : Dev) (n : Nat) (g : Twt → Twt) : (d.modTwt n g).sy = d.sy := rfl
@[simp] theorem Dev.modTwt_ln (d : Dev) (n : Nat) (g : Twt → Twt) : (d.modTwt n g).ln = { d.ln with twt := d.ln.twt.modify n g } := rfl
@[simp] theorem Dev.modTwt_freeIx (d : Dev) (n : Nat) (g : Twt → Twt) : (d.modTwt n g).freeIx = d.freeIx := rfl
@[simp] theorem Dev.modTwt_out (d : Dev) (n : Nat) (g : Twt → Twt) : (d.modTwt n g).out = d.out := rfl

@[simp] theorem Dev.modTwc_pw (d : Dev) (n : Nat) (g : Twc → Twc) : (d.modTwc n g).pw = d.pw := rfl
@[simp] theorem Dev.modTwc_ms (d : Dev) (n : Nat) (g : Twc → Twc) : (d.modTwc n g).ms = d.ms := rfl
@[simp] theorem Dev.modTwc_ho (d : Dev) (n : Nat) (g : Twc → Twc) : (d.modTwc n g).ho = d.ho := rfl
@[simp] theorem Dev.modTwc_sy (d : Dev) (n : Nat) (g : Twc → Twc) : (d.modTwc n g).sy = d.sy := rfl
@[simp] theorem Dev.modTwc_ln (d : Dev) (n : Nat) (g : Twc → Twc) : (d.modTwc n g).ln = { d.ln with twc := d.ln.twc.modify n g } := rfl
@[simp] theorem Dev.modTwc_freeIx (d : Dev) (n : Nat) (g : Twc → Twc) : (d.modTwc n g).freeIx = d.freeIx := rfl
@[simp] theorem Dev.modTwc_out (d : Dev) (n : Nat) (g : Twc → Twc) : (d.modTwc n g).out = d.out := rfl

@[simp] theorem Dev.modCan_pw (d : Dev) (n : Nat) (g : Can → Can) : (d.modCan n g).pw = d.pw := rfl
@[simp] theorem Dev.modCan_ms (d : Dev) (n : Nat) (g : Can → Can) : (d.modCan n g).ms = d.ms := rfl
@[simp] theorem Dev.modCan_ho (d : Dev) (n : Nat) (g : Can → Can) : (d.modCan n g).ho = d.ho := rfl
@[simp] theorem Dev.modCan_sy (d : Dev) (n : Nat) (g : Can → Can) : (d.modCan n g).sy = d.sy := rfl
@[simp] theorem Dev.modCan_ln (d : Dev) (n : Nat) (g : Can → Can) : (d.modCan n g).ln = { d.ln with can := d.ln.can.modify n g } := rfl
@[simp] theorem Dev.modCan_freeIx (d : Dev) (n : Nat) (g : Can → Can) : (d.modCan n g).freeIx = d.freeIx := rfl
@[simp] theorem Dev.modCan_out (d : Dev) (n : Nat) (g : Can → Can) : (d.modCan n g).out = d.out := rfl

/-! ### Single blocks -/

@[simp] theorem Dev.modChn_pw (d : Dev) (g : Chain → Chain) : (d.modChn g).pw = d.pw := rfl
@[simp] theorem Dev.modChn_ms (d : Dev) (g : Chain → Chain) : (d.modChn g).ms = d.ms := rfl
@[simp] theorem Dev.modChn_ho (d : Dev) (g : Chain → Chain) : (d.modChn g).ho = d.ho := rfl
@[simp] theorem Dev.modChn_sy (d : Dev) (g : Chain → Chain) : (d.modChn g).sy = d.sy := rfl
@[simp] theorem Dev.modChn_ln (d : Dev) (g : Chain → Chain) : (d.modChn g).ln = { d.ln with chn := g d.ln.chn } := rfl
@[simp] theorem Dev.modChn_freeIx (d : Dev) (g : Chain → Chain) : (d.modChn g).freeIx = d.freeIx := rfl
@[simp] theorem Dev.modChn_out (d : Dev) (g : Chain → Chain) : (d.modChn g).out = d.out := rfl

@[simp] theorem Dev.modHb_pw (d : Dev) (g : Hatband → Hatband) : (d.modHb g).pw = d.pw := rfl
@[simp] theorem Dev.modHb_ms (d : Dev) (g : Hatband → Hatband) : (d.modHb g).ms = d.ms := rfl
@[simp] theorem Dev.modHb_ho (d : Dev) (g : Hatband → Hatband) : (d.modHb g).ho = d.ho := rfl
@[simp] theorem Dev.modHb_sy (d : Dev) (g : Hatband → Hatband) : (d.modHb g).sy = d.sy := rfl
@[simp] theorem Dev.modHb_ln (d : Dev) (g : Hatband → Hatband) : (d.modHb g).ln = { d.ln with hb := g d.ln.hb } := rfl
@[simp] theorem Dev.modHb_freeIx (d : Dev) (g : Hatband → Hatband) : (d.modHb g).freeIx = d.freeIx := rfl
@[simp] theorem Dev.modHb_out (d : Dev) (g : Hatband → Hatband) : (d.modHb g).out = d.out := rfl

@[simp] theorem Dev.modUpd_pw (d : Dev) (g : UpdSec → UpdSec) : (d.modUpd g).pw = d.pw := rfl
@[simp] theorem Dev.modUpd_ms (d : Dev) (g : UpdSec → UpdSec) : (d.modUpd g).ms = d.ms := rfl
@[simp] theorem Dev.modUpd_ho (d : Dev) (g : UpdSec → UpdSec) : (d.modUpd g).ho = d.ho := rfl
@[simp] theorem Dev.modUpd_sy (d : Dev) (g : UpdSec → UpdSec) : (d.modUpd g).sy = d.sy := rfl
@[simp] theorem Dev.modUpd_ln (d : Dev) (g : UpdSec → UpdSec) : (d.modUpd g).ln = { d.ln with upd := g d.ln.upd } := rfl
@[simp] theorem Dev.modUpd_freeIx (d : Dev) (g : UpdSec → UpdSec) : (d.modUpd g).freeIx = d.freeIx := rfl
@[simp] theorem Dev.modUpd_out (d : Dev) (g : UpdSec → UpdSec) : (d.modUpd g).out = d.out := rfl

@[simp] theorem Dev.modGlb_pw (d : Dev) (g : Glb → Glb) : (d.modGlb g).pw = d.pw := rfl
@[simp] theorem Dev.modGlb_ms (d : Dev) (g : Glb → Glb) : (d.modGlb g).ms = d.ms := rfl
@[simp] theorem Dev.modGlb_ho (d : Dev) (g : Glb → Glb) : (d.modGlb g).ho = { d.ho with glb := g d.ho.glb } := rfl
@[simp] theorem Dev.modGlb_sy (d : Dev) (g : Glb → Glb) : (d.modGlb g).sy = d.sy := rfl
@[simp] theorem Dev.modGlb_ln (d : Dev) (g : Glb → Glb) : (d.modGlb g).ln = d.ln := rfl
@[simp] theorem Dev.modGlb_freeIx (d : Dev) (g : Glb → Glb) : (d.modGlb g).freeIx = d.freeIx := rfl
@[simp] theorem Dev.modGlb_out (d : Dev) (g : Glb → Glb) : (d.modGlb g).out = d.out := rfl

@[simp] theorem Dev.modHif_pw (d : Dev) (g : Hif → Hif) : (d.modHif g).pw = d.pw := rfl
@[simp] theorem Dev.modHif_ms (d : Dev) (g : Hif → Hif) : (d.modHif g).ms = d.ms := rfl
@[simp] theorem Dev.modHif_ho (d : Dev) (g : Hif → Hif) : (d.modHif g).ho = { d.ho with hif := g d.ho.hif } := rfl
@[simp] theorem Dev.modHif_sy (d : Dev) (g : Hif → Hif) : (d.modHif g).sy = d.sy := rfl
@[simp] theorem Dev.modHif_ln (d : Dev) (g : Hif → Hif) : (d.modHif g).ln = d.ln := rfl
@[simp] theorem Dev.modHif_freeIx (d : Dev) (g : Hif → Hif) : (d.modHif g).freeIx = d.freeIx := rfl
@[simp] theorem Dev.modHif_out (d : Dev) (g : Hif → Hif) : (d.modHif g).out = d.out := rfl

@[simp] theorem Dev.modStage_pw (d : Dev) (g : Stage → Stage) : (d.modStage g).pw = { d.pw with stage := g d.pw.stage } := rfl
@[simp] theorem Dev.modStage_ms (d : Dev) (g : Stage → Stage) : (d.modStage g).ms = d.ms := rfl
@[simp] theorem Dev.modStage_ho (d : Dev) (g : Stage → Stage) : (d.modStage g).ho = d.ho := rfl
@[simp] theorem Dev.modStage_sy (d : Dev) (g : Stage → Stage) : (d.modStage g).sy = d.sy := rfl
@[simp] theorem Dev.modStage_ln (d : Dev) (g : Stage → Stage) : (d.modStage g).ln = d.ln := rfl
@[simp] theorem Dev.modStage_freeIx (d : Dev) (g : Stage → Stage) : (d.modStage g).freeIx = d.freeIx := rfl
@[simp] theorem Dev.modStage_out (d : Dev) (g : Stage → Stage) : (d.modStage g).out = d.out := rfl

@[simp] theorem Dev.modRef_pw (d : Dev) (g : Reference → Reference) : (d.modRef g).pw = d.pw := rfl
@[simp] theorem Dev.modRef_ms (d : Dev) (g : Reference → Reference) : (d.modRef g).ms = { d.ms with ref := g d.ms.ref } := rfl
@[simp] theorem Dev.modRef_ho (d : Dev) (g : Reference → Reference) : (d.modRef g).ho = d.ho := rfl
@[simp] theorem Dev.modRef_sy (d : Dev) (g : Reference → Reference) : (d.modRef g).sy = d.sy := rfl
@[simp] theorem Dev.modRef_ln (d : Dev) (g : Reference → Reference) : (d.modRef g).ln = d.ln := rfl
@[simp] theorem Dev.modRef_freeIx (d : Dev) (g : Reference → Reference) : (d.modRef g).freeIx = d.freeIx := rfl
@[simp] theorem Dev.modRef_out (d : Dev) (g : Reference → Reference) : (d.modRef g).out = d.out := rfl

/-! ### Free values, replies, lists -/

@[simp] theorem Dev.tickFree_pw (d : Dev) : d.tickFree.pw = d.pw := rfl
@[simp] theorem Dev.tickFree_ms (d : Dev) : d.tickFree.ms = d.ms := rfl
@[simp] theorem Dev.tickFree_ho (d : Dev) : d.tickFree.ho = d.ho := rfl
@[simp] theorem Dev.tickFree_sy (d : Dev) : d.tickFree.sy = d.sy := rfl
@[simp] theorem Dev.tickFree_ln (d : Dev) : d.tickFree.ln = d.ln := rfl
@[simp] theorem Dev.tickFree_freeIx (d : Dev) : d.tickFree.freeIx = d.freeIx + 1 := rfl
@[simp] theorem Dev.tickFree_out (d : Dev) : d.tickFree.out = d.out := rfl
@[simp] theorem Dev.reply_pw (d : Dev) (b : List Byte) : (d.reply b).pw = d.pw := rfl
@[simp] theorem Dev.reply_ms (d : Dev) (b : List Byte) : (d.reply b).ms = d.ms := rfl
@[simp] theorem Dev.reply_ho (d : Dev) (b : List Byte) : (d.reply b).ho = d.ho := rfl
@[simp] theorem Dev.reply_sy (d : Dev) (b : List Byte) : (d.reply b).sy = d.sy := rfl
@[simp] theorem Dev.reply_ln (d : Dev) (b : List Byte) : (d.reply b).ln = d.ln := rfl
@[simp] theorem Dev.reply_freeIx (d : Dev) (b : List Byte) : (d.reply b).freeIx = d.freeIx := rfl
@[simp] theorem Dev.reply_out (d : Dev) (b : List Byte) : (d.reply b).out = { bytes := b, busErr := false } := rfl
@[simp] theorem Dev.busError_pw (d : Dev) : d.busError.pw = d.pw := rfl
@[simp] theorem Dev.busError_ms (d : Dev) : d.busError.ms = d.ms := rfl
@[simp] theorem Dev.busError_ho (d : Dev) : d.busError.ho = d.ho := rfl
@[simp] theorem Dev.busError_sy (d : Dev) : d.busError.sy = d.sy := rfl
@[simp] theorem Dev.busError_ln (d : Dev) : d.busError.ln = d.ln := rfl
@[simp] theorem Dev.busError_freeIx (d : Dev) : d.busError.freeIx = d.freeIx := rfl
@[simp] theorem Dev.busError_out (d : Dev) : d.busError.out = { bytes := [], busErr := true } := rfl

@[simp] theorem Dev.each_nil (d : Dev) (f : Nat → Dev → Dev) : d.each [] f = d := rfl
@[simp] theorem Dev.each_cons (d : Dev) (k : Nat) (l : List Nat) (f : Nat → Dev → Dev) :
    d.each (k :: l) f = (f k d).each l f := rfl
@[simp] theorem Dev.when_true (d : Dev) (f : Dev → Dev) : d.when true f = f d := rfl
@[simp] theorem Dev.when_false (d : Dev) (f : Dev → Dev) : d.when false f = d := rfl

/-! ### The outer state -/

@[simp] theorem State.onDev_next (s : State) (f : Dev → Dev) : s.onDev f = .next { s with dev := f s.dev } := rfl
@[simp] theorem State.onBoth_next (s : State) (f : Dev → Nv → Dev × Nv) :
    s.onBoth f = .next { s with dev := (f s.dev s.nv).1, nv := (f s.dev s.nv).2 } := rfl

end Sys2Proof.Machine
end

