-- ==== Sys2Proof/Laws/Ops.lean ====
section
/-! SUPPORT. What the shared operations do: list updates, host writes, events, command outcomes. -/

namespace Sys2Proof.Machine

/-! ### Lists -/

/-- An update of the element that is there may be replaced by any other that agrees on it. -/
theorem modify_agree {α : Type} (l : List α) (n : Nat) (f g : α → α) (h : ∀ x, l[n]? = some x → f x = g x) :
    l.modify n f = l.modify n g := by
  apply List.ext_getElem?
  intro i
  simp only [List.getElem?_modify]
  by_cases e : n = i
  · subst e
    cases hx : l[n]? with
    | none => rfl
    | some x => simp [h x hx]
  · simp [e]

/-- The element that a default would stand in for is there. -/
theorem getD_there {α : Type} (l : List α) (n : Nat) (x d : α) (h : l[n]? = some x) : l.getD n d = x := by
  simp [List.getD, h]

/-- Membership after an insertion. -/
theorem mem_insertN (k e : Nat) : ∀ l : List Nat, e ∈ insertN k l ↔ e = k ∨ e ∈ l
  | [] => by simp [insertN]
  | j :: t => by
    simp only [insertN]
    split
    · simp
    · split
      · rename_i h; subst h; simp
      · simp [mem_insertN k e t]; tauto

/-- An assigned key reads its value; other keys read as before. -/
theorem look_assign {α : Type} (k i : Nat) (v : α) : ∀ l : List (Nat × α),
    look i (assign k v l) = if i = k then some v else look i l
  | [] => by
    by_cases h : i = k
    · subst h; simp [assign, look]
    · have h' : ¬ k = i := fun e => h e.symm
      simp [assign, look, h, h']
  | (j, y) :: t => by
    have ih := look_assign k i v t
    by_cases h : i = k
    · subst h
      simp only [assign]
      split
      · simp [look]
      · split
        · simp [look]
        · rename_i h1 h2
          simp only [look, h2, if_false]; rw [ih]; simp
    · have h' : ¬ k = i := fun e => h e.symm
      simp only [assign, h, if_false]
      split
      · simp [look, h']
      · split
        · rename_i h1 h2; subst h2; simp [look, h']
        · simp only [look]; rw [ih]; simp [h]

/-! ### What reaches the host -/

/-- Two devices that differ in the host's side alone. -/
structure Dev.hostOnly (d e : Dev) : Prop where
  pw : e.pw = d.pw
  ms : e.ms = d.ms
  sy : e.sy = d.sy
  ln : e.ln = d.ln
  freeIx : e.freeIx = d.freeIx
  out : e.out = d.out
  glb : e.ho.glb = d.ho.glb
  tags : e.ho.tags = d.ho.tags
  evSeq : e.ho.evSeq = d.ho.evSeq

theorem Dev.hostOnly_refl (d : Dev) : d.hostOnly d := ⟨rfl, rfl, rfl, rfl, rfl, rfl, rfl, rfl, rfl⟩

theorem Dev.hostOnly_trans {a b c : Dev} (h : a.hostOnly b) (k : b.hostOnly c) : a.hostOnly c :=
  ⟨k.pw.trans h.pw, k.ms.trans h.ms, k.sy.trans h.sy, k.ln.trans h.ln, k.freeIx.trans h.freeIx, k.out.trans h.out,
    k.glb.trans h.glb, k.tags.trans h.tags, k.evSeq.trans h.evSeq⟩

theorem Dev.wakeSideband_hostOnly (d : Dev) : d.hostOnly d.wakeSideband := by
  unfold Dev.wakeSideband; split <;> exact ⟨rfl, rfl, rfl, rfl, rfl, rfl, rfl, rfl, rfl⟩

theorem Dev.hostWrite_hostOnly (d : Dev) (a : Nat) (b : List Byte) : d.hostOnly (d.hostWrite a b) := by
  unfold Dev.hostWrite; split
  · exact d.hostOnly_refl
  · split <;> exact ⟨rfl, rfl, rfl, rfl, rfl, rfl, rfl, rfl, rfl⟩

theorem Dev.fire_hostOnly (d : Dev) (v : Nat) : d.hostOnly (d.fire v) := by
  unfold Dev.fire
  refine Dev.hostOnly_trans ?_ (Dev.wakeSideband_hostOnly _)
  split
  · exact ⟨rfl, rfl, rfl, rfl, rfl, rfl, rfl, rfl, rfl⟩
  · split <;> exact ⟨rfl, rfl, rfl, rfl, rfl, rfl, rfl, rfl, rfl⟩

theorem Dev.setRing_hostOnly (d : Dev) (r : Nat) (v : Ring) : d.hostOnly (d.setRing r v) :=
  ⟨rfl, rfl, rfl, rfl, rfl, rfl, rfl, rfl, rfl⟩

theorem Dev.modRing_hostOnly (d : Dev) (r : Nat) (f : Ring → Ring) : d.hostOnly (d.modRing r f) := by
  unfold Dev.modRing; split
  · exact d.hostOnly_refl
  · exact d.setRing_hostOnly r _

theorem Dev.writeEntry_hostOnly (d : Dev) (r lo w hi : Nat) : d.hostOnly (d.writeEntry r lo w hi) :=
  Dev.hostOnly_trans (Dev.hostOnly_trans (d.hostWrite_hostOnly _ _) (Dev.modRing_hostOnly _ _ _)) (Dev.wakeSideband_hostOnly _)

theorem Dev.putEvent_hostOnly (d : Dev) (e : EventRec) (r : Nat) : d.hostOnly (d.putEvent e r) := by
  unfold Dev.putEvent; dsimp only; split
  · exact d.writeEntry_hostOnly _ _ _ _
  · exact d.modRing_hostOnly _ _

theorem Dev.putEvents_hostOnly (r : Nat) : ∀ (l : List EventRec) (d : Dev), d.hostOnly (l.foldl (fun x e => x.putEvent e r) d)
  | [], d => d.hostOnly_refl
  | e :: t, d => Dev.hostOnly_trans (d.putEvent_hostOnly e r) (Dev.putEvents_hostOnly r t (d.putEvent e r))

theorem Dev.flushRing_hostOnly (d : Dev) (r : Nat) : d.hostOnly (d.flushRing r) := by
  unfold Dev.flushRing; split
  · exact Dev.hostOnly_trans (d.modRing_hostOnly r _) (Dev.putEvents_hostOnly r _ _)
  · exact d.hostOnly_refl

theorem Dev.eventTo_hostOnly (d : Dev) (e : EventRec) (r : Nat) : d.hostOnly (d.eventTo e r) := by
  unfold Dev.eventTo; split
  · exact Dev.hostOnly_trans (d.flushRing_hostOnly r) (Dev.putEvent_hostOnly _ _ _)
  · exact Dev.hostOnly_trans (d.modRing_hostOnly _ _) (Dev.wakeSideband_hostOnly _)

theorem Dev.addLog_hostOnly (d : Dev) (n time code inst : Nat) (data : List Byte) :
    d.hostOnly (d.addLog n time code inst data) := ⟨rfl, rfl, rfl, rfl, rfl, rfl, rfl, rfl, rfl⟩

theorem Dev.each_eventTo_hostOnly (e : EventRec) : ∀ (l : List Nat) (d : Dev), d.hostOnly (d.each l fun r x => x.eventTo e r)
  | [], d => d.hostOnly_refl
  | r :: t, d => Dev.hostOnly_trans (d.eventTo_hostOnly e r) (Dev.each_eventTo_hostOnly e t (d.eventTo e r))

/-! ### Events -/

/-- What delivering an event leaves (R447 steps 3 and 4). -/
theorem Dev.deliver_hostOnly (d : Dev) (e : EventRec) : d.hostOnly (d.deliver e) :=
  Dev.hostOnly_trans (Dev.each_eventTo_hostOnly e _ d) (Dev.addLog_hostOnly _ 0 e.time e.ev (e.inst.getD 0xFFFF) e.data)

/-- The hatband's record of an event changes the hatband alone (R341). -/
theorem Dev.hbEvent_eq (d : Dev) (e : EventRec) : ∃ h, d.hbEvent e = d.modHb fun _ => h := by
  unfold Dev.hbEvent; split
  · exact ⟨_, rfl⟩
  · exact ⟨d.ln.hb, rfl⟩

/-- What raising an event leaves (R447): every part but the host's side, the hatband's record and, in a chain, its message
queue; the event's status bit is set and the rest of the GLB registers stand. -/
structure Dev.raised (ev : Nat) (d e : Dev) : Prop where
  pw : e.pw = d.pw
  ms : e.ms = d.ms
  sy : e.sy = d.sy
  freeIx : e.freeIx = d.freeIx
  out : e.out = d.out
  tags : e.ho.tags = d.ho.tags
  glb : e.ho.glb = { d.ho.glb with evstat := insertN ev d.ho.glb.evstat }
  ln : ∃ h q, e.ln = { d.ln with hb := h, chn := { d.ln.chn with outMsg := q } }

theorem Dev.raiseHere_raised (d : Dev) (ev : Nat) (inst : Option Nat) (data : List Byte) :
    d.raised ev (d.raiseHere ev inst data) := by
  unfold Dev.raiseHere
  dsimp only
  generalize hd : (d.onHo fun h => { h with glb := { h.glb with evstat := insertN ev h.glb.evstat },
                                            evSeq := (h.evSeq + 1) % 65536 }) = a
  have ha : a.pw = d.pw ∧ a.ms = d.ms ∧ a.sy = d.sy ∧ a.freeIx = d.freeIx ∧ a.out = d.out ∧ a.ho.tags = d.ho.tags ∧
      a.ho.glb = { d.ho.glb with evstat := insertN ev d.ho.glb.evstat } ∧ a.ln = d.ln := by
    subst hd; exact ⟨rfl, rfl, rfl, rfl, rfl, rfl, rfl, rfl⟩
  generalize hb : (if a.ho.glb.vecByte ev ≥ 128 then a.fire (a.ho.glb.vecByte ev % 64) else a) = b
  have h : a.hostOnly b := by
    subst hb; split
    · exact a.fire_hostOnly _
    · exact a.hostOnly_refl
  obtain ⟨a1, a2, a3, a4, a5, a6, a7, a8⟩ := ha
  generalize EventRec.mk ev inst d.ho.evSeq d.sy.cframe.count d.now ((data ++ List.replicate 12 0).take 12) = r
  obtain ⟨x, hx⟩ := b.hbEvent_eq r
  rw [hx]
  have fin : ∀ c, (b.modHb fun _ => x).hostOnly c → d.raised ev c := fun c k =>
    ⟨k.pw.trans (h.pw.trans a1), k.ms.trans (h.ms.trans a2), k.sy.trans (h.sy.trans a3), k.freeIx.trans (h.freeIx.trans a4),
      k.out.trans (h.out.trans a5), k.tags.trans (h.tags.trans a6), k.glb.trans (h.glb.trans a7),
      ⟨x, d.ln.chn.outMsg, by rw [k.ln]; simp only [Dev.modHb, Dev.onLn]; rw [h.ln, a8]⟩⟩
  split
  · exact fin _ ⟨rfl, rfl, rfl, rfl, rfl, rfl, rfl, rfl, rfl⟩
  · exact fin _ (Dev.deliver_hostOnly _ r)

theorem Dev.raise_raised (d : Dev) (ev : Nat) (inst : Option Nat) (data : List Byte) : d.raised ev (d.raise ev inst data) := by
  have h := d.raiseHere_raised ev inst data
  unfold Dev.raise
  dsimp only
  split
  · obtain ⟨x, q, hx⟩ := h.ln
    exact ⟨h.pw, h.ms, h.sy, h.freeIx, h.out, h.tags, h.glb,
      ⟨x, _, by simp only [Dev.chainSend, Dev.modChn, Dev.onLn]; rw [hx]⟩⟩
  · exact h

section
variable (d : Dev) (ev : Nat) (inst : Option Nat) (data : List Byte)

@[simp] theorem Dev.raise_pw : (d.raise ev inst data).pw = d.pw := (d.raise_raised ev inst data).pw
@[simp] theorem Dev.raise_ms : (d.raise ev inst data).ms = d.ms := (d.raise_raised ev inst data).ms
@[simp] theorem Dev.raise_sy : (d.raise ev inst data).sy = d.sy := (d.raise_raised ev inst data).sy
@[simp] theorem Dev.raise_freeIx : (d.raise ev inst data).freeIx = d.freeIx := (d.raise_raised ev inst data).freeIx
@[simp] theorem Dev.raise_out : (d.raise ev inst data).out = d.out := (d.raise_raised ev inst data).out
@[simp] theorem Dev.raise_tags : (d.raise ev inst data).ho.tags = d.ho.tags := (d.raise_raised ev inst data).tags
@[simp] theorem Dev.raise_glb :
    (d.raise ev inst data).ho.glb = { d.ho.glb with evstat := insertN ev d.ho.glb.evstat } := (d.raise_raised ev inst data).glb

/-- Raising an event sets its status bit. -/
theorem Dev.raise_evstat : ev ∈ (d.raise ev inst data).ho.glb.evstat := by
  rw [Dev.raise_glb]; exact (mem_insertN ev ev _).2 (Or.inl rfl)

/-- The links but the hatband's record and the chain's queue keep what they hold. -/
theorem Dev.raise_ln : ∃ h q, (d.raise ev inst data).ln = { d.ln with hb := h, chn := { d.ln.chn with outMsg := q } } :=
  (d.raise_raised ev inst data).ln

end

/-! ### Conditions of class C -/

section
variable (d : Dev) (ev unit : Nat) (inst : Option Nat) (data : List Byte)

@[simp] theorem Dev.onset_pw : (d.onset ev unit inst data).pw = d.pw := by unfold Dev.onset; split <;> simp
@[simp] theorem Dev.onset_ms : (d.onset ev unit inst data).ms = d.ms := by unfold Dev.onset; split <;> simp
@[simp] theorem Dev.onset_sy : (d.onset ev unit inst data).sy = d.sy := by unfold Dev.onset; split <;> simp
@[simp] theorem Dev.onset_freeIx : (d.onset ev unit inst data).freeIx = d.freeIx := by unfold Dev.onset; split <;> simp
@[simp] theorem Dev.onset_out : (d.onset ev unit inst data).out = d.out := by unfold Dev.onset; split <;> simp
@[simp] theorem Dev.offset_pw : (d.offset ev unit).pw = d.pw := rfl
@[simp] theorem Dev.offset_ms : (d.offset ev unit).ms = d.ms := rfl
@[simp] theorem Dev.offset_sy : (d.offset ev unit).sy = d.sy := rfl
@[simp] theorem Dev.offset_ln : (d.offset ev unit).ln = d.ln := rfl
@[simp] theorem Dev.offset_freeIx : (d.offset ev unit).freeIx = d.freeIx := rfl
@[simp] theorem Dev.offset_out : (d.offset ev unit).out = d.out := rfl

end

/-! ### Command outcomes -/

section
variable (d : Dev) (t status result : Nat) (resp : List Byte)

@[simp] theorem Dev.refuse_pw : (d.refuse t status result).pw = d.pw := rfl
@[simp] theorem Dev.refuse_ms : (d.refuse t status result).ms = d.ms := rfl
@[simp] theorem Dev.refuse_sy : (d.refuse t status result).sy = d.sy := rfl
@[simp] theorem Dev.done_pw : (d.done t status result resp).pw = d.pw := rfl
@[simp] theorem Dev.done_ms : (d.done t status result resp).ms = d.ms := rfl
@[simp] theorem Dev.done_sy : (d.done t status result resp).sy = d.sy := rfl
@[simp] theorem Dev.done_ln : (d.done t status result resp).ln = d.ln := rfl
@[simp] theorem Dev.ok_pw : (d.ok t).pw = d.pw := rfl
@[simp] theorem Dev.ok_ms : (d.ok t).ms = d.ms := rfl
@[simp] theorem Dev.ok_sy : (d.ok t).sy = d.sy := rfl
@[simp] theorem Dev.ok_ln : (d.ok t).ln = d.ln := rfl

end

/-- A repeated update that keeps a projection of the device keeps it over a list of numbers. -/
theorem Dev.each_keeps {α : Type} (p : Dev → α) (f : Nat → Dev → Dev) (h : ∀ n e, p (f n e) = p e) :
    ∀ (l : List Nat) (d : Dev), p (d.each l f) = p d
  | [], _ => rfl
  | n :: t, d => (Dev.each_keeps p f h t (f n d)).trans (h n d)

end Sys2Proof.Machine
end

