-- ==== Sys2Proof/Laws/Window.lean ====
section
/-! SUPPORT. The ring window (R262): read after write, and the canonical form that every write keeps. -/

namespace Sys2Proof.Machine

/-- A lower bound of the addresses of a window. -/
def winAbove (a : Nat) (m : Window) : Prop := ∀ p ∈ m, a < p.1

theorem winWf_cons (a : Nat) (b : Byte) (m : Window) :
    winWf ((a, b) :: m) = true ↔ (a < 262144 ∨ m ≠ []) ∧ b ≠ 0 ∧ winWf m = true ∧ (∀ p ∈ m.head?, a < p.1) := by
  cases m with
  | nil => simp [winWf]
  | cons p t => obtain ⟨c, e⟩ := p; simp [winWf]; tauto

theorem winWf_above (a : Nat) (b : Byte) : ∀ m : Window, winWf ((a, b) :: m) = true → winAbove a m := by
  intro m
  induction m generalizing a b with
  | nil => intro _ p hp; simp at hp
  | cons q t ih =>
    obtain ⟨c, e⟩ := q
    intro h p hp
    have h' := (winWf_cons a b ((c, e) :: t)).1 h
    have hac : a < c := h'.2.2.2 (c, e) (by simp)
    rcases List.mem_cons.1 hp with rfl | hp
    · exact hac
    · exact lt_trans hac (ih c e h'.2.2.1 p hp)

theorem winWf_bound : ∀ m : Window, winWf m = true → ∀ p ∈ m, p.1 < 262144 := by
  intro m
  induction m with
  | nil => intro _ p hp; simp at hp
  | cons q t ih =>
    obtain ⟨c, e⟩ := q
    intro h p hp
    have h' := (winWf_cons c e t).1 h
    rcases List.mem_cons.1 hp with rfl | hp
    · cases t with
      | nil => simpa using h'.1
      | cons r u => exact lt_trans (h'.2.2.2 r (by simp)) (ih h'.2.2.1 r (by simp))
    · exact ih h'.2.2.1 p hp

/-- Reading where a window lists nothing. -/
theorem winGet_above (a : Nat) : ∀ m : Window, winAbove a m → winGet m a = 0 := by
  intro m
  induction m with
  | nil => intro _; rfl
  | cons q t ih =>
    obtain ⟨c, e⟩ := q
    intro h
    have : a < c := h (c, e) (by simp)
    simp only [winGet, if_neg (Nat.ne_of_gt this)]
    exact ih fun p hp => h p (by simp [hp])

/-- Read after write, at the same address and at another one. -/
theorem winGet_winSet (a b' : Nat) (v : Byte) : ∀ m : Window, winWf m = true →
    winGet (winSet m a v) b' = if b' = a then v else winGet m b' := by
  intro m
  induction m with
  | nil =>
    intro _
    unfold winSet
    by_cases hb : b' = a
    · subst hb; split <;> simp [winGet, *]
    · split <;> simp [winGet, Ne.symm hb]
  | cons q t ih =>
    obtain ⟨c, e⟩ := q
    intro h
    have ht : winWf t = true := ((winWf_cons c e t).1 h).2.2.1
    have hab : winAbove c t := winWf_above c e t h
    unfold winSet
    split
    · rename_i hlt
      have h0 : winGet ((c, e) :: t) a = 0 := winGet_above a _ (by
        intro p hp
        rcases List.mem_cons.1 hp with rfl | hp
        · exact hlt
        · exact lt_trans hlt (hab p hp))
      by_cases hb : b' = a
      · subst hb
        split
        · rename_i hv; rw [h0, if_pos rfl, hv]
        · simp [winGet]
      · split
        · rfl
        · simp [winGet, Ne.symm hb]
    · split
      · rename_i hlt heq
        subst heq
        have h0 : winGet t a = 0 := winGet_above a t hab
        by_cases hb : b' = a
        · subst hb
          split
          · rename_i hv; rw [h0, if_pos rfl, hv]
          · simp [winGet]
        · split
          · simp [winGet, Ne.symm hb]
          · simp [winGet, Ne.symm hb]
      · rename_i hlt hne
        have := ih ht
        by_cases hc : c = b'
        · subst hc; simp [winGet, Ne.symm hne]
        · simp [winGet, hc, this]

theorem winSet_above (c a : Nat) (v : Byte) : ∀ m : Window, c < a → winAbove c m → winAbove c (winSet m a v) := by
  intro m
  induction m with
  | nil => intro h _ p hp; unfold winSet at hp; split at hp <;> simp_all
  | cons q t ih =>
    obtain ⟨x, y⟩ := q
    intro h hm p hp
    have hx : c < x := hm (x, y) (by simp)
    have ht : winAbove c t := fun p hp => hm p (by simp [hp])
    unfold winSet at hp
    split at hp
    · split at hp
      · exact hm p hp
      · rcases List.mem_cons.1 hp with rfl | hp
        · exact h
        · exact hm p hp
    · split at hp
      · split at hp
        · exact ht p hp
        · rcases List.mem_cons.1 hp with rfl | hp
          · exact h
          · exact ht p hp
      · rcases List.mem_cons.1 hp with rfl | hp
        · exact hx
        · exact ih h ht p hp

theorem winWf_of (a : Nat) (b : Byte) (m : Window) (ha : a < 262144) (hb : b ≠ 0) (hm : winWf m = true)
    (h : winAbove a m) : winWf ((a, b) :: m) = true := by
  refine (winWf_cons a b m).2 ⟨Or.inl ha, hb, hm, ?_⟩
  intro p hp
  cases m with
  | nil => simp at hp
  | cons q t => simp at hp; subst hp; exact h q (by simp)

/-- A write of one byte keeps the canonical form. -/
theorem winSet_wf (a : Nat) (v : Byte) (ha : a < 262144) : ∀ m : Window, winWf m = true → winWf (winSet m a v) = true := by
  intro m
  induction m with
  | nil =>
    intro _
    unfold winSet
    split
    · rfl
    · rename_i hv; simpa [winWf, ha] using hv
  | cons q t ih =>
    obtain ⟨c, e⟩ := q
    intro h
    have h' := (winWf_cons c e t).1 h
    have ht := h'.2.2.1
    have hab : winAbove c t := winWf_above c e t h
    have hc : c < 262144 := winWf_bound _ h (c, e) (by simp)
    unfold winSet
    split
    · rename_i hlt
      split
      · exact h
      · rename_i hv
        exact winWf_of a v _ ha hv h (by
          intro p hp
          rcases List.mem_cons.1 hp with rfl | hp
          · exact hlt
          · exact lt_trans hlt (hab p hp))
    · split
      · rename_i hlt heq
        subst heq
        split
        · exact ht
        · rename_i hv; exact winWf_of a v t ha hv ht hab
      · rename_i hlt hne
        have hca : c < a := by omega
        exact winWf_of c e _ hc h'.2.1 (ih ht) (winSet_above c a v t hca hab)

/-- A write of bytes keeps the canonical form. -/
theorem winWrite_wf : ∀ (b : List Byte) (m : Window) (a : Nat), winWf m = true → winWf (winWrite m a b) = true := by
  intro b
  induction b with
  | nil => intro m a h; exact h
  | cons x t ih =>
    intro m a h
    refine ih _ _ ?_
    split
    · rename_i ha; exact winSet_wf a x ha m h
    · exact h

/-- What a byte of the window reads after a write of bytes. -/
theorem winGet_winWrite : ∀ (b : List Byte) (m : Window) (a x : Nat), winWf m = true →
    winGet (winWrite m a b) x = if a ≤ x ∧ x < a + b.length ∧ x < 262144 then b.getD (x - a) 0 else winGet m x := by
  intro b
  induction b with
  | nil => intro m a x _; simp [winWrite]; omega
  | cons y t ih =>
    intro m a x h
    have hw : winWf (if a < 262144 then winSet m a y else m) = true := by
      split
      · rename_i ha; exact winSet_wf a y ha m h
      · exact h
    rw [winWrite, ih _ _ _ hw]
    by_cases hx : x = a
    · subst hx
      by_cases hb : x < 262144
      · simp [hb, winGet_winSet x x y m h]
      · simp [hb]
    · by_cases h1 : a + 1 ≤ x ∧ x < a + 1 + t.length ∧ x < 262144
      · have h2 : a ≤ x ∧ x < a + (y :: t).length ∧ x < 262144 := by simp; omega
        rw [if_pos h1, if_pos h2]
        have : x - a = (x - (a + 1)) + 1 := by omega
        rw [this]; simp
      · have h2 : ¬ (a ≤ x ∧ x < a + (y :: t).length ∧ x < 262144) := by simp; omega
        rw [if_neg h1, if_neg h2]
        split
        · rw [winGet_winSet a x y m h, if_neg hx]
        · rfl

/-- A write to the recovery window keeps the canonical form (R431). -/
theorem romWrite_wf : ∀ (b : List Byte) (m : Window) (a : Nat), winWf m = true → winWf (romWrite m a b) = true := by
  intro b
  induction b with
  | nil => intro m a h; exact h
  | cons x t ih =>
    intro m a h
    refine ih _ _ ?_
    split
    · rename_i ha
      refine winSet_wf a x ?_ m h
      simp [romWritable] at ha
      omega
    · exact h

/-- The windows after reset have the canonical form. -/
theorem reset_winWf : winWf State.reset.dev.ho.win = true ∧ winWf State.reset.dev.ln.upd.romWin = true := by decide

end Sys2Proof.Machine
end

