-- ==== Sys2Proof/Tests/Slice0.lean ====
section
/-! SUPPORT. Tests of the model: worked examples of the spec, refused ill-formed commands, and witnesses of the statements. -/

namespace Sys2Proof.Tests

open Sys2Proof Sys2Proof.Machine

set_option Elab.async false

/-! ### The states of the tests -/

/-- A test map: an adapter (0), an alternator (1), a solar panel (2), a bus-tied port (3) and a lending terminal (4); bus 0;
string 0; a buck from source 0, a bidirectional mitten to string 0, one shared at will, one to the lending terminal, and one
from the panel. -/
def tMap (shared : Bool) : PathMap :=
  let p : PortEntry := { type := 1, allowed := 7, share := 15, vMin := 9000, vMax := 15000, iRated := 10000, vClose := 500, irev := 200 }
  { srcs := [p, { p with type := 3 }, { p with type := 4 }, { p with place := 1 }, { p with type := 6 }] ++ List.replicate 7 {}
    buses := { enable := true, vTarget := 12000, vMin := 10000, vMax := 14000, vSupp := 11000 } :: List.replicate 3 {}
    strs := { p with place := 1, cells := 4, chem := 1, vMin := 8000, vMax := 17000, capacity := 10000 } :: List.replicate 15 {}
    mits := [{ topo := 1, toN := 16, phases := 0xF, iMax := 10000 }, { topo := 3, fromN := 16, toN := 32, phases := 0xF0, iMax := 10000 },
      { topo := 1, fromN := 1, toN := 16, shared := shared, phases := 0xF00, iMax := 10000 },
      { topo := 3, fromN := 16, toN := 4, lend := true, phases := 0xF000, iMax := 10000 },
      { topo := 1, fromN := 2, toN := 16, phases := 0xF0000, iMax := 10000 }] ++ List.replicate 11 {} }

/-- A device in RUN with the test map. -/
def tDev : Dev := { sy := { power := .run }, pw := { map := tMap false }, ho := { hif := { bme := true } } }
/-- The test device with a change. -/
def wst (f : Dev → Dev) : State := { dev := f tDev }
/-- The state that a command leaves. -/
def ran (c : Instr) (s : State) : State :=
  match exec c s with
  | .next t => t
  | _ => s
/-- The test map with a shared mitten. -/
def tShared (d : Dev) : Dev := d.onPw fun p => { p with map := tMap true }
/-- Zero bytes. -/
def zeros (n : Nat) : List Byte := List.replicate n 0
/-- A start on which all is well. -/
def tBoot : BootIn :=
  { straps := 0, aonLost := false, aonLatch := 0, aonCount := 0, imageOk := true, slotOk := true, settingsOk := true }
/-- A warm start on which all is well. -/
def tStart : StartIn := { boot := tBoot, warm := { imageOk := true, dieTemps := List.replicate 16 2500, slotOk := true, badPiece := none } }
/-- A gauntlet step that finds nothing. -/
def tObs : GntObs := { cm := [], samples := [], fltAt := none }
/-- An exit condition that names a next step. -/
def tExit (n : Nat) : ExitCond := { code := 2, next := n, confirm := 1 }
/-- A constant-current step. -/
def tStep (n : Nat) : Step := { type := 2, imp := true, tieOk := true, exits := [tExit n] }
/-- A program of one step. -/
def tProg (n : Nat) : Program := { steps := [tStep n] }
/-- A pack-monitor record. -/
def tPm : List Byte := zeros 14 ++ leBytes 2 (crc16 (zeros 14)).toNat
/-- A unit in a visit. -/
def tVisit (e : SeqEntry) : State :=
  wst fun d => d.modMu 0 fun u => { u with corr := .converged, seq := some { entries := [e] }, active := true, inPass := true }
/-- A frequency of an impedance run. -/
def tFreq : ImpFreq := { freq := 50, settle := 1, measure := 1 }
/-- A device on which string 0 may run a measurement of its impedance. -/
def tImpDev (d : Dev) : Dev :=
  ((d.modStr 0 fun x => { x with st := .running, prog := some (tProg 0), chgMit := some 1 }).modMit 1 fun x =>
    { x with st := .run }).modMu 0 fun u => { u with seq := some { period := 40000, entries := [{}] }, active := true }
/-- A state with an impedance run. -/
def tImp (r : ImpRun) : State := wst fun d => (tImpDev d).modImp 0 fun i => { i with run := some r }
/-- A state with an ended run that repeats. -/
def tImpEnded : State :=
  wst fun d => ((tImpDev d).setRing 1 { st := .active }).modImp 0 fun i => { i with ended := some { freqs := [tFreq], rep := 1, ring := 1 } }
/-- An active ring. -/
def tRing : Ring := { st := .active }
/-- A state with ring 1 changed. -/
def tRing1 (f : Ring → Ring) : State := wst fun d => d.setRing 1 (f tRing)
/-- A state with ring 1. -/
def tRun : State := tRing1 id
/-- A tag whose completion is due. -/
def tDue : TagRec := { tag := 1, ring := 1, slot := 0, desc := zeros 64, payload := [], st := .due }
/-- A state with one tag in flight. -/
def tTag (x : TagRec) : State := wst fun d => (d.onHo fun h => { h with tags := [x] }).setRing 1 tRing
/-- The test device strapped for quad SPI. -/
def tQspi (f : Dev → Dev) : State := wst fun d => f (d.onSy fun y => { y with straps := 1 })
/-- An admitted command: opcode, descriptor bytes from byte 32, payload. -/
def cmd (op : Nat) (args payload : List Byte) : TagRec :=
  { tag := 1, ring := 1, slot := 0, payload := payload,
    desc := leBytes 1 op ++ zeros 31 ++ args ++ zeros (32 - args.length) }
/-- A state in which a command may start. -/
def cmdSt (op : Nat) (args payload : List Byte) (f : Dev → Dev) : State :=
  wst fun d => f ((d.onHo fun h => { h with tags := [cmd op args payload] }).setRing 1 tRing)
/-- The same with an opened stage. -/
def tStage (op : Nat) (args payload : List Byte) (f : Stage → Stage) : State :=
  cmdSt op args payload fun d => d.modStage fun _ => f { st := .opened, owner := 1 }
/-- The descriptor bytes of a RING_CREATE. -/
def dRingCreate : List Byte := [0xFF, 3, 2, 0x66, 0, 0, 1, 0] ++ zeros 17 ++ [1, 0, 0]
/-- The descriptor bytes of a MEAS_PAIR_CAPTURE. -/
def dCapture : List Byte := [0, 0, 0, 4, 0, 0xFF, 1, 64, 0, 0, 1, 0, 0xC0, 1, 0xFF, 0xFF]
/-- A device on which pair 0 may capture. -/
def tPair (d : Dev) : Dev :=
  ((d.modRef fun r => { r with pairEn := 1 }).modMu 0 fun u => { u with corr := .converged }).modMu 1 fun u => { u with corr := .converged }
/-- The descriptor bytes of a RECORD_READ. -/
def dRecord : List Byte := 3 :: zeros 11 ++ [1, 0]
/-- An ABORT of tag 1 that waits. -/
def tAbort : TagRec := { tag := 2, ring := 0, slot := 0, payload := [], desc := leBytes 1 opAbort ++ zeros 31 ++ [1] ++ zeros 31 }
/-- A log record. -/
def tLog : LogRec := { seq := 0, time := 0, code := 0, inst := 0, data := [] }
/-- An object with its CRC put into the four zero bytes at an offset. -/
def sealed (off : Nat) (b : List Byte) : List Byte := putBytes b off (leBytes 4 (crc32 b).toNat)
/-- The payload of a LEND_START. -/
def dLend : List Byte :=
  leBytes 4 12000 ++ leBytes 4 100 ++ zeros 8 ++ List.replicate 16 0xFF
/-- The payload of an IMPEDANCE_RUN. -/
def dFreqs : List Byte := sealed 12 ([1, 0, 1] ++ zeros 13 ++ [50, 0, 0, 0, 1, 0, 1, 0])
/-- A charge program of one REST step. -/
def tProgram : List Byte := sealed 28 ([1, 0, 96, 0, 1] ++ zeros 9 ++ [1, 0, 0, 0, 1] ++ zeros 13 ++ [9] ++ zeros 63)
/-- A measurement sequence of one entry. -/
def tSequence : List Byte :=
  sealed 12 ([1, 0, 15, 1, 0, 0, 0, 0, 0xFF] ++ zeros 7 ++ [15, 4, 0, 1, 0xFF, 0xFF, 0xFF, 0xFF, 0xFF, 0xFF] ++ zeros 6)
/-- A hatband command that has been started. -/
def tHat (c : List Byte) : State :=
  wst fun d => (d.modTwt 0 fun t => { t with hb := 6 }).modHb fun h => { h with go := true, cmd := c ++ zeros (64 - c.length) }
/-- CAN controller 1 with the monitor of string 15. -/
def tCan : State :=
  wst fun d => (d.modCan 1 fun c => { c with ctrl := 1 }).modStr 15 fun x => { x with cfg := [(12, 6), (13, 536870917)] }
/-- A formation of two devices. -/
def tForm : Formation := { count := 2, position := 0, crownId := 1, loopNs := 0, conflict := false }
/-- A follower of a formed chain. -/
def tFollower : State := wst fun d => (tShared d).modChn fun c => { c with st := .formed, role := 2, pos := 2 }
/-- The same, the frame of its upstream neighbour received. -/
def tFed : State := wst fun d => (tShared d).modChn fun c => { c with st := .formed, role := 2, pos := 2, count := 3, rx := [{ tick := 1, blocks := [], slots := [], side := {} }] }
/-- A device in RECOVERY. -/
def tRom (f : UpdSec → UpdSec) : State := wst fun d => (d.onSy fun y => { y with power := .recovery }).modUpd f
/-- What the pieces of an UPDATE_PIECE of one piece do where no half is held. -/
def tPieces : Dev × Nv × Bool × Option Nat :=
  let s := cmdSt opUpdatePiece [0, 0, 1] (zeros 4096) id
  s.dev.takePieces s.nv none (zeros 4096) [0] 0 false
/-- A complete checkpoint. -/
def tCk : CkBuf := { openSeq := 1, closeSeq := 1 }
/-- Non-volatile state with an update half received. -/
def tNv : Nv := { held := some { pieces := 2 }, bitmap := [0], upd := .receiving }
/-- No source of the test device lends. -/
theorem tDev_lend (k : Nat) : (tDev.source k).lend = none := by
  show ((List.replicate 12 ({} : Source)).getD k {}).lend = none
  rw [List.getD_eq_getElem?_getD, List.getElem?_replicate]; split <;> rfl
/-- No mitten of the test device is in a gauntlet. -/
theorem tDev_gnt (m : Nat) : (tDev.mitten m).gnt = none := by
  show ((List.replicate 16 ({} : Mitten)).getD m {}).gnt = none
  rw [List.getD_eq_getElem?_getD, List.getElem?_replicate]; split <;> rfl
/-- A state in which mitten 3 lends to source 4 and nothing else lends. -/
def tLending : State := cmdSt opLendStop [3] [] fun d => d.modSrc 4 fun x => { x with lend := some { mit := 3 } }
/-- Only source 4 lends there. -/
theorem tLending_lend (i : Nat) (h : i ≠ 4) : (tLending.dev.source i).lend = none := by
  show (((List.replicate 12 ({} : Source)).modify 4 fun x => { x with lend := some { mit := 3 } }).getD i {}).lend = none
  rw [List.getD_eq_getElem?_getD, List.getElem?_modify, List.getElem?_replicate]
  by_cases e : 4 = i
  · exact absurd e.symm h
  · by_cases k : i < 12 <;> simp [e, k]
/-- A state with bytes in both windows and a command that waits. -/
def tWindow : State :=
  { wst (fun d => (d.onHo fun h => { h with win := [(0, 5), (262143, 1)] }).modUpd fun u => { u with romWin := [(7, 7)] }) with
    pending := [.functionLevelReset] }
/-- A state with an update half received and its cancellation waiting. -/
def tBook : State := { cmdSt opUpdateCancel [] [] id with nv := tNv, pending := [.updateCancel 1] }

/-! ### Commands that cannot be formed -/

/-- A start record without the die temperatures. -/
def tNoTemps : StartIn := { tStart with warm := { tStart.warm with dieTemps := [] } }
/-- Every check of `Instr.wf` refuses something: lists and widths that the rules do not give (R262, R267, R358, R398, R435). -/
theorem test_wf_refuses :
    ([.descriptorAdmit 0 0 { desc := [], payload := [], payErr := none }, .qspiWrite 0 [] false, .qspiRead 0 0 false,
      .setupRegisterWrite 0 (List.replicate 9 0), .rcRead 0 3, .chainInterleave (List.replicate 33 0),
      .chainOrder (List.replicate 33 0), .chainConfigCheck (List.replicate 33 0), .chainEvent (List.replicate 33 0),
      .manifestChunk (List.replicate 33 0), .pieceChunk (List.replicate 33 0) true, .visitEnd 0 [] false false 0,
      .engineStall 1 tNoTemps, .takeoverComplete 0 tNoTemps, .eccUncorrectable 1 none tNoTemps, .watchdogTimeout tNoTemps,
      .wdtKeyWrite 1 0 tNoTemps, .deviceRestart 0 tNoTemps, .updateActivate 0 tNoTemps,
      .activationResume tNoTemps] : List Instr).all (fun i => !i.wf) = true := by decide +kernel
/-- The same commands well formed are accepted. -/
theorem test_wf_accepts :
    ([.qspiWrite 0 (List.replicate 256 0) false, .qspiRead 0 256 false, .rcRead 0 8, .chainOrder (List.replicate 32 0),
      .visitEnd 0 [1] false false 0, .watchdogTimeout tStart] : List Instr).all (fun i => i.wf) = true := by decide +kernel

/-! ### Worked examples of the spec -/

/-- The CRC-16 of "123456789" (R146 gives the polynomial and start; 0x29B1 is its check value). -/
theorem test_crc16 : crc16 [0x31, 0x32, 0x33, 0x34, 0x35, 0x36, 0x37, 0x38, 0x39] = 0x29B1 := by decide +kernel
/-- 03_mittens, rail coach M0: the cuff ceilings at 40,000 mV and 5,000 mV. -/
theorem test_cuff : (cuffCeil 80000 20 70 110000 40000, cuffCeil 80000 20 70 110000 5000) = (49246, 20155) := by decide +kernel
/-- 04_sources, rail coach: both demands high, and M1 in CV. -/
theorem test_rations :
    splitBase 120000 [0, 1] (fun m => if m = 0 then 66151 else 75000) (fun _ => 16) = [(0, 60000), (1, 60000)] ∧
    splitBase 120000 [0, 1] (fun m => if m = 0 then 66151 else 30000) (fun _ => 16) = [(0, 78076), (1, 41924)] := by decide +kernel
/-- MU0 in a visit of 16 samples at TS 8 when the urgent request of PH2 with TRIG_SAMPLE 8 has come at clock 20. -/
def tUrgent : MUnit := (({ plan := [(16, 8)] } : MUnit).request { ph := 2, dur := 24, at0 := 20 }).getD {}
/-- The clocks at which the use of each slice began, all before the given clock. -/
def tStarts (n : Nat) : List Nat := (tUrgent.advance n).slices.map (·.start)
/-- 06_measurement, the interrupt of a 16-sample visit on MU0: slice 3 is taken, sample 3 restarts at 24, sample 6 waits until 44,
and the next entry is due at 104. -/
theorem test_interrupted_visit :
    tStarts 24 = [0, 6, 12, 20] ∧ tStarts 25 = [24, 6, 12, 20] ∧ tStarts 51 = [50, 30, 36, 44] ∧
    (tUrgent.advance 104).due = 104 ∧ (tUrgent.advance 104).plan = [] := by decide +kernel
/-- 07_filters, harvester STR0 at 10 Hz: 2,080 and -292 µΩ. -/
theorem test_impedance : impZ 81769000000 (-11492000000) 39320400000000 0 400000 400000 = some (2080, -292) := by decide +kernel
/-- 09_faults, harvester M0: the lowest contributor, its lowest code, and the fall within an hour. -/
theorem test_brim : brimTarget [(1, 95), (2, 95), (3, 98)] = (95, 1) ∧
    (({ target := 95, cause := 1 } : BrimRow).plan 0).pct = 95 := by decide +kernel
/-- 13_side_links, vessel loop: D of position 1 is 207.5 ns. -/
theorem test_chain_delay : chainDelay 0 415 1 2 = 207500 := by decide +kernel
/-- 14_timers, vessel laid up in DEEP: the span and its uncertainty. -/
theorem test_span : spanNs 8493477945 = 259200376739500 ∧ ceilDiv (spanUnc 8493477945 false) 1000 = 12960050 ∧
    ceilDiv (spanUnc 8493477945 true) 1000000 = 7776012 := by decide +kernel
/-- 17_register_map, the narrow write: it is ignored, GLB_ACCLOG reads 0x0000_7140 and event 1 is set. -/
theorem test_narrow_write :
    (ran (.setupRegisterWrite 0x7140 [0x28, 0x30]) (wst id)).dev.ho.glb.accLog = 0x00007140 ∧
    (ran (.setupRegisterWrite 0x7140 [0x28, 0x30]) (wst id)).dev.ho.glb.evstat = [1] ∧
    (ran (.setupRegisterWrite 0x7140 [0x28, 0x30]) (wst id)).dev.pw = tDev.pw := by decide +kernel
/-- 17_register_map, the same host: PHn_DT at reset, GLB_EVVEC12 at reset, and both writes. -/
theorem test_register_words :
    tDev.regWord {} 0x7140 = some 0x0014FFFF ∧ tDev.regWord {} 0x0130 = some 0x02020202 ∧
    (ran (.setupRegisterWrite 0x7140 [0x28, 0x30, 0x14, 0]) (wst id)).dev.regWord {} 0x7140 = some 0x00143028 ∧
    (ran (.setupRegisterWrite 0x0130 [2, 0x89, 2, 2]) (wst id)).dev.regWord {} 0x0130 = some 0x02028902 := by decide +kernel
/-- 12_mailboxes, SUP-L stalls holding two locks: agent 1 takes LCK20 from it, whose status reads 0x0004_0101. -/
theorem test_lock_status :
    ((ran (.lckTake 1 false 20) { dev := (tDev.modLck 20 fun _ => { owner := 4 }).breakLock 20 4 }).dev.sy.lck[20]?.map
      Lock.statusWord) = some 0x00040101 := by decide +kernel
/-- 10_host_rings, step 1: the quota of 8 stops admission at fetch head 8. -/
theorem test_quota :
    (wst fun d => (d.onHo fun h => { h with tags := (List.range 8).map fun i => { tDue with tag := i, ring := 5 } }).setRing 5
      { tRing with cls := 1, sqExp := 4, cqExp := 4, quota := 8, head := 8, sqTail := 15 }).dev.mayAdmit 5 = false := by
  decide +kernel
/-- R103's sum, R78's knee and a shift of units aside, a step on an empty queue changes nothing (log 1). -/
theorem test_idle : step State.reset = .next State.reset := rfl
/-- No row of the table has bits, so no word spells a command. -/
theorem test_no_words : decodeTableWord 16 0 = none ∧ State.reset.withFetchWord 16 0 = State.reset := ⟨rfl, rfl⟩


/-! ### Witnesses of the statements -/

/-- Every premise of `Obligations.MailboxesAndLocks` can hold. -/
theorem wit_MailboxesAndLocks :
    (∃ (a : Fin 128) (sec : Bool) (n : Fin 64), isAgent a = true ∧ a.val ≠ agHost ∧ ((n.val < 16 → isSecure a sec = true))) ∧
    (∃ (a : Fin 128) (sec : Bool) (n : Fin 64) (v : Word) (x : Mailbox) (s : State), isAgent a = true ∧ a.val ≠ agHost ∧ ((n.val < 16 →
      isSecure a sec = true)) ∧ s.dev.sy.mbx[n.val]? = some x ∧ x.full = false ∧ x.revoked = false ∧ v.toNat < 256) ∧
    (∃ (a : Fin 128) (sec : Bool) (n : Fin 64) (v : Word) (x : Mailbox) (s : State), isAgent a = true ∧ a.val ≠ agHost ∧ ((n.val < 16 →
      isSecure a sec = true)) ∧ s.dev.sy.mbx[n.val]? = some x ∧ x.full = true ∧ v.toNat < 256) ∧
    (∃ (a : Fin 128) (sec : Bool) (n : Fin 64) (v : Word), isAgent a = true ∧ a.val ≠ agHost ∧ ((n.val < 16 →
      isSecure a sec = true)) ∧ 256 ≤ v.toNat) ∧
    (∃ (a : Fin 128) (sec : Bool) (n : Fin 64) (x : Mailbox) (s : State), isAgent a = true ∧ a.val ≠ agHost ∧ ((n.val < 16 →
      isSecure a sec = true)) ∧ s.dev.sy.mbx[n.val]? = some x ∧ x.receiver = a.val) ∧
    (∃ (a : Fin 128) (sec : Bool) (n : Fin 64) (h : Nat) (s : State), isAgent a = true ∧ a.val ≠ agHost ∧ ((n.val < 8 →
      isSecure a sec = true)) ∧ s.dev.sy.higherLock a n = some h) ∧
    (∃ (a : Fin 128) (sec : Bool) (n : Fin 64) (x : Lock) (s : State), isAgent a = true ∧ a.val ≠ agHost ∧ ((n.val < 8 →
      isSecure a sec = true)) ∧ s.dev.sy.higherLock a n = none ∧ s.dev.sy.lck[n.val]? = some x ∧ x.owner = 0) ∧
    (∃ (a : Fin 128) (sec : Bool) (n : Fin 64) (x : Lock) (s : State), isAgent a = true ∧ a.val ≠ agHost ∧ ((n.val < 8 →
      isSecure a sec = true)) ∧ s.dev.sy.higherLock a n = none ∧ s.dev.sy.lck[n.val]? = some x ∧ x.owner ≠ 0 ∧ x.owner =
      a.val) ∧
    (∃ (a : Fin 128) (sec : Bool) (n : Fin 64) (x : Lock) (s : State), isAgent a = true ∧ a.val ≠ agHost ∧ ((n.val < 8 →
      isSecure a sec = true)) ∧ s.dev.sy.higherLock a n = none ∧ s.dev.sy.lck[n.val]? = some x ∧ x.owner ≠ 0 ∧ x.owner ≠
      a.val) ∧
    (∃ (a : Fin 128) (sec : Bool) (n : Fin 64), isAgent a = true ∧ a.val ≠ agHost ∧ isSecure a sec = false ∧ n.val < 16) ∧
    (∃ (a : Fin 128) (sec : Bool) (n : Fin 64), isAgent a = true ∧ a.val ≠ agHost ∧ isSecure a sec = false ∧ n.val < 8) :=
  ⟨⟨1, false, 16, by decide +kernel⟩,
   ⟨1, false, 63, 255, {}, (wst id), by decide +kernel⟩,
   ⟨3, true, 0, 255, { full := true }, (wst fun d => d.modMbx 0 fun _ => { full := true }), by decide +kernel⟩,
   ⟨1, false, 63, 256, by decide +kernel⟩,
   ⟨3, true, 15, { full := true, receiver := 3 }, (wst fun d => d.modMbx 15 fun _ => { full := true, receiver := 3 }),
     by decide +kernel⟩,
   ⟨1, false, 8, 9, (wst fun d => d.modLck 9 fun _ => { owner := 1 }), by decide +kernel⟩,
   ⟨1, false, 8, {}, (wst id), by decide +kernel⟩,
   ⟨3, true, 7, { owner := 3 }, (wst fun d => d.modLck 7 fun _ => { owner := 3 }), by decide +kernel⟩,
   ⟨1, false, 63, { owner := 2 }, (wst fun d => d.modLck 63 fun _ => { owner := 2 }), by decide +kernel⟩,
   ⟨1, true, 15, by decide +kernel⟩,
   ⟨1, false, 7, by decide +kernel⟩⟩

/-- Every premise of `Obligations.NoticeArrives` can hold. -/
theorem wit_NoticeArrives :
    ∃ (a : Fin 128) (r : Fin 128) (sa : Bool) (sr : Bool) (n : Fin 64) (v : Word) (x : Mailbox) (s : State) (t : State) (u :
      State), isAgent a = true ∧ a.val ≠ agHost ∧ ((n.val < 16 → isSecure a sa = true)) ∧ isAgent r = true ∧ r.val ≠ agHost
      ∧ ((n.val < 16 → isSecure r sr = true)) ∧ s.dev.sy.mbx[n.val]? = some x ∧ x.full = false ∧ x.revoked = false ∧
      x.receiver = r.val ∧ v.toNat < 256 ∧ exec (.mbxSend a sa n v) s = .next t ∧ exec (.mbxRecv r sr n) t = .next u :=
  ⟨1, 3, false, true, 32, 7, { receiver := 3 }, (wst id), (ran (.mbxSend 1 false 32 7) (wst id)), (ran (.mbxRecv 3 true 32)
    (ran (.mbxSend 1 false 32 7) (wst id))), by and_intros <;> first | decide +kernel | rfl⟩

/-- Every premise of `Obligations.Timers` can hold. -/
theorem wit_Timers :
    (∃ (t : Fin 16) (s : State), s.dev.sy.timersRun = true ∧ (s.dev.timer t).slaveMode ≠ 1 ∧ (s.dev.timer t).clkSel ≠ 3 ∧
      (((s.dev.timer t).clkSel = 2 → s.dev.ho.glb.auxMode ((s.dev.timer t).ctrl.toNat / 8192 % 32) = 1))) ∧
    (∃ (t : Fin 16) (s : State), (s.dev.timer t).slaveMode = 1 ∧ (s.dev.timer (s.dev.timer t).master).run = false) ∧
    (∃ (t : Fin 16) (s : State), (s.dev.timer t).capEdge ≠ 0) ∧
    (∃ (t : Fin 16) (v : Word), v.toNat < 16384 ∧ v.toNat % 16 < t.val) ∧
    (∃ (t : Fin 16) (v : Word), v.toNat < 16384 ∧ t.val ≤ v.toNat % 16 ∧ v.toNat % 64 ≠ 0) ∧
    (∃ (t : Fin 16) (s : State), (s.dev.timer t).clkSel = 3) ∧
    (∃ (t : Fin 16) (v : Word) (s : State), v.toNat < 16384 ∧ t.val ≤ v.toNat % 16 ∧ (s.dev.timer t).clkSel = 3) ∧
    (∃ (t : Fin 16) (s : State), (s.dev.timer t).run = true ∧ (s.dev.timer t).atCmp = true ∧ (s.dev.timer t).cmpDis = false) ∧
    (∃ (t : Fin 16) (s : State), (s.dev.timer t).run = true ∧ (s.dev.timer t).atTop = true ∧ ((s.dev.timer t).atCmp = false
      ∨ (s.dev.timer t).cmpDis = true)) ∧
    (∃ (t : Fin 16) (x : Timer) (d : Dev), d.sy.tmr[t.val]? = some x ∧ d.slaves t = [] ∧ x.irqEn = false ∧ x.ctrl.getLsbD 18
      = false) ∧
    (∃ (s : State), s.dev.sy.motion.en = true ∧ s.dev.sy.motion.moving = false ∧ s.dev.sy.motion.thr.toNat <
      s.dev.sy.motion.pulses) ∧
    (∃ (s : State), s.dev.sy.motion.moving = true ∧ (s.dev.sy.motion.ctl.toNat / 4096 % 1024) * 1000000000 ≤
      s.dev.sy.motion.calmNs) :=
  ⟨⟨0, (wst fun d => d.modTmr 0 fun x => { x with run := true }), by decide +kernel⟩,
   ⟨1, (wst fun d => d.modTmr 1 fun x => { x with mode := 16 }), by decide +kernel⟩,
   ⟨15, (wst fun d => d.modTmr 15 fun x => { x with mode := 64 }), by decide +kernel⟩,
   ⟨1, 16352, by decide +kernel⟩,
   ⟨15, 16383, by decide +kernel⟩,
   ⟨1, (wst fun d => d.modTmr 1 fun x => { x with ctrl := 24 }), by decide +kernel⟩,
   ⟨1, 1, (wst fun d => d.modTmr 1 fun x => { x with ctrl := 24 }), by decide +kernel⟩,
   ⟨0, (wst fun d => d.modTmr 0 fun x => { x with run := true, atCmp := true }), by decide +kernel⟩,
   ⟨15, (wst fun d => d.modTmr 15 fun x => { x with run := true, atTop := true }), by decide +kernel⟩,
   ⟨15, {}, tDev, by decide +kernel⟩,
   ⟨(wst fun d => d.onSy fun y => { y with motion := { ctl := 1, pulses := 5 } }), by decide +kernel⟩,
   ⟨(wst fun d => d.onSy fun y => { y with motion := { ctl := 0, moving := true } }), by decide +kernel⟩⟩

/-- Every premise of `Obligations.Watchdog` can hold. -/
theorem wit_Watchdog :
    (∃ (a : Fin 128) (v : Word) (s : State), a.val ≠ agHost ∧ a.val = s.dev.sy.activeSup ∧ s.dev.sy.wdt.en = false ∧ 65536 ≤
      v.toNat ∧ v.toNat % 65536 < 4) ∧
    (∃ (a : Fin 128) (s : State), a.val ≠ agHost ∧ (a.val ≠ s.dev.sy.activeSup ∨ s.dev.sy.wdt.en = true)) ∧
    (∃ (s : State), s.dev.wdtRuns = true ∧ s.dev.sy.wdt.reaches (25 * Config.wdtWindow) = true) ∧
    (∃ (v : Word), v.toNat = 0x80000000) ∧
    (∃ (i : StartIn) (s : State), s.dev.sy.wdt.en = true ∧ s.dev.sy.wdt.reaches 100 = true ∧ s.nv.bootFails < 3 ∧
      i.warm.imageOk = true ∧ s.dev.sy.power = .run) ∧
    (∃ (a : Fin 128) (s : State), a.val ≠ agHost ∧ a.val = s.dev.sy.activeSup ∧ s.dev.sy.wdt.en = true ∧
      s.dev.sy.wdt.keyOpen = false) ∧
    (∃ (a : Fin 128) (s : State), a.val ≠ agHost ∧ a.val = s.dev.sy.activeSup ∧ s.dev.sy.wdt.en = true ∧
      s.dev.sy.wdt.lapsed = true) ∧
    (∃ (a : Fin 128) (s : State), a.val ≠ agHost ∧ a.val = s.dev.sy.activeSup ∧ s.dev.sy.wdt.en = true ∧
      s.dev.sy.wdt.keyOpen = true ∧ s.dev.sy.wdt.lapsed = false ∧ s.dev.sy.wdt.opened = true ∧ s.dev.sy.wdt.expired = false) :=
  ⟨⟨1, 65536, (wst id), by decide +kernel⟩,
   ⟨2, (wst id), by decide +kernel⟩,
   ⟨(wst fun d => d.onSy fun y => { y with wdt := { y.wdt with en := true } }), by decide +kernel⟩,
   ⟨0x80000000, by decide +kernel⟩,
   ⟨tStart, (wst fun d => d.onSy fun y => { y with wdt := { y.wdt with en := true, countNs := 2000000000 } }), by decide +kernel⟩,
   ⟨1, (wst fun d => d.onSy fun y => { y with wdt := { y.wdt with en := true } }), by decide +kernel⟩,
   ⟨1, (wst fun d => d.onSy fun y => { y with wdt := { y.wdt with en := true, lapsed := true } }), by decide +kernel⟩,
   ⟨1, (wst fun d => d.onSy fun y => { y with wdt := { y.wdt with en := true, keyOpen := true, opened := true } }),
     by decide +kernel⟩⟩

/-- Every premise of `Obligations.Starts` can hold. -/
theorem wit_Starts :
    (∃ (b : BootIn) (s : State) (c : _), b.aonLost = false ∧ b.imageOk = true ∧ b.slotOk = true ∧ b.settingsOk = true ∧
      s.dev.slotPasses s.nv s.nv.activeSlot = true ∧ s.nv.bootFails < 3 ∧ c ∈ [Instr.powerOn b, .resetNLow b, .brownOut b, .engineClockLockLoss b]) ∧
    (∃ (b : BootIn) (s : State), b.aonLost = false ∧ b.imageOk = true ∧ b.slotOk = true ∧ b.settingsOk = true ∧
      s.dev.slotPasses s.nv s.nv.activeSlot = true ∧ s.nv.bootFails < 3) ∧
    (∃ (b : BootIn) (s : State), (s.dev.sy.power = .deep ∨ s.dev.sy.power = .ship) ∧ s.dev.sy.wakeCause ≠ 0 ∧ b.aonLost =
      false ∧ b.imageOk = true ∧ b.settingsOk = true ∧ s.dev.slotPasses s.nv s.nv.activeSlot = true ∧
      s.nv.bootFails < 3) ∧
    (∃ (s : State), s.dev.inRun = true ∧ s.nv.eraseReady = false) ∧
    (∃ (s : State), s.dev.inRun = true ∧ s.nv.eraseReady = true ∧ s.nv.keyA.valid = true ∧ s.nv.keyB.valid = true) ∧
    (∃ (s : State), s.dev.sy.startKind = .cold ∧ s.dev.sy.power = .liner) :=
  ⟨⟨tBoot, (wst id), (.resetNLow tBoot), by decide +kernel⟩,
   ⟨tBoot, (wst id), by decide +kernel⟩,
   ⟨tBoot, (wst fun d => d.onSy fun y => { y with power := .deep, wakeCause := 1 }), by decide +kernel⟩,
   ⟨(wst id), by decide +kernel⟩,
   ⟨{ wst id with nv := { eraseReady := true, keyA := { valid := true }, keyB := { valid := true } } }, by decide +kernel⟩,
   ⟨State.reset, by decide +kernel⟩⟩

/-- Every premise of `Obligations.SlotSwitch` can hold. -/
theorem wit_SlotSwitch :
    (∃ (b : BootIn) (s : State), b.aonLost = false ∧ b.imageOk = true ∧ b.slotOk = true ∧ b.settingsOk = true ∧
      s.dev.slotPasses s.nv (1 - s.nv.activeSlot) = true ∧ s.nv.bootFails = 3) ∧
    (∃ (s : State), 5 ≤ s.nv.bootFails) ∧
    (∃ (i : StartIn) (s : State), s.dev.wdtRuns = true ∧ s.dev.sy.wdt.reaches 100 = true ∧ s.nv.bootFails = 3 ∧ i.boot.aonLost = false ∧ i.boot.imageOk =
      true ∧ i.boot.slotOk = true ∧ i.boot.settingsOk = true ∧ s.dev.slotPasses s.nv (1 - s.nv.activeSlot) = true) :=
  ⟨⟨tBoot, { wst id with nv := { bootFails := 3 } }, by decide +kernel⟩,
   ⟨{ wst id with nv := { bootFails := 5 } }, by decide +kernel⟩,
   ⟨tStart, { wst (fun d => d.onSy fun y => { y with wdt := { y.wdt with en := true, countNs := 2000000000 } }) with nv :=
     { bootFails := 3 } },
     by decide +kernel⟩⟩

/-- Every premise of `Obligations.LinerAndHandOver` can hold. -/
theorem wit_LinerAndHandOver :
    (∃ (o : LinerObs) (s : State), s.dev.sy.liner.st = .test ∧ 105 * s.dev.sy.linerTarget ≤ 100 * s.dev.linerSource o.srcUv ∧
      ∃ p, p < 4 ∧ s.dev.linerFinding o p = none) ∧
    (∃ (o : LinerObs) (s : State), s.dev.sy.liner.st = .test ∧ 105 * s.dev.sy.linerTarget ≤ 100 * s.dev.linerSource o.srcUv ∧
      ∀ p, p < 4 → s.dev.linerFinding o p ≠ none) ∧
    (∃ (v : Int) (s : State), s.dev.sy.liner.st = .running ∧ 11 * s.dev.sy.linerTarget < 10 * s.dev.linerBus v) ∧
    (∃ (v : Int) (s : State), s.dev.sy.liner.st = .running ∧ 10 * s.dev.linerBus v < s.dev.sy.linerTarget) ∧
    (∃ (v : Int) (s : State), s.dev.sy.liner.st = .running ∧ 100 * s.dev.linerSource v < 102 * s.dev.sy.linerTarget) ∧
    (∃ (v : Int) (s : State), s.dev.sy.liner.st = .heldHigh ∧ s.dev.linerBus v < s.dev.sy.linerTarget) ∧
    (∃ (s : State), s.dev.sy.liner.st = .collapsed) ∧
    (∃ (s : State), s.dev.sy.power = .liner ∧ s.dev.sy.imageOk = true ∧ s.dev.ms.ref.settled = true ∧ s.dev.sy.limpCause = 0 ∧ s.dev.sy.liner.st ≠
      .heldHigh ∧ s.dev.sy.liner.st ≠ .collapsed ∧ s.dev.sy.startKind = .cold) :=
  ⟨⟨{ srcUv := 1260000, samples := [(0, [12499, 12499, 12499, 12499]), (1, [12500, 12500, 12500, 12500])], fltAt := [(2, 300), (3, 301)] },
     (wst fun d => d.modLiner fun l => { l with st := .test }), by decide +kernel, by decide +kernel, 3, by decide +kernel⟩,
   ⟨{ srcUv := 1260000, samples := [(0, [12500, 12500, 12500, 12500])], fltAt := [(1, 0), (2, 200), (3, 300)] },
     (wst fun d => d.modLiner fun l => { l with st := .test }), by decide +kernel⟩,
   ⟨1320060, (wst fun d => d.modLiner fun l => { l with st := .running }), by decide +kernel⟩,
   ⟨119940, (wst fun d => d.modLiner fun l => { l with st := .running }), by decide +kernel⟩,
   ⟨1223940, (wst fun d => d.modLiner fun l => { l with st := .running }), by decide +kernel⟩,
   ⟨1199900, (wst fun d => d.modLiner fun l => { l with st := .heldHigh }), by decide +kernel⟩,
   ⟨(wst fun d => d.modLiner fun l => { l with st := .collapsed }), by decide +kernel⟩,
   ⟨{ dev := { ms := { ref := { settled := true } } } }, by decide +kernel⟩⟩

/-- Every premise of `Obligations.FailoverAndMemory` can hold. -/
theorem wit_FailoverAndMemory :
    (∃ (s : State), s.dev.sy.activeSup = 1 ∧ s.dev.sy.standbyOk = true ∧ s.dev.sy.takeover = false) ∧
    (∃ (s : State), s.dev.sy.takeover = true ∧ s.dev.sy.imageOk = true ∧ s.dev.sy.newestCk ≠ none) ∧
    (∃ (s : State), s.dev.inRun = true ∧ s.dev.sy.takeover = false ∧ s.dev.sy.supRetired = [false, false, false, false] ∧
      s.dev.sy.stall = [] ∧ s.dev.sy.newestCk ≠ none) ∧
    (∃ (a : Fin 128) (s : State), 1 ≤ a.val ∧ a.val < 98 ∧ a.val ≠ s.dev.sy.activeSup) ∧
    (∃ (s : State), s.dev.sy.holdOn = true ∧ s.dev.sy.holdOut = false ∧ s.dev.sy.tookAt ≠ some s.dev.now) :=
  ⟨⟨(wst fun d => d.onSy fun y => { y with standbyOk := true }), by decide +kernel⟩,
   ⟨(wst fun d => d.onSy fun y => { y with takeover := true, ck := [tCk, {}] }), by decide +kernel⟩,
   ⟨(wst fun d => d.onSy fun y => { y with ck := [tCk, {}] }), by decide +kernel⟩,
   ⟨97, (wst id), by decide +kernel⟩,
   ⟨(wst fun d => d.onSy fun y => { y with holdOn := true }), by decide +kernel⟩⟩

/-- Every premise of `Obligations.BackoffRetries` can hold. -/
theorem wit_BackoffRetries :
    (∃ (p : Fin 64) (flt : Bool) (s : State), s.dev.sy.power ≠ .sleep ∧ s.dev.sy.order ≠ some .sleep ∧ s.dev.sy.sleepNext = false ∧ (s.dev.phase p).st = .faulted ∧
      (s.dev.phase p).rejoin = false ∧ s.dev.pw.quadBad.getD (p.val / 4) false = false ∧ (flt = false ∨ (s.dev.phase p).lad.cause ≠ evPhaseDriverFault)) ∧
    (∃ (k : Fin 12) (ms : Nat) (s : State), (s.dev.source k).st = .faulted ∧ (s.dev.source k).lad.backoff = some ms) ∧
    (∃ (m : Fin 16) (ms : Nat) (s : State), (s.dev.mitten m).st = .faulted ∧ (s.dev.mitten m).lad.backoff = some ms ∧
      (s.dev.mitten m).disc = false ∧ (s.dev.mitten m).held = false ∧ (s.dev.mitten m).mismatch = false ∧ s.dev.sy.power ≠ .sleep ∧ s.dev.sy.order ≠ some .sleep ∧ s.dev.sy.sleepNext = false ∧ ((∀ c,
      (s.dev.mitten m).lad.cause = evMittenOvertemp → s.dev.stageT m = some c → c < s.dev.mp m 14))) ∧
    (∃ (k : Fin 16) (ms : Nat) (s : State), (s.dev.string k).st ≠ .faulted ∧ (s.dev.string k).lad.backoff = some ms) ∧
    (∃ (k : Fin 16) (s : State), (s.dev.string k).st ≠ .running ∧ (s.dev.string k).st ≠ .paused) ∧
    (∃ (k : Fin 16) (ms : Nat) (s : State), (s.dev.unit k).fault = true ∧ (s.dev.unit k).lad.backoff = some ms) ∧
    (∃ (a : Fin 4) (l : Ladder) (ms : Nat) (s : State), s.dev.sy.supLad[a.val]? = some l ∧ l.backoff = some ms) ∧
    (∃ (p : Fin 64) (s : State), (s.dev.phase p).st = .faulted ∧ (s.dev.phase p).rejoin = false ∧ (s.dev.phase p).lad.cause
      = evPhaseDriverFault) :=
  ⟨⟨63, 10, (wst fun d => d.modPh 63 fun x => { x with st := .faulted, lad := { backoff := some 10 } }), by decide +kernel⟩,
   ⟨11, 10, (wst fun d => d.modSrc 11 fun x => { x with st := .faulted, lad := { backoff := some 10 } }),
     by decide +kernel⟩,
   ⟨0, 10, (wst fun d => d.modMit 0 fun x =>
     { x with st := .faulted, lad := { backoff := some 10, cause := evMittenShort } }),
     by and_intros <;> first | decide +kernel | exact fun c h => absurd h (by decide)⟩,
   ⟨15, 10, (wst fun d => d.modStr 15 fun x => { x with lad := { backoff := some 10 } }), by decide +kernel⟩,
   ⟨15, (wst id), by decide +kernel⟩,
   ⟨15, 10, (wst fun d => d.modMu 15 fun x => { x with fault := true, lad := { backoff := some 10 } }), by decide +kernel⟩,
   ⟨0, { backoff := some 10 }, 10, (wst fun d => d.onSy fun y =>
     { y with supLad := [{ backoff := some 10 }, {}, {}, {}] }), by decide +kernel⟩,
   ⟨63, (wst fun d => d.modPh 63 fun x =>
     { x with st := .faulted, lad := { backoff := some 10, cause := evPhaseDriverFault } }), by decide +kernel⟩⟩

/-- Every premise of `Obligations.PowerEntryAndWake` can hold. -/
theorem wit_PowerEntryAndWake :
    (∃ (s : State), s.dev.inRun = true ∧ s.dev.sy.order = some .sleep ∧ s.dev.sy.orderAt ≤ s.dev.sy.tick.count) ∧
    (∃ (s : State), s.dev.inRun = true ∧ (s.dev.sy.order = some .deep ∨ s.dev.sy.order = some .ship) ∧
      s.dev.sy.orderAt ≤ s.dev.sy.tick.count) ∧
    (∃ (s : State), s.dev.sy.tick.count < s.dev.sy.orderAt) ∧
    (∃ (s : State), (s.dev.sy.power = .deep ∨ s.dev.sy.power = .ship) ∧ s.dev.sy.wakeCause = 0 ∧ s.dev.sy.order = none ∧
      s.dev.sy.sleepNext = false) ∧
    (∃ (s : State), s.dev.sy.power = .sleep ∧ s.dev.sy.order = none ∧ s.dev.ln.chn.role ≠ 1) ∧
    (∃ (k : Fin 12) (uv : Nat) (fell : Bool) (s : State), (s.dev.sy.power = .deep ∨ s.dev.sy.power = .ship) ∧
      s.dev.sy.wakeCause = 0 ∧ (s.dev.srcE k).type ≠ 0 ∧ s.dev.sp k 38 = 1 ∧ s.dev.trips k uv = true ∧ ((s.dev.source
      k).wakeAbove = false ∨ fell = true)) :=
  ⟨⟨(wst fun d => d.onSy fun y => { y with order := some .sleep }), by decide +kernel⟩,
   ⟨(wst fun d => d.onSy fun y => { y with order := some .deep }), by decide +kernel⟩,
   ⟨(wst fun d => d.onSy fun y => { y with orderAt := 10000 }), by decide +kernel⟩,
   ⟨(wst fun d => d.onSy fun y => { y with power := .ship }), by decide +kernel⟩,
   ⟨(wst fun d => d.onSy fun y => { y with power := .sleep }), by decide +kernel⟩,
   ⟨0, 3000000, false, (wst fun d => (d.onSy fun y => { y with power := .deep }).modSrc 0 fun x =>
     { x with cfg := [(38, 1)] }), by decide +kernel⟩⟩

/-- Every premise of `Obligations.FrameBoundaries` can hold. -/
theorem wit_FrameBoundaries :
    (∃ (n : Nat) (s : State), s.dev.sy.ticking = true ∧ s.dev.mayFall 0 (s.dev.now + 10 * n) = true) ∧
    (∃ (s : State), s.dev.sy.power = .liner ∧ s.dev.sy.takeover = false ∧ s.dev.sy.ckOpen = false ∧ s.dev.mayFall 1
      s.dev.now = true) ∧
    (∃ (s : State), s.dev.inRun = true ∧ s.dev.sy.takeover = false ∧ s.dev.sy.ckOpen = false ∧ s.dev.mayFall 1 s.dev.now =
      true) ∧
    (∃ (s : State), s.dev.sy.power = .liner ∧ s.dev.sy.takeover = false ∧ s.dev.sy.pieceQ = [] ∧ s.dev.sy.cframe.last = s.dev.now ∧ s.dev.mayFall 2
      s.dev.now = true) ∧
    (∃ (l : Fin 3) (s : State), 64 ≤ (s.dev.sy.level l).lagRun) ∧
    (∃ (s : State), s.dev.sy.power = .limp ∧ s.dev.sy.limpCause &&& 7#4 = 0) ∧
    (∃ (b : Fin 4) (m : Fin 16) (s : State), (s.dev.pw.map.busE b).enable = true ∧ s.dev.classC = true ∧
      s.dev.sy.pframe.lag = 0 ∧ s.dev.ln.chn.role = 0 ∧ (s.dev.busOf b).capRun = none ∧ ((∀ t, (s.dev.busOf b).capAt = some t →
      t + 86400000000000 ≤ s.dev.now)) ∧ s.dev.capFits b m = true) ∧
    (∃ (s : State), s.dev.sy.ckOpen = true ∧ s.dev.sy.noSup = false ∧ s.dev.sy.holdOn = false ∧ s.dev.sy.actDue = none ∧
      s.dev.sy.sleepNext = false ∧ s.dev.ln.hb.wait = none) ∧
    (∃ (s : State), s.dev.sy.ckOpen = true ∧ s.dev.sy.noSup = false ∧ s.dev.sy.holdOn = false ∧ s.dev.sy.actDue = none ∧
      s.dev.sy.sleepNext = true) :=
  ⟨⟨1000, (wst id), by decide +kernel⟩,
   ⟨{ dev := { sy := { time := { now := 10000000 } } } }, by decide +kernel⟩,
   ⟨(wst fun d => d.onSy fun y => { y with time := { y.time with now := 10000000 } }), by decide +kernel⟩,
   ⟨{ dev := { sy := { time := { now := 1000000000 }, cframe := { last := 1000000000 } } } }, by decide +kernel⟩,
   ⟨0, (wst fun d => d.onSy fun y => { y with tick := { y.tick with lagRun := 64 } }), by decide +kernel⟩,
   ⟨(wst fun d => d.onSy fun y => { y with power := .limp }), by decide +kernel⟩,
   ⟨0, 0, (wst fun d => d.modMit 0 fun x => { x with st := .run, lim := 8 }),
     by and_intros <;> decide +kernel⟩,
   ⟨(wst fun d => d.onSy fun y => { y with ckOpen := true }), by decide +kernel⟩,
   ⟨(wst fun d => d.onSy fun y => { y with ckOpen := true, sleepNext := true }), by decide +kernel⟩⟩

/-- Every premise of `Obligations.LevelGrid` can hold. -/
theorem wit_LevelGrid :
    (∃ (d : Dev) (l : Nat), l ≤ 2 ∧ (l = 0 → d.sy.gridNew = false)) ∧
    (∃ (d : Dev) (l : Nat), l ≤ 2 ∧ d.ln.chn.role = 0 ∧ d.ln.chn.syncLock = false ∧ d.sy.gridNew = false ∧ (d.sy.level l).episode = false ∧ (d.sy.level
      l).epoch + ((d.sy.level l).count + 1) * levelPeriod l + 2 * levelPeriod l < (d.now : Int)) :=
  ⟨⟨tDev, 2, by decide +kernel⟩,
   ⟨(tDev.onSy (fun y => { y with gridNew := false, time := { y.time with now := 30001 } })), 0, by decide +kernel⟩⟩

/-- Every premise of `Obligations.PhaseRows` can hold. -/
theorem wit_PhaseRows :
    (∃ (p : Fin 64) (m : Nat) (x : Phase) (s : State), s.dev.pw.ph[p.val]? = some x ∧ x.st = .active ∧ s.dev.pw.map.mitOf p
      = some m ∧ s.dev.leadOf m ≠ some p.val ∧ (s.dev.mitten m).dir = .none) ∧
    (∃ (p : Fin 64) (at' : TripAt) (s : State), (s.dev.phase p).st ≠ .unpowered ∧ (s.dev.phase p).trip = false ∧ s.dev.sy.liner.drives p = false ∧
      ((at'.negative = false ∨ ∃ m, s.dev.pw.map.mitOf p = some m ∧ ((s.dev.mitE m).topo = 3 ∨ (s.dev.mitE m).topo = 4))) ∧
      (s.dev.phase p).regs.prot.toNat % 256 ≤ at'.edge ∧ ((s.dev.phase p).mark = false ∨ max ((s.dev.phase
      p).regs.prot.toNat % 256) 80 ≤ at'.cycle)) ∧
    (∃ (p : Fin 64) (s : State), (s.dev.phase p).st = .active ∧ (s.dev.phase p).ocPersist ≤ (s.dev.phase p).ocRun + (if
      (s.dev.phase p).trip then 1 else 0)) ∧
    (∃ (p : Fin 64) (s : State), ((s.dev.phase p).st = .active ∨ (s.dev.phase p).st = .shed) ∧ s.dev.pw.quadOn.getD (p.val /
      4) false = true) ∧
    (∃ (p : Fin 64) (s : State), (s.dev.phase p).st = .gauntlet ∧ s.dev.pw.quadOn.getD (p.val / 4) false = true) ∧
    (∃ (p : Fin 64) (s : State), (4 ≤ p.val ∨ s.dev.sy.liner.st = .off) ∧ s.dev.pw.quadOn.getD (p.val / 4) false = true ∧
      ((s.dev.phase p).st = .idle ∧ (s.dev.phase p).idledAt ≠ some s.dev.sy.tick.count ∨ (s.dev.phase p).st = .faulted ∨
      (s.dev.phase p).st = .retired)) ∧
    (∃ (p : Fin 64) (s : State), p.val < 4 ∧ s.dev.sy.liner.st ≠ .off ∧ (s.dev.phase p).st = .idle ∧ s.dev.pw.quadOn.getD
      (p.val / 4) false = true ∧ (s.dev.phase p).idledAt ≠ some s.dev.sy.tick.count) ∧
    (∃ (p : Fin 64) (s : State), ((s.dev.phase p).st = .active ∨ (s.dev.phase p).st = .shed) ∧ 16 ≤ (s.dev.phase p).senseRun
      + (if (s.dev.phase p).badCyc then 1 else 0) ∧ ((∀ m, s.dev.pw.map.mitOf p = some m → (s.dev.mitE m).fsbb = false))) ∧
    (∃ (p : Fin 64) (at' : TripAt) (s : State), ((at'.negative = true ∧ (∀ m, s.dev.pw.map.mitOf p = some m → (s.dev.mitE
      m).topo ≠ 3 ∧ (s.dev.mitE m).topo ≠ 4) ∨ at'.edge < (s.dev.phase p).regs.prot.toNat % 256))) ∧
    (∃ (p : Fin 64) (s : State), s.dev.pw.quadOn.getD (p.val / 4) false = false) ∧
    (∃ (q : Fin 16) (s : State), s.dev.pw.quadOn.getD q false = true) ∧
    (∃ (q : Fin 16) (s : State), ((∀ p, 4 * q.val ≤ p → p < 4 * q.val + 4 → (s.dev.phase p).st ≠ .faulted))) ∧
    (∃ (q : Fin 16) (s : State), s.dev.pw.quadOn.getD q false = true ∧ ((∀ m, (s.dev.mitten m).gnt = none))) ∧
    (∃ (p : Fin 64) (s : State), (s.dev.phase p).st = .faulted ∧ (s.dev.phase p).rejoin = true ∧ (s.dev.phase p).lad.spent
      s.dev.now = false) ∧
    (∃ (p : Fin 64) (ma : Nat) (m : Nat) (s : State), (s.dev.phase p).st = .faulted ∧ (s.dev.phase p).rejoin = true ∧
      s.dev.pw.quadBad.getD (p.val / 4) false = false ∧ s.dev.pw.map.mitOf p = some m ∧ (ma : Int) < s.dev.mp m 16 ∧
      (s.dev.mitE m).fsbb = false) :=
  ⟨⟨1, 0, { st := .active }, (wst fun d => (d.modPh 0 fun x => { x with st := .active }).modPh 1 fun _ => { st := .active }),
     by decide +kernel⟩,
   ⟨4, { negative := true, cycle := 100, edge := 100 }, (wst fun d => d.modPh 4 fun x => { x with st := .active }),
     by decide +kernel⟩,
   ⟨0, (wst fun d => d.modPh 0 fun x => { x with st := .active, ocRun := 16 }), by decide +kernel⟩,
   ⟨63, (wst fun d => (d.modPh 63 fun x => { x with st := .shed }).onPw fun p =>
     { p with quadOn := List.replicate 16 true }), by decide +kernel⟩,
   ⟨0, (wst fun d => (d.modPh 0 fun x => { x with st := .gauntlet }).onPw fun p =>
     { p with quadOn := List.replicate 16 true }), by decide +kernel⟩,
   ⟨4, (wst fun d => (d.modPh 4 fun x => { x with st := .idle }).onPw fun p =>
     { p with quadOn := List.replicate 16 true }), by decide +kernel⟩,
   ⟨3, (wst fun d => ((d.modPh 3 fun x => { x with st := .idle }).modLiner fun l => { l with st := .running }).onPw fun p
     => { p with quadOn := List.replicate 16 true }), by decide +kernel⟩,
   ⟨63, (wst fun d => d.modPh 63 fun x => { x with st := .active, senseRun := 15, badCyc := true }), by decide +kernel⟩,
   ⟨0, { negative := true, cycle := 100, edge := 100 }, (wst fun d => d.modPh 0 fun x => { x with st := .active }),
     by decide +kernel⟩,
   ⟨63, (wst fun d => d.modPh 63 fun x => { x with st := .retired }), by decide +kernel⟩,
   ⟨0, (wst fun d => d.onPw fun p => { p with quadOn := true :: p.quadOn }), by decide +kernel⟩,
   ⟨15, (wst id), by decide +kernel⟩,
   ⟨0, (wst fun d => d.onPw fun p => { p with quadOn := true :: p.quadOn }),
     by and_intros <;> first | decide +kernel | exact tDev_gnt⟩,
   ⟨0, (wst fun d => d.modPh 0 fun x => { x with st := .faulted, rejoin := true, flt := true }), by decide +kernel⟩,
   ⟨0, 0, 0, (wst fun d => d.modPh 0 fun x => { x with st := .faulted, rejoin := true }), by decide +kernel⟩⟩

/-- Every premise of `Obligations.UrgentSamples` can hold. -/
theorem wit_UrgentSamples :
    (∃ (p : Fin 64) (t : Fin 4) (s : State), ((s.dev.phase p).st = .active ∨ (s.dev.phase p).st = .gauntlet) ∧ ((s.dev.phase
      p).trigger t).1 ≠ 0 ∧ (s.dev.phase p).fires t = false) ∧
    (∃ (p : Fin 64) (t : Fin 4) (clk : Nat) (v : MUnit) (s : State), ((s.dev.phase p).st = .active ∨ (s.dev.phase p).st =
      .gauntlet) ∧ ((s.dev.phase p).trigger t).1 ≠ 0 ∧ (s.dev.phase p).fires t = true ∧ (s.dev.unit (p.val / 4)).corr ≠ .off
      ∧ (s.dev.unit (p.val / 4)).request (Urgent.mk p.val ((s.dev.phase p).trigSample + 16) clk t.val) = some v) ∧
    (∃ (p : Fin 64) (t : Fin 4) (clk : Nat) (s : State), ((s.dev.phase p).st = .active ∨ (s.dev.phase p).st = .gauntlet) ∧
      ((s.dev.phase p).trigger t).1 ≠ 0 ∧ (s.dev.phase p).fires t = true ∧ ((s.dev.unit (p.val / 4)).corr = .off ∨
      (s.dev.unit (p.val / 4)).request (Urgent.mk p.val ((s.dev.phase p).trigSample + 16) clk t.val) = none)) ∧
    (∃ (u : MUnit), u.plan = [] ∧ u.corrDue = none ∧ u.queue = []) ∧
    (∃ (u : MUnit) (r : Urgent), 4 ≤ (u.advance r.at0).queue.length) ∧
    (∃ (p : Fin 64) (code : Int) (x : Phase) (u : MUnit) (late trig : Nat) (s : State), s.dev.pw.ph[p.val]? = some x ∧
      s.dev.ms.mu[p.val / 4]? = some u ∧ (u.urg.find? fun q => q.1 == p.val) = some (p.val, late, trig) ∧ ((∀ m,
      s.dev.pw.map.mitOf p = some m → (s.dev.mitE m).fsbb = false)) ∧ -8192 ≤ code ∧ code ≤ 8191) :=
  ⟨⟨63, 0, (wst fun d => d.modPh 63 fun x => { x with st := .active }), by decide +kernel⟩,
   ⟨0, 0, 100,
     { corr := .converged, slices := [{ use := .urgent 0, start := 100, till := 124 }, {}, {}, {}], urg := [(0, 0, 0)] },
     (wst fun d => (d.modPh 0 fun x => { x with st := .gauntlet }).modMu 0 fun u => { u with corr := .converged }),
     by decide +kernel⟩,
   ⟨0, 0, 100, (wst fun d => d.modPh 0 fun x => { x with st := .gauntlet }), by decide +kernel⟩,
   ⟨{ slices := [{ use := .window, start := 50, till := 200 }, { use := .urgent 3, start := 90, till := 150 }, { till := 180 }, { till := 170 }] },
     by decide +kernel⟩,
   ⟨{ slices := [{ use := .urgent 0, till := 900 }, { use := .urgent 1, till := 900 }, { use := .urgent 2, till := 900 }, { use := .urgent 3, till := 900 }], queue := [{ ph := 0, dur := 20, at0 := 90 }, { ph := 1, dur := 20, at0 := 91 }, { ph := 2, dur := 20, at0 := 92 }, { ph := 3, dur := 20, at0 := 93 }] },
     { ph := 0, dur := 20, at0 := 100 }, by decide +kernel⟩,
   ⟨0, 8191, { st := .active }, { urg := [(0, 0, 1)] }, 0, 1, (wst fun d => (d.modPh 0 fun _ => { st := .active }).modMu 0 fun _
     => { urg := [(0, 0, 1)] }), by decide +kernel⟩⟩

/-- Every premise of `Obligations.PhaseTransient` can hold. -/
theorem wit_PhaseTransient :
    ∃ (d : Dev) (p : Nat) (x : Phase), d.pw.ph[p]? = some x :=
  ⟨tDev, 0, {}, by decide +kernel⟩

/-- Every premise of `Obligations.GauntletsAndMittens` can hold. -/
theorem wit_GauntletsAndMittens :
    (∃ (m : Fin 16) (g : Gauntlet) (s : State), (s.dev.mitten m).gnt = some g ∧ g.step = 0 ∧ ((∀ p ∈ g.members, (s.dev.phase
      p).calOk = true)) ∧ ((∀ p ∈ s.dev.inGauntlet g, s.dev.testable m p = true))) ∧
    (∃ (m : Fin 16) (g : Gauntlet) (s : State), (s.dev.mitten m).gnt = some g ∧ g.step = 1 ∧ ((∀ p ∈ s.dev.inGauntlet g,
      s.dev.testable m p = true))) ∧
    (∃ (m : Fin 16) (g : Gauntlet) (o : GntObs) (i : Nat) (p : Nat) (s : State), (s.dev.mitten m).gnt = some g ∧ g.step = i
      + 2 ∧ g.members[i]? = some p ∧ o.fltAt = none ∧ (((s.dev.phase p).st = .gauntlet → s.dev.testable m p = true))) ∧
    (∃ (m : Fin 16) (g : Gauntlet) (o : GntObs) (i : Nat) (p : Nat) (w : Nat) (s : State), (s.dev.mitten m).gnt = some g ∧
      g.step = i + 2 ∧ g.members[i]? = some p ∧ g.members.Nodup ∧ o.fltAt = some w ∧ (s.dev.phase p).st = .gauntlet ∧
      s.dev.testable m p = true ∧ (w : Int) ≤ s.dev.mp m 17 + 100) ∧
    (∃ (m : Fin 16) (g : Gauntlet) (o : GntObs) (i : Nat) (p : Nat) (w : Nat) (s : State), (s.dev.mitten m).gnt = some g ∧
      g.step = i + 2 ∧ g.members[i]? = some p ∧ g.members.Nodup ∧ o.fltAt = some w ∧ (s.dev.phase p).st = .gauntlet ∧
      s.dev.testable m p = true ∧ s.dev.mp m 17 + 100 < (w : Int)) ∧
    (∃ (m : Fin 16) (g : Gauntlet) (s : State), (s.dev.mitten m).gnt = some g ∧ g.members.length + 2 ≤ g.step ∧ g.join =
      false ∧ g.test = false ∧ (s.dev.mitE m).fsbb = false ∧ ((∀ p ∈ g.members, (s.dev.phase p).st = .gauntlet ∧
      (s.dev.phase p).gntPass = true)) ∧ s.dev.mp m 18 ≤ (g.members.length : Int)) ∧
    (∃ (m : Fin 16) (g : Gauntlet) (s : State), (s.dev.mitten m).gnt = some g ∧ g.members.length + 2 ≤ g.step ∧ g.join =
      false ∧ g.test = false ∧ g.retry = false ∧ ((∀ p ∈ g.members, (s.dev.phase p).st ≠ .gauntlet)) ∧ 0 < s.dev.mp m 18) ∧
    (∃ (m : Fin 16) (g : Gauntlet) (s : State), (s.dev.mitten m).gnt = some g ∧ g.join = false ∧ s.dev.supplied m = false) ∧
    (∃ (m : Fin 16) (s : State), (s.dev.mitten m).st = .softstart ∧ s.dev.rampDone m = true) ∧
    (∃ (p : Fin 64) (ma : Nat) (m : Nat) (s : State), s.dev.pw.map.mitOf p = some m ∧ (s.dev.mitten m).st = .standby ∧
      (s.dev.phase p).st = .active ∧ s.dev.mp m 16 ≤ (ma : Int)) ∧
    (∃ (m : Fin 16) (s : State), (s.dev.mitten m).st = .run ∧ 10 * s.dev.endV (s.dev.outNode m) < (s.dev.mitten m).vSet) ∧
    (∃ (m : Fin 16) (s : State), (s.dev.mitten m).looping = true ∧ s.dev.nMax (s.dev.outNode m) < s.dev.endV (s.dev.outNode
      m)) ∧
    (∃ (m : Fin 16) (s : State) (t : _), (s.dev.mitten m).looping = true ∧ s.dev.stageT m = some t ∧ s.dev.mp m 15 + 500 <
      t) ∧
    (∃ (m : Fin 16) (s : State), (s.dev.mitten m).looping = true ∧ (s.dev.mitten m).st = .run ∧ (s.dev.nActive m : Int) <
      s.dev.mp m 18) ∧
    (∃ (m : Fin 16) (s : State), (s.dev.mitE m).used = true ∧ s.dev.remote m = true ∧ 2 ≤ (s.dev.mitten m).noSet) :=
  ⟨⟨0, { members := [0, 1] }, (wst fun d => (((d.modMit 0 fun x =>
     { x with st := .gauntlet, gnt := some { members := [0, 1] } }).modTap 0 fun x => { x with value := 12000 }).modPh 0
     fun x => { x with st := .gauntlet, calOk := true }).modPh 1 fun x => { x with st := .gauntlet, calOk := true }),
     by decide +kernel⟩,
   ⟨0, { step := 1, members := [0] }, (wst fun d => ((d.modMit 0 fun x =>
     { x with st := .gauntlet, gnt := some { step := 1, members := [0] } }).modTap 0 fun x =>
     { x with value := 12000 }).modPh 0 fun x => { x with st := .gauntlet }), by decide +kernel⟩,
   ⟨0, { step := 2, members := [0] }, tObs, 0, 0, (wst fun d => ((d.modMit 0 fun x =>
     { x with st := .gauntlet, gnt := some { step := 2, members := [0] } }).modTap 0 fun x =>
     { x with value := 12000 }).modPh 0 fun x => { x with st := .gauntlet }), by decide +kernel⟩,
   ⟨0, { step := 2, members := [0] }, { tObs with fltAt := some 100 }, 0, 0, 100, (wst fun d => ((d.modMit 0 fun x =>
     { x with st := .gauntlet, gnt := some { step := 2, members := [0] } }).modTap 0 fun x =>
     { x with value := 12000 }).modPh 0 fun x => { x with st := .gauntlet }), by decide +kernel⟩,
   ⟨0, { step := 2, members := [0] }, { tObs with fltAt := some 100000 }, 0, 0, 100000, (wst fun d => ((d.modMit 0 fun x
     => { x with st := .gauntlet, gnt := some { step := 2, members := [0] } }).modTap 0 fun x =>
     { x with value := 12000 }).modPh 0 fun x => { x with st := .gauntlet }), by decide +kernel⟩,
   ⟨0, { step := 3, members := [0] }, (wst fun d => (d.modMit 0 fun x =>
     { x with st := .gauntlet, gnt := some { step := 3, members := [0] } }).modPh 0 fun x =>
     { x with st := .gauntlet, gntPass := true }), by decide +kernel⟩,
   ⟨0, { step := 3, members := [0] }, (wst fun d => d.modMit 0 fun x =>
     { x with st := .gauntlet, gnt := some { step := 3, members := [0] } }), by decide +kernel⟩,
   ⟨0, { members := [0] }, (wst fun d => d.modMit 0 fun x => { x with st := .gauntlet, gnt := some { members := [0] } }),
     by decide +kernel⟩,
   ⟨0, (wst fun d => d.modMit 0 fun x => { x with st := .softstart }), by decide +kernel⟩,
   ⟨0, 5000, 0, (wst fun d => (d.modMit 0 fun x => { x with st := .standby }).modPh 0 fun x => { x with st := .active }),
     by decide +kernel⟩,
   ⟨0, (wst fun d => d.modMit 0 fun x => { x with st := .run, vSet := 12000 }), by decide +kernel⟩,
   ⟨0, (wst fun d => (d.modMit 0 fun x => { x with st := .run }).modTap 24 fun x => { x with value := 14001 }),
     by decide +kernel⟩,
   ⟨0, (wst (fun d => (d.modMit 0 fun x => { x with st := .run, cfg := [(13, 31)] }).modTap 111 fun x =>
     { x with value := 11501 })), 11501, by decide +kernel⟩,
   ⟨0, (wst fun d => d.modMit 0 fun x => { x with st := .run }), by decide +kernel⟩,
   ⟨2, (wst fun d => (tShared d).modMit 2 fun x => { x with noSet := 2 }), by decide +kernel⟩⟩

/-- Every premise of `Obligations.MittenFaultReaction` can hold. -/
theorem wit_MittenFaultReaction :
    ∃ (d : Dev) (m : Nat) (ev : Nat) (x : Mitten), d.pw.mit[m]? = some x ∧ ((∀ k, (d.source k).lend = none)) ∧ d.sy.power =
      .run ∧ d.sy.order = none ∧ d.sy.sleepNext = false ∧ (ev = evMittenShort ∨ ev = evMittenOvervoltage ∨ ev =
      evMittenOvertemp ∨ ev = evMittenUnderstaffed) :=
  ⟨tDev, 0, evMittenShort, {}, by and_intros <;> first | decide +kernel | exact tDev_lend⟩

/-- Every premise of `Obligations.SourceRows` can hold. -/
theorem wit_SourceRows :
    (∃ (k : Fin 12) (s : State), (s.dev.source k).st = .qualifying ∧ s.dev.sp k 1 ≤ s.dev.nodeV (.src k) ∧ s.dev.nodeV (.src
      k) ≤ s.dev.sp k 2) ∧
    (∃ (k : Fin 12) (s : State), s.dev.nodeV (.src k) < s.dev.sp k 1 - s.dev.sp k 3 ∧ (s.dev.source k).st = .selected ∧ 0 <
      s.dev.sp k 6) ∧
    (∃ (k : Fin 12) (s : State), s.dev.nodeV (.src k) < s.dev.sp k 1 - s.dev.sp k 3 ∧ ((s.dev.source k).st = .selected ∧
      s.dev.sp k 6 ≤ 0 ∨ (s.dev.source k).st = .available)) ∧
    (∃ (k : Fin 12) (s : State), (s.dev.source k).st = .rideThrough) ∧
    (∃ (k : Fin 12) (s : State), 0 < s.dev.sp k 5 ∧ 10 ≤ (s.dev.source k).ripBad) ∧
    (∃ (k : Fin 12) (s : State), (s.dev.source k).st = .holdoff ∧ s.dev.nodeV (.src k) < (s.dev.source k).rxMin) ∧
    (∃ (k : Nat) (x : Source) (d : Dev), d.pw.src[k]? = some x ∧ x.st = .available) ∧
    (∃ (k : Fin 12) (s : State), s.dev.overHigh k = true ∧ (s.dev.source k).st ≠ .disabled ∧ (s.dev.source k).st ≠ .retired
      ∧ (s.dev.source k).st ≠ .faulted ∧ (s.dev.srcE k).type ≠ 3) ∧
    (∃ (k : Fin 12) (s : State), s.dev.overHigh k = true ∧ (s.dev.source k).st ≠ .disabled ∧ (s.dev.source k).st ≠ .retired
      ∧ (s.dev.source k).st ≠ .faulted ∧ (s.dev.srcE k).type = 3 ∧ (s.dev.source k).surge = false) ∧
    (∃ (k : Fin 12) (s : State), s.dev.overHigh k = true ∧ (s.dev.source k).st ≠ .disabled ∧ (s.dev.source k).st ≠ .retired
      ∧ (s.dev.source k).st ≠ .faulted ∧ (s.dev.source k).surge = true) ∧
    (∃ (k : Fin 12) (s : State), (s.dev.source k).st ≠ .disabled ∧ (s.dev.source k).st ≠ .retired ∧ (s.dev.source k).st ≠
      .faulted ∧ 110 * s.dev.sp k 7 < 100 * s.dev.nodeI (.src k)) ∧
    (∃ (k : Fin 12) (s : State), (s.dev.source k).st ≠ .disabled ∧ (s.dev.source k).st ≠ .retired ∧ (s.dev.source k).st ≠
      .faulted ∧ (s.dev.switch k).mode = .on ∧ (s.dev.source k).st ≠ .lending ∧ s.dev.nodeI (.src k) < -((s.dev.srcE k).irev
      : Int)) ∧
    (∃ (k : Fin 12) (s : State), (s.dev.source k).st ≠ .disabled ∧ (s.dev.source k).st ≠ .retired ∧ (s.dev.source k).st ≠
      .faulted ∧ (16 ≤ (s.dev.ms.tap.getD (2 * k) {}).bad ∨ 16 ≤ (s.dev.ms.tap.getD (2 * k) {}).stale ∨ 16 ≤
      (s.dev.ms.tap.getD (2 * k + 1) {}).bad ∨ 16 ≤ (s.dev.ms.tap.getD (2 * k + 1) {}).stale)) ∧
    (∃ (k : Fin 12) (s : State), (s.dev.source k).st ≠ .disabled ∧ (s.dev.source k).st ≠ .retired ∧ (s.dev.source k).st ≠
      .faulted ∧ (s.dev.source k).st ≠ .lending ∧ s.dev.srcLeak k = true) :=
  ⟨⟨0, (wst fun d => (d.modSrc 0 fun x => { x with st := .qualifying }).modTap 0 fun x => { x with value := 12000 }),
     by decide +kernel⟩,
   ⟨0, (wst fun d => d.modSrc 0 fun x => { x with st := .selected, cfg := [(6, 20)] }), by decide +kernel⟩,
   ⟨0, (wst fun d => d.modSrc 0 fun x => { x with st := .available }), by decide +kernel⟩,
   ⟨11, (wst fun d => d.modSrc 11 fun x => { x with st := .rideThrough }), by decide +kernel⟩,
   ⟨0, (wst fun d => d.modSrc 0 fun x => { x with st := .available, cfg := [(5, 100)], ripBad := 10 }), by decide +kernel⟩,
   ⟨11, (wst fun d => d.modSrc 11 fun x => { x with st := .holdoff, rxMin := 1 }), by decide +kernel⟩,
   ⟨0, { st := .available }, (tDev.modSrc 0 fun _ => { st := .available }), by decide +kernel⟩,
   ⟨0, (wst fun d => (d.modSrc 0 fun x => { x with st := .selected }).modTap 0 fun x => { x with value := 50000 }),
     by decide +kernel⟩,
   ⟨1, (wst fun d => (d.modSrc 1 fun x => { x with st := .selected }).modTap 2 fun x => { x with value := 50000 }),
     by decide +kernel⟩,
   ⟨1, (wst fun d => (d.modSrc 1 fun x => { x with st := .selected, surge := true }).modTap 2 fun x =>
     { x with value := 50000 }), by decide +kernel⟩,
   ⟨0, (wst fun d => (d.modSrc 0 fun x => { x with st := .selected }).modTap 1 fun x => { x with value := 11001 }),
     by decide +kernel⟩,
   ⟨0, (wst fun d => ((d.modSrc 0 fun x => { x with st := .selected }).modSw 0 fun w => { w with mode := .on }).modTap 1
     fun x => { x with value := -201 }), by decide +kernel⟩,
   ⟨11, (wst fun d => (d.modSrc 11 fun x => { x with st := .absent }).modTap 23 fun x => { x with bad := 16 }),
     by decide +kernel⟩,
   ⟨0, (wst fun d => (d.modSrc 0 fun x => { x with st := .absent }).modTap 1 fun x => { x with value := 201 }),
     by decide +kernel⟩⟩

/-- Every premise of `Obligations.PortRows` can hold. -/
theorem wit_PortRows :
    (∃ (p : Fin 28) (s : State), (s.dev.switch p).mode = .idealDiode) ∧
    (∃ (k : Fin 12) (s : State), (s.dev.pw.map.portE k).type ≠ 0 ∧ (s.dev.pw.map.portE k).place = 1 ∧ (s.dev.switch k).mode
      = .on ∧ (s.dev.source k).st = .selected ∧ (s.dev.pw.map.portE k).vClose < (s.dev.nodeV (.src k) - s.dev.nodeV (.bus
      (s.dev.pw.map.portE k).tieBus)).natAbs ∧ (s.dev.nodeI (.src k)).natAbs < (s.dev.pw.map.portE k).irev) ∧
    (∃ (k : Fin 16) (s : State), (s.dev.pw.map.portE (12 + k)).type ≠ 0 ∧ (s.dev.pw.map.portE (12 + k)).place = 1 ∧
      (s.dev.switch (12 + k)).mode = .on ∧ (s.dev.string k).st = .running ∧ (s.dev.pw.map.portE (12 + k)).vClose <
      (s.dev.nodeV (.str k) - s.dev.nodeV (.bus (s.dev.pw.map.portE (12 + k)).tieBus)).natAbs ∧ (s.dev.nodeI (.str
      k)).natAbs < (s.dev.pw.map.portE (12 + k)).irev) ∧
    (∃ (k : Fin 12) (s : State), (s.dev.source k).pendClose = true ∧ (s.dev.source k).st = .selected ∧ (s.dev.switch k).disc
      = false ∧ (s.dev.switch k).hold = false ∧ (s.dev.switch k).openFlt = false ∧ (s.dev.srcE k).allows .on = true ∧ ((∀ i
      ∈ s.dev.pw.map.group k, i = k.val ∨ (s.dev.switch i).mode = .off ∧ (s.dev.switch i).offTick < s.dev.sy.tick.count)) ∧
      (s.dev.switch k).mode = .off ∧ (s.dev.switch k).blocked = false ∧ s.dev.mayClose k = true ∧ k.val <
      s.dev.pw.sw.length) ∧
    (∃ (k : Fin 12) (s : State), (s.dev.source k).pendClose = true ∧ (s.dev.source k).st = .selected ∧ (s.dev.switch k).disc
      = false ∧ (s.dev.switch k).hold = false ∧ (s.dev.switch k).openFlt = false ∧ (s.dev.srcE k).allows .on = true ∧ ((∀ i
      ∈ s.dev.pw.map.group k, i = k.val ∨ (s.dev.switch i).mode = .off ∧ (s.dev.switch i).offTick < s.dev.sy.tick.count)) ∧
      (s.dev.switch k).mode = .off ∧ (s.dev.switch k).blocked = false ∧ s.dev.mayClose k = false) ∧
    (∃ (k : Fin 12) (i : Int) (s : State), (s.dev.srcE k).type = 4 ∧ (s.dev.source k).st = .selected ∧ (s.dev.source k).scan
      = none ∧ (s.dev.source k).iMpp = some i ∧ s.dev.rationed k = true) ∧
    (∃ (k : Fin 12) (s : State), (s.dev.srcE k).type = 4 ∧ (s.dev.source k).st = .selected ∧ (s.dev.source k).scan = none ∧
      (s.dev.source k).scanAt = none) ∧
    (∃ (k : Fin 12) (c : Scan) (i : Int) (s : State), (s.dev.source k).scan = some c ∧ (s.dev.source k).iMpp = some i ∧ 0 <
      c.step ∧ c.step + 1 < 20 ∧ s.dev.sp k 9 ≤ s.dev.nodeV (.src k)) ∧
    (∃ (k : Fin 12) (c : Scan) (i : Int) (s : State), (s.dev.source k).scan = some c ∧ (s.dev.source k).iMpp = some i ∧ 0 <
      c.step ∧ (19 ≤ c.step ∨ s.dev.nodeV (.src k) < s.dev.sp k 9)) ∧
    (∃ (k : Fin 12) (s : State), (s.dev.source k).wanted = false) ∧
    (∃ (k : Fin 12) (a : Nat) (b : Nat) (s : State), (s.dev.srcE k).type = 4 ∧ (s.dev.source k).st = .selected ∧
      (s.dev.source k).scan = none ∧ (s.dev.source k).scanAt = some a ∧ (s.dev.source k).entAt = some b ∧ 0 < s.dev.sp k 33
      ∧ a + s.dev.sp k 33 * 60000000000 ≤ s.dev.now ∧ s.dev.rationedFrame k = true) ∧
    (∃ (k : Fin 12) (r : LendEnd) (l : Lend) (s : State), (s.dev.source k).lend = some l ∧ s.dev.lendEnds k l r = true) ∧
    (∃ (k : Nat) (l : Lend) (x : Source) (d : Dev), d.pw.src[k]? = some x ∧ x.lend = some l ∧ x.st = .lending) ∧
    (∃ (m : Fin 16) (s : State), (s.dev.mitten m).dSupp = true ∧ 10 ≤ (s.dev.mitten m).zeroFrames) ∧
    (∃ (j : Fin 4) (s : State), (s.dev.pw.map.busE j).enable = true ∧ s.dev.nodeV (.bus j) ≤ s.dev.nMin (.bus j)) :=
  ⟨⟨27, (wst fun d => d.modSw 27 fun w => { w with mode := .idealDiode }), by decide +kernel⟩,
   ⟨3, (wst fun d => ((d.modSrc 3 fun x => { x with st := .selected }).modSw 3 fun w => { w with mode := .on }).modTap 24
     fun x => { x with value := 501 }), by decide +kernel⟩,
   ⟨0, (wst fun d => ((d.modStr 0 fun x => { x with st := .running }).modSw 12 fun w => { w with mode := .on }).modTap 24
     fun x => { x with value := 501 }), by decide +kernel⟩,
   ⟨0, (wst fun d => d.modSrc 0 fun x => { x with st := .selected, pendClose := true }), by decide +kernel⟩,
   ⟨0, (wst fun d => (d.modSrc 0 fun x => { x with st := .selected, pendClose := true }).modMit 0 fun x =>
     { x with st := .run }), by decide +kernel⟩,
   ⟨2, 100, (wst fun d => (d.modSrc 2 fun x => { x with st := .selected, iMpp := some 100 }).modMit 4 fun x =>
     { x with st := .run, rationWhole := true }), by decide +kernel⟩,
   ⟨2, (wst fun d => d.modSrc 2 fun x => { x with st := .selected }), by decide +kernel⟩,
   ⟨2, { step := 18 }, 100, (wst fun d => (d.modSrc 2 fun x =>
     { x with st := .selected, iMpp := some 100, scan := some { step := 18 } }).modTap 4 fun x =>
     { x with value := 16000 }), by decide +kernel⟩,
   ⟨2, { step := 19 }, 100, (wst fun d => d.modSrc 2 fun x =>
     { x with st := .selected, iMpp := some 100, scan := some { step := 19 } }), by decide +kernel⟩,
   ⟨0, (wst id), by decide +kernel⟩,
   ⟨2, 0, 0, (wst fun d => ((d.modSrc 2 fun x =>
     { x with st := .selected, scanAt := some 0, entAt := some 0, cfg := [(33, 1)] }).modMit 4 fun x =>
     { x with st := .run, rationFrame := true }).onSy fun y => { y with time := { y.time with now := 60000000000 } }),
     by decide +kernel⟩,
   ⟨4, .time, { mit := 3, tLend := 10 }, (wst fun d => (d.modSrc 4 fun x =>
     { x with st := .lending, lend := some { mit := 3, tLend := 10 } }).onSy fun y =>
     { y with time := { y.time with now := 10000000000 } }), by decide +kernel⟩,
   ⟨4, { mit := 3 }, { st := .lending, lend := some { mit := 3 } }, (tDev.modSrc 4 fun _ =>
     { st := .lending, lend := some { mit := 3 } }), by decide +kernel⟩,
   ⟨1, (wst fun d => d.modMit 1 fun x => { x with dSupp := true, zeroFrames := 10 }), by decide +kernel⟩,
   ⟨0, (wst id), by decide +kernel⟩⟩

/-- Every premise of `Obligations.StringRows` can hold. -/
theorem wit_StringRows :
    (∃ (k : Fin 16) (s : State), (s.dev.string k).st ≠ .disabled ∧ (s.dev.string k).st ≠ .absent ∧ (s.dev.string k).st ≠
      .retired ∧ (s.dev.switch (12 + k)).mode = .off ∧ s.dev.nodeV (.str k) < s.dev.absentLevel k ∧ ((∀ i, (s.dev.source
      i).lend = none))) ∧
    (∃ (k : Fin 16) (s : State), (s.dev.string k).st = .absent ∧ s.dev.absentLevel k < s.dev.nodeV (.str k) ∧ s.dev.stp k 2
      = 0) ∧
    (∃ (k : Fin 16) (s : State), ((s.dev.string k).st = .running ∨ (s.dev.string k).st = .paused ∨ (s.dev.string k).st =
      .stopped ∨ (s.dev.string k).st = .lent) ∧ s.dev.nodeV (.str k) < (s.dev.strE k).cells * s.dev.stp k 4 ∧
      (s.dev.switch (12 + k)).hold = false) ∧
    (∃ (k : Fin 16) (p : Program) (s : State), (s.dev.string k).st = .precharge ∧ 1000 ≤ (s.dev.string k).preOk ∧
      (s.dev.string k).prog = some p ∧ (s.dev.string k).progNew = false ∧ (s.dev.switch (12 + k)).hold = false ∧ ((∀ q ∈ p.steps, q.type ≠ 1))) ∧
    (∃ (k : Fin 16) (s : State), (s.dev.string k).st = .precharge ∧ s.dev.stp k 7 * 60000000000 ≤ ((s.dev.string k).preNs :
      Int)) ∧
    (∃ (k : Fin 16) (s : State), (s.dev.string k).st = .absent ∧ s.dev.absentLevel k < s.dev.nodeV (.str k) ∧ s.dev.stp k 2
      = 1 ∧ (s.dev.inRun = true ∨ s.dev.sy.power = .sleep)) ∧
    (∃ (k : Fin 16) (s : State), (s.dev.switch (12 + k)).hold = true) ∧
    (∃ (k : Fin 16) (p : Program) (q : Step) (i : Nat) (c : ExitCond) (s : State), (s.dev.string k).st = .running ∧
      (s.dev.switch (12 + k)).hold = false ∧ (s.dev.string k).cur = some (p, q) ∧ s.dev.sy.power = .run ∧ firstReached q
      (s.dev.string k).cnt = some (i, c) ∧ (¬ (c.code = 1 ∧ (q.type = 4 ∨ q.type = 5))) ∧ c.next < 16) ∧
    (∃ (k : Fin 16) (p : Program) (q : Step) (i : Nat) (c : ExitCond) (s : State), (s.dev.string k).st = .running ∧
      (s.dev.switch (12 + k)).hold = false ∧ (s.dev.string k).cur = some (p, q) ∧ s.dev.sy.power = .run ∧ firstReached q
      (s.dev.string k).cnt = some (i, c) ∧ (¬ (c.code = 1 ∧ (q.type = 4 ∨ q.type = 5))) ∧ c.next = 0xFE) ∧
    (∃ (k : Fin 16) (p : Program) (q : Step) (i : Nat) (c : ExitCond) (s : State), (s.dev.string k).st = .running ∧
      (s.dev.switch (12 + k)).hold = false ∧ (s.dev.string k).cur = some (p, q) ∧ s.dev.sy.power = .run ∧ firstReached q
      (s.dev.string k).cnt = some (i, c) ∧ (¬ (c.code = 1 ∧ (q.type = 4 ∨ q.type = 5))) ∧ c.next = 0xFF ∧ q.type ≠ 1) ∧
    (∃ (k : Fin 16) (p : Program) (q : Step) (s : State), (s.dev.string k).st = .running ∧ s.dev.stepNow k = some (p, q) ∧
      s.dev.tied k q = true ∧ (s.dev.string k).tieRearm = false ∧ (s.dev.string k).iCeil < s.dev.nodeI (.str k)) ∧
    (∃ (k : Fin 16) (s : State), (s.dev.string k).st = .paused ∧ (s.dev.string k).pTemp = false ∧ (s.dev.string k).pNoPath =
      false ∧ (s.dev.string k).pSupp = false ∧ (s.dev.string k).packBad = false ∧ (s.dev.switch (12 + k)).disc = false ∧
      (s.dev.switch (12 + k)).hold = false) ∧
    (∃ (k : Fin 16) (s : State), (s.dev.string k).st = .paused ∧ ((s.dev.string k).pTemp = true ∨ (s.dev.string k).pNoPath =
      true ∨ (s.dev.string k).pSupp = true) ∧ (s.dev.string k).packBad = false ∧ (s.dev.switch (12 + k)).disc = false ∧
      (s.dev.switch (12 + k)).hold = false) :=
  ⟨⟨0, (wst fun d => d.modStr 0 fun x => { x with st := .running }),
     by and_intros <;> first | decide +kernel | exact tDev_lend⟩,
   ⟨0, (wst fun d => (d.modStr 0 fun x => { x with st := .absent, cfg := [(2, 0)] }).modTap 32 fun x =>
     { x with value := 12000 }), by decide +kernel⟩,
   ⟨0, (wst fun d => d.modStr 0 fun x => { x with st := .running }), by decide +kernel⟩,
   ⟨0, { steps := [{ type := 2 }] }, (wst fun d => d.modStr 0 fun x =>
     { x with st := .precharge, preOk := 1000, prog := some { steps := [{ type := 2 }] } }), by decide +kernel⟩,
   ⟨15, (wst fun d => d.modStr 15 fun x => { x with st := .precharge, preNs := 100000000000000 }), by decide +kernel⟩,
   ⟨0, (wst fun d => (d.modStr 0 fun x => { x with st := .absent, cfg := [(2, 1)] }).modTap 32 fun x =>
     { x with value := 12000 }), by decide +kernel⟩,
   ⟨0, (wst fun d => d.modSw 12 fun w => { w with hold := true }), by decide +kernel⟩,
   ⟨0, (tProg 0), (tStep 0), 0, (tExit 0), (wst fun d => d.modStr 0 fun x =>
     { x with st := .running, prog := some (tProg 0), cnt := [1, 0, 0, 0] }), by decide +kernel⟩,
   ⟨0, (tProg 0xFE), (tStep 0xFE), 0, (tExit 0xFE), (wst fun d => d.modStr 0 fun x =>
     { x with st := .running, prog := some (tProg 0xFE), cnt := [1, 0, 0, 0] }), by decide +kernel⟩,
   ⟨0, (tProg 0xFF), (tStep 0xFF), 0, (tExit 0xFF), (wst fun d => d.modStr 0 fun x =>
     { x with st := .running, prog := some (tProg 0xFF), cnt := [1, 0, 0, 0] }), by decide +kernel⟩,
   ⟨0, (tProg 0), (tStep 0), (wst fun d => (d.modStr 0 fun x =>
     { x with st := .running, cfg := [(10, 1)], prog := some (tProg 0), iCeil := 10 }).modTap 33 fun x =>
     { x with value := 11 }), by decide +kernel⟩,
   ⟨0, (wst fun d => d.modStr 0 fun x => { x with st := .paused, pHost := true }), by decide +kernel⟩,
   ⟨0, (wst fun d => d.modStr 0 fun x => { x with st := .paused, pHost := true, pTemp := true }), by decide +kernel⟩⟩

/-- Every premise of `Obligations.StringMonitors` can hold. -/
theorem wit_StringMonitors :
    (∃ (k : Fin 16) (b : List Byte) (s : State), s.dev.stp k 12 ≠ 0 ∧ 16 ≤ b.length ∧ (s.dev.string k).st ≠ .disabled ∧
      (crc16 (b.take 14)).toNat = leAt b 14 2 ∧ (s.dev.string k).pmSeq ≠ some (byteAt b 13)) ∧
    (∃ (k : Fin 16) (b : List Byte) (s : State), (s.dev.stp k 12 = 0 ∨ (s.dev.string k).st = .disabled ∨ b.length < 16 ∨
      (crc16 (b.take 14)).toNat ≠ leAt b 14 2 ∨ (s.dev.string k).pmSeq = some (byteAt b 13))) ∧
    (∃ (k : Fin 16) (s : State), s.dev.stp k 12 ≠ 0 ∧ ((s.dev.string k).st = .running ∨ (s.dev.string k).st = .paused) ∧
      (s.dev.switch (12 + k)).hold = false) ∧
    (∃ (k : Fin 16) (s : State), s.dev.stp k 12 ≠ 0 ∧ (s.dev.string k).st ≠ .disabled ∧ ((s.dev.string k).st ≠ .running ∧
      (s.dev.string k).st ≠ .paused ∨ (s.dev.switch (12 + k)).hold = true)) ∧
    (∃ (k : Fin 16) (s : State), (s.dev.stp k 12 = 0 ∨ (s.dev.string k).st = .disabled)) ∧
    (∃ (k : Fin 16) (r : PmRec) (s : State), (s.dev.string k).pm = some r ∧ r.dsgLim ≠ 0xFFFF ∧ (s.dev.strE k).place = 1 ∧
      (s.dev.switch (12 + k)).mode ≠ .off ∧ 100 * (r.dsgLim : Int) < s.dev.tieOut (.str k) (-s.dev.nodeI (.str k))) ∧
    (∃ (k : Fin 16) (s : State), ((s.dev.strE k).place ≠ 1 ∨ (s.dev.switch (12 + k)).mode = .off ∨ ∀ r,
      (s.dev.string k).pm = some r → r.dsgLim = 0xFFFF ∨ s.dev.tieOut (.str k) (-s.dev.nodeI (.str k)) ≤ 100 * (r.dsgLim : Int))) ∧
    (∃ (d : Dev) (k : Nat), d.pw.map.mitsOn (.str k) = []) ∧
    (∃ (k : Fin 16) (s : State), (s.dev.string k).st ≠ .disabled ∧ (s.dev.string k).st ≠ .absent ∧ (s.dev.string k).st ≠
      .retired ∧ (s.dev.string k).st ≠ .faulted ∧ s.dev.nMax (.str k) < s.dev.nodeV (.str k)) ∧
    (∃ (k : Fin 16) (s : State), (s.dev.string k).st ≠ .disabled ∧ (s.dev.string k).st ≠ .absent ∧ (s.dev.string k).st ≠
      .retired ∧ (s.dev.string k).st ≠ .faulted ∧ pctOf 110 (s.dev.strE k).iRated < ((s.dev.nodeI (.str k)).natAbs : Int)) ∧
    (∃ (k : Fin 16) (s : State), (s.dev.string k).st ≠ .disabled ∧ (s.dev.string k).st ≠ .absent ∧ (s.dev.string k).st ≠
      .retired ∧ (s.dev.string k).st ≠ .faulted ∧ s.dev.tChgHi k + 1000 < s.dev.strT k) ∧
    (∃ (k : Fin 16) (s : State), (s.dev.string k).st ≠ .disabled ∧ (s.dev.string k).st ≠ .absent ∧ (s.dev.string k).st ≠
      .retired ∧ (s.dev.string k).st ≠ .faulted ∧ (16 ≤ (s.dev.ms.tap.getD (32 + 3 * k) {}).bad ∨ 16 ≤ (s.dev.ms.tap.getD
      (32 + 3 * k) {}).stale)) ∧
    (∃ (k : Fin 16) (s : State), (s.dev.string k).st ≠ .disabled ∧ (s.dev.string k).st ≠ .absent ∧ (s.dev.string k).st ≠
      .retired ∧ (s.dev.string k).st ≠ .faulted ∧ (16 ≤ (s.dev.ms.tap.getD (33 + 3 * k) {}).bad ∨ 16 ≤ (s.dev.ms.tap.getD
      (33 + 3 * k) {}).stale)) ∧
    (∃ (k : Fin 16) (s : State), (s.dev.string k).st = .faulted ∧ s.dev.nMax (.str k) < s.dev.nodeV (.str k)) ∧
    (∃ (k : Fin 16) (s : State), (s.dev.string k).st = .faulted ∧ pctOf 110 (s.dev.strE k).iRated < ((s.dev.nodeI (.str
      k)).natAbs : Int)) ∧
    (∃ (k : Fin 16) (s : State), (s.dev.string k).st = .faulted ∧ s.dev.tChgHi k + 1000 < s.dev.strT k) ∧
    (∃ (k : Nat) (x : Str) (d : Dev), d.pw.str[k]? = some x ∧ x.lad.spent d.now = false ∧ ((∀ i, (d.source i).lend = none))) ∧
    (∃ (k : Fin 16) (s : State), (s.dev.string k).st ≠ .disabled ∧ (s.dev.string k).st ≠ .retired ∧ (s.dev.string k).tFault
      = false ∧ (s.dev.strT k < -5000 ∨ 15000 < s.dev.strT k) ∧ (s.dev.string k).lad.spent s.dev.now = false) ∧
    (∃ (k : Fin 16) (s : State), (s.dev.string k).st ≠ .disabled ∧ (s.dev.switch (12 + k)).mode = .off ∧ ((∀ m ∈
      s.dev.pw.map.mitsAt (12 + k), (s.dev.mitten m).quiet = true)) ∧ pctOf 2 (s.dev.strE k).iRated < ((s.dev.nodeI (.str
      k)).natAbs : Int)) :=
  ⟨⟨0, tPm, (wst fun d => d.modStr 0 fun x => { x with st := .running, cfg := [(12, 1), (17, 4000)] }), by decide +kernel⟩,
   ⟨15, [1, 2, 3], (wst id), by decide +kernel⟩,
   ⟨0, (wst fun d => d.modStr 0 fun x => { x with st := .running, cfg := [(12, 6)] }), by decide +kernel⟩,
   ⟨0, (wst fun d => d.modStr 0 fun x => { x with st := .stopped, cfg := [(12, 6)] }), by decide +kernel⟩,
   ⟨15, (wst id), by decide +kernel⟩,
   ⟨0, { dsgLim := 10 }, (wst fun d => ((d.modStr 0 fun x => { x with pm := some { dsgLim := 10 } }).modTap 33 fun x =>
     { x with value := -1001 }).modSw 12 fun w => { w with mode := .on }), by decide +kernel⟩,
   ⟨0, (wst fun d => (d.modStr 0 fun x => { x with pm := some { dsgLim := 10 } }).modTap 33 fun x =>
     { x with value := -1000 }), by decide +kernel⟩,
   ⟨tDev, 15, by decide +kernel⟩,
   ⟨0, (wst fun d => (d.modStr 0 fun x => { x with st := .running }).modTap 32 fun x => { x with value := 17001 }),
     by decide +kernel⟩,
   ⟨0, (wst fun d => (d.modStr 0 fun x => { x with st := .running }).modTap 33 fun x => { x with value := -11001 }),
     by decide +kernel⟩,
   ⟨0, (wst fun d => (d.modStr 0 fun x => { x with st := .running }).modTap 34 fun x => { x with value := 20000 }),
     by decide +kernel⟩,
   ⟨0, (wst fun d => (d.modStr 0 fun x => { x with st := .running }).modTap 32 fun x => { x with bad := 16 }),
     by decide +kernel⟩,
   ⟨0, (wst fun d => (d.modStr 0 fun x => { x with st := .running }).modTap 33 fun x => { x with stale := 16 }),
     by decide +kernel⟩,
   ⟨0, (wst fun d => (d.modStr 0 fun x => { x with st := .faulted }).modTap 32 fun x => { x with value := 17001 }),
     by decide +kernel⟩,
   ⟨0, (wst fun d => (d.modStr 0 fun x => { x with st := .faulted }).modTap 33 fun x => { x with value := 11001 }),
     by decide +kernel⟩,
   ⟨0, (wst fun d => (d.modStr 0 fun x => { x with st := .faulted }).modTap 34 fun x => { x with value := 20000 }),
     by decide +kernel⟩,
   ⟨0, { st := .running }, (tDev.modStr 0 fun _ => { st := .running }),
     by and_intros <;> first | decide +kernel | exact tDev_lend⟩,
   ⟨0, (wst fun d => (d.modStr 0 fun x => { x with st := .running }).modTap 34 fun x => { x with value := -5001 }),
     by decide +kernel⟩,
   ⟨0, (wst fun d => (d.modStr 0 fun x => { x with st := .stopped }).modTap 33 fun x => { x with value := 201 }),
     by decide +kernel⟩⟩

/-- Every premise of `Obligations.OvercurrentOpensTie` can hold. -/
theorem wit_OvercurrentOpensTie :
    ∃ (d : Dev) (k : Nat) (x : Str) (w : Switch), d.pw.str[k]? = some x ∧ d.pw.sw[12 + k]? = some w ∧ w.blocked = false ∧
      x.lad.spent d.now = false ∧ ((∀ i, (d.source i).lend = none)) :=
  ⟨tDev, 0, {}, {}, by and_intros <;> first | decide +kernel | exact tDev_lend⟩

/-- Every premise of `Obligations.UnitPasses` can hold. -/
theorem wit_UnitPasses :
    (∃ (k : Fin 16) (l : List Int) (e : SeqEntry) (s : State), (s.dev.unit k).inPass = true ∧ (s.dev.unit k).works = true ∧
      (s.dev.seqOf k).entries[(s.dev.unit k).entry]? = some e ∧ l.length = 2 ^ e.samples) ∧
    (∃ (k : Fin 16) (l : List Int) (e : SeqEntry) (s : State), (s.dev.unit k).inPass = true ∧ (s.dev.unit k).works = true ∧
      (s.dev.seqOf k).entries[(s.dev.unit k).entry]? = some e ∧ l ≠ [] ∧ l.length ≠ 2 ^ e.samples) ∧
    (∃ (k : Fin 16) (b : Nat) (clk : Nat) (s : State), (s.dev.unit k).works = true ∧ (s.dev.unit k).inPass = false ∧ b ≤ clk
      ∧ s.dev.onPace (s.dev.seqOf k).period (clk - b) = true ∧ (s.dev.unit k).seqNext = none ∧ (s.dev.unit k).leaseDue =
      false ∧ (s.dev.unit k).unleaseDue = false ∧ (s.dev.unit k).syncNow = 0 ∧ ((∀ p ∈ s.dev.ms.accNext, p.1 ≠ k.val)) ∧ ((∀
      p ∈ s.dev.ms.mmxNext, p.1 ≠ k.val)) ∧ ((s.dev.seqOf k).period = 0 ∨ b < (s.dev.seqOf k).period)) ∧
    (∃ (k : Fin 16) (b : Nat) (clk : Nat) (s : State), (s.dev.unit k).works = true ∧ (s.dev.unit k).inPass = false ∧ b ≤ clk
      ∧ s.dev.onPace (s.dev.seqOf k).period (clk - b) = true ∧ (s.dev.seqOf k).period ≠ 0 ∧ (s.dev.seqOf k).period ≤ b ∧
      (s.dev.unit k).noted = false) ∧
    (∃ (k : Fin 16) (c : SliceCoef) (s : State), (s.dev.unit k).works = true ∧ (s.dev.unit k).sliceUp c.slice = true ∧
      (s.dev.unit k).corrRun.contains c.slice.val = true) ∧
    (∃ (k : Fin 16) (s : State), ((s.dev.unit k).corr = .acquiring ∨ (s.dev.unit k).corr = .reacquiring)) ∧
    (∃ (k : Fin 16) (i : Fin 4) (s : State), (s.dev.unit k).corr ≠ .off ∧ (s.dev.unit k).retired = false ∧ (s.dev.unit
      k).sliceUp i = true ∧ (s.dev.unit k).fault = false ∧ (s.dev.ms.imp.getD k {}).run = none ∧ s.dev.ms.cap.getD (k.val /
      2) none = none ∧ (s.dev.unit k).sliceBad i s.dev.now = false) ∧
    (∃ (k : Fin 16) (i : Fin 4) (s : State), (s.dev.unit k).corr ≠ .off ∧ (s.dev.unit k).retired = false ∧ (s.dev.unit
      k).sliceUp i = true ∧ (s.dev.unit k).fault = false ∧ (s.dev.ms.imp.getD k {}).run = none ∧ s.dev.ms.cap.getD (k.val /
      2) none = none ∧ (s.dev.unit k).sliceBad i s.dev.now = true ∧ 3 < (s.dev.unit k).up.length) ∧
    (∃ (k : Fin 16) (i : Fin 4) (s : State), (s.dev.unit k).corr ≠ .off ∧ (s.dev.unit k).retired = false ∧ (s.dev.unit
      k).sliceUp i = true ∧ (s.dev.unit k).fault = false ∧ (s.dev.ms.imp.getD k {}).run = none ∧ s.dev.ms.cap.getD (k.val /
      2) none = none ∧ (s.dev.unit k).sliceBad i s.dev.now = true ∧ (s.dev.unit k).up.length ≤ 3) ∧
    (∃ (k : Fin 16) (stall : Bool) (s : State), (s.dev.unit k).corr ≠ .off ∧ (s.dev.unit k).retired = false ∧ (stall = true
      ∨ 10 ≤ (s.dev.unit k).devRun ∨ 10 ≤ (s.dev.unit k).in12Run)) ∧
    (∃ (k : Fin 16) (stall : Bool) (s : State), (s.dev.unit k).corr ≠ .off ∧ (s.dev.unit k).retired = false ∧ stall = false
      ∧ (s.dev.unit k).devRun < 10 ∧ (s.dev.unit k).in12Run < 10) :=
  ⟨⟨0, [100], { input := 1 }, (tVisit { input := 1 }), by decide +kernel⟩,
   ⟨0, [100], { input := 1, samples := 15 }, (tVisit { input := 1, samples := 15 }), by decide +kernel⟩,
   ⟨0, 999, 999, (wst fun d => d.modMu 0 fun u =>
     { u with corr := .converged, seq := some { period := 1000, entries := [{}] }, active := true }), by decide +kernel⟩,
   ⟨0, 1000, 1000, (wst fun d => d.modMu 0 fun u =>
     { u with corr := .converged, seq := some { period := 1000, entries := [{}] }, active := true }), by decide +kernel⟩,
   ⟨15, { slice := 3, offset := 1, gain := 2, skew := 3, devPpm := 4, in12 := 5 }, (wst fun d => d.modMu 15 fun u =>
     { u with corr := .acquiring, corrRun := [3] }), by decide +kernel⟩,
   ⟨15, (wst fun d => d.modMu 15 fun u => { u with corr := .reacquiring }), by decide +kernel⟩,
   ⟨0, 3, (wst fun d => d.modMu 0 fun u => { u with corr := .converged }), by decide +kernel⟩,
   ⟨15, 0, (wst fun d => d.modMu 15 fun u =>
     { u with corr := .converged, coefs := [(65, 0, 0), (0, 0, 0), (0, 0, 0), (0, 0, 0)] }), by decide +kernel⟩,
   ⟨15, 1, (wst fun d => d.modMu 15 fun u =>
     { u with corr := .degraded, sliceOk := [false, true, true, true], coefs := [(0, 0, 0), (0, 2001, 0), (0, 0, 0), (0, 0, 0)] }),
     by decide +kernel⟩,
   ⟨15, false, (wst fun d => d.modMu 15 fun u => { u with corr := .converged, devRun := 10 }), by decide +kernel⟩,
   ⟨15, false, (wst fun d => d.modMu 15 fun u => { u with corr := .converged, devRun := 9, in12Run := 9 }),
     by decide +kernel⟩⟩

/-- Every premise of `Obligations.ReferenceAndPairs` can hold. -/
theorem wit_ReferenceAndPairs :
    (∃ (i : Fin 112) (s : State), i.val < 24 ∧ 16 ≤ (s.dev.ms.tap.getD i {}).stale) ∧
    (∃ (j : Fin 8) (c : Capture) (s : State), s.dev.ms.cap[j.val]? = some (some c) ∧ 1000 ≤ c.idle) ∧
    (∃ (j : Fin 8) (c : Capture) (at0 : Nat) (s : State), s.dev.ms.cap[j.val]? = some (some c) ∧ c.tickDone = false ∧
      s.dev.triggerAt c at0 ≠ none ∧ c.taken + 1 < c.rep) ∧
    (∃ (j : Fin 8) (c : Capture) (at0 : Nat) (s : State), s.dev.ms.cap[j.val]? = some (some c) ∧ s.dev.triggerAt c at0 = none) ∧
    (∃ (s : State), s.dev.ms.ref.bufEn = true ∧ s.dev.ms.ref.settled = false ∧ s.dev.ms.ref.dev.natAbs ≤ 1000) ∧
    (∃ (s : State), s.dev.ms.ref.bufEn = true ∧ s.dev.ms.ref.settled = false) ∧
    (∃ (s : State), 10 ≤ s.dev.ms.ref.over5) ∧
    (∃ (s : State), 10 ≤ s.dev.ms.ref.over20 ∧ s.dev.ms.ref.fault = false) :=
  ⟨⟨23, (wst fun d => d.modTap 23 fun x => { x with stale := 16 }), by decide +kernel⟩,
   ⟨7, { idle := 1000 }, (wst fun d => d.onMs fun m => { m with cap := List.replicate 8 (some { idle := 1000 }) }),
     by decide +kernel⟩,
   ⟨0, { taken := 998 }, 0, (wst fun d => d.onMs fun m => { m with cap := [some { taken := 998 }] }), by decide +kernel⟩,
   ⟨0, { trigPhase := 0 }, 0, (wst fun d => d.onMs fun m => { m with cap := [some { trigPhase := 0 }] }), by decide +kernel⟩,
   ⟨(wst fun d => d.modRef fun r => { r with bufEn := true, dev := -1000 }), by decide +kernel⟩,
   ⟨(wst fun d => d.modRef fun r => { r with bufEn := true }), by decide +kernel⟩,
   ⟨(wst fun d => d.modRef fun r => { r with over5 := 10 }), by decide +kernel⟩,
   ⟨(wst fun d => d.modRef fun r => { r with over20 := 10 }), by decide +kernel⟩⟩

/-- Every premise of `Obligations.ImpedanceRows` can hold. -/
theorem wit_ImpedanceRows :
    (∃ (k : Fin 16) (r : ImpRun) (q : Step) (m : Nat) (s : State), (s.dev.ms.imp.getD k {}).run = some r ∧ r.running = false
      ∧ s.dev.impStep k = some q ∧ (s.dev.string k).chgMit = some m ∧ r.freqs = [] ∧
      (s.dev.baseSeq k).takesLeases = true) ∧
    (∃ (k : Fin 16) (r : ImpRun) (s : State), (s.dev.ms.imp.getD k {}).run = some r ∧ r.running = false ∧
      (s.dev.baseSeq k).takesLeases = false) ∧
    (∃ (k : Fin 16) (r : ImpRun) (q : Step) (m : Nat) (f : ImpFreq) (l : List ImpFreq) (s : State), s.dev.ms.imp[k.val]?.map
      (·.run) = some (some r) ∧ r.running = false ∧ s.dev.impStep k = some q ∧ (s.dev.string k).chgMit = some m ∧ r.freqs =
      f :: l ∧ (s.dev.baseSeq k).takesLeases = true) ∧
    (∃ (k : Fin 16) (r : ImpRun) (s : State), (s.dev.ms.imp.getD k {}).run = some r ∧ r.running = true ∧ r.measure = false) ∧
    (∃ (k : Fin 16) (r : ImpRun) (f : ImpFreq) (s : State), (s.dev.ms.imp.getD k {}).run = some r ∧ r.running = true ∧
      r.measure = true ∧ r.freqs[r.point]? = some f ∧ r.point + 1 < r.freqs.length) ∧
    (∃ (k : Fin 16) (r : ImpRun) (s : State), (s.dev.ms.imp.getD k {}).ended = some r ∧ r.rep ≠ 0 ∧ s.dev.impRefusal k
      r.ampl r.accBase r.freqs = none ∧ s.dev.ringPermits r.ring k = true) ∧
    (∃ (k : Fin 16) (r : ImpRun) (s : State), (s.dev.ms.imp.getD k {}).ended = some r ∧ s.dev.ringPermits r.ring k = false) :=
  ⟨⟨0, {}, (tStep 0), 1, (tImp {}), by decide +kernel⟩,
   ⟨0, {}, (wst fun d => ((tImpDev d).modImp 0 fun i => { i with run := some {} }).modMu 0 fun u =>
     { u with seq := some { entries := List.replicate 15 {} } }), by decide +kernel⟩,
   ⟨0, { freqs := [tFreq] }, (tStep 0), 1, tFreq, [], (tImp { freqs := [tFreq] }), by decide +kernel⟩,
   ⟨0, { freqs := [tFreq], running := true }, (tImp { freqs := [tFreq], running := true }), by decide +kernel⟩,
   ⟨0, { freqs := [tFreq, tFreq], running := true, measure := true }, tFreq, (tImp
     { freqs := [tFreq, tFreq], running := true, measure := true }), by decide +kernel⟩,
   ⟨0, { freqs := [tFreq], rep := 1, ring := 1 }, tImpEnded, by decide +kernel⟩,
   ⟨0, { freqs := [tFreq], rep := 1, ring := 2 }, (wst fun d => (tImpDev d).modImp 0 fun i =>
     { i with ended := some { freqs := [tFreq], rep := 1, ring := 2 } }), by decide +kernel⟩⟩

/-- Every premise of `Obligations.AccumulatorSums` can hold. -/
theorem wit_AccumulatorSums :
    ∃ (a : Acc), (a.cfg.mode = .sum ∨ a.cfg.mode = .sumsq) ∧ a.full = false ∧ a.cfg.periods = 0 :=
  ⟨{}, by decide +kernel⟩

/-- Every premise of `Obligations.TrackerExtremes` can hold. -/
theorem wit_TrackerExtremes :
    ∃ (l : List (Int × Nat)) (x : Mmx), l ≠ [] ∧ x.min = 0x7FFFFFFF ∧ x.max = -0x80000000 ∧ x.count = 0 ∧ ((∀ p ∈ l,
      -0x80000000 < p.1 ∧ p.1 < 0x7FFFFFFF)) ∧ l.length < 0xFFFFFFFF :=
  ⟨[(5, 1), (-7, 2)], {}, by decide +kernel⟩

/-- Every premise of `Obligations.HostInterface` can hold. -/
theorem wit_HostInterface :
    (∃ (c : Instr) (s : State), s.dev.qspiMode = false ∧ (c = .functionLevelReset ∨ c = .busMasterEnableClear ∨ c =
      .pcieConventionalReset)) ∧
    (∃ (s : State), s.dev.qspiMode = false ∧ s.dev.ho.hif.pba = 0) ∧
    (∃ (v : Fin 64) (s : State), s.dev.qspiMode = false ∧ s.dev.inRun = true ∧ s.dev.ho.hif.pba.getLsbD v = true ∧
      s.dev.ho.hif.vecMask.getLsbD v = false) ∧
    (∃ (v : Word) (s : State), v.toNat < 4 ∧ v.getLsbD 0 = true ∧ s.dev.ho.hif.enable = false ∧ s.dev.windowUp = true ∧
      s.dev.ho.hif.ring0.badPlace s.dev.qspiMode = false) ∧
    (∃ (v : Word) (s : State), v.toNat < 4 ∧ v.getLsbD 0 = true ∧ s.dev.ho.hif.enable = false ∧ s.dev.ho.hif.ring0.badPlace
      s.dev.qspiMode = true) ∧
    (∃ (v : Word) (s : State), v.toNat < 4 ∧ v.getLsbD 0 = false ∧ s.dev.ho.hif.enable = true ∧ s.dev.windowUp = true) ∧
    (∃ (s : State), s.dev.windowUp = false) :=
  ⟨⟨.functionLevelReset, (wst id), by decide +kernel⟩,
   ⟨(wst id), by decide +kernel⟩,
   ⟨63, (wst fun d => d.modHif fun h => { h with pba := 0x8000000000000000, vecMask := 0 }), by decide +kernel⟩,
   ⟨3, (wst id), by decide +kernel⟩,
   ⟨1, (wst fun d => d.modHif fun h => { h with asqLo := 1 }), by decide +kernel⟩,
   ⟨2, (wst fun d => d.modHif fun h => { h with enable := true }), by decide +kernel⟩,
   ⟨(wst fun d => d.onSy fun y => { y with power := .deep }), by decide +kernel⟩⟩

/-- Every premise of `Obligations.Doorbells` can hold. -/
theorem wit_Doorbells :
    (∃ (r : Fin 1024) (n : Nat) (g : Ring) (s : State) (i : _), s.dev.inRun = true ∧ s.dev.sy.order = none ∧
      s.dev.sy.sleepNext = false ∧ look r.val s.dev.ho.rings = some g ∧ (g.st = .active ∨ g.st = .error) ∧ (n = 8 ∨ n = 4) ∧
      i < g.sqLen ∧ i < 4096) ∧
    (∃ (r : Fin 1024) (n : Nat) (g : Ring) (s : State) (h : _), s.dev.inRun = true ∧ s.dev.sy.order = none ∧
      s.dev.sy.sleepNext = false ∧ look r.val s.dev.ho.rings = some g ∧ (g.st = .active ∨ g.st = .error) ∧ (n = 8 ∨ n = 4) ∧
      h < g.cqLen ∧ h < 4096 ∧ g.released h ≤ g.unrel) ∧
    (∃ (r : Fin 1024) (n : Nat) (g : Ring) (s : State) (h : _), s.dev.inRun = true ∧ s.dev.sy.order = none ∧
      s.dev.sy.sleepNext = false ∧ look r.val s.dev.ho.rings = some g ∧ (g.st = .active ∨ g.st = .error) ∧ (n = 8 ∨ n = 4) ∧
      h < 4096 ∧ g.cqLen ≤ h) ∧
    (∃ (r : Fin 1024) (n : Nat) (g : Ring) (s : State), s.dev.inRun = true ∧ s.dev.sy.order = none ∧ s.dev.sy.sleepNext =
      false ∧ look r.val s.dev.ho.rings = some g ∧ (g.st = .active ∨ g.st = .error) ∧ (n = 8 ∨ n = 4)) :=
  ⟨⟨1, 8, tRing, tRun, 63, by decide +kernel⟩,
   ⟨1, 8, { tRing with unrel := 1 }, (tRing1 fun g => { g with unrel := 1 }), 1, by decide +kernel⟩,
   ⟨1, 4, tRing, tRun, 64, by decide +kernel⟩,
   ⟨1023, 4, tRing, (wst fun d => d.setRing 1023 tRing), by decide +kernel⟩⟩

/-- Every premise of `Obligations.DescriptorAdmission` can hold. -/
theorem wit_DescriptorAdmission :
    (∃ (r : Fin 1024) (tag : Tag) (g : Ring) (s : State), s.dev.tagOf tag = none ∧ look r.val s.dev.ho.rings = some g ∧
      s.dev.mayAdmit r = false) ∧
    (∃ (r : Fin 1024) (tag : Tag) (g : Ring) (s : State), s.dev.tagOf tag = none ∧ look r.val s.dev.ho.rings = some g ∧
      s.dev.mayAdmit r = true) :=
  ⟨⟨1, 4095, { tRing with sqTail := 0 }, (tRing1 fun g => { g with sqTail := 0 }), by decide +kernel⟩,
   ⟨1, 4095, { tRing with sqTail := 1 }, (tRing1 fun g => { g with sqTail := 1 }), by decide +kernel⟩⟩

/-- Every premise of `Obligations.RingEngine` can hold. -/
theorem wit_RingEngine :
    (∃ (r : Fin 1024) (s : State), (s.dev.ring r).st = .active) ∧
    (∃ (tag : Tag) (x : TagRec) (s : State), s.dev.tagOf tag = some x ∧ x.st = .due ∧ x.drop = true) ∧
    (∃ (tag : Tag) (x : TagRec) (s : State), s.dev.tagOf tag = some x ∧ x.st = .due ∧ x.drop = false ∧ s.dev.linkUp = true ∧
      s.dev.waitsFor x = false) ∧
    (∃ (r : Fin 1024) (waited : Bool) (s : State), (s.dev.ring r).st ≠ .none ∧ (s.dev.ring r).arm = true ∧ 0 < (s.dev.ring
      r).unrel ∧ (s.dev.ring r).vector < 64 ∧ s.dev.linkUp = true ∧ (waited = true ∨ (s.dev.ring r).coalT = 0 ∨ (s.dev.ring r).coalN ≤ (s.dev.ring
      r).unrel)) ∧
    (∃ (r : Fin 1024) (waited : Bool) (s : State), (s.dev.ring r).st ≠ .none ∧ (s.dev.ring r).arm = true ∧ 0 < (s.dev.ring
      r).unrel ∧ (s.dev.ring r).vector < 64 ∧ s.dev.linkUp = true ∧ waited = false ∧ (s.dev.ring r).coalT ≠ 0 ∧ (s.dev.ring r).unrel < (s.dev.ring
      r).coalN) ∧
    (∃ (r : Fin 1024) (g : Ring) (s : State), look r.val s.dev.ho.rings = some g ∧ g.st ≠ .none ∧ g.lost ≠ 0 ∧
      s.dev.sy.holdOn = false ∧ s.dev.inFlight r + g.unrel < g.cqLen ∧ s.dev.linkUp = true ∧
      g.evWait = []) ∧
    (∃ (r : Fin 1024) (tag : Nat) (s : State), s.dev.inFlight r = 0 ∧ (s.dev.ring r).st = .deleting ∧ (s.dev.ring
      r).deleteTag = some tag ∧ (s.dev.ring r).resetTag = none) ∧
    (∃ (r : Fin 1024) (tag : Nat) (s : State), s.dev.inFlight r = 0 ∧ (s.dev.ring r).st = .error ∧ (s.dev.ring r).resetTag =
      some tag) :=
  ⟨⟨1, tRun, by decide +kernel⟩,
   ⟨1, { tDue with drop := true }, (tTag { tDue with drop := true }), by decide +kernel⟩,
   ⟨1, tDue, (tTag tDue), by decide +kernel⟩,
   ⟨1, true, (tRing1 fun g => { g with unrel := 1, coalT := 5, coalN := 2 }), by decide +kernel⟩,
   ⟨1, false, (tRing1 fun g => { g with unrel := 1, coalT := 5, coalN := 2 }), by decide +kernel⟩,
   ⟨1, { tRing with lost := 1 }, (tRing1 fun g => { g with lost := 1 }), by decide +kernel⟩,
   ⟨1, 7, (tRing1 fun g => { g with st := .deleting, deleteTag := some 7 }), by decide +kernel⟩,
   ⟨1, 7, (tRing1 fun g => { g with st := .error, resetTag := some 7 }), by decide +kernel⟩⟩

/-- Every premise of `Obligations.CompletionEntry` can hold. -/
theorem wit_CompletionEntry :
    ∃ (tag : Tag) (x : TagRec) (g : Ring) (s : State), s.dev.qspiMode = true ∧ s.dev.tagOf tag = some x ∧ x.st = .due ∧
      x.drop = false ∧ x.resp = [] ∧ s.dev.linkUp = true ∧ s.dev.waitsFor x = false ∧ look x.ring s.dev.ho.rings = some g ∧
      g.st = .active ∧ g.cqTail < g.cqLen ∧ g.cqBase + 16 * g.cqLen ≤ 262144 ∧ byteAt x.desc 0 ≠ opRingModify ∧ byteAt
      x.desc 0 ≠ opEventSubscribe :=
  ⟨1, tDue, { tRing with cqTail := 63 }, (tQspi fun d => (d.onHo fun h => { h with tags := [tDue] }).setRing 1
    { tRing with cqTail := 63 }), by decide +kernel⟩

/-- Every premise of `Obligations.QuadSpiWindow` can hold. -/
theorem wit_QuadSpiWindow :
    (∃ (a : BitVec 24) (b : List Byte) (s : State), s.dev.qspiMode = true ∧ s.dev.windowUp = true ∧ 0x40000 ≤ a.toNat ∧
      a.toNat + b.length ≤ 0x80000) ∧
    (∃ (a : BitVec 24) (n : Nat) (s : State), s.dev.qspiMode = true ∧ s.dev.windowUp = true ∧ 0x40000 ≤ a.toNat ∧ a.toNat +
      n ≤ 0x80000) ∧
    (∃ (s : State), s.dev.qspiMode = true ∧ s.dev.windowUp = true) :=
  ⟨⟨0x7FFFF, [7], (tQspi id), by decide +kernel⟩,
   ⟨0x40000, 256, (tQspi id), by decide +kernel⟩,
   ⟨(tQspi id), by decide +kernel⟩⟩

/-- Every premise of `Obligations.QuadSpiReadsBack` can hold. -/
theorem wit_QuadSpiReadsBack :
    ∃ (a : BitVec 24) (b : List Byte) (s : State) (t : State) (u : State), s.dev.qspiMode = true ∧ s.dev.windowUp = true ∧
      winWf s.dev.ho.win = true ∧ 0x40000 ≤ a.toNat ∧ a.toNat + b.length ≤ 0x80000 ∧ exec (.qspiWrite a b false) s = .next t
      ∧ exec (.qspiRead a b.length false) t = .next u :=
  ⟨0x7FFFE, [0, 7], (tQspi id), (ran (.qspiWrite 0x7FFFE [0, 7] false) (tQspi id)), (ran (.qspiRead 0x7FFFE 2 false) (ran
    (.qspiWrite 0x7FFFE [0, 7] false) (tQspi id))), by and_intros <;> first | decide +kernel | rfl⟩

/-- Every premise of `Obligations.AdminCommands` can hold. -/
theorem wit_AdminCommands :
    (∃ (tag : Tag) (x : TagRec) (s : State), s.dev.command tag opRingCreate = some x ∧ 0 < leAt x.desc 32 2 ∧ leAt x.desc 32
      2 < 1024 ∧ look (leAt x.desc 32 2) s.dev.ho.rings = none ∧ byteAt x.desc 59 = 0 ∧ x.payload.length = 16 ∧ badAttr
      x.desc s.dev.qspiMode = none ∧ maskReserved x.payload = none ∧ ((byteAt x.desc 34 = 0 → (s.dev.ho.rings.filter fun q
      => q.2.cls == 0).length < 8))) ∧
    (∃ (tag : Tag) (x : TagRec) (s : State), s.dev.command tag opRingDelete = some x ∧ 0 < leAt x.desc 32 2 ∧ leAt x.desc 32
      2 < 1024 ∧ ((s.dev.ring (leAt x.desc 32 2)).st = .active ∨ (s.dev.ring (leAt x.desc 32 2)).st = .error)) ∧
    (∃ (tag : Tag) (x : TagRec) (s : State), s.dev.command tag opRingReset = some x ∧ leAt x.desc 32 2 < 1024 ∧ (s.dev.ring
      (leAt x.desc 32 2)).st = .error ∧ (s.dev.ring (leAt x.desc 32 2)).resetTag = none) ∧
    (∃ (tag : Tag) (x : TagRec) (s : State), s.dev.command tag opRingModify = some x ∧ 0 < leAt x.desc 32 2 ∧ leAt x.desc 32
      2 < 1024 ∧ ((s.dev.ring (leAt x.desc 32 2)).st = .active ∨ (s.dev.ring (leAt x.desc 32 2)).st = .error) ∧ (s.dev.ring
      (leAt x.desc 32 2)).secure = false ∧ (byteAt x.desc 34).testBit 1 = true ∧ x.payload.length = 16 ∧ badModify
      (s.dev.ring (leAt x.desc 32 2)) x.desc = none ∧ maskReserved x.payload = none) ∧
    (∃ (tag : Tag) (x : TagRec) (s : State) (y : TagRec), s.dev.command tag opAbort = some x ∧ x.ring = 0 ∧
      s.dev.abortTarget (leAt x.desc 32 2) (leAt x.desc 34 2) (leAt x.desc 36 2) = some y ∧ y.tag ≠ tag.val ∧ y.st =
      .admitted ∧ (s.dev.ring (leAt x.desc 32 2)).cls ≠ 0) ∧
    (∃ (tag : Tag) (x : TagRec) (s : State) (cid : BitVec 16), s.dev.command tag opAbort = some x ∧ x.ring = 0 ∧
      s.dev.abortTarget (leAt x.desc 32 2) (leAt x.desc 34 2) (leAt x.desc 36 2) = none ∧
      (s.dev.ring (leAt x.desc 32 2)).posted (leAt x.desc 34 2) = true ∧
      ((s.dev.ring (leAt x.desc 32 2)).st = .active ∨ (s.dev.ring (leAt x.desc 32 2)).st = .error) ∧
      s.dev.postedCid (s.dev.ring (leAt x.desc 32 2)) (leAt x.desc 34 2) cid = leAt x.desc 36 2 ∧
      (s.dev.ring (leAt x.desc 32 2)).cls = 0) ∧
    (∃ (tag : Tag) (x : TagRec) (s : State) (cid : BitVec 16), s.dev.command tag opAbort = some x ∧ x.ring = 0 ∧
      s.dev.abortTarget (leAt x.desc 32 2) (leAt x.desc 34 2) (leAt x.desc 36 2) = none ∧
      (s.dev.ring (leAt x.desc 32 2)).posted (leAt x.desc 34 2) = true ∧
      ((s.dev.ring (leAt x.desc 32 2)).st = .active ∨ (s.dev.ring (leAt x.desc 32 2)).st = .error) ∧
      s.dev.postedCid (s.dev.ring (leAt x.desc 32 2)) (leAt x.desc 34 2) cid = leAt x.desc 36 2 ∧
      (s.dev.ring (leAt x.desc 32 2)).cls ≠ 0) ∧
    (∃ (tag : Tag) (x : TagRec) (s : State), s.dev.command tag opEventSubscribe = some x ∧ x.payload.length = 32) :=
  ⟨⟨1, (cmd opRingCreate dRingCreate (zeros 16)), (cmdSt opRingCreate dRingCreate (zeros 16) id), by decide +kernel⟩,
   ⟨1, (cmd opRingDelete [1] []), (cmdSt opRingDelete [1] [] id), by decide +kernel⟩,
   ⟨1, (cmd opRingReset [2] []), (cmdSt opRingReset [2] [] fun d => d.setRing 2 { st := .error }), by decide +kernel⟩,
   ⟨1, (cmd opRingModify [1, 0, 2] (zeros 16)), (cmdSt opRingModify [1, 0, 2] (zeros 16) id), by decide +kernel⟩,
   ⟨1, { cmd opAbort [2] [] with ring := 0 }, (wst (fun d => ((d.onHo fun h =>
     { h with tags := [{ cmd opAbort [2] [] with ring := 0 }, { tDue with tag := 2, ring := 2, st := .admitted }] }).setRing
     0 tRing).setRing 2 tRing)), { tDue with tag := 2, ring := 2, st := .admitted }, by decide +kernel⟩,
   ⟨1, { cmd opAbort [2] [] with ring := 0 }, (wst (fun d => ((d.onHo fun h =>
     { h with tags := [{ cmd opAbort [2] [] with ring := 0 }] }).setRing 0 tRing).setRing 2 { tRing with cls := 0, sqTail := 1 })),
     0, by decide +kernel⟩,
   ⟨1, { cmd opAbort [2] [] with ring := 0 }, (wst (fun d => ((d.onHo fun h =>
     { h with tags := [{ cmd opAbort [2] [] with ring := 0 }] }).setRing 0 tRing).setRing 2 { tRing with cls := 2, st := .error, sqTail := 1 })),
     0, by decide +kernel⟩,
   ⟨1, (cmd opEventSubscribe [] (zeros 32)), (cmdSt opEventSubscribe [] (zeros 32) id), by decide +kernel⟩⟩

set_option maxRecDepth 100000 in
/-- Every premise of `Obligations.StagingCommands` can hold. -/
theorem wit_StagingCommands :
    (∃ (tag : Tag) (x : TagRec) (s : State), s.dev.command tag opStageBegin = some x ∧ s.dev.pw.stage.st = .none) ∧
    (∃ (tag : Tag) (x : TagRec) (s : State), s.dev.pw.stage.st = .opened ∧ s.dev.pw.stage.owner = x.ring ∧ s.dev.command tag
      opStageCommit = some x ∧ s.dev.pw.stage.empty = false) ∧
    (∃ (tag : Tag) (x : TagRec) (s : State), s.dev.pw.stage.st = .opened ∧ s.dev.pw.stage.owner = x.ring ∧ s.dev.command tag
      opStageAbort = some x ∧ s.dev.pw.stage.begun = false ∧ s.dev.pw.stage.tag = none) ∧
    (∃ (tag : Tag) (x : TagRec) (s : State), s.dev.pw.stage.st = .opened ∧ s.dev.pw.stage.owner = x.ring ∧ s.dev.command tag
      opPathMapLoad = some x) ∧
    (∃ (tag : Tag) (x : TagRec) (s : State) (c : _), s.dev.pw.stage.st = .opened ∧ s.dev.pw.stage.owner = x.ring ∧
      s.dev.command tag opMittenConfig = some x ∧ (s.dev.newMap.mitE (byteAt x.desc 32)).used = true ∧ buildSet (startSet
      (byteAt x.desc 33 == 1) (look (byteAt x.desc 32) s.dev.pw.stage.mitCfg) (s.dev.mitten (byteAt x.desc 32)).cfg)
      x.payload mitIds (mitRange (s.dev.newMap.mitE (byteAt x.desc 32)) (s.dev.nOf (byteAt x.desc 32) (s.dev.newMap.mitE
      (byteAt x.desc 32)))) (mitP (s.dev.newMap.mitE (byteAt x.desc 32)) (s.dev.nOf (byteAt x.desc 32) (s.dev.newMap.mitE
      (byteAt x.desc 32)))) [] (mitExtra s.dev.newMap (s.dev.newMap.mitE (byteAt x.desc 32))) = .ok c) ∧
    (∃ (tag : Tag) (x : TagRec) (s : State) (c : _), s.dev.pw.stage.st = .opened ∧ s.dev.pw.stage.owner = x.ring ∧
      s.dev.command tag opSourceConfig = some x ∧ (s.dev.newMap.srcE (byteAt x.desc 32)).type ≠ 0 ∧ buildSet (startSet
      (byteAt x.desc 33 == 1) (look (byteAt x.desc 32) s.dev.pw.stage.srcCfg) (s.dev.source (byteAt x.desc 32)).cfg)
      x.payload srcIds (srcRange (s.dev.newMap.srcE (byteAt x.desc 32))) (srcP (s.dev.newMap.srcE (byteAt x.desc 32)))
      srcDerived (srcExtra s.dev.ho.glb (s.dev.newMap.senseE (2 * byteAt x.desc 32)) (s.dev.newMap.srcE (byteAt x.desc 32)))
      = .ok c) ∧
    (∃ (tag : Tag) (x : TagRec) (s : State) (c : _), s.dev.pw.stage.st = .opened ∧ s.dev.pw.stage.owner = x.ring ∧
      s.dev.command tag opStringConfig = some x ∧ (s.dev.newMap.strE (byteAt x.desc 32)).type ≠ 0 ∧ buildSet (startSet
      (byteAt x.desc 33 == 1) (look (byteAt x.desc 32) s.dev.pw.stage.strCfg) (s.dev.string (byteAt x.desc 32)).cfg)
      x.payload strIds (strRange (s.dev.newMap.strE (byteAt x.desc 32))) (strP (s.dev.newMap.strE (byteAt x.desc 32)))
      strDerived (fun c => if (s.dev.newMap.strE (byteAt x.desc 32)).chem = 8 ∧ strP (s.dev.newMap.strE (byteAt x.desc 32))
      c 1 = 0 then [[1]] else []) = .ok c) ∧
    (∃ (tag : Tag) (x : TagRec) (s : State), s.dev.pw.stage.st = .opened ∧ s.dev.pw.stage.owner = x.ring ∧ s.dev.command tag
      opStringProgram = some x ∧ (s.dev.newMap.strE (byteAt x.desc 32)).type ≠ 0 ∧ checkProgram x.payload (s.dev.newMap.strE
      (byteAt x.desc 32)) ((s.dev.ring x.ring).nodeMask.getLsbD (32 + byteAt x.desc 32)) = none) ∧
    (∃ (tag : Tag) (x : TagRec) (s : State), s.dev.pw.stage.st = .opened ∧ s.dev.pw.stage.owner = x.ring ∧ s.dev.command tag
      opProfileSet = some x ∧ byteAt x.desc 32 + byteAt x.desc 33 + byteAt x.desc 34 + byteAt x.desc 35 = 100) ∧
    (∃ (tag : Tag) (x : TagRec) (s : State), s.dev.pw.stage.st = .opened ∧ s.dev.pw.stage.owner = x.ring ∧ s.dev.command tag
      opMeasSequence = some x ∧ checkSeq x.payload (s.dev.seqCtx (s.dev.ring x.ring) (byteAt x.payload 2)) = none) ∧
    (∃ (tag : Tag) (x : TagRec) (s : State), s.dev.pw.stage.st = .opened ∧ s.dev.pw.stage.owner = x.ring ∧ s.dev.command tag
      opAccConfig = some x ∧ s.dev.badAcc x.desc = none) ∧
    (∃ (tag : Tag) (x : TagRec) (s : State), s.dev.pw.stage.st = .opened ∧ s.dev.pw.stage.owner = x.ring ∧ s.dev.command tag
      opMmxConfig = some x ∧ byteAt x.desc 34 ≠ 0 ∧ s32At x.desc 36 < s32At x.desc 40 ∧ 0 ≤ s32At x.desc 44 ∧ 2 * s32At
      x.desc 44 ≤ s32At x.desc 40 - s32At x.desc 36) ∧
    (∃ (tag : Tag) (x : TagRec) (s : State), s.dev.pw.stage.st = .opened ∧ s.dev.pw.stage.owner = x.ring ∧ s.dev.command tag
      opMmxConfig = some x ∧ byteAt x.desc 34 = 0) :=
  ⟨⟨1, (cmd opStageBegin [] []), (cmdSt opStageBegin [] [] id), by decide +kernel⟩,
   ⟨1, (cmd opStageCommit [] []), (tStage opStageCommit [] [] fun g => { g with profile := some {} }), by decide +kernel⟩,
   ⟨1, (cmd opStageAbort [] []), (tStage opStageAbort [] [] id), by decide +kernel⟩,
   ⟨1, (cmd opPathMapLoad [] []), (tStage opPathMapLoad [] [] id), by decide +kernel⟩,
   ⟨1, (cmd opMittenConfig [] []), (tStage opMittenConfig [] [] id), [], by decide +kernel⟩,
   ⟨1, (cmd opSourceConfig [] []), (tStage opSourceConfig [] [] id), [], by decide +kernel⟩,
   ⟨1, (cmd opStringConfig [] []), (tStage opStringConfig [] [] id), [], by decide +kernel⟩,
   ⟨1, (cmd opStringProgram [] tProgram), (tStage opStringProgram [] tProgram id), by decide +kernel⟩,
   ⟨1, (cmd opProfileSet [25, 25, 25, 25] []), (tStage opProfileSet [25, 25, 25, 25] [] id), by decide +kernel⟩,
   ⟨1, (cmd opMeasSequence [] tSequence), (tStage opMeasSequence [] tSequence id), by decide +kernel⟩,
   ⟨1, (cmd opAccConfig [0xFF, 1] []), (tStage opAccConfig [0xFF, 1] [] id), by decide +kernel⟩,
   ⟨1, (cmd opMmxConfig [255, 0, 1, 0, 0, 0, 0, 0, 4, 0, 0, 0, 2] []), (tStage opMmxConfig [255, 0, 1, 0, 0, 0, 0, 0, 4,
     0, 0, 0, 2] [] id), by decide +kernel⟩,
   ⟨1, (cmd opMmxConfig [] []), (tStage opMmxConfig [] [] id), by decide +kernel⟩⟩

/-- Every premise of `Obligations.ControlCommands` can hold. -/
theorem wit_ControlCommands :
    (∃ (tag : Tag) (x : TagRec) (k : Nat) (s : State), byteAt x.desc 32 = k ∧ k < 16 ∧ s.dev.command tag opMittenStart =
      some x ∧ (s.dev.mitE k).used = true ∧ (s.dev.mitten k).st = .stopped ∧ (s.dev.mitten k).held = false ∧ (s.dev.mitten
      k).disc = false ∧ s.dev.portRetired k = false ∧ (s.dev.mitten k).mismatch = false) ∧
    (∃ (tag : Tag) (x : TagRec) (k : Nat) (s : State), byteAt x.desc 32 = k ∧ k < 16 ∧ s.dev.command tag opMittenStop = some
      x ∧ (s.dev.mitE k).used = true ∧ (s.dev.mitten k).held = false ∧ (s.dev.mitten k).st ≠ .retired ∧ (s.dev.mitten k).st
      ≠ .stopped) ∧
    (∃ (tag : Tag) (x : TagRec) (k : Nat) (s : State), byteAt x.desc 32 = k ∧ k < 16 ∧ s.dev.command tag opStringStart =
      some x ∧ (s.dev.strE k).type ≠ 0 ∧ (s.dev.string k).st = .stopped ∧ (s.dev.switch (12 + k)).disc = false ∧
      (s.dev.switch (12 + k)).hold = false ∧ (s.dev.program k).isSome = true) ∧
    (∃ (tag : Tag) (x : TagRec) (k : Nat) (s : State), byteAt x.desc 32 = k ∧ k < 16 ∧ s.dev.command tag opStringStop = some
      x ∧ (s.dev.strE k).type ≠ 0 ∧ ((s.dev.string k).st = .running ∨ (s.dev.string k).st = .paused ∨ (s.dev.string k).st =
      .precharge ∨ (s.dev.string k).st = .faulted)) ∧
    (∃ (tag : Tag) (x : TagRec) (k : Nat) (s : State) (e : _), byteAt x.desc 32 = k ∧ k < 16 ∧ s.dev.command tag
      opReturnToService = some x ∧ k ≤ 6 ∧ byteAt x.desc 33 < rtsCount k ∧ s.dev.rtsMissing k (byteAt x.desc 33) = none ∧
      s.dev.returned k (byteAt x.desc 33) = some (some e) ∧ s.dev.goneAt k (byteAt x.desc 33) ≠ some s.dev.now) ∧
    (∃ (tag : Tag) (x : TagRec) (k : Nat) (s : State) (e : _), byteAt x.desc 32 = k ∧ k < 16 ∧ s.dev.command tag
      opReturnToService = some x ∧ k ≤ 6 ∧ byteAt x.desc 33 < rtsCount k ∧ s.dev.rtsMissing k (byteAt x.desc 33) = none ∧
      s.dev.returned k (byteAt x.desc 33) = some (some e) ∧ s.dev.goneAt k (byteAt x.desc 33) = some s.dev.now) ∧
    (∃ (tag : Tag) (x : TagRec) (k : Nat) (s : State) (j : _), byteAt x.desc 32 = k ∧ k < 16 ∧ s.dev.command tag opLendStart
      = some x ∧ x.payload.length = 32 ∧ (s.dev.mitE k).used = true ∧ s.dev.sy.power = .run ∧ (s.dev.mitE k).lend = true ∧
      s.dev.pw.map.lendSrc (s.dev.mitE k) = some j ∧ lendRange (s.dev.srcE j) (s.dev.pw.map.nodeMin ((s.dev.mitE k).other
      (.src j))) (s.dev.pw.map.nodeMax ((s.dev.mitE k).other (.src j))) (lendOf k (s.dev.srcE j) ((s.dev.mitE k).other (.src
      j)).code (s.dev.pw.map.nodeMin ((s.dev.mitE k).other (.src j))) s.dev.now x.payload) = none ∧ s.dev.lendRefusal k j
      (lendOf k (s.dev.srcE j) ((s.dev.mitE k).other (.src j)).code (s.dev.pw.map.nodeMin ((s.dev.mitE k).other (.src j)))
      s.dev.now x.payload) = none) ∧
    (∃ (tag : Tag) (x : TagRec) (k : Nat) (s : State) (j : Nat) (l : Lend), byteAt x.desc 32 = k ∧ k < 16 ∧ s.dev.command
      tag opLendStop = some x ∧ (s.dev.mitE k).used = true ∧ j < 12 ∧ (s.dev.source j).lend = some l ∧ l.mit = k ∧ ((∀ i, i
      ≠ j → (s.dev.source i).lend = none)) ∧ (s.dev.mitten k).held = false) ∧
    (∃ (tag : Tag) (x : TagRec) (k : Nat) (s : State), byteAt x.desc 32 = k ∧ k < 16 ∧ s.dev.command tag opMotionSet = some
      x) :=
  ⟨⟨1, (cmd opMittenStart [] []), 0, (cmdSt opMittenStart [] [] id), by decide +kernel⟩,
   ⟨1, (cmd opMittenStop [3] []), 3, (cmdSt opMittenStop [3] [] fun d => d.modMit 3 fun x => { x with st := .run }),
     by decide +kernel⟩,
   ⟨1, (cmd opStringStart [] []), 0, (cmdSt opStringStart [] [] fun d => d.modStr 0 fun x =>
     { x with st := .stopped, cfg := [(1, 1)], loaded := some (tProg 0) }), by decide +kernel⟩,
   ⟨1, (cmd opStringStop [] []), 0, (cmdSt opStringStop [] [] fun d => d.modStr 0 fun x => { x with st := .faulted }),
     by decide +kernel⟩,
   ⟨1, (cmd opReturnToService [0, 63] []), 0, (cmdSt opReturnToService [0, 63] [] (fun d => d.modPh 63 fun x =>
     { x with st := .retired })), ((cmdSt opReturnToService [0, 63] [] (fun d => d.modPh 63 fun x =>
     { x with st := .retired })).dev.returnPhase 63), by decide +kernel⟩,
   ⟨1, (cmd opReturnToService [0, 63] []), 0, (cmdSt opReturnToService [0, 63] [] (fun d => d.modPh 63 fun x =>
     { x with st := .retired, lad := { gone := some 0 } })), ((cmdSt opReturnToService [0, 63] [] (fun d => d.modPh 63 fun x =>
     { x with st := .retired, lad := { gone := some 0 } })).dev.returnPhase 63), by decide +kernel⟩,
   ⟨1, (cmd opLendStart [3] dLend), 3, (cmdSt opLendStart [3] dLend (fun d => ((d.modSrc 4 fun x =>
     { x with st := .absent }).modTap 24 fun x => { x with value := 12000 }).modTap 8 fun x => { x with value := 5000 })),
     4, by decide +kernel⟩,
   ⟨1, (cmd opLendStop [3] []), 3, tLending, 4, { mit := 3 },
     by and_intros <;> first | decide +kernel | exact tLending_lend⟩,
   ⟨1, (cmd opMotionSet [1] []), 1, (cmdSt opMotionSet [1] [] id), by decide +kernel⟩⟩

/-- Every premise of `Obligations.ClassZero` can hold. -/
theorem wit_ClassZero :
    (∃ (tag : Tag) (x : TagRec) (s : State), s.dev.command tag opShed = some x) ∧
    (∃ (tag : Tag) (x : TagRec) (s : State), s.dev.command tag opDisconnect = some x ∧ byteAt x.desc 42 % 2 = 0) ∧
    (∃ (tag : Tag) (x : TagRec) (s : State), s.dev.command tag opDisconnect = some x ∧ byteAt x.desc 42 % 2 = 1) ∧
    (∃ (tag : Tag) (x : TagRec) (s : State), s.dev.command tag opHold = some x) :=
  ⟨⟨1, (cmd opShed [] []), (cmdSt opShed [] [] id), by decide +kernel⟩,
   ⟨1, (cmd opDisconnect [1] []), (cmdSt opDisconnect [1] [] id), by decide +kernel⟩,
   ⟨1, (cmd opDisconnect [1, 0, 0, 0, 0, 0, 0, 0, 1, 0, 1] []), (cmdSt opDisconnect [1, 0, 0, 0, 0, 0, 0, 0, 1, 0, 1] []
     id), by decide +kernel⟩,
   ⟨1, (cmd opHold [1] []), (cmdSt opHold [1] [] id), by decide +kernel⟩⟩

/-- Every premise of `Obligations.MeasurementCommands` can hold. -/
theorem wit_MeasurementCommands :
    (∃ (tag : Tag) (x : TagRec) (s : State), s.dev.command tag opMeasFilterSync = some x ∧ byteAt x.desc 36 = 0) ∧
    (∃ (tag : Tag) (x : TagRec) (s : State), s.dev.command tag opMeasFilterSync = some x ∧ byteAt x.desc 36 = 1) ∧
    (∃ (tag : Tag) (x : TagRec) (s : State), s.dev.command tag opMeasFilterSync = some x ∧ byteAt x.desc 36 = 2) ∧
    (∃ (tag : Tag) (x : TagRec) (s : State), s.dev.command tag opMeasFilterSync = some x ∧ 2 < byteAt x.desc 36) ∧
    (∃ (tag : Tag) (x : TagRec) (s : State) (o : _), s.dev.command tag opMeasPairCapture = some x ∧ (captureOf x.desc).bad =
      some o) ∧
    (∃ (tag : Tag) (x : TagRec) (s : State) (r : _), s.dev.command tag opMeasPairCapture = some x ∧ (captureOf x.desc).bad =
      none ∧ s.dev.captureRefusal (byteAt x.desc 32) (captureOf x.desc) = some r) ∧
    (∃ (tag : Tag) (x : TagRec) (s : State), s.dev.command tag opMeasPairCapture = some x ∧ (captureOf x.desc).bad = none ∧
      s.dev.captureRefusal (byteAt x.desc 32) (captureOf x.desc) = none) ∧
    (∃ (tag : Tag) (x : TagRec) (s : State), s.dev.command tag opAccClear = some x ∧ 0 < leAt x.desc 34 2 ∧ leAt x.desc 32 2
      + leAt x.desc 34 2 ≤ 512) ∧
    (∃ (tag : Tag) (x : TagRec) (s : State), s.dev.command tag opMmxRead = some x ∧ 0 < leAt x.desc 34 2 ∧ byteAt x.desc 32
      + leAt x.desc 34 2 ≤ 256 ∧ byteAt x.desc 36 % 2 = 0) ∧
    (∃ (tag : Tag) (x : TagRec) (s : State), s.dev.command tag opMmxRead = some x ∧ 0 < leAt x.desc 34 2 ∧ byteAt x.desc 32
      + leAt x.desc 34 2 ≤ 256 ∧ byteAt x.desc 36 % 2 = 1) ∧
    (∃ (tag : Tag) (x : TagRec) (s : State) (l : _), s.dev.command tag opImpedanceRun = some x ∧ byteAt x.desc 32 < 16 ∧ 0 <
      byteAt x.desc 33 ∧ byteAt x.desc 33 ≤ 10 ∧ leAt x.desc 34 2 % 2 = 0 ∧ leAt x.desc 34 2 ≤ 508 ∧ leAt x.desc 36 2 ≤ 1440
      ∧ x.payload.length = 16 + 8 * byteAt x.payload 2 ∧ parseFreqs x.payload = .ok l ∧ (s.dev.strE (byteAt x.desc 32)).type
      ≠ 0 ∧ s.dev.impRefusal (byteAt x.desc 32) (byteAt x.desc 33) (leAt x.desc 34 2) l = none) ∧
    (∃ (tag : Tag) (x : TagRec) (s : State) (l : _) (o : _), s.dev.command tag opImpedanceRun = some x ∧ byteAt x.desc 32 <
      16 ∧ 0 < byteAt x.desc 33 ∧ byteAt x.desc 33 ≤ 10 ∧ leAt x.desc 34 2 % 2 = 0 ∧ leAt x.desc 34 2 ≤ 508 ∧ leAt x.desc 36
      2 ≤ 1440 ∧ x.payload.length = 16 + 8 * byteAt x.payload 2 ∧ parseFreqs x.payload = .ok l ∧ (s.dev.strE (byteAt x.desc
      32)).type ≠ 0 ∧ s.dev.impRefusal (byteAt x.desc 32) (byteAt x.desc 33) (leAt x.desc 34 2) l = some o) ∧
    (∃ (tag : Tag) (x : TagRec) (s : State), s.dev.command tag opImpedanceAbort = some x ∧ byteAt x.desc 32 < 16 ∧
      (s.dev.strE (byteAt x.desc 32)).type ≠ 0 ∧ (s.dev.ms.imp.getD (byteAt x.desc 32) {}).run.isSome = true) ∧
    (∃ (tag : Tag) (x : TagRec) (s : State), s.dev.command tag opImpedanceAbort = some x ∧ byteAt x.desc 32 < 16 ∧
      (s.dev.strE (byteAt x.desc 32)).type ≠ 0 ∧ (s.dev.ms.imp.getD (byteAt x.desc 32) {}).run = none) ∧
    (∃ (tag : Tag) (x : TagRec) (s : State), s.dev.command tag opImpedanceRead = some x ∧ (s.dev.ms.imp.getD (byteAt x.desc
      32) {}).record = none) ∧
    (∃ (tag : Tag) (x : TagRec) (s : State) (r : _), s.dev.command tag opImpedanceRead = some x ∧ (s.dev.ms.imp.getD (byteAt
      x.desc 32) {}).record = some r) ∧
    (∃ (tag : Tag) (x : TagRec) (s : State), s.dev.command tag opSelfTest = some x ∧ s.dev.sy.power = .run) ∧
    (∃ (tag : Tag) (x : TagRec) (s : State), s.dev.command tag opSelfTest = some x ∧ s.dev.sy.power ≠ .run) ∧
    (∃ (s : State) (t : Nat) (l : List Nat), s.dev.sy.selfTest = t :: l ∧ ((∀ m ∈ s.dev.pw.mit, ∀ g, m.gnt = some g → g.test
      = false))) :=
  ⟨⟨1, (cmd opMeasFilterSync [15, 0, 0xFF, 0xFF] []), (cmdSt opMeasFilterSync [15, 0, 0xFF, 0xFF] [] id), by decide +kernel⟩,
   ⟨1, (cmd opMeasFilterSync [15, 0, 0xFF, 0xFF, 1] []), (cmdSt opMeasFilterSync [15, 0, 0xFF, 0xFF, 1] [] id),
     by decide +kernel⟩,
   ⟨1, (cmd opMeasFilterSync [15, 0, 0xFF, 0xFF, 2] []), (cmdSt opMeasFilterSync [15, 0, 0xFF, 0xFF, 2] [] id),
     by decide +kernel⟩,
   ⟨1, (cmd opMeasFilterSync [15, 0, 0xFF, 0xFF, 3] []), (cmdSt opMeasFilterSync [15, 0, 0xFF, 0xFF, 3] [] id),
     by decide +kernel⟩,
   ⟨1, (cmd opMeasPairCapture [8] []), (cmdSt opMeasPairCapture [8] [] id), 35, by decide +kernel⟩,
   ⟨1, (cmd opMeasPairCapture dCapture []), (cmdSt opMeasPairCapture dCapture [] id), ((3, 1)), by decide +kernel⟩,
   ⟨1, (cmd opMeasPairCapture dCapture []), (cmdSt opMeasPairCapture dCapture [] fun d => tPair d), by decide +kernel⟩,
   ⟨1, (cmd opAccClear [0xFF, 1, 1] []), (cmdSt opAccClear [0xFF, 1, 1] [] id), by decide +kernel⟩,
   ⟨1, (cmd opMmxRead [255, 0, 1] []), (cmdSt opMmxRead [255, 0, 1] [] id), by decide +kernel⟩,
   ⟨1, (cmd opMmxRead [255, 0, 1, 0, 1] []), (cmdSt opMmxRead [255, 0, 1, 0, 1] [] id), by decide +kernel⟩,
   ⟨1, (cmd opImpedanceRun [0, 5, 0, 1] dFreqs), ((cmdSt opImpedanceRun [0, 5, 0, 1] dFreqs fun d => tImpDev d)), [tFreq],
     by decide +kernel⟩,
   ⟨1, (cmd opImpedanceRun [0, 5, 0, 1] dFreqs), ((cmdSt opImpedanceRun [0, 5, 0, 1] dFreqs id)), [tFreq], 2,
     by decide +kernel⟩,
   ⟨1, (cmd opImpedanceAbort [] []), (cmdSt opImpedanceAbort [] [] fun d => d.modImp 0 fun i =>
     { i with run := some {} }), by decide +kernel⟩,
   ⟨1, (cmd opImpedanceAbort [] []), (cmdSt opImpedanceAbort [] [] id), by decide +kernel⟩,
   ⟨1, (cmd opImpedanceRead [15] []), (cmdSt opImpedanceRead [15] [] id), by decide +kernel⟩,
   ⟨1, (cmd opImpedanceRead [] []), (cmdSt opImpedanceRead [] [] (fun d => d.modImp 0 fun i =>
     { i with record := some {} })), {}, by decide +kernel⟩,
   ⟨1, (cmd opSelfTest [] []), (cmdSt opSelfTest [] [] id), by decide +kernel⟩,
   ⟨1, (cmd opSelfTest [] []), (cmdSt opSelfTest [] [] fun d => d.onSy fun y => { y with power := .limp }),
     by decide +kernel⟩,
   ⟨(wst (fun d => d.onSy fun y => { y with selfTest := [7] })), 7, [], by decide +kernel⟩⟩

/-- Every premise of `Obligations.ServiceCommands` can hold. -/
theorem wit_ServiceCommands :
    (∃ (tag : Tag) (x : TagRec) (s : State), s.dev.command tag opStatusRead = some x ∧ byteAt x.desc 32 ≤ 4 ∧ 0 < byteAt
      x.desc 34 ∧ byteAt x.desc 33 + byteAt x.desc 34 ≤ statusCount (byteAt x.desc 32)) ∧
    (∃ (tag : Tag) (x : TagRec) (s : State) (cut : Option Nat) (l : List LogRec), s.dev.command tag opRecordRead = some x ∧
      byteAt x.desc 32 ≤ 3 ∧ 0 < leAt x.desc 44 2 ∧ leAt x.desc 44 2 ≤ 2047 ∧ ((s.dev.ho.log.getD (byteAt x.desc 32)
      []).filter fun r => decide (leAt x.desc 36 8 ≤ r.seq)).take (leAt x.desc 44 2) = l ∧ s.dev.cutShort x cut (ceilDiv
      (l.flatMap LogRec.bytes).length 4096) = none ∧ l = []) ∧
    (∃ (tag : Tag) (x : TagRec) (s : State) (cut : Option Nat) (l : List LogRec) (r : _), s.dev.command tag opRecordRead =
      some x ∧ byteAt x.desc 32 ≤ 3 ∧ 0 < leAt x.desc 44 2 ∧ leAt x.desc 44 2 ≤ 2047 ∧ ((s.dev.ho.log.getD (byteAt x.desc
      32) []).filter fun r => decide (leAt x.desc 36 8 ≤ r.seq)).take (leAt x.desc 44 2) = l ∧ s.dev.cutShort x cut (ceilDiv
      (l.flatMap LogRec.bytes).length 4096) = none ∧ l.getLast? = some r) ∧
    (∃ (tag : Tag) (x : TagRec) (s : State) (cut : Option Nat) (l : List LogRec) (k : _), s.dev.command tag opRecordRead =
      some x ∧ byteAt x.desc 32 ≤ 3 ∧ 0 < leAt x.desc 44 2 ∧ leAt x.desc 44 2 ≤ 2047 ∧ ((s.dev.ho.log.getD (byteAt x.desc
      32) []).filter fun r => decide (leAt x.desc 36 8 ≤ r.seq)).take (leAt x.desc 44 2) = l ∧ s.dev.cutShort x cut (ceilDiv
      (l.flatMap LogRec.bytes).length 4096) = some k) ∧
    (∃ (tag : Tag) (x : TagRec) (s : State), s.dev.command tag opBrimRead = some x) ∧
    (∃ (tag : Tag) (x : TagRec) (s : State), s.dev.command tag opBrimFloorSet = some x ∧ 10 ≤ byteAt x.desc 36 ∧ byteAt
      x.desc 36 ≤ 100) ∧
    (∃ (tag : Tag) (x : TagRec) (s : State), s.dev.command tag opAgeingRebase = some x) ∧
    (∃ (tag : Tag) (x : TagRec) (s : State), s.dev.command tag opPowerState = some x ∧ (byteAt x.desc 32 = 0 ∨ 3 < byteAt
      x.desc 32)) ∧
    (∃ (tag : Tag) (x : TagRec) (s : State), s.dev.command tag opPowerState = some x ∧ 0 < byteAt x.desc 32 ∧ byteAt x.desc
      32 ≤ 3 ∧ s.dev.sy.power = .limp) ∧
    (∃ (tag : Tag) (x : TagRec) (s : State) (r : _), s.dev.command tag opPowerState = some x ∧ 0 < byteAt x.desc 32 ∧ byteAt
      x.desc 32 ≤ 3 ∧ s.dev.sy.power ≠ .limp ∧ s.dev.powerRefusal (byteAt x.desc 32) = some r) ∧
    (∃ (tag : Tag) (x : TagRec) (s : State), s.dev.command tag opPowerState = some x ∧ 0 < byteAt x.desc 32 ∧ byteAt x.desc
      32 ≤ 3 ∧ s.dev.sy.power ≠ .limp ∧ s.dev.powerRefusal (byteAt x.desc 32) = none ∧ (s.dev.ln.chn.role ≠ 1 ∨
      s.dev.hasShared = false)) ∧
    (∃ (tag : Tag) (x : TagRec) (s : State), s.dev.command tag opPowerState = some x ∧ 0 < byteAt x.desc 32 ∧ byteAt x.desc
      32 ≤ 3 ∧ s.dev.sy.power ≠ .limp ∧ s.dev.powerRefusal (byteAt x.desc 32) = none ∧ s.dev.ln.chn.role = 1 ∧
      s.dev.hasShared = true) ∧
    (∃ (tag : Tag) (x : TagRec) (s : State), s.dev.command tag opDeviceRestart = some x ∧ 1 < byteAt x.desc 32) ∧
    (∃ (tag : Tag) (x : TagRec) (s : State), s.dev.command tag opDeviceRestart = some x ∧ byteAt x.desc 32 ≤ 1 ∧
      s.dev.pw.stage.st = .stepping) ∧
    (∃ (tag : Tag) (x : TagRec) (s : State), s.dev.command tag opDeviceRestart = some x ∧ byteAt x.desc 32 = 0 ∧
      s.dev.pw.stage.st ≠ .stepping) ∧
    (∃ (tag : Tag) (x : TagRec) (s : State), s.dev.command tag opDeviceRestart = some x ∧ byteAt x.desc 32 = 1 ∧
      s.dev.pw.stage.st ≠ .stepping ∧ (x.drop = true ∨ s.dev.linkUp = false)) ∧
    (∃ (tag : Tag) (x : TagRec) (s : State), s.dev.command tag opDeviceRestart = some x ∧ byteAt x.desc 32 = 1 ∧
      s.dev.pw.stage.st ≠ .stepping ∧ x.drop = false ∧ s.dev.linkUp = true) ∧
    (∃ (tag : Tag) (x : TagRec) (s : State), s.dev.command tag opTimeRead = some x) ∧
    (∃ (tag : Tag) (x : TagRec) (s : State), s.dev.command tag opTimeAnchor = some x ∧ x.payload.length ≠ 8) ∧
    (∃ (tag : Tag) (x : TagRec) (s : State), s.dev.command tag opTimeAnchor = some x ∧ x.payload.length = 8) :=
  ⟨⟨1, (cmd opStatusRead [4, 0, 1] []), (cmdSt opStatusRead [4, 0, 1] [] id), by decide +kernel⟩,
   ⟨1, (cmd opRecordRead dRecord []), (cmdSt opRecordRead dRecord [] id), none, [], by decide +kernel⟩,
   ⟨1, (cmd opRecordRead dRecord []), (cmdSt opRecordRead dRecord [] (fun d => d.onHo fun h =>
     { h with log := [[], [], [], [tLog]] })), none, [tLog], tLog, by decide +kernel⟩,
   ⟨1, (cmd opRecordRead dRecord []), (wst (fun d => ((d.onHo fun h =>
     { h with tags := [cmd opRecordRead dRecord [], tAbort], log := [[], [], [], [tLog]] }).setRing 1 tRing).setRing 0
     tRing)), (some 0), [tLog], 0, by decide +kernel⟩,
   ⟨1, (cmd opBrimRead [] []), (cmdSt opBrimRead [] [] id), by decide +kernel⟩,
   ⟨1, (cmd opBrimFloorSet [1, 0, 0, 0, 10] []), (cmdSt opBrimFloorSet [1, 0, 0, 0, 10] [] id), by decide +kernel⟩,
   ⟨1, (cmd opAgeingRebase [] []), (cmdSt opAgeingRebase [] [] id), by decide +kernel⟩,
   ⟨1, (cmd opPowerState [4] []), (cmdSt opPowerState [4] [] id), by decide +kernel⟩,
   ⟨1, (cmd opPowerState [1] []), (cmdSt opPowerState [1] [] fun d => d.onSy fun y => { y with power := .limp }),
     by decide +kernel⟩,
   ⟨1, (cmd opPowerState [2] []), (cmdSt opPowerState [2] [] (fun d => d.modStage fun g => { g with st := .stepping })),
     ((9, 0xFFFF, 1)), by decide +kernel⟩,
   ⟨1, (cmd opPowerState [1] []), (cmdSt opPowerState [1] [] id), by decide +kernel⟩,
   ⟨1, (cmd opPowerState [1] []), (cmdSt opPowerState [1] [] fun d => (tShared d).modChn fun c =>
     { c with st := .formed, role := 1 }), by decide +kernel⟩,
   ⟨1, (cmd opDeviceRestart [2] []), (cmdSt opDeviceRestart [2] [] id), by decide +kernel⟩,
   ⟨1, (cmd opDeviceRestart [1] []), (cmdSt opDeviceRestart [1] [] (fun d => d.modStage fun g =>
     { g with st := .stepping })), by decide +kernel⟩,
   ⟨1, (cmd opDeviceRestart [] []), (cmdSt opDeviceRestart [] [] id), by decide +kernel⟩,
   ⟨1, { cmd opDeviceRestart [1] [] with drop := true }, (wst (fun d => (d.onHo fun h =>
     { h with tags := [{ cmd opDeviceRestart [1] [] with drop := true }] }).setRing 1 tRing)), by decide +kernel⟩,
   ⟨1, (cmd opDeviceRestart [1] []), (cmdSt opDeviceRestart [1] [] (fun d => d.modRing 1 fun g =>
     { g with arm := false })), by decide +kernel⟩,
   ⟨1, (cmd opTimeRead [] []), (cmdSt opTimeRead [] [] id), by decide +kernel⟩,
   ⟨1, (cmd opTimeAnchor [] (zeros 7)), (cmdSt opTimeAnchor [] (zeros 7) id), by decide +kernel⟩,
   ⟨1, (cmd opTimeAnchor [] (zeros 8)), (cmdSt opTimeAnchor [] (zeros 8) id), by decide +kernel⟩⟩

/-- Every premise of `Obligations.UpdateCommands` can hold. -/
theorem wit_UpdateCommands :
    (∃ (tag : Tag) (x : TagRec) (s : State), s.dev.command tag opUpdateManifest = some x ∧ s.nv.upd = .activating) ∧
    (∃ (tag : Tag) (x : TagRec) (s : State), s.dev.command tag opUpdatePiece = some x ∧ s.nv.upd = .activating) ∧
    (∃ (tag : Tag) (x : TagRec) (s : State), s.dev.command tag opUpdateCancel = some x ∧ s.nv.upd = .activating) ∧
    (∃ (tag : Tag) (x : TagRec) (s : State), s.dev.command tag opKeyUpdate = some x ∧ s.nv.upd = .activating) ∧
    (∃ (tag : Tag) (x : TagRec) (s : State), s.dev.command tag opUpdateManifest = some x ∧ s.nv.upd ≠ .activating) ∧
    (∃ (tag : Tag) (x : TagRec) (s : State), s.dev.command tag opUpdatePiece = some x ∧ s.nv.upd ≠ .activating ∧ (byteAt
      x.desc 34 = 0 ∨ 15 < byteAt x.desc 34)) ∧
    (∃ (tag : Tag) (x : TagRec) (s : State), s.dev.command tag opUpdatePiece = some x ∧ s.nv.upd ≠ .activating ∧ 0 < byteAt
      x.desc 34 ∧ byteAt x.desc 34 ≤ 15 ∧ x.payload.length ≠ 4096 * byteAt x.desc 34) ∧
    (∃ (tag : Tag) (x : TagRec) (s : State) (bad : Option Nat) (cut : Option Nat) (e : _) (n : _) (any : _) (first : _),
      s.dev.command tag opUpdatePiece = some x ∧ s.nv.upd ≠ .activating ∧ 0 < byteAt x.desc 34 ∧ byteAt x.desc 34 ≤ 15 ∧
      x.payload.length = 4096 * byteAt x.desc 34 ∧ s.dev.takePieces s.nv bad x.payload (List.range' (leAt x.desc 32 2)
      ((s.dev.cutShort x cut (byteAt x.desc 34)).getD (byteAt x.desc 34))) 0 false = (e, n, any, first)) ∧
    (∃ (tag : Tag) (x : TagRec) (s : State), s.dev.command tag opUpdateStatus = some x) ∧
    (∃ (tag : Tag) (x : TagRec) (s : State), s.dev.command tag opUpdateActivate = some x ∧ s.nv.upd = .activating ∧
      s.nv.held ≠ none) ∧
    (∃ (tag : Tag) (x : TagRec) (s : State) (r : _), s.dev.command tag opUpdateActivate = some x ∧
      s.dev.activationRefusal s.nv = some r) ∧
    (∃ (tag : Tag) (x : TagRec) (s : State), s.dev.command tag opUpdateActivate = some x ∧
      s.dev.activationRefusal s.nv = none ∧ s.dev.pw.stage.st = .stepping) ∧
    (∃ (tag : Tag) (x : TagRec) (s : State), s.dev.command tag opUpdateActivate = some x ∧
      s.dev.activationRefusal s.nv = none ∧ s.dev.pw.stage.st ≠ .stepping) ∧
    (∃ (s : State) (t : Nat), s.dev.sy.waitAct = some t ∧ s.dev.pw.stage.st ≠ .stepping ∧ s.dev.pw.moving = true) ∧
    (∃ (s : State) (t : Nat), s.dev.sy.waitAct = some t ∧ s.dev.pw.stage.st ≠ .stepping ∧ s.dev.pw.moving = false) ∧
    (∃ (s : State) (t : Nat), s.dev.sy.waitAct = some t ∧ s.dev.pw.stage.st = .stepping) ∧
    (∃ (tag : Tag) (x : TagRec) (s : State), s.dev.command tag opUpdateCancel = some x ∧ s.nv.upd ≠ .activating ∧ s.nv.held
      ≠ none) ∧
    (∃ (tag : Tag) (x : TagRec) (s : State), s.dev.command tag opUpdateCancel = some x ∧ s.nv.upd ≠ .activating ∧ s.nv.held
      = none) ∧
    (∃ (tag : Tag) (x : TagRec) (s : State), s.dev.command tag opOwnerLock = some x ∧ x.payload.length ≠ 256) ∧
    (∃ (tag : Tag) (x : TagRec) (s : State), s.dev.command tag opOwnerLock = some x ∧ x.payload.length = 256) ∧
    (∃ (tag : Tag) (x : TagRec) (s : State), s.dev.command tag opKeyUpdate = some x ∧ s.nv.upd ≠ .activating ∧
      s.nv.ownerLock = true) ∧
    (∃ (tag : Tag) (x : TagRec) (s : State), s.dev.command tag opKeyUpdate = some x ∧ s.nv.upd ≠ .activating ∧
      s.nv.ownerLock = false ∧ x.payload.length ≠ 1024) ∧
    (∃ (tag : Tag) (x : TagRec) (s : State), s.dev.command tag opKeyUpdate = some x ∧ s.nv.upd ≠ .activating ∧
      s.nv.ownerLock = false ∧ x.payload.length = 1024) :=
  ⟨⟨1, (cmd opUpdateManifest [] []), { cmdSt opUpdateManifest [] [] id with nv := { upd := .activating } }, by decide +kernel⟩,
   ⟨1, (cmd opUpdatePiece [] []), { cmdSt opUpdatePiece [] [] id with nv := { upd := .activating } }, by decide +kernel⟩,
   ⟨1, (cmd opUpdateCancel [] []), { cmdSt opUpdateCancel [] [] id with nv := { upd := .activating } }, by decide +kernel⟩,
   ⟨1, (cmd opKeyUpdate [] []), { cmdSt opKeyUpdate [] [] id with nv := { upd := .activating } }, by decide +kernel⟩,
   ⟨1, (cmd opUpdateManifest [] []), (cmdSt opUpdateManifest [] [] id), by decide +kernel⟩,
   ⟨1, (cmd opUpdatePiece [0, 0, 16] []), (cmdSt opUpdatePiece [0, 0, 16] [] id), by decide +kernel⟩,
   ⟨1, (cmd opUpdatePiece [0, 0, 1] []), (cmdSt opUpdatePiece [0, 0, 1] [] id), by decide +kernel⟩,
   ⟨1, (cmd opUpdatePiece [0, 0, 1] (zeros 4096)), (cmdSt opUpdatePiece [0, 0, 1] (zeros 4096) id), none, none, tPieces.1,
     tPieces.2.1, tPieces.2.2.1, tPieces.2.2.2, by and_intros <;> decide +kernel⟩,
   ⟨1, (cmd opUpdateStatus [] []), (cmdSt opUpdateStatus [] [] id), by decide +kernel⟩,
   ⟨1, (cmd opUpdateActivate [] []), { cmdSt opUpdateActivate [] [] id with nv := { held := some {}, upd := .activating } },
     by decide +kernel⟩,
   ⟨1, (cmd opUpdateActivate [] []), (cmdSt opUpdateActivate [] [] id), 5, by decide +kernel⟩,
   ⟨1, (cmd opUpdateActivate [] []),
     { cmdSt opUpdateActivate [] [] (fun d => ((d.onPw fun p => { p with moving := false }).modUpd fun u => { u with ctrl := 0x1E3F }).modStage fun g => { g with st := .stepping }) with nv := { held := some {}, upd := .ready } },
     by decide +kernel⟩,
   ⟨1, (cmd opUpdateActivate [] []),
     { cmdSt opUpdateActivate [] [] (fun d => (d.onPw fun p => { p with moving := false }).modUpd fun u => { u with ctrl := 0x1E3F }) with nv := { held := some {}, upd := .ready } },
     by decide +kernel⟩,
   ⟨(wst (fun d => (d.onSy fun y => { y with waitAct := some 1 }).onPw fun p => { p with moving := true })), 1, by decide +kernel⟩,
   ⟨(wst (fun d => (d.onSy fun y => { y with waitAct := some 1 }).onPw fun p => { p with moving := false })), 1, by decide +kernel⟩,
   ⟨(wst (fun d => (d.onSy fun y => { y with waitAct := some 1 }).modStage fun g => { g with st := .stepping })), 1,
     by decide +kernel⟩,
   ⟨1, (cmd opUpdateCancel [] []), { cmdSt opUpdateCancel [] [] id with nv := { held := some {}, upd := .ready } },
     by decide +kernel⟩,
   ⟨1, (cmd opUpdateCancel [] []), (cmdSt opUpdateCancel [] [] id), by decide +kernel⟩,
   ⟨1, (cmd opOwnerLock [1] (zeros 255)), (cmdSt opOwnerLock [1] (zeros 255) id), by decide +kernel⟩,
   ⟨1, (cmd opOwnerLock [1] (zeros 256)), (cmdSt opOwnerLock [1] (zeros 256) id), by decide +kernel⟩,
   ⟨1, (cmd opKeyUpdate [] []), { cmdSt opKeyUpdate [] [] id with nv := { ownerLock := true } }, by decide +kernel⟩,
   ⟨1, (cmd opKeyUpdate [] (zeros 1023)), (cmdSt opKeyUpdate [] (zeros 1023) id), by decide +kernel⟩,
   ⟨1, (cmd opKeyUpdate [] (zeros 1024)), (cmdSt opKeyUpdate [] (zeros 1024) id), by decide +kernel⟩⟩

/-- Every premise of `Obligations.RegisterReads` can hold. -/
theorem wit_RegisterReads :
    (∃ (o : BitVec 24) (s : State), s.dev.sy.power = .run ∧ o.toNat < 0xF000 ∧ o.toNat % 4 = 0) ∧
    (∃ (o : BitVec 24) (s : State), s.dev.sy.power = .run ∧ o.toNat < 0x10000 ∧ o.toNat % 4 ≠ 0) ∧
    (∃ (a : Fin 128), isAgent a = true ∧ a.val ≠ agHost) ∧
    (∃ (d : Dev) (o : Nat), o ∈ [0x200C, 0x204C, 0x2114, 0x2134, 0x2154, 0x2174, 0x300C, 0x8120, 0x8208, 0x8308] ∧
      d.ln.twt.length = 2 ∧ d.ln.twc.length = 4) ∧
    (∃ (r : Fin 128) (n : Fin 512) (a : Acc) (s : State), latchReader r = true ∧ s.dev.ms.acc[n.val]? = some a ∧ ((∀ l ∈
      s.dev.ms.accL, l.reader = r.val → l.acc = n.val → l.byMate = false)) ∧ a.cfg.mode ≠ .demod) ∧
    (∃ (r : Fin 128) (n : Fin 512) (a : Acc) (s : State), latchReader r = true ∧ s.dev.ms.acc[n.val]? = some a ∧ ((∀ l ∈
      s.dev.ms.accL, l.reader = r.val → l.acc = n.val → l.byMate = false)) ∧ a.cfg.mode = .demod) ∧
    (∃ (r : Fin 128) (n : Fin 256) (x : Mmx) (s : State), latchReader r = true ∧ s.dev.ms.mmx[n.val]? = some x) :=
  ⟨⟨0xEFFC, (wst id), by decide +kernel⟩,
   ⟨0xFFFF, (wst id), by decide +kernel⟩,
   ⟨1, by decide +kernel⟩,
   ⟨tDev, 0x8308, by decide +kernel⟩,
   ⟨98, 511, {}, (wst id), by decide +kernel⟩,
   ⟨4, 255, { cfg := { mode := .demod } }, (wst fun d => d.modAcc 255 fun a => { a with cfg := { mode := .demod } }),
     by decide +kernel⟩,
   ⟨98, 255, {}, (wst id), by decide +kernel⟩⟩

/-- Every premise of `Obligations.RegisterWrites` can hold. -/
theorem wit_RegisterWrites :
    (∃ (s : State) (o : BitVec 24) (b : List Byte), s.dev.sy.power = .run ∧ o.toNat < 0x10000 ∧ b.length = 4 ∧ o.toNat % 4 =
      0 ∧ closedOff o.toNat = true) ∧
    (∃ (s : State) (o : BitVec 24) (b : List Byte), s.dev.sy.power = .run ∧ o.toNat < 0x10000 ∧ b.length = 4 ∧ o.toNat % 4 =
      0) ∧
    (∃ (s : State) (o : BitVec 24) (b : List Byte), s.dev.sy.power = .run ∧ o.toNat < 0x10000 ∧ b.length = 4 ∧ o.toNat % 4 ≠
      0) ∧
    (∃ (s : State) (o : BitVec 24) (b : List Byte), s.dev.sy.power = .run ∧ o.toNat < 0x10000 ∧ b.length = 3) ∧
    (∃ (s : State) (j : _), s.dev.sy.power = .run ∧ j < 8) ∧
    (∃ (v : Word) (s : State), s.dev.sy.power = .run ∧ s.dev.ho.glb.locked = false ∧ v.toNat < 256 ∧ 0 < v.toNat ∧ v.toNat ≤
      s.nv.runBeh % 256) ∧
    (∃ (v : Word) (s : State), s.dev.sy.power = .run ∧ s.dev.ho.glb.locked = true ∧ v.toNat < 256 ∧ v.toNat ≠
      s.dev.ho.glb.inForce) ∧
    (∃ (s : State), s.dev.sy.power = .run ∧ ((∀ i, i < 16 → s.dev.auxInUse i = false))) ∧
    (∃ (s : State), s.dev.sy.power = .run ∧ ((∀ i, i < 16 → s.dev.auxInUse (16 + i) = false))) ∧
    (∃ (v : Word) (s : State) (r : Fin 6), s.dev.sy.power = .run ∧ v &&& phReserved (4 * r.val) = 0 ∧ phInvalid r v = false) ∧
    (∃ (v : Word) (s : State), s.dev.sy.power = .run ∧ v = 1) ∧
    (∃ (v : Word) (s : State), s.dev.sy.power = .run ∧ v = 0 ∧ ((∃ m ∈ s.dev.pw.mit, m.st ≠ .stopped))) ∧
    (∃ (s : State), s.dev.sy.power = .run) ∧
    (∃ (v : Word) (s : State) (k : Fin 2), s.dev.sy.power = .run ∧ v &&& 0xFF0000E0#32 = 0 ∧ v.getLsbD 0 = true ∧
      (s.dev.canOf k).rateOk = true ∧ (s.dev.canOf k).ctrl.getLsbD 0 = false ∧ k.val < s.dev.ln.can.length) ∧
    (∃ (v : Word) (s : State), s.dev.sy.power = .run ∧ v.toNat < 2048 ∧ v.getLsbD 0 = true ∧ v.toNat / 512 % 4 = 2 ∧
      s.dev.ln.chn.ctrl.getLsbD 0 = false) ∧
    (∃ (s : State) (drives : Bool) (low : Bool), s.dev.sy.power = .run ∧ (drives = false ∨ low = true)) ∧
    (∃ (s : State) (drives : Bool) (low : Bool), s.dev.sy.power = .run ∧ drives = true ∧ low = false) :=
  ⟨⟨(wst id), 0xFFFC, [1, 2, 3, 4], by decide +kernel⟩,
   ⟨(wst id), 0xFFFC, [1, 2, 3, 4], by decide +kernel⟩,
   ⟨(wst id), 0xFFFF, [1, 2, 3, 4], by decide +kernel⟩,
   ⟨(wst id), 0, [1, 2, 3], by decide +kernel⟩,
   ⟨(wst id), 7, by decide +kernel⟩,
   ⟨1, { wst id with nv := { runBeh := 3 } }, by decide +kernel⟩,
   ⟨255, (wst fun d => d.modGlb fun g => { g with locked := true }), by decide +kernel⟩,
   ⟨(wst id), by decide +kernel⟩,
   ⟨(wst id), by decide +kernel⟩,
   ⟨0, (wst id), 5, by decide +kernel⟩,
   ⟨1, (wst id), by decide +kernel⟩,
   ⟨0, (wst fun d => d.modMit 0 fun x => { x with st := .run }), by decide +kernel⟩,
   ⟨(wst id), by decide +kernel⟩,
   ⟨1, (wst (fun d => d.modCan 1 fun c => { c with ctrl := 0 })), 1, by decide +kernel⟩,
   ⟨0x401, (wst id), by decide +kernel⟩,
   ⟨(wst id), true, true, by decide +kernel⟩,
   ⟨(wst id), true, false, by decide +kernel⟩⟩

/-- Every premise of `Obligations.StatusBitsClear` can hold. -/
theorem wit_StatusBitsClear :
    ∃ (j : Nat) (s : State), s.dev.sy.power = .run ∧ j < 8 :=
  ⟨7, (wst id), by decide +kernel⟩

/-- Every premise of `Obligations.TwoWireTargets` can hold. -/
theorem wit_TwoWireTargets :
    (∃ (i : Fin 2) (a : BitVec 7) (s : State), s.dev.sy.power = .run ∧ (s.dev.twtOf i).addr.getLsbD 31 = true ∧ (s.dev.twtOf
      i).hits a = true ∧ (s.dev.ln.hb.req ≠ .served ∨ i.val = 1)) ∧
    (∃ (i : Fin 2) (a : BitVec 7) (s : State), s.dev.sy.power = .run ∧ (s.dev.twtOf i).addr.getLsbD 31 = true ∧ (s.dev.twtOf
      i).hits a = true ∧ s.dev.ln.hb.go = false) ∧
    (∃ (i : Fin 2) (a : BitVec 7) (p : Byte) (s : State), s.dev.sy.power = .run ∧ (s.dev.twtOf i).addr.getLsbD 31 = true ∧ (s.dev.twtOf
      i).hits a = true ∧ s.dev.ln.hb.go = false ∧ 0x80 ≤ p.toNat ∧ p.toNat < 0xC0 ∧ p.toNat ≠ 0x81) ∧
    (∃ (i : Fin 2) (a : BitVec 7) (s : State), (s.dev.twtOf i).hits a = false) ∧
    (∃ (s : State), s.dev.sy.power = .run ∧ (s.dev.twtOf 0).addr.getLsbD 31 = true ∧ (s.dev.twtOf 0).hb.getLsbD 0 = true ∧
      s.dev.ln.hb.pending ≠ 0 ∧ s.dev.ln.hb.req = .idle) ∧
    (∃ (s : State), s.dev.ln.hb.req = .holding) :=
  ⟨⟨1, 0x48, (wst fun d => d.modTwt 1 fun t => { t with addr := 0x80000048 }), by decide +kernel⟩,
   ⟨0, 0x48, (wst id), by decide +kernel⟩,
   ⟨1, 0x48, 0xBF, (wst fun d => d.modTwt 1 fun t => { t with addr := 0x80000048 }), by decide +kernel⟩,
   ⟨1, 0x49, (wst id), by decide +kernel⟩,
   ⟨(wst fun d => (d.modTwt 0 fun t => { t with hb := 1 }).modHb fun h => { h with pending := 1 }), by decide +kernel⟩,
   ⟨(wst fun d => d.modHb fun h => { h with req := .holding }), by decide +kernel⟩⟩

/-- Every premise of `Obligations.HatbandCommands` can hold. -/
theorem wit_HatbandCommands :
    (∃ (s : State), s.dev.sy.power = .run ∧ s.dev.sy.order = none ∧ s.dev.sy.sleepNext = false ∧ s.dev.hbReady 1 = true ∧
      s.dev.hbArg 0 ≤ 4 ∧ s.dev.hbArg 1 < statusCount (s.dev.hbArg 0)) ∧
    (∃ (s : State), s.dev.sy.power = .run ∧ s.dev.sy.order = none ∧ s.dev.sy.sleepNext = false ∧ s.dev.hbReady 2 = true) ∧
    (∃ (s : State), s.dev.sy.power = .run ∧ s.dev.sy.order = none ∧ s.dev.sy.sleepNext = false ∧ s.dev.hbReady 3 = true ∧
      (s.dev.twtOf 0).hb.getLsbD 1 = true) ∧
    (∃ (s : State), s.dev.sy.power = .run ∧ s.dev.sy.order = none ∧ s.dev.sy.sleepNext = false ∧ s.dev.hbReady 3 = true ∧
      (s.dev.twtOf 0).hb.getLsbD 1 = false) ∧
    (∃ (s : State), s.dev.sy.power = .run ∧ s.dev.sy.order = none ∧ s.dev.sy.sleepNext = false ∧ s.dev.hbReady 4 = true ∧
      (s.dev.twtOf 0).hb.getLsbD 1 = true ∧ 0 < s.dev.hbArg 0 ∧ s.dev.hbArg 0 < 4 ∧ s.dev.powerRefusal (s.dev.hbArg 0) =
      none ∧ s.dev.hasShared = false) ∧
    (∃ (s : State), s.dev.sy.power = .run ∧ s.dev.sy.order = none ∧ s.dev.sy.sleepNext = false ∧ s.dev.hbReady 5 = true) ∧
    (∃ (s : State), s.dev.sy.power = .run ∧ s.dev.sy.order = none ∧ s.dev.sy.sleepNext = false ∧ s.dev.hbReady 6 = true ∧
      (s.dev.twtOf 0).hb.getLsbD 2 = true) :=
  ⟨⟨(tHat [1, 0, 0, 0, 4, 0]), by decide +kernel⟩,
   ⟨(tHat [2]), by decide +kernel⟩,
   ⟨(tHat [3, 0, 0, 0, 1]), by decide +kernel⟩,
   ⟨(wst fun d => d.modHb fun h => { h with go := true, cmd := [3] }), by decide +kernel⟩,
   ⟨(tHat [4, 0, 0, 0, 1]), by decide +kernel⟩,
   ⟨(tHat [5]), by decide +kernel⟩,
   ⟨(tHat [6]), by decide +kernel⟩⟩

/-- Every premise of `Obligations.ControllersAndCan` can hold. -/
theorem wit_ControllersAndCan :
    (∃ (c : Fin 4) (k : Fin 16) (s : State), s.dev.twcOn c = true ∧ s.dev.stp k 12 = (c.val : Int) + 1 ∧
      ((∀ j, j < k.val → s.dev.pollsOn c j = true → s.dev.pmDue j ≠ s.dev.pmDue k)) ∧ s.dev.pmAccepts k tPm = true) ∧
    (∃ (c : Fin 4) (k : Fin 16) (s : State), s.dev.twcOn c = true ∧ s.dev.stp k 12 = (c.val : Int) + 1 ∧
      ((∀ j, j < k.val → s.dev.pollsOn c j = true → s.dev.pmDue j ≠ s.dev.pmDue k)) ∧ s.dev.pmAccepts k [] = false) ∧
    (∃ (c : Fin 4) (s : State), s.dev.twcOn c = true ∧ (s.dev.twcOf c).tries < fld ((s.dev.twcOf c).regs.getD 0 0) 3 2) ∧
    (∃ (c : Fin 4) (s : State), s.dev.twcOn c = true ∧ fld ((s.dev.twcOf c).regs.getD 0 0) 3 2 ≤ (s.dev.twcOf c).tries) ∧
    (∃ (c : Fin 4) (s : State), s.dev.twcOn c = true) ∧
    (∃ (k : Fin 2) (n : Nat) (ident : BitVec 29) (ide : Bool) (b : List Byte) (s : State), s.dev.canOn k = true ∧
      s.dev.canStrings k = [n] ∧ s.dev.canMatch n ident ide = true ∧ 16 ≤ b.length) ∧
    (∃ (k : Fin 2) (n : Nat) (ident : BitVec 29) (ide : Bool) (b : List Byte) (s : State), s.dev.canOn k = true ∧
      s.dev.canStrings k = [n] ∧ s.dev.canMatch n ident ide = true ∧ b.length < 16) ∧
    (∃ (k : Fin 2) (s : State), s.dev.canOn k = true ∧ (s.dev.canOf k).ctrl.getLsbD 1 = true ∧ (s.dev.canOf k).ctrl.getLsbD
      4 = false ∧ (s.dev.canOf k).ctrl.toNat / 256 % 65536 ≠ 0) ∧
    (∃ (k : Fin 2) (s : State), s.dev.canOn k = true ∧ (s.dev.canOf k).st = 0) ∧
    (∃ (k : Fin 2) (s : State), s.dev.canOn k = true) ∧
    (∃ (k : Fin 2) (s : State), s.dev.canPowered = true ∧ (s.dev.canOf k).ctrl.getLsbD 0 = true ∧ (s.dev.canOf
      k).ctrl.getLsbD 3 = true ∧ (s.dev.canOf k).st = 2) :=
  ⟨⟨3, 15, (wst fun d => (d.modTwc 3 fun t => { t with regs := [0x00056409] }).modStr 15 fun x =>
     { x with st := .running, cfg := [(12, 4)] }), by decide +kernel⟩,
   ⟨3, 15, (wst fun d => (d.modTwc 3 fun t => { t with regs := [0x00056409] }).modStr 15 fun x =>
     { x with cfg := [(12, 4)] }), by decide +kernel⟩,
   ⟨3, (wst fun d => d.modTwc 3 fun t => { t with regs := [0x00056409] }), by decide +kernel⟩,
   ⟨3, (wst fun d => d.modTwc 3 fun t => { t with regs := [0x00056409], tries := 3 }), by decide +kernel⟩,
   ⟨0, (wst fun d => d.modTwc 0 fun t => { t with regs := [1] }), by decide +kernel⟩,
   ⟨1, 15, 5, true, (zeros 16), tCan, by decide +kernel⟩,
   ⟨1, 15, 5, true, (zeros 15), tCan, by decide +kernel⟩,
   ⟨0, (wst fun d => d.modCan 0 fun c => { c with ctrl := 0x103 }), by decide +kernel⟩,
   ⟨1, (wst fun d => d.modCan 1 fun c => { c with ctrl := 1 }), by decide +kernel⟩,
   ⟨0, (wst fun d => d.modCan 0 fun c => { c with ctrl := 1 }), by decide +kernel⟩,
   ⟨0, (wst fun d => d.modCan 0 fun c => { c with ctrl := 9, st := 2 }), by decide +kernel⟩⟩

/-- Every premise of `Obligations.ChainStates` can hold. -/
theorem wit_ChainStates :
    (∃ (s : State), s.dev.ln.chn.st = .training) ∧
    (∃ (f : Formation) (s : State), s.dev.ln.chn.st = .electing ∧ f.conflict = true) ∧
    (∃ (f : Formation) (s : State), s.dev.ln.chn.st = .electing ∧ (f.keys.any (· % 16 == fld s.dev.ln.chn.ctrl 1 4)) = true) ∧
    (∃ (f : Formation) (s : State), s.dev.ln.chn.st = .electing ∧ f.conflict = false ∧
      (f.keys.any (· % 16 == fld s.dev.ln.chn.ctrl 1 4)) = false ∧ 8000 < f.loopNs) ∧
    (∃ (f : Formation) (s : State), s.dev.ln.chn.st = .electing ∧ f.conflict = false ∧
      (f.keys.any (· % 16 == fld s.dev.ln.chn.ctrl 1 4)) = false ∧ f.loopNs ≤ 8000 ∧ s.dev.ln.chn.elects f = true ∧ ((∀ m, m < 16 →
      (s.dev.mitE m).shared = false)) ∧ s.dev.ln.chn.known = false) ∧
    (∃ (s : State), s.dev.ln.chn.st = .formed ∧ s.dev.ln.chn.lost = false ∧ 2 ≤ s.dev.ln.chn.quiet ∧
      s.dev.ln.chn.role = 1) ∧
    (∃ (s : State), s.dev.ln.chn.st = .formed ∧ s.dev.ln.chn.lost = false ∧ 2 ≤ s.dev.ln.chn.quiet ∧
      s.dev.ln.chn.role = 2) ∧
    (∃ (s : State), s.dev.ln.chn.lost = true ∧ s.dev.ln.chn.role ≠ 2) ∧
    (∃ (s : State), s.dev.ln.chn.lost = true ∧ s.dev.ln.chn.role = 2) ∧
    (∃ (p : Nat) (o : Int) (s : State), s.dev.ln.chn.ctrl.toNat / 512 % 4 = 2 ∧ s.dev.sy.ticking = true ∧ ((s.dev.ln.chn.st
      = .formed → s.dev.ln.chn.role = 1)) ∧ s.dev.ln.chn.syncLock = true ∧ 999000 ≤ p ∧ p ≤ 1001000 ∧ o.natAbs ≤ 2000) ∧
    (∃ (p : Nat) (o : Int) (s : State), s.dev.ln.chn.ctrl.toNat / 512 % 4 = 2 ∧ s.dev.sy.ticking = true ∧ ((s.dev.ln.chn.st
      = .formed → s.dev.ln.chn.role = 1)) ∧ s.dev.ln.chn.syncLock = true ∧ (p < 999000 ∨ 1001000 < p ∨ 2000 < o.natAbs) ∧
      s.dev.ln.chn.syncBad < 2) ∧
    (∃ (p : Nat) (o : Int) (s : State), s.dev.ln.chn.ctrl.toNat / 512 % 4 = 2 ∧ s.dev.sy.ticking = true ∧ ((s.dev.ln.chn.st
      = .formed → s.dev.ln.chn.role = 1)) ∧ s.dev.ln.chn.syncLock = true ∧ (p < 999000 ∨ 1001000 < p ∨ 2000 < o.natAbs) ∧
      s.dev.ln.chn.syncBad = 2) :=
  ⟨⟨(wst fun d => d.modChn fun c => { c with st := .training }), by decide +kernel⟩,
   ⟨{ tForm with conflict := true }, (wst fun d => d.modChn fun c => { c with st := .electing }), by decide +kernel⟩,
   ⟨{ tForm with keys := [18] }, (wst fun d => d.modChn fun c => { c with st := .electing, ctrl := 4 }), by decide +kernel⟩,
   ⟨{ tForm with loopNs := 8001 }, (wst fun d => d.modChn fun c => { c with st := .electing }), by decide +kernel⟩,
   ⟨{ tForm with loopNs := 8000, keys := [18] }, (wst fun d => (d.modChn fun c => { c with st := .electing, ctrl := 2 }).onPw fun p =>
     { p with map := {} }), by decide +kernel⟩,
   ⟨(wst fun d => d.modChn fun c => { c with st := .formed, role := 1, quiet := 2 }), by decide +kernel⟩,
   ⟨(wst fun d => d.modChn fun c => { c with st := .formed, role := 2, quiet := 2 }), by decide +kernel⟩,
   ⟨(wst fun d => d.modChn fun c => { c with st := .formed, role := 1, lost := true }), by decide +kernel⟩,
   ⟨(wst fun d => d.modChn fun c => { c with st := .isolated, role := 2, lost := true }), by decide +kernel⟩,
   ⟨1001000, -2000, (wst fun d => (d.modChn fun c => { c with ctrl := 0x400, syncLock := true, syncBad := 1 })),
     by decide +kernel⟩,
   ⟨998999, 0, (wst fun d => (d.modChn fun c => { c with ctrl := 0x400, syncLock := true, syncBad := 1 })),
     by decide +kernel⟩,
   ⟨1000000, 2001, (wst fun d => (d.modChn fun c => { c with ctrl := 0x400, syncLock := true, syncBad := 2 })),
     by decide +kernel⟩⟩

set_option maxRecDepth 100000 in
/-- Every premise of `Obligations.ChainMessages` can hold. -/
theorem wit_ChainMessages :
    (∃ (f : List Byte) (code : Bool) (s : State), s.dev.ln.chn.st = .formed ∧ (code = true ∨ f.length ≠ 250 ∨ sealFrame f ≠
      f)) ∧
    (∃ (f : List Byte) (code : Bool) (s : State), s.dev.ln.chn.st = .formed ∧ code = false ∧ f.length = 250 ∧ sealFrame f =
      f ∧ s.dev.ln.chn.role = 1) ∧
    (∃ (f : List Byte) (code : Bool) (s : State), s.dev.ln.chn.st = .isolated ∧ (code = true ∨ f.length ≠ 250 ∨
      sealFrame f ≠ f)) ∧
    (∃ (msg : List Byte) (m : Nat) (s : State), s.dev.ln.chn.follows = true ∧ byteAt msg 1 = m ∧ (s.dev.mitE m).used = true
      ∧ (s.dev.mitE m).shared = true ∧ byteAt msg 0 = 1) ∧
    (∃ (msg : List Byte) (m : Nat) (s : State), s.dev.ln.chn.follows = true ∧ byteAt msg 1 = m ∧ (s.dev.mitE m).used = true
      ∧ (s.dev.mitE m).shared = true ∧ byteAt msg 0 = 3) ∧
    (∃ (msg : List Byte) (s : State), s.dev.ln.chn.follows = true ∧ byteAt msg 0 = 2 ∧ 1 ≤ byteAt msg 1 ∧ byteAt msg 1 ≤ 4) ∧
    (∃ (msg : List Byte) (s : State), s.dev.ln.chn.st = .formed ∧ s.dev.ln.chn.role = 2 ∧ byteAt msg 0 = 4 ∧ byteAt msg 1 ≠
      s.dev.ln.chn.pos ∧ byteAt msg 1 < 16 ∧ byteAt msg 2 = evLimpEntered) ∧
    (∃ (msg : List Byte) (s : State), s.dev.ln.chn.st = .formed ∧ s.dev.ln.chn.fromUpstream = true ∧
      s.dev.receives = true ∧ byteAt msg 0 = 5 ∧ s.nv.upd ≠ .activating ∧
      ((manifestUnits (addChunk (leAt msg 2 2) (msg.drop 4) (if leAt msg 2 2 = 0 then [] else s.dev.ln.chn.man))).all fun k
      => (wholeItem k (addChunk (leAt msg 2 2) (msg.drop 4) (if leAt msg 2 2 = 0 then [] else s.dev.ln.chn.man))).isNone) =
      true) ∧
    (∃ (msg : List Byte) (s : State), s.dev.ln.chn.st = .formed ∧ s.dev.ln.chn.fromUpstream = true ∧
      s.dev.receives = true ∧ byteAt msg 0 = 6 ∧ s.nv.upd ≠ .activating ∧ wholeItem 256
      (addChunk (byteAt msg 4) (msg.drop 5) (if s.dev.ln.chn.piece = some (leAt msg 2 2) then s.dev.ln.chn.chunks else []))
      = none) :=
  ⟨⟨[], false, (wst fun d => d.modChn fun c => { c with st := .formed }), by decide +kernel⟩,
   ⟨(sealFrame (zeros 250)), false, (wst fun d => d.modChn fun c => { c with st := .formed, role := 1 }),
     by decide +kernel⟩,
   ⟨[], false, (wst fun d => d.modChn fun c => { c with st := .isolated }), by decide +kernel⟩,
   ⟨[1, 2], 2, tFollower, by decide +kernel⟩,
   ⟨[3, 2], 2, tFollower, by decide +kernel⟩,
   ⟨[2, 4, 9, 0], tFollower, by decide +kernel⟩,
   ⟨[4, 1, 16], tFollower, by decide +kernel⟩,
   ⟨[5, 0, 1, 0], tFed, by decide +kernel⟩,
   ⟨[6, 0, 0, 0, 0], tFed, by decide +kernel⟩⟩

set_option maxRecDepth 100000 in
/-- Every premise of `Obligations.RecoveryRom` can hold. -/
theorem wit_RecoveryRom :
    (∃ (p : List Byte) (s : State), s.dev.sy.power = .recovery ∧ s.dev.ln.upd.romAtt ≠ some .uart ∧ 4 ≤ p.length ∧ p.length = 4 + leAt p 2 2 ∧
      s.dev.ln.upd.romSeq = some (byteAt p 1)) ∧
    (∃ (p : List Byte) (s : State), s.dev.sy.power = .recovery ∧ s.dev.ln.upd.romAtt ≠ some .uart ∧ p.length ≠ 4 + leAt p 2 2) ∧
    (∃ (p : List Byte) (s : State), s.dev.sy.power = .recovery ∧ s.dev.ln.upd.romAtt ≠ some .uart ∧ 4 ≤ p.length ∧ p.length = 4 + leAt p 2 2 ∧
      s.dev.ln.upd.romSeq ≠ some (byteAt p 1) ∧ byteAt p 0 = 1) ∧
    (∃ (p : List Byte) (s : State), s.dev.sy.power = .recovery ∧ s.dev.ln.upd.romAtt ≠ some .uart ∧ 4 ≤ p.length ∧ p.length = 4 + leAt p 2 2 ∧
      s.dev.ln.upd.romSeq ≠ some (byteAt p 1) ∧ byteAt p 0 = 2 ∧ byteAt p 4 < 2 ∧ 9 ≤ p.length ∧ p.length ≤ 4105 ∧ romWhole
      (romAssemble (if s.dev.ln.upd.romAsm = byteAt p 4 then s.dev.ln.upd.romMan else []) (leAt p 5 4) (p.drop 9)) = none) ∧
    (∃ (p : List Byte) (s : State), s.dev.sy.power = .recovery ∧ s.dev.ln.upd.romAtt ≠ some .uart ∧ 4 ≤ p.length ∧ p.length = 4 + leAt p 2 2 ∧
      s.dev.ln.upd.romSeq ≠ some (byteAt p 1) ∧ byteAt p 0 = 3 ∧ s.dev.romSlot s.nv = some (byteAt p 4) ∧ p.length = 4103) ∧
    (∃ (p : List Byte) (s : State), s.dev.sy.power = .recovery ∧ s.dev.ln.upd.romAtt ≠ some .uart ∧ 4 ≤ p.length ∧ p.length = 4 + leAt p 2 2 ∧
      s.dev.ln.upd.romSeq ≠ some (byteAt p 1) ∧ byteAt p 0 = 4 ∧ s.dev.romSlot s.nv = some (byteAt p 4) ∧ p.length = 5) ∧
    (∃ (p : List Byte) (s : State) (m : Manifest), s.dev.sy.power = .recovery ∧ s.dev.ln.upd.romAtt ≠ some .uart ∧ 4 ≤ p.length ∧ p.length = 4 + leAt p 2 2 ∧
      s.dev.ln.upd.romSeq ≠ some (byteAt p 1) ∧ byteAt p 0 = 5 ∧ byteAt p 4 < 2 ∧ s.dev.romSlot s.nv = some (byteAt p 4) ∧
      s.nv.held = some m ∧ s.nv.ownerLock = false ∧ s.nv.bitmap.length = m.pieces) ∧
    (∃ (p : List Byte) (s : State), s.dev.sy.power = .recovery ∧ s.dev.ln.upd.romAtt ≠ some .uart ∧ 4 ≤ p.length ∧ p.length = 4 + leAt p 2 2 ∧
      s.dev.ln.upd.romSeq ≠ some (byteAt p 1) ∧ byteAt p 0 = 6) ∧
    (∃ (f : List Byte) (s : State), s.dev.sy.power = .recovery ∧ s.dev.ln.upd.romAtt ≠ some .window ∧ romUnframe f = none) ∧
    (∃ (f p : List Byte) (s : State), s.dev.sy.power = .recovery ∧ s.dev.ln.upd.romAtt ≠ some .window ∧ romUnframe f = some p ∧
      p.length = 5 ∧ leAt p 2 2 = 1 ∧ s.dev.ln.upd.romSeq ≠ some (byteAt p 1) ∧ byteAt p 0 = 4 ∧
      s.dev.romSlot s.nv = some (byteAt p 4)) ∧
    (∃ (s : State), s.dev.ln.upd.romAtt = some .uart) :=
  ⟨⟨[1, 9, 0, 0], (tRom fun u => { u with romSeq := some 9 }), by decide +kernel⟩,
   ⟨[4, 0, 9, 0], (tRom id), by decide +kernel⟩,
   ⟨[1, 9, 0, 0], (tRom id), by decide +kernel⟩,
   ⟨[2, 9, 5, 0, 1, 0, 0, 0, 0], (tRom id), by decide +kernel⟩,
   ⟨([3, 9, 3, 16, 1] ++ zeros 4098), { tRom (fun u => { u with romSlot := some 1 }) with nv := { held := some {} } },
     by decide +kernel⟩,
   ⟨[4, 9, 1, 0, 1], { tRom (fun u => { u with romSlot := some 1 }) with nv := { held := some {} } }, by decide +kernel⟩,
   ⟨[5, 9, 1, 0, 1], { tRom (fun u => { u with romSlot := some 1 }) with nv := { held := some {} } }, {},
     by decide +kernel⟩,
   ⟨[6, 9, 0, 0], (tRom id), by decide +kernel⟩,
   ⟨[0x7E], (tRom id), by decide +kernel⟩,
   ⟨romFrame [4, 0x7E, 1, 0, 1], [4, 0x7E, 1, 0, 1],
     { tRom (fun u => { u with romSlot := some 1 }) with nv := { held := some {} } }, by decide +kernel⟩,
   ⟨(tRom fun u => { u with romAtt := some .uart }), by decide +kernel⟩⟩

/-- Every premise of `Obligations.LockRelease` can hold. -/
theorem wit_LockRelease :
    (∃ (a : Fin 128) (sec : Bool) (n : Fin 64) (v : Word) (x : Lock) (s : State), isAgent a = true ∧ a.val ≠ agHost ∧
      ((n.val < 8 → isSecure a sec = true)) ∧ s.dev.sy.lck[n.val]? = some x ∧ v &&& 0x7F00FE80#32 ≠ 0) ∧
    (∃ (a : Fin 128) (sec : Bool) (n : Fin 64) (v : Word) (x : Lock) (s : State), isAgent a = true ∧ a.val ≠ agHost ∧
      ((n.val < 8 → isSecure a sec = true)) ∧ s.dev.sy.lck[n.val]? = some x ∧ v &&& 0x7F00FE80#32 = 0 ∧ v.getLsbD 31 = true ∧
      x.owner = a.val) ∧
    (∃ (a : Fin 128) (sec : Bool) (n : Fin 64) (v : Word) (x : Lock) (s : State), isAgent a = true ∧ a.val ≠ agHost ∧
      ((n.val < 8 → isSecure a sec = true)) ∧ s.dev.sy.lck[n.val]? = some x ∧ v &&& 0x7F00FE80#32 = 0 ∧ v.getLsbD 31 = true ∧ (x.owner ≠ a.val ∨
      x.owner = 0)) ∧
    (∃ (a : Fin 128) (sec : Bool) (n : Fin 64) (v : Word) (x : Lock) (s : State), isAgent a = true ∧ a.val ≠ agHost ∧
      ((n.val < 8 → isSecure a sec = true)) ∧ s.dev.sy.lck[n.val]? = some x ∧ v &&& 0x7F00FE80#32 = 0 ∧
      v.getLsbD 31 = false) :=
  ⟨⟨3, true, 7, 0x80000080, {}, (wst id), by decide +kernel⟩,
   ⟨3, true, 7, 0x80000000, { owner := 3 }, (wst fun d => d.modLck 7 fun _ => { owner := 3 }), by decide +kernel⟩,
   ⟨1, false, 8, 0x80000000, {}, (wst id), by decide +kernel⟩,
   ⟨1, false, 63, 0, {}, (wst id), by decide +kernel⟩⟩

/-- Every premise of `Obligations.DoorbellIgnored` can hold. -/
theorem wit_DoorbellIgnored :
    ∃ (r : Fin 1024) (v : BitVec 64) (s : State) (c : _), (s.dev.inRun = true ∨ s.dev.sy.power = .sleep ∨ s.dev.sy.power =
      .liner) ∧ (v.toNat / 4096 % 8 ≠ 0 ∨ v.toNat / 268435456 % 4 ≠ 0 ∨ v.toNat / 4294967296 ≠ 0 ∨ (v.getLsbD 15 = true ∧
      (s.dev.ring r).sqLen ≤ v.toNat % 4096) ∨ (v.getLsbD 31 = true ∧ ((s.dev.ring r).cqLen ≤ v.toNat / 65536 % 4096 ∨
      (s.dev.ring r).unrel < (s.dev.ring r).released (v.toNat / 65536 % 4096))) ∨ (s.dev.ring r).st = .none ∨ (s.dev.ring
      r).st = .deleting) ∧ (c = Instr.doorbellSqTail r v 8 ∨ c = Instr.doorbellCqHead r v 8 ∨ c = Instr.doorbellArm r v 8) :=
  ⟨1023, 4096, (wst id), (.doorbellArm 1023 4096 8), by decide +kernel⟩

/-- Every premise of `Obligations.LimiterInCharge` can hold. -/
theorem wit_LimiterInCharge :
    ∃ (l : List (Nat × Int)) (cmd : Int), l ≠ [] ∧ cmd = max 0 (leastOf l) ∧ (l.map (·.1)).Pairwise (· < ·) :=
  ⟨[(1, 5), (2, -3)], 0, by decide +kernel⟩

/-- Every premise of `Obligations.RationsSumToBase` can hold. -/
theorem wit_RationsSumToBase :
    ∃ (draw : List Nat), draw ≠ [] ∧ draw.Nodup :=
  ⟨[0, 1], by decide +kernel⟩

/-- Every premise of `Obligations.UpdateBookkeepingKept` can hold. -/
theorem wit_UpdateBookkeepingKept :
    ∃ (s : State) (t : State), s.nv.wf ∧ step s = .next t :=
  ⟨tBook, (ran (.updateCancel 1) { tBook with pending := [] }), ⟨by decide +kernel, by decide +kernel, by decide +kernel,
    by decide +kernel, fun p hp => ⟨{ pieces := 2 }, rfl, (by decide +kernel : ∀ q ∈ tNv.bitmap, q < 2) p hp⟩, fun h => by
    rcases h with h | h <;> cases h⟩, rfl⟩

/-- Every premise of `Obligations.RollbackFloorsNeverFall` can hold. -/
theorem wit_RollbackFloorsNeverFall :
    ∃ (s : State) (t : State), step s = .next t :=
  ⟨tBook, (ran (.updateCancel 1) { tBook with pending := [] }), by first | decide +kernel | rfl⟩

/-- Every premise of `Obligations.WindowsStayCanonical` can hold. -/
theorem wit_WindowsStayCanonical :
    ∃ (s : State) (t : State), winWf s.dev.ho.win = true ∧ winWf s.dev.ln.upd.romWin = true ∧ step s = .next t :=
  ⟨tWindow, (ran .functionLevelReset { tWindow with pending := [] }), by and_intros <;> first | decide +kernel | rfl⟩


/-- Every premise of `Obligations.StepRunsFront` can hold. -/
theorem wit_StepRunsFront :
    (∃ (s : State) (c : Instr) (rest : List Instr), s.pending = c :: rest) ∧
    (∃ (s t : State) (c : Instr), exec c s = .next t) ∧ (∃ s : State, s.pending = []) :=
  ⟨⟨tBook, .updateCancel 1, [], rfl⟩, ⟨wst id, wst id, .bootFailsClear, rfl⟩, ⟨wst id, rfl⟩⟩

/-- The cases of `Obligations.PhaseTransient`, `Obligations.LevelGrid` and `Obligations.RetryLadder` all occur. -/
theorem wit_cases_of_faults :
    (∃ x : Phase, x.st = .active ∧ x.lad.spent 0 = false) ∧ (∃ x : Phase, x.st = .active ∧ x.lad.spent 5 = true) ∧
    (∃ x : Phase, x.st = .retired) ∧
    (∃ (v : Level) (now : Nat), (now : Int) ≤ v.epoch + (v.count + 1) * levelPeriod 0) ∧
    (∃ (v : Level) (now : Nat), v.epoch + (v.count + 1) * levelPeriod 0 < (now : Int)) :=
  ⟨⟨{ st := .active }, by decide +kernel⟩, ⟨{ st := .active, lad := { retries := [1, 2, 3, 4, 5] } }, by decide +kernel⟩,
   ⟨{ st := .retired }, rfl⟩, ⟨{}, 10000, by decide +kernel⟩, ⟨{}, 10001, by decide +kernel⟩⟩

/-- The cases of `Obligations.DescriptorAdmission` all occur: a marked slot, a descriptor that passes, one that fails. -/
theorem wit_cases_of_admission :
    (∃ g : Ring, g.marked.contains g.head = true) ∧
    (∃ (s : State) (g : Ring) (b : List Byte), g.marked.contains g.head = false ∧ s.dev.checkDesc 1 g g.seq b [] none = none) ∧
    (∃ (s : State) (g : Ring) (b : List Byte), g.marked.contains g.head = false ∧ s.dev.checkDesc 1 g g.seq b [] none ≠ none) :=
  ⟨⟨{ tRing with marked := [0] }, by decide +kernel⟩, ⟨tRun, tRing, (cmd opStageBegin [] []).desc, by decide +kernel⟩,
   ⟨tRun, tRing, zeros 64, by decide +kernel⟩⟩

end Sys2Proof.Tests
end

section
/-! PROOFS. Doorbell writes that are ignored as a whole (R275). -/

namespace Sys2Proof.Machine

/-! ### Fields of a doorbell value -/

theorem bits_eq_div_mod (v lo n : Nat) : bits v lo n = v / 2 ^ lo % 2 ^ n := by
  rw [bits, Nat.shiftRight_eq_div_pow]

/-- The upper word of a 64-bit doorbell value needs no truncation. -/
theorem bits_toNat_upper (v : BitVec 64) : bits v.toNat 32 32 = v.toNat / 4294967296 := by
  have upper_lt : v.toNat / 4294967296 < 4294967296 := Nat.div_lt_of_lt_mul v.isLt
  rw [bits_eq_div_mod]
  exact Nat.mod_eq_of_lt upper_lt

/-! ### The test of R275 and what it guards -/

/-- The conditions of R275 on an 8-byte value: reserved bits 14:12, 29:28 and 63:32, SQ_TAIL under SQ_VALID (bit 15), CQ_HEAD
under CQ_VALID (bit 31), and the state of the ring. -/
theorem Ring.badDoorbell_iff (g : Ring) (v : BitVec 64) :
    g.badDoorbell v.toNat = true ↔
      v.toNat / 4096 % 8 ≠ 0 ∨ v.toNat / 268435456 % 4 ≠ 0 ∨ v.toNat / 4294967296 ≠ 0 ∨
      (v.getLsbD 15 = true ∧ g.sqLen ≤ v.toNat % 4096) ∨
      (v.getLsbD 31 = true ∧ (g.cqLen ≤ v.toNat / 65536 % 4096 ∨ g.unrel < g.released (v.toNat / 65536 % 4096))) ∨
      g.st = .none ∨ g.st = .deleting := by
  have reserved : bits v.toNat 12 3 = v.toNat / 4096 % 8 ∧ bits v.toNat 28 2 = v.toNat / 268435456 % 4 :=
    ⟨bits_eq_div_mod .., bits_eq_div_mod ..⟩
  have sqTail : bits v.toNat 0 12 = v.toNat % 4096 := rfl
  have cqHead : bits v.toNat 16 12 = v.toNat / 65536 % 4096 := bits_eq_div_mod ..
  simp only [Ring.badDoorbell, reserved, bits_toNat_upper, sqTail, cqHead, BitVec.testBit_toNat, Bool.or_eq_true,
    Bool.and_eq_true, bne_iff_ne, decide_eq_true_eq, beq_iff_eq, or_assoc]

/-- An invalid 8-byte write to a powered device's doorbell raises the event and does nothing else (R275). -/
theorem Dev.doorbell_of_bad (d : Dev) (r : Nat) (v : BitVec 64)
    (power : d.inRun = true ∨ d.sy.power = .sleep ∨ d.sy.power = .liner) (bad : (d.ring r).badDoorbell v.toNat = true) :
    d.doorbell r v 8 = d.raise evRingDoorbellInvalid none (d2 r ++ leBytes 8 v.toNat) := by
  have answers : (d.inRun || d.sy.power == .sleep || d.sy.power == .liner) = true := by
    simpa only [Bool.or_eq_true, beq_iff_eq, or_assoc] using power
  simp [Dev.doorbell, answers, bad]

/-- The three doorbell commands are one write: the value's own valid bits say what acts (R272, R273, R282). -/
theorem exec_doorbell {c : Instr} {r : Fin 1024} {v : BitVec 64} {n : Nat} (s : State)
    (hc : c = .doorbellSqTail r v n ∨ c = .doorbellCqHead r v n ∨ c = .doorbellArm r v n) :
    exec c s = .next { s with dev := s.dev.doorbell r v n } := by
  rcases hc with rfl | rfl | rfl <;> rfl

/-- Settles O54: the three commands are one doorbell write, and R275's conditions are those its test finds. -/
theorem doorbellIgnored : Obligations.DoorbellIgnored := by
  intro r v s power bad c hc
  rw [exec_doorbell s hc, Dev.doorbell_of_bad s.dev r v power ((Ring.badDoorbell_iff _ v).mpr bad)]

end Sys2Proof.Machine
end

section
/-! PROOFS. The frame of a step outside the device: the queue, and the two floors of the non-volatile state. -/

namespace Sys2Proof.Machine

/-! ### The floors of the non-volatile state (R414, R425) -/

/-- SEC_MIN and OWNER_COUNTER. -/
def Nv.floors (n : Nv) : Nat × Nat := (n.secMin, n.ownerCnt)

theorem Nv.withUpd_floors (n : Nv) (u : UpdSt) : Nv.floors { n with upd := u } = n.floors := rfl

@[simp] theorem Nv.running_floors (n : Nv) (slot : Nat) : (n.running slot).floors = n.floors := by
  unfold Nv.running
  split <;> rfl

@[simp] theorem Nv.reactivate_floors (n : Nv) : n.reactivate.floors = n.floors := by
  unfold Nv.reactivate
  split <;> rfl

@[simp] theorem Nv.setFlash_floors (n : Nv) (slot : Nat) (f : FlashSlot → FlashSlot) : (n.setFlash slot f).floors = n.floors := by
  unfold Nv.setFlash
  split <;> rfl

@[simp] theorem Nv.writeKey_floors (n : Nv) (record plain : List Byte) : (n.writeKey record plain).floors = n.floors := by
  simp only [Nv.writeKey]
  split <;> rfl

@[simp] theorem Nv.acceptManifest_floors (n : Nv) (slot : Nat) (m : Manifest) : (n.acceptManifest slot m).1.floors = n.floors := by
  have stored := n.setFlash_floors slot fun f => { f with man := some m }
  unfold Nv.acceptManifest
  split
  · split
    · rfl
    · exact stored
  · exact stored

@[simp] theorem Nv.takePiece_floors (n : Nv) (slot p : Nat) (b : List Byte) (readOk : Bool) :
    (n.takePiece slot p b readOk).1.floors = n.floors := by
  have programmed := n.setFlash_floors slot fun f => { f with pieces := assign p b f.pieces }
  unfold Nv.takePiece
  split
  · rfl
  · split_ifs
    · rfl
    · rfl
    · rfl
    · exact programmed

/-! ### Shared operations of the device and the non-volatile state keep the floors -/

theorem floors_of_ite {c : Prop} [Decidable c] {a b : Dev × Nv} {n : Nv} (ha : a.2.floors = n.floors)
    (hb : b.2.floors = n.floors) : (if c then a else b).2.floors = n.floors := by
  split <;> assumption

@[simp] theorem Dev.boot_floors (d : Dev) (n : Nv) (kind : StartKind) (b : BootIn) : (d.boot n kind b).2.floors = n.floors := by
  have image := Nv.running_floors
  unfold Dev.boot
  exact floors_of_ite rfl (floors_of_ite rfl (image ..))

@[simp] theorem Dev.warmStart_floors (d : Dev) (n : Nv) (i : StartIn) : (d.warmStart n i).2.floors = n.floors := by
  unfold Dev.warmStart
  dsimp only
  split_ifs
  · exact d.boot_floors ..
  · rfl
  · rfl
  · rfl
  · exact Nv.reactivate_floors _

@[simp] theorem Dev.stalled_floors (d : Dev) (n : Nv) (a ev : Nat) (i : StartIn) : (d.stalled n a ev i).2.floors = n.floors := by
  unfold Dev.stalled
  split
  · exact Dev.warmStart_floors ..
  · rfl

@[simp] theorem Dev.hitless_floors (d : Dev) (n : Nv) (i : StartIn) : (d.hitless n i).2.floors = n.floors :=
  Dev.warmStart_floors ..

@[simp] theorem Dev.activate_floors (d : Dev) (n : Nv) (t : Nat) (i : StartIn) : (d.activate n t i).2.floors = n.floors := by
  unfold Dev.activate
  dsimp only
  split
  · rfl
  · exact (Nv.running_floors ..).trans (Dev.hitless_floors ..)

/-- A manifest that is taken keeps the floors. -/
theorem Dev.takeManifest_floors {d e : Dev} {n m : Nv} {origin : Nat} {b : List Byte} {new : Bool}
    (h : d.takeManifest n origin b = .ok (e, m, new)) : m.floors = n.floors := by
  have accepted := n.acceptManifest_floors (1 - d.sy.slot) (parseManifest b)
  unfold Dev.takeManifest at h
  dsimp only at h
  split at h
  · cases h
  · split at h <;> · cases h; exact accepted

@[simp] theorem Dev.takePiece_floors (d : Dev) (n : Nv) (origin p : Nat) (b : List Byte) (readOk : Bool) :
    (d.takePiece n origin p b readOk).2.1.floors = n.floors := by
  have piece := n.takePiece_floors (1 - d.sy.slot) p b readOk
  unfold Dev.takePiece
  dsimp only
  split <;> exact piece

@[simp] theorem Dev.takePieces_floors (badRead : Option Nat) (payload : List Byte) (l : List Nat) :
    ∀ (d : Dev) (n : Nv) (i : Nat) (any : Bool), (d.takePieces n badRead payload l i any).2.1.floors = n.floors := by
  induction l with
  | nil => exact fun _ _ _ _ => rfl
  | cons p t ih =>
    intro d n i any
    unfold Dev.takePieces
    dsimp only
    split
    · exact Dev.takePiece_floors ..
    · exact (ih ..).trans (Dev.takePiece_floors ..)
    · exact (ih ..).trans (Dev.takePiece_floors ..)

@[simp] theorem Dev.hbManifest_floors (d : Dev) (n : Nv) (units : Nat) (b : List Byte) :
    (d.hbManifest n units b).2.floors = n.floors := by
  unfold Dev.hbManifest
  dsimp only
  split
  · rfl
  · split
    · rfl
    · next taken => exact Dev.takeManifest_floors taken

@[simp] theorem Dev.hbPiece_floors (d : Dev) (n : Nv) (p : Nat) (b : List Byte) (readOk : Bool) :
    (d.hbPiece n p b readOk).2.floors = n.floors := by
  unfold Dev.hbPiece
  dsimp only
  split
  · rfl
  · split
    · rfl
    · split <;> exact Dev.takePiece_floors ..

@[simp] theorem Dev.hbChunk_floors (d : Dev) (n : Nv) (readOk : Bool) : (d.hbChunk n readOk).2.floors = n.floors := by
  unfold Dev.hbChunk
  refine floors_of_ite (floors_of_ite rfl ?manifest) (floors_of_ite (floors_of_ite rfl ?piece) rfl)
  case manifest =>
    dsimp only
    split
    · exact Dev.hbManifest_floors ..
    · rfl
  case piece =>
    dsimp only
    split
    · exact Dev.hbPiece_floors ..
    · rfl

@[simp] theorem Dev.chainPiece_floors (d : Dev) (n : Nv) (origin p : Nat) (b : List Byte) (readOk : Bool) :
    (d.chainPiece n origin p b readOk).2.floors = n.floors := by
  unfold Dev.chainPiece
  dsimp only
  split
  · rfl
  · split <;> exact Dev.takePiece_floors ..

@[simp] theorem Dev.latePiece_floors (d : Dev) (n : Nv) (x : LatePiece) : (d.latePiece n x).2.floors = n.floors := by
  unfold Dev.latePiece
  split_ifs
  · exact Dev.hbPiece_floors ..
  · rfl
  · exact Dev.chainPiece_floors ..

theorem Dev.latePiece_fold_floors (l : List LatePiece) :
    ∀ p : Dev × Nv, (l.foldl (fun a x => a.1.latePiece a.2 x) p).2.floors = p.2.floors := by
  induction l with
  | nil => exact fun _ => rfl
  | cons x t ih => exact fun p => (ih _).trans (Dev.latePiece_floors ..)

@[simp] theorem Dev.latePieces_floors (d : Dev) (n : Nv) : (d.latePieces n).2.floors = n.floors := by
  unfold Dev.latePieces
  split
  · rfl
  · exact Dev.latePiece_fold_floors ..

/-- A row of the recovery ROM keeps the floors where the command it takes does. -/
theorem Dev.romRow_floors (d : Dev) (n : Nv) (code : Nat) (raw : List Byte) (att : RomAtt)
    {f : List Byte → Dev → Nv → Dev × Nv} (h : ∀ p e, (f p e n).2.floors = n.floors) :
    (d.romRow n code raw att f).2.floors = n.floors := by
  unfold Dev.romRow
  split
  · rfl
  · split
    · rfl
    · dsimp only
      split_ifs
      · rfl
      · rfl
      · rfl
      · rfl
      · exact h ..

/-- An accepted block's counter lies above OWNER_COUNTER (R425). -/
theorem ownerAuth_counter {n : Nv} {purpose : Nat} {block desc mask : List Byte} {a : Nat × List Byte}
    (h : ownerAuth n purpose block desc mask = some a) : n.ownerCnt < a.1 := by
  unfold ownerAuth at h
  split at h
  · next accepted =>
      obtain ⟨k, -, rfl⟩ := Option.map_eq_some_iff.1 h
      exact accepted.2.2.1
  · cases h

/-- So does that of a CLAIM (R426). -/
theorem claimAuth_counter {n : Nv} {block desc mask : List Byte} {a : Nat × List Byte}
    (h : claimAuth n block desc mask = some a) : n.ownerCnt < a.1 := by
  unfold claimAuth at h
  split at h
  · next accepted =>
      cases h
      exact accepted.2.2.1
  · cases h

theorem floors_le_of_ite {c : Prop} [Decidable c] {a b : Dev × Nv} {n : Nv} (ha : n.floors ≤ a.2.floors)
    (hb : n.floors ≤ b.2.floors) : n.floors ≤ (if c then a else b).2.floors := by
  split <;> assumption

/-! ### Outcomes -/

/-- Every state that an outcome of `s` leads to has the queue of `s` and floors no lower than those of `s`. -/
structure OutcomeKeeps (s : State) (o : Host.Outcome State Fault Refusal) : Prop where
  keeps : ∀ t, o = .next t → t.pending = s.pending ∧ s.nv.floors ≤ t.nv.floors

section
variable {s : State}

theorem withDev_keeps (d : Dev) : OutcomeKeeps s (.next { s with dev := d }) where
  keeps := by
    rintro t ⟨⟩
    exact ⟨rfl, le_rfl⟩

theorem onBoth_keeps {f : Dev → Nv → Dev × Nv} (h : ∀ d n, n.floors ≤ (f d n).2.floors) : OutcomeKeeps s (s.onBoth f) where
  keeps := by
    rintro t ⟨⟩
    exact ⟨rfl, h _ _⟩

theorem runBoth_keeps (t op : Nat) {f : TagRec → Dev → Nv → Dev × Nv} (h : ∀ x d n, n.floors ≤ (f x d n).2.floors) :
    OutcomeKeeps s (s.runBoth t op f) :=
  onBoth_keeps fun d n => by
    cases d.command t op with
    | none => exact le_rfl
    | some x => exact h x d n

theorem romRow_keeps (code : Nat) (raw : List Byte) (att : RomAtt) {f : List Byte → Dev → Nv → Dev × Nv}
    (h : ∀ p e n, (f p e n).2.floors = n.floors) : OutcomeKeeps s (s.onBoth fun d n => d.romRow n code raw att f) :=
  onBoth_keeps fun d n => (d.romRow_floors n code raw att fun p e => h p e n).ge

/-! ### Commands that write the non-volatile state -/

theorem execVisitEnd_keeps (mu : Fin 16) (samples : List Int) (cmBad clipped : Bool) (time : Nat) :
    OutcomeKeeps s (execVisitEnd mu samples cmBad clipped time s) := by
  unfold execVisitEnd
  split
  · exact ⟨by rintro t ⟨⟩⟩
  · exact withDev_keeps _

/-- The block of a secure ring's owner, or of a CLAIM, has a counter above OWNER_COUNTER (R425, R426). -/
theorem ringAuth_counter {n : Nv} {block desc mask : List Byte} {a : Nat × List Byte}
    (h : (if n.owned then ownerAuth n 1 block desc mask else claimAuth n block desc mask) = some a) : n.ownerCnt < a.1 := by
  split at h
  · exact ownerAuth_counter h
  · exact claimAuth_counter h

theorem execRingCreate_keeps (tag : Tag) : OutcomeKeeps s (execRingCreate tag s) := by
  unfold execRingCreate
  refine runBoth_keeps _ _ fun x d n => floors_le_of_ite le_rfl (floors_le_of_ite le_rfl (floors_le_of_ite le_rfl ?_))
  split
  · exact le_rfl
  · exact le_rfl
  · refine floors_le_of_ite le_rfl (floors_le_of_ite le_rfl ?_)
    dsimp only
    split
    · exact le_rfl
    · next accepted => exact ⟨le_rfl, (ringAuth_counter accepted).le⟩

theorem execRingModify_keeps (tag : Tag) : OutcomeKeeps s (execRingModify tag s) := by
  unfold execRingModify
  refine runBoth_keeps _ _ fun x d n => ?_
  dsimp only
  refine floors_le_of_ite le_rfl (floors_le_of_ite le_rfl (floors_le_of_ite le_rfl (floors_le_of_ite le_rfl ?_)))
  split
  · exact le_rfl
  · exact le_rfl
  · refine floors_le_of_ite le_rfl ?_
    split
    · exact le_rfl
    · next accepted => exact ⟨le_rfl, (ownerAuth_counter accepted).le⟩

theorem execOwnerLock_keeps (tag : Tag) : OutcomeKeeps s (execOwnerLock tag s) := by
  unfold execOwnerLock
  refine runBoth_keeps _ _ fun x d n => ?_
  dsimp only
  split
  · exact le_rfl
  · split
    · exact le_rfl
    · next accepted => exact ⟨le_rfl, (ownerAuth_counter accepted).le⟩

/-- The one write of SEC_MIN takes the larger level (R414). -/
theorem execBootFailsClear_keeps : OutcomeKeeps s (execBootFailsClear s) := by
  unfold execBootFailsClear
  exact onBoth_keeps fun d n => by
    have raised : n.floors ≤ (max n.secMin n.runSecVer, n.ownerCnt) := ⟨le_max_left .., le_rfl⟩
    dsimp only
    split
    · exact le_rfl
    · split_ifs <;> exact raised

theorem execWdtKeyWrite_keeps (agent : Fin 128) (val : Word) (start : StartIn) :
    OutcomeKeeps s (execWdtKeyWrite agent val start s) := by
  unfold execWdtKeyWrite
  exact onBoth_keeps fun d n =>
    floors_le_of_ite le_rfl (floors_le_of_ite le_rfl (floors_le_of_ite le_rfl (floors_le_of_ite le_rfl
      (floors_le_of_ite (Dev.warmStart_floors ..).ge (floors_le_of_ite (floors_le_of_ite le_rfl (Dev.warmStart_floors ..).ge)
        (Dev.warmStart_floors ..).ge)))))

theorem execTakeoverComplete_keeps (micros : Nat) (start : StartIn) : OutcomeKeeps s (execTakeoverComplete micros start s) := by
  unfold execTakeoverComplete
  exact onBoth_keeps fun d n =>
    floors_le_of_ite le_rfl (floors_le_of_ite (Dev.warmStart_floors ..).ge n.reactivate_floors.ge)

theorem execEccUncorrectable_keeps (agent : Fin 128) (buf : Option (Fin 2)) (start : StartIn) :
    OutcomeKeeps s (execEccUncorrectable agent buf start s) := by
  unfold execEccUncorrectable
  exact onBoth_keeps fun d n => by
    cases buf with
    | some k => exact le_rfl
    | none => exact floors_le_of_ite le_rfl (Dev.stalled_floors ..).ge

theorem execDeviceRestart_keeps (tag : Tag) (start : StartIn) : OutcomeKeeps s (execDeviceRestart tag start s) := by
  unfold execDeviceRestart
  exact runBoth_keeps _ _ fun _ _ _ =>
    floors_le_of_ite le_rfl (floors_le_of_ite le_rfl (floors_le_of_ite (Dev.hitless_floors ..).ge (Dev.boot_floors ..).ge))

theorem execUpdateManifest_keeps (tag : Tag) : OutcomeKeeps s (execUpdateManifest tag s) := by
  unfold execUpdateManifest
  refine runBoth_keeps _ _ fun x d n => floors_le_of_ite le_rfl ?_
  split
  · exact le_rfl
  · next taken => exact (Dev.takeManifest_floors taken).ge

theorem execUpdatePiece_keeps (tag : Tag) (badRead cut : Option Nat) : OutcomeKeeps s (execUpdatePiece tag badRead s cut) := by
  unfold execUpdatePiece
  refine runBoth_keeps _ _ fun x d n => floors_le_of_ite le_rfl (floors_le_of_ite le_rfl (floors_le_of_ite le_rfl ?_))
  dsimp only
  split <;> exact (Dev.takePieces_floors ..).ge

theorem execUpdateActivate_keeps (tag : Tag) (start : StartIn) : OutcomeKeeps s (execUpdateActivate tag start s) := by
  unfold execUpdateActivate
  refine runBoth_keeps _ _ fun _ _ n => ?_
  split
  · exact le_rfl
  · exact floors_le_of_ite ⟨le_rfl, le_rfl⟩ ((Dev.activate_floors ..).trans (n.withUpd_floors .activating)).ge

theorem execActivationResume_keeps (start : StartIn) : OutcomeKeeps s (execActivationResume start s) := by
  unfold execActivationResume
  refine onBoth_keeps fun d n => ?_
  split
  · exact floors_le_of_ite le_rfl (floors_le_of_ite le_rfl (Dev.activate_floors ..).ge)
  · exact le_rfl

theorem execKeyUpdate_keeps (tag : Tag) : OutcomeKeeps s (execKeyUpdate tag s) := by
  unfold execKeyUpdate
  refine runBoth_keeps _ _ fun x d n =>
    floors_le_of_ite le_rfl (floors_le_of_ite le_rfl (floors_le_of_ite le_rfl (floors_le_of_ite le_rfl ?_)))
  split
  · exact le_rfl
  · exact (n.writeKey_floors ..).ge

theorem execManifestChunk_keeps (msg : List Byte) : OutcomeKeeps s (execManifestChunk msg s) := by
  unfold execManifestChunk
  refine onBoth_keeps fun d n => floors_le_of_ite le_rfl ?_
  dsimp only
  split
  · exact le_rfl
  · split
    · exact le_rfl
    · next taken => exact (Dev.takeManifest_floors taken).ge

theorem execPieceChunk_keeps (msg : List Byte) (readOk : Bool) : OutcomeKeeps s (execPieceChunk msg readOk s) := by
  unfold execPieceChunk
  refine onBoth_keeps fun d n => floors_le_of_ite le_rfl ?_
  dsimp only
  split
  · exact le_rfl
  · exact (Dev.chainPiece_floors ..).ge

/-! ### Rows of the recovery ROM -/

theorem execRomManifest_keeps (pkt : List Byte) (att : RomAtt) : OutcomeKeeps s (execRomManifest pkt s att) := by
  unfold execRomManifest
  refine romRow_keeps _ _ _ fun p e n => floors_of_ite rfl (floors_of_ite rfl ?_)
  dsimp only
  split
  · rfl
  · split
    · rfl
    · refine (Nv.acceptManifest_floors ..).trans ?_
      split <;> rfl

theorem execRomCommit_keeps (pkt : List Byte) (verified : Bool) (boot : BootIn) (att : RomAtt) :
    OutcomeKeeps s (execRomCommit pkt verified boot s att) := by
  unfold execRomCommit
  refine romRow_keeps _ _ _ fun p e n => ?_
  dsimp only
  split
  · rfl
  · refine (Dev.boot_floors ..).trans ?_
    split <;> rfl

/-! ### Every command -/

/-- No command reaches the queue or lowers a floor. The commands named here also write the non-volatile state, read it, or can
stop; every other one is a change of the device. -/
theorem exec_keeps (c : Instr) : OutcomeKeeps s (exec c s) := by
  cases c
  case powerOn =>
    unfold exec execPowerOn
    exact onBoth_keeps fun _ _ => (Dev.boot_floors ..).ge
  case resetNLow =>
    unfold exec execResetNLow
    exact onBoth_keeps fun _ _ => (Dev.boot_floors ..).ge
  case engineClockLockLoss =>
    unfold exec execEngineClockLockLoss
    exact onBoth_keeps fun _ _ => (Dev.boot_floors ..).ge
  case clockLost =>
    unfold exec execClockLost
    exact onBoth_keeps fun _ _ => (Dev.boot_floors ..).ge
  case brownOut =>
    unfold exec execBrownOut
    exact onBoth_keeps fun _ _ => floors_le_of_ite (Dev.boot_floors ..).ge le_rfl
  case wakeStart =>
    unfold exec execWakeStart
    exact onBoth_keeps fun _ _ => floors_le_of_ite (Dev.boot_floors ..).ge le_rfl
  case watchdogTimeout =>
    unfold exec execWatchdogTimeout
    exact onBoth_keeps fun _ _ => floors_le_of_ite (Dev.warmStart_floors ..).ge le_rfl
  case engineStall =>
    unfold exec execEngineStall
    exact onBoth_keeps fun _ _ => floors_le_of_ite le_rfl (Dev.stalled_floors ..).ge
  case hatbandTime =>
    unfold exec execHatbandTime
    exact onBoth_keeps fun _ _ => le_rfl
  case hatbandUpdateChunk =>
    unfold exec execHatbandUpdateChunk
    exact onBoth_keeps fun _ _ => floors_le_of_ite (Dev.hbChunk_floors ..).ge le_rfl
  case twtReadTransfer =>
    unfold exec execTwtReadTransfer
    exact onBoth_keeps fun _ _ => floors_le_of_ite le_rfl le_rfl
  case policyFrameBoundary =>
    unfold exec execPolicyFrameBoundary
    exact onBoth_keeps fun _ _ => floors_le_of_ite le_rfl (Dev.latePieces_floors ..).ge
  case timeRead =>
    unfold exec execTimeRead
    exact runBoth_keeps _ _ fun _ _ _ => le_rfl
  case updateStatus =>
    unfold exec execUpdateStatus
    exact runBoth_keeps _ _ fun _ _ _ => le_rfl
  case updateCancel =>
    unfold exec execUpdateCancel
    exact runBoth_keeps _ _ fun _ _ _ => floors_le_of_ite le_rfl (floors_le_of_ite le_rfl le_rfl)
  case romHello =>
    unfold exec execRomHello
    exact romRow_keeps _ _ _ fun _ _ _ => rfl
  case romPiece =>
    unfold exec execRomPiece
    exact romRow_keeps _ _ _ fun _ _ _ => floors_of_ite rfl (floors_of_ite rfl (Nv.takePiece_floors ..))
  case romBitmap =>
    unfold exec execRomBitmap
    exact romRow_keeps _ _ _ fun _ _ _ => floors_of_ite rfl rfl
  case romReset =>
    unfold exec execRomReset
    exact romRow_keeps _ _ _ fun _ _ _ => Dev.boot_floors ..
  case visitEnd => exact execVisitEnd_keeps ..
  case ringCreate => exact execRingCreate_keeps _
  case ringModify => exact execRingModify_keeps _
  case ownerLock => exact execOwnerLock_keeps _
  case bootFailsClear => exact execBootFailsClear_keeps
  case wdtKeyWrite => exact execWdtKeyWrite_keeps ..
  case takeoverComplete => exact execTakeoverComplete_keeps ..
  case eccUncorrectable => exact execEccUncorrectable_keeps ..
  case deviceRestart => exact execDeviceRestart_keeps ..
  case updateManifest => exact execUpdateManifest_keeps _
  case updatePiece => exact execUpdatePiece_keeps ..
  case updateActivate => exact execUpdateActivate_keeps ..
  case activationResume => exact execActivationResume_keeps _
  case keyUpdate => exact execKeyUpdate_keeps _
  case manifestChunk => exact execManifestChunk_keeps _
  case pieceChunk => exact execPieceChunk_keeps ..
  case romManifest => exact execRomManifest_keeps ..
  case romCommit => exact execRomCommit_keeps ..
  all_goals exact withDev_keeps _

end

/-- Settles O1: a step is `exec` by definition, and no meaning reaches the queue. -/
theorem stepRunsFront : Obligations.StepRunsFront := by
  refine ⟨fun s c rest front => ?_, fun s t c run => ((exec_keeps c).keeps t run).1, fun s empty => ?_⟩
  · rw [step, front]
  · rw [step, empty]

/-- Settles O59: a step is a command or nothing, and no command lowers a floor. -/
theorem rollbackFloorsNeverFall : Obligations.RollbackFloorsNeverFall := by
  intro s t run
  have kept : s.nv.floors ≤ t.nv.floors := by
    unfold step at run
    split at run
    · cases run; exact le_rfl
    · exact ((exec_keeps _).keeps t run).2
  exact ⟨kept.1, kept.2⟩

end Sys2Proof.Machine
end

section
/-! PROOFS. The byte windows under the operations of the power path, the measurement fabric and the frames (R262, R431). Only a few
operations write a window, by `winWrite`, `winSet` or `romWrite`, which keep the form; every other one is shown to leave it through
the operations it calls. -/

namespace Sys2Proof.Machine

/-- Both byte windows of the device are canonical. -/
def Dev.winOk (d : Dev) : Prop := winWf d.ho.win = true ∧ winWf d.ln.upd.romWin = true

/-! ### Control structure -/

theorem foldl_winOk {α : Type} {f : Dev → α → Dev} (hf : ∀ e a, Dev.winOk e → (f e a).winOk) :
    ∀ (l : List α) (d : Dev), d.winOk → (l.foldl f d).winOk
  | [], _, h => h
  | a :: t, d, h => foldl_winOk hf t (f d a) (hf d a h)

theorem ite_winOk {c : Prop} [Decidable c] {a b : Dev} (ha : a.winOk) (hb : b.winOk) : (if c then a else b).winOk := by
  split <;> assumption

theorem ite_fst_winOk {α : Type} {c : Prop} [Decidable c] {a b : Dev × α} (ha : a.1.winOk) (hb : b.1.winOk) :
    (if c then a else b).1.winOk := by
  split <;> assumption

section
variable {d : Dev} (h : d.winOk)
include h

theorem Dev.each_winOk {l : List Nat} {f : Nat → Dev → Dev} (hf : ∀ n e, Dev.winOk e → (f n e).winOk) : (d.each l f).winOk :=
  foldl_winOk (fun e n => hf n e) l d h

theorem Dev.when_winOk {c : Bool} {f : Dev → Dev} (hf : ∀ e, Dev.winOk e → (f e).winOk) : (d.when c f).winOk := by
  unfold Dev.when
  exact ite_winOk (hf d h) h

/-! ### Parts and banks -/

theorem Dev.onHo_winOk {g : HostSt → HostSt} (same : (g d.ho).win = d.ho.win) : (d.onHo g).winOk := ⟨same ▸ h.1, h.2⟩
theorem Dev.onLn_winOk {g : Links → Links} (same : (g d.ln).upd.romWin = d.ln.upd.romWin) : (d.onLn g).winOk :=
  ⟨h.1, same ▸ h.2⟩
theorem Dev.modUpd_winOk {g : UpdSec → UpdSec} (same : (g d.ln.upd).romWin = d.ln.upd.romWin) : (d.modUpd g).winOk :=
  ⟨h.1, same ▸ h.2⟩
theorem Dev.onPw_winOk {g : Power → Power} : (d.onPw g).winOk := h
theorem Dev.onMs_winOk {g : Meas → Meas} : (d.onMs g).winOk := h
theorem Dev.onSy_winOk {g : Sys → Sys} : (d.onSy g).winOk := h
theorem Dev.modPh_winOk {n : Nat} {g : Phase → Phase} : (d.modPh n g).winOk := h
theorem Dev.modMit_winOk {n : Nat} {g : Mitten → Mitten} : (d.modMit n g).winOk := h
theorem Dev.modSrc_winOk {n : Nat} {g : Source → Source} : (d.modSrc n g).winOk := h
theorem Dev.modStr_winOk {n : Nat} {g : Str → Str} : (d.modStr n g).winOk := h
theorem Dev.modBus_winOk {n : Nat} {g : Bus → Bus} : (d.modBus n g).winOk := h
theorem Dev.modSw_winOk {n : Nat} {g : Switch → Switch} : (d.modSw n g).winOk := h
theorem Dev.modMu_winOk {n : Nat} {g : MUnit → MUnit} : (d.modMu n g).winOk := h
theorem Dev.modTap_winOk {n : Nat} {g : Tap → Tap} : (d.modTap n g).winOk := h
theorem Dev.modAcc_winOk {n : Nat} {g : Acc → Acc} : (d.modAcc n g).winOk := h
theorem Dev.modMmx_winOk {n : Nat} {g : Mmx → Mmx} : (d.modMmx n g).winOk := h
theorem Dev.modImp_winOk {n : Nat} {g : Imp → Imp} : (d.modImp n g).winOk := h
theorem Dev.modTmr_winOk {n : Nat} {g : Timer → Timer} : (d.modTmr n g).winOk := h
theorem Dev.modMbx_winOk {n : Nat} {g : Mailbox → Mailbox} : (d.modMbx n g).winOk := h
theorem Dev.modLck_winOk {n : Nat} {g : Lock → Lock} : (d.modLck n g).winOk := h
theorem Dev.modTwt_winOk {n : Nat} {g : Twt → Twt} : (d.modTwt n g).winOk := h
theorem Dev.modTwc_winOk {n : Nat} {g : Twc → Twc} : (d.modTwc n g).winOk := h
theorem Dev.modCan_winOk {n : Nat} {g : Can → Can} : (d.modCan n g).winOk := h
theorem Dev.modChn_winOk {g : Chain → Chain} : (d.modChn g).winOk := h
theorem Dev.modHb_winOk {g : Hatband → Hatband} : (d.modHb g).winOk := h
theorem Dev.modGlb_winOk {g : Glb → Glb} : (d.modGlb g).winOk := h
theorem Dev.modHif_winOk {g : Hif → Hif} : (d.modHif g).winOk := h
theorem Dev.modStage_winOk {g : Stage → Stage} : (d.modStage g).winOk := h
theorem Dev.modRef_winOk {g : Reference → Reference} : (d.modRef g).winOk := h

end

/-! ### Shared operations -/

section
variable {d : Dev} (h : d.winOk)
include h

theorem Dev.tickFree_winOk : d.tickFree.winOk := h

theorem Dev.reply_winOk {b : List Byte} : (d.reply b).winOk := h

theorem Dev.replyW_winOk {w : Word} : (d.replyW w).winOk := h

theorem Dev.busError_winOk : d.busError.winOk := h

theorem Dev.hostWrite_winOk {addr : Nat} {b : List Byte} : (d.hostWrite addr b).winOk := by
  unfold Dev.hostWrite
  split
  · exact h
  · split
    · exact ⟨winWrite_wf _ _ _ h.1, h.2⟩
    · exact h

theorem Dev.wakeSideband_winOk : d.wakeSideband.winOk := by
  have := @Dev.modHif_winOk
  unfold Dev.wakeSideband
  grind

theorem Dev.sendMsix_winOk {v : Nat} : (d.sendMsix v).winOk := h

theorem Dev.fire_winOk {v : Nat} : (d.fire v).winOk := by
  have := @Dev.modHif_winOk; have := @Dev.sendMsix_winOk; have := @Dev.wakeSideband_winOk
  unfold Dev.fire
  grind

theorem Dev.setRing_winOk {r : Nat} {v : Ring} : (d.setRing r v).winOk := h

theorem Dev.modRing_winOk {r : Nat} {f : Ring → Ring} : (d.modRing r f).winOk := by
  have := @Dev.setRing_winOk
  unfold Dev.modRing
  grind

theorem Dev.modTag_winOk {t : Nat} {f : TagRec → TagRec} : (d.modTag t f).winOk := h

theorem Dev.freeTag_winOk {t : Nat} : (d.freeTag t).winOk := h

theorem Dev.writeEntry_winOk {r : Nat} {lo : Nat} {w6 : Nat} {hi : Nat} : (d.writeEntry r lo w6 hi).winOk := by
  have := @Dev.hostWrite_winOk; have := @Dev.modRing_winOk; have := @Dev.wakeSideband_winOk
  unfold Dev.writeEntry
  grind

theorem Dev.putEvent_winOk {e : EventRec} {r : Nat} : (d.putEvent e r).winOk := by
  have := @Dev.writeEntry_winOk; have := @Dev.modRing_winOk
  unfold Dev.putEvent
  grind

theorem Dev.flushRing_winOk {r : Nat} : (d.flushRing r).winOk := by
  have := @Dev.putEvent_winOk; have := @Dev.modRing_winOk; have := @foldl_winOk
  unfold Dev.flushRing
  grind

theorem Dev.eventTo_winOk {e : EventRec} {r : Nat} : (d.eventTo e r).winOk := by
  have := @Dev.flushRing_winOk; have := @Dev.putEvent_winOk; have := @Dev.modRing_winOk; have := @Dev.wakeSideband_winOk
  unfold Dev.eventTo
  grind

theorem Dev.addLog_winOk {n : Nat} {time code inst : Nat} {data : List Byte} : (d.addLog n time code inst data).winOk := h

theorem Dev.hbEvent_winOk {e : EventRec} : (d.hbEvent e).winOk := by
  have := @Dev.modHb_winOk
  unfold Dev.hbEvent
  grind

theorem Dev.deliver_winOk {e : EventRec} : (d.deliver e).winOk := by
  have := @Dev.each_winOk; have := @Dev.eventTo_winOk; have := @Dev.addLog_winOk
  unfold Dev.deliver
  grind

theorem Dev.chainSend_winOk {msg : List Byte} : (d.chainSend msg).winOk := h

theorem Dev.raiseHere_winOk {ev : Nat} {inst : Option Nat} {data : List Byte} : (d.raiseHere ev inst data).winOk := by
  have := @Dev.onHo_winOk; have := @Dev.fire_winOk; have := @Dev.hbEvent_winOk; have := @Dev.deliver_winOk
  unfold Dev.raiseHere
  grind

theorem Dev.raise_winOk {ev : Nat} {inst : Option Nat} {data : List Byte} : (d.raise ev inst data).winOk := by
  have := @Dev.raiseHere_winOk; have := @Dev.chainSend_winOk
  unfold Dev.raise
  grind

theorem Dev.onset_winOk {ev unit : Nat} {inst : Option Nat} {data : List Byte} : (d.onset ev unit inst data).winOk := by
  have := @Dev.modGlb_winOk; have := @Dev.raise_winOk
  unfold Dev.onset
  grind

theorem Dev.offset_winOk {ev unit : Nat} : (d.offset ev unit).winOk := h

theorem Dev.countOutcome_winOk {status : Nat} : (d.countOutcome status).winOk := h

theorem Dev.refuse_winOk {t : Nat} {status result : Nat} : (d.refuse t status result).winOk := h

theorem Dev.done_winOk {t : Nat} {status result : Nat} {resp : List Byte} : (d.done t status result resp).winOk := h

theorem Dev.ok_winOk {t : Nat} : (d.ok t).winOk := h

theorem Dev.wrong_winOk {t reason unit detail : Nat} : (d.wrong t reason unit detail).winOk := h

theorem Dev.abandon_winOk : d.abandon.winOk := by
  have := @Dev.onSy_winOk; have := @Dev.raise_winOk
  unfold Dev.abandon
  grind

theorem Dev.stallSeen_winOk {a : Option Nat} : (d.stallSeen a).winOk := by
  have := @Dev.onSy_winOk; have := @Dev.raise_winOk
  unfold Dev.stallSeen
  grind

theorem Dev.wakeSleep_winOk {cause : Nat} : (d.wakeSleep cause).winOk := by
  have := @Dev.onSy_winOk; have := @Dev.chainSend_winOk; have := @Dev.abandon_winOk
  unfold Dev.wakeSleep
  grind

end

/-! ### Ageing and the brim -/

section
variable {d : Dev} (h : d.winOk)
include h

theorem Dev.setAge_winOk {a : AgeItem} : (d.setAge a).winOk := h

theorem Dev.ageNote_winOk {a : AgeItem} {value : Int} : (d.ageNote a value).winOk := by
  have := @Dev.setAge_winOk; have := @Dev.addLog_winOk; have := @Dev.when_winOk; have := @Dev.raise_winOk
  unfold Dev.ageNote
  grind

theorem Dev.ageMeasure_winOk {item num : Nat} {value : Int} : (d.ageMeasure item num value).winOk := by
  have := @Dev.ageNote_winOk
  unfold Dev.ageMeasure
  grind

theorem Dev.ageRef_winOk : d.ageRef.winOk := by
  have := @Dev.modRef_winOk; have := @Dev.setAge_winOk; have := @Dev.ageNote_winOk
  unfold Dev.ageRef
  grind

theorem Dev.ageRebase_winOk {item num : Nat} : (d.ageRebase item num).winOk := h

theorem Dev.brimRow_winOk {row : Nat} : (d.brimRow row).winOk := by
  have := @Dev.onPw_winOk; have := @Dev.when_winOk; have := @Dev.raise_winOk; have := @Dev.addLog_winOk
  have := @Dev.onset_winOk; have := @Dev.offset_winOk
  unfold Dev.brimRow
  grind

theorem Dev.brimFloors_winOk : d.brimFloors.winOk := by
  have := @Dev.each_winOk; have := @Dev.onPw_winOk; have := @Dev.when_winOk; have := @Dev.raise_winOk
  have := @Dev.addLog_winOk
  unfold Dev.brimFloors
  grind

end

/-! ### Mailboxes, locks and revocation -/

section
variable {d : Dev} (h : d.winOk)
include h

theorem Dev.breakLock_winOk {n a : Nat} : (d.breakLock n a).winOk := by
  have := @Dev.modLck_winOk; have := @Dev.onSy_winOk; have := @Dev.raise_winOk
  unfold Dev.breakLock
  grind

theorem Dev.breakLocks_winOk {a : Nat} : (d.breakLocks a).winOk := by
  have := @Dev.each_winOk; have := @Dev.breakLock_winOk
  unfold Dev.breakLocks
  grind

theorem Dev.revoked_winOk {a step res : Nat} : (d.revoked a step res).winOk := by
  have := @Dev.onSy_winOk; have := @Dev.raise_winOk
  unfold Dev.revoked
  grind

theorem Dev.logNotice_winOk {n type sender : Nat} : (d.logNotice n type sender).winOk := h

theorem Dev.revokeLead_winOk {a : Nat} : (d.revokeLead a).winOk := by
  have := @Dev.each_winOk; have := @Dev.modMit_winOk; have := @Dev.revoked_winOk
  unfold Dev.revokeLead
  grind

theorem Dev.revokeSeqs_winOk {a : Nat} : (d.revokeSeqs a).winOk := by
  have := @Dev.each_winOk; have := @Dev.modMu_winOk; have := @Dev.revoked_winOk
  unfold Dev.revokeSeqs
  grind

theorem Dev.revokeBoxes_winOk {a : Nat} : (d.revokeBoxes a).winOk := by
  have := @Dev.each_winOk; have := @Dev.revoked_winOk; have := @Dev.modMbx_winOk; have := @Dev.logNotice_winOk
  unfold Dev.revokeBoxes
  grind

theorem Dev.revokeLocks_winOk {a : Nat} : (d.revokeLocks a).winOk := by
  have := @Dev.each_winOk; have := @Dev.breakLock_winOk; have := @Dev.revoked_winOk
  unfold Dev.revokeLocks
  grind

theorem Dev.declareAll_winOk {l : List Nat} : (d.declareAll l).winOk := by
  have := @Dev.each_winOk; have := @Dev.onSy_winOk; have := @Dev.raise_winOk; have := @Dev.revokeLead_winOk
  have := @Dev.revokeSeqs_winOk; have := @Dev.revokeBoxes_winOk; have := @Dev.revokeLocks_winOk
  unfold Dev.declareAll
  grind

theorem Dev.declare_winOk {a : Nat} : (d.declare a).winOk := by
  have := @Dev.declareAll_winOk
  unfold Dev.declare
  grind

theorem Dev.recoverAgent_winOk {a : Nat} : (d.recoverAgent a).winOk := h

theorem Dev.accessError_winOk {kind space off ev : Nat} {data : List Byte} :
    (d.accessError kind space off ev data).winOk := by
  have := @Dev.modGlb_winOk; have := @Dev.raise_winOk
  unfold Dev.accessError
  grind

theorem Dev.ignoredWrite_winOk {off : Nat} : (d.ignoredWrite off).winOk := by
  have := @Dev.accessError_winOk
  unfold Dev.ignoredWrite
  grind

theorem Dev.invalidValue_winOk {off : Nat} : (d.invalidValue off).winOk := by
  have := @Dev.accessError_winOk
  unfold Dev.invalidValue
  grind

theorem Dev.guardWrite_winOk {a : Nat} {secure obj : Bool} {off : Nat} {f : Dev → Dev} (hf :
    ∀ e, Dev.winOk e → (f e).winOk) :
    (d.guardWrite a secure obj off f).winOk := by
  unfold Dev.guardWrite
  exact ite_winOk h (ite_winOk (Dev.reply_winOk (Dev.ignoredWrite_winOk h)) (ite_winOk h (hf _ (Dev.reply_winOk h))))

theorem Dev.recvBox_winOk {a n : Nat} : (d.recvBox a n).1.winOk := by
  have := @Dev.modMbx_winOk
  unfold Dev.recvBox
  grind

theorem Dev.takeLock_winOk {a n : Nat} : (d.takeLock a n).1.winOk := by
  have := @Dev.onSy_winOk; have := @Dev.raise_winOk; have := @Dev.modLck_winOk
  unfold Dev.takeLock
  grind

theorem Dev.boxWord_winOk {a : Nat} {secure : Bool} {off : Nat} : (d.boxWord a secure off).1.winOk := by
  unfold Dev.boxWord
  simp only [apply_ite Prod.fst]
  with_reducible refine ite_winOk (ite_winOk h ?box) (ite_winOk (ite_winOk h (ite_winOk ?take h)) (ite_winOk ?count h))
  case box =>
    split
    · exact Dev.recvBox_winOk h
    · exact h
    · exact h
  case take => exact Dev.takeLock_winOk h
  case count => exact Dev.onSy_winOk h

theorem Dev.boxRead_winOk {a : Nat} {secure : Bool} {off bytes : Nat} : (d.boxRead a secure off bytes).winOk := by
  have := @Dev.boxWord_winOk; have := @Dev.replyW_winOk; have := @Dev.reply_winOk
  unfold Dev.boxRead
  grind

end

/-! ### Units of the power path -/

section
variable {d : Dev} (h : d.winOk)
include h

theorem Dev.ageWork_winOk {item num : Nat} {value : Int} : (d.ageWork item num value).winOk := by
  have := @Dev.onSy_winOk; have := @Dev.ageMeasure_winOk
  unfold Dev.ageWork
  grind

theorem Dev.rethreshold_winOk {p : Nat} : (d.rethreshold p).winOk := by
  have := @Dev.modPh_winOk; have := @Dev.when_winOk; have := @Dev.raise_winOk
  unfold Dev.rethreshold
  grind

theorem Dev.applySetup_winOk {p : Nat} {cycle : Bool} : (d.applySetup p cycle).winOk := 
  Dev.rethreshold_winOk (Dev.modPh_winOk h)

theorem Dev.respread_winOk {m : Nat} : (d.respread m).winOk := by
  have := @Dev.modMit_winOk
  unfold Dev.respread
  grind

theorem Dev.leave_winOk {p : Nat} {st : PhaseSt} {atOnce : Bool} : (d.leave p st atOnce).winOk := by
  have := @Dev.modPh_winOk; have := @Dev.respread_winOk
  unfold Dev.leave
  grind

theorem Dev.idleMembers_winOk {m : Nat} : (d.idleMembers m).winOk := by
  have := @Dev.each_winOk; have := @Dev.modPh_winOk
  unfold Dev.idleMembers
  grind

theorem Dev.dropMembers_winOk {m : Nat} : (d.dropMembers m).winOk := by
  have := @Dev.idleMembers_winOk; have := @Dev.each_winOk; have := @Dev.modPh_winOk
  unfold Dev.dropMembers
  grind

theorem Dev.fault_winOk {ev : Nat} {inst : Option Nat} {data : List Byte} : (d.fault ev inst data).winOk := by
  have := @Dev.raise_winOk; have := @Dev.addLog_winOk; have := @Dev.wakeSleep_winOk
  unfold Dev.fault
  grind

theorem Dev.enterRetired_winOk {p fault : Nat} : (d.enterRetired p fault).winOk := by
  have := @Dev.leave_winOk; have := @Dev.modPh_winOk; have := @Dev.fault_winOk
  unfold Dev.enterRetired
  grind

theorem Dev.retirePhase_winOk {p fault : Nat} : (d.retirePhase p fault).winOk := by
  have := @Dev.enterRetired_winOk; have := @Dev.declare_winOk
  unfold Dev.retirePhase
  grind

theorem Dev.phaseTransient_winOk {p ev : Nat} : (d.phaseTransient p ev).winOk := by
  have := @Dev.retirePhase_winOk; have := @Dev.leave_winOk; have := @Dev.modPh_winOk
  unfold Dev.phaseTransient
  grind

theorem Dev.endImp_winOk {k reason : Nat} : (d.endImp k reason).winOk := by
  have := @Dev.modImp_winOk; have := @Dev.modMu_winOk; have := @Dev.modMit_winOk; have := @Dev.done_winOk
  have := @Dev.modStr_winOk; have := @Dev.when_winOk; have := @Dev.ageWork_winOk; have := @Dev.raise_winOk
  unfold Dev.endImp
  grind

theorem Dev.stepEvent_winOk {k : Nat} : (d.stepEvent k).winOk := by
  have := @Dev.raise_winOk
  unfold Dev.stepEvent
  grind

theorem Dev.returnDonor_winOk {k : Nat} : (d.returnDonor k).winOk := by
  have := @Dev.modStr_winOk; have := @Dev.stepEvent_winOk
  unfold Dev.returnDonor
  grind

theorem Dev.endLend_winOk {k : Nat} {reason : Nat} : (d.endLend k reason).winOk := by
  have := @Dev.modSrc_winOk; have := @Dev.returnDonor_winOk; have := @Dev.idleMembers_winOk; have := @Dev.modMit_winOk
  have := @Dev.done_winOk; have := @Dev.raise_winOk
  unfold Dev.endLend
  grind

theorem Dev.endLendOn_winOk {m reason : Nat} : (d.endLendOn m reason).winOk := by
  have := @Dev.each_winOk; have := @Dev.endLend_winOk
  unfold Dev.endLendOn
  grind

theorem Dev.stopMit_winOk {m : Nat} : (d.stopMit m).winOk := by
  have := @Dev.idleMembers_winOk; have := @Dev.modMit_winOk; have := @Dev.endLendOn_winOk
  unfold Dev.stopMit
  grind

theorem Dev.stopForChange_winOk {m : Nat} : (d.stopForChange m).winOk := by
  have := @Dev.modMit_winOk; have := @Dev.idleMembers_winOk; have := @Dev.endLendOn_winOk
  unfold Dev.stopForChange
  grind

theorem Dev.changeMit_winOk {m : Nat} : (d.changeMit m).winOk := by
  have := @Dev.modMit_winOk; have := @Dev.stopForChange_winOk
  unfold Dev.changeMit
  grind

theorem Dev.outgoing_winOk {k : Nat} : (d.outgoing k).winOk := by
  have := @Dev.modSrc_winOk; have := @Dev.each_winOk; have := @Dev.changeMit_winOk
  unfold Dev.outgoing
  grind

theorem Dev.endDonor_winOk {k reason : Nat} : (d.endDonor k reason).winOk := by
  have := @Dev.each_winOk; have := @Dev.endLend_winOk
  unfold Dev.endDonor
  grind

theorem Dev.retireSource_winOk {k fault : Nat} : (d.retireSource k fault).winOk := by
  have := @Dev.endLend_winOk; have := @Dev.modSrc_winOk; have := @Dev.when_winOk; have := @Dev.outgoing_winOk
  have := @Dev.onPw_winOk; have := @Dev.fault_winOk; have := @Dev.declare_winOk
  unfold Dev.retireSource
  grind

theorem Dev.endPre_winOk {k : Nat} : (d.endPre k).winOk := by
  have := @Dev.modStr_winOk; have := @Dev.when_winOk; have := @Dev.offset_winOk
  unfold Dev.endPre
  grind

theorem Dev.retireString_winOk {k fault : Nat} : (d.retireString k fault).winOk := by
  have := @Dev.endImp_winOk; have := @Dev.endDonor_winOk; have := @Dev.endPre_winOk; have := @Dev.modStr_winOk
  have := @Dev.fault_winOk; have := @Dev.declare_winOk
  unfold Dev.retireString
  grind

theorem Dev.escalate_winOk {m ev : Nat} : (d.escalate m ev).winOk := by
  have := @Dev.each_winOk; have := @Dev.retireSource_winOk; have := @Dev.raise_winOk; have := @Dev.retireString_winOk
  unfold Dev.escalate
  grind

theorem Dev.mittenFault_winOk {m ev : Nat} {data : List Byte} : (d.mittenFault m ev data).winOk := by
  have := @Dev.fault_winOk; have := @Dev.dropMembers_winOk; have := @Dev.endLendOn_winOk; have := @Dev.modMit_winOk
  have := @Dev.escalate_winOk
  unfold Dev.mittenFault
  grind

theorem Dev.sourceFault_winOk {k ev : Nat} {announce : Bool} : (d.sourceFault k ev announce).winOk := by
  have := @Dev.when_winOk; have := @Dev.fault_winOk; have := @Dev.retireSource_winOk; have := @Dev.endLend_winOk
  have := @Dev.modSrc_winOk; have := @Dev.outgoing_winOk; have := @Dev.onPw_winOk
  unfold Dev.sourceFault
  grind

theorem Dev.stopAt_winOk {p : Nat} : (d.stopAt p).winOk := by
  have := @Dev.each_winOk; have := @Dev.stopMit_winOk
  unfold Dev.stopAt
  grind

theorem Dev.setSwitch_winOk {p : Nat} {m : SwMode} : (d.setSwitch p m).winOk := by
  have := @Dev.modSw_winOk
  unfold Dev.setSwitch
  grind

theorem Dev.unblock_winOk {p : Nat} : (d.unblock p).winOk := by
  have := @Dev.modSw_winOk; have := @Dev.offset_winOk
  unfold Dev.unblock
  grind

theorem Dev.openNow_winOk {p : Nat} : (d.openNow p).winOk := by
  have := @Dev.setSwitch_winOk; have := @Dev.unblock_winOk
  unfold Dev.openNow
  grind

theorem Dev.stringFault_winOk {k ev cause : Nat} {all : Bool} : (d.stringFault k ev cause all).winOk := by
  have := @Dev.endImp_winOk; have := @Dev.fault_winOk; have := @Dev.stopAt_winOk; have := @Dev.each_winOk
  have := @Dev.stopMit_winOk; have := @Dev.modStr_winOk; have := @Dev.endPre_winOk; have := @Dev.endDonor_winOk
  have := @Dev.openNow_winOk; have := @Dev.retireString_winOk
  unfold Dev.stringFault
  grind

theorem Dev.portTransient_winOk {p ev : Nat} : (d.portTransient p ev).winOk := by
  have := @Dev.openNow_winOk; have := @Dev.sourceFault_winOk; have := @Dev.stringFault_winOk
  unfold Dev.portTransient
  grind

theorem Dev.linerLow_winOk : d.linerLow.winOk := by
  have := @Dev.each_winOk; have := @Dev.modPh_winOk
  unfold Dev.linerLow
  grind

theorem Dev.powerQuad_winOk {q : Nat} : (d.powerQuad q).winOk := by
  have := @Dev.onPw_winOk; have := @Dev.onSy_winOk; have := @Dev.each_winOk; have := @Dev.modPh_winOk
  have := @Dev.applySetup_winOk
  unfold Dev.powerQuad
  grind

theorem Dev.powerQuads_winOk : d.powerQuads.winOk := by
  have := @Dev.each_winOk; have := @Dev.powerQuad_winOk
  unfold Dev.powerQuads
  grind

theorem Dev.powerUnits_winOk : d.powerUnits.winOk := by
  have := @Dev.each_winOk; have := @Dev.onSy_winOk; have := @Dev.modMu_winOk
  unfold Dev.powerUnits
  grind

theorem Dev.powerDomains_winOk : d.powerDomains.winOk := by
  have := @Dev.powerQuads_winOk; have := @Dev.powerUnits_winOk
  unfold Dev.powerDomains
  grind

theorem Dev.linerFree_winOk : d.linerFree.winOk := by
  have := @Dev.onSy_winOk; have := @Dev.linerLow_winOk; have := @Dev.each_winOk; have := @Dev.applySetup_winOk
  have := @Dev.powerDomains_winOk
  unfold Dev.linerFree
  grind

theorem Dev.linerStop_winOk : d.linerStop.winOk := by
  have := @Dev.linerFree_winOk; have := @Dev.raise_winOk
  unfold Dev.linerStop
  grind

theorem Dev.gauntletOf_winOk {m : Nat} {rev retry : Bool} {l : List Nat} : (d.gauntletOf m rev retry l).winOk := by
  have := @Dev.linerStop_winOk; have := @Dev.each_winOk; have := @Dev.modPh_winOk; have := @Dev.modMit_winOk
  unfold Dev.gauntletOf
  grind

theorem Dev.beginGauntlet_winOk {m : Nat} {rev retry : Bool} : (d.beginGauntlet m rev retry).winOk := by
  have := @Dev.gauntletOf_winOk
  unfold Dev.beginGauntlet
  grind

theorem Dev.startMit_winOk {m : Nat} : (d.startMit m).winOk := by
  have := @Dev.wakeSleep_winOk; have := @Dev.modMit_winOk; have := @Dev.beginGauntlet_winOk
  unfold Dev.startMit
  grind

theorem Dev.tryClose_winOk {p : Nat} : (d.tryClose p).winOk := by
  have := @Dev.setSwitch_winOk; have := @Dev.unblock_winOk; have := @Dev.modSw_winOk; have := @Dev.onset_winOk
  unfold Dev.tryClose
  grind

theorem Dev.applySwitch_winOk {p : Nat} {retest : Bool} : (d.applySwitch p retest).winOk := by
  have := @Dev.linerStop_winOk; have := @Dev.modSw_winOk; have := @Dev.unblock_winOk; have := @Dev.tryClose_winOk
  have := @Dev.setSwitch_winOk
  unfold Dev.applySwitch
  grind

theorem Dev.applySwitches_winOk {retest : Bool} : (d.applySwitches retest).winOk := by
  have := @Dev.each_winOk; have := @Dev.applySwitch_winOk
  unfold Dev.applySwitches
  grind

end

/-! ### Outer loops -/

section
variable {d : Dev} (h : d.winOk)
include h

theorem Dev.limitedRule_winOk {m : Nat} : (d.limitedRule m).winOk := by
  have := @Dev.modMit_winOk; have := @Dev.raise_winOk
  unfold Dev.limitedRule
  grind

theorem Dev.shedChain_winOk {m : Nat} {n : Option Nat} : (d.shedChain m n).winOk := by
  have := @Dev.modChn_winOk
  unfold Dev.shedChain
  grind

theorem Dev.recall_winOk {m : Nat} : (d.recall m).winOk := by
  have := @Dev.shedChain_winOk; have := @Dev.each_winOk; have := @Dev.modPh_winOk; have := @Dev.respread_winOk
  unfold Dev.recall
  grind

theorem Dev.setActive_winOk {m n : Nat} : (d.setActive m n).winOk := by
  have := @Dev.each_winOk; have := @Dev.modPh_winOk; have := @Dev.respread_winOk
  unfold Dev.setActive
  grind

theorem Dev.recallRule_winOk {m : Nat} : (d.recallRule m).winOk := by
  have := @Dev.recall_winOk
  unfold Dev.recallRule
  grind

theorem Dev.deliverTargets_winOk {m : Nat} : (d.deliverTargets m).winOk := by
  have := @Dev.modMit_winOk; have := @Dev.each_winOk; have := @Dev.modPh_winOk
  unfold Dev.deliverTargets
  grind

end

/-! ### The control tick -/

section
variable {d : Dev} (h : d.winOk)
include h

theorem Dev.rebaseGrid_winOk : d.rebaseGrid.winOk := h

theorem Dev.stepGrid_winOk : d.stepGrid.winOk := h

theorem Dev.startGrid_winOk : d.startGrid.winOk := by
  have := @Dev.onSy_winOk
  unfold Dev.startGrid
  grind

theorem Dev.leaveChain_winOk : d.leaveChain.winOk := by
  have := @Dev.modChn_winOk; have := @Dev.offset_winOk; have := @Dev.rebaseGrid_winOk; have := @Dev.onSy_winOk
  unfold Dev.leaveChain
  grind

theorem Dev.boundary_winOk {l : Nat} : (d.boundary l).winOk := by
  have := @Dev.onSy_winOk; have := @Dev.modChn_winOk; have := @Dev.startGrid_winOk; have := @Dev.raise_winOk
  unfold Dev.boundary
  grind

theorem Dev.stringTick_winOk {k : Nat} : (d.stringTick k).winOk := by
  have := @Dev.modStr_winOk
  unfold Dev.stringTick
  grind

theorem Dev.pauseNow_winOk {k : Nat} {f : Str → Str} : (d.pauseNow k f).winOk := by
  have := @Dev.modStr_winOk
  unfold Dev.pauseNow
  grind

theorem Dev.pause_winOk {k : Nat} {f : Str → Str} : (d.pause k f).winOk := by
  have := @Dev.pauseNow_winOk
  unfold Dev.pause
  grind

theorem Dev.pauseSupp_winOk {k : Nat} : (d.pauseSupp k).winOk := by
  have := @Dev.pause_winOk; have := @Dev.modStr_winOk
  unfold Dev.pauseSupp
  grind

theorem Dev.supplementRule_winOk {m : Nat} : (d.supplementRule m).winOk := by
  have := @Dev.modMit_winOk; have := @Dev.endLendOn_winOk; have := @Dev.pauseSupp_winOk
  unfold Dev.supplementRule
  grind

theorem Dev.floorRule_winOk {k : Nat} : (d.floorRule k).winOk := by
  have := @Dev.each_winOk; have := @Dev.modMit_winOk; have := @Dev.modStr_winOk; have := @Dev.raise_winOk
  unfold Dev.floorRule
  grind

theorem Dev.sourceWindow_winOk {k : Nat} : (d.sourceWindow k).winOk := by
  have := @Dev.modSrc_winOk
  unfold Dev.sourceWindow
  grind

theorem Dev.lendTick_winOk {k : Nat} : (d.lendTick k).winOk := by
  have := @Dev.modSrc_winOk
  unfold Dev.lendTick
  grind

theorem Dev.busTick_winOk {j : Nat} : (d.busTick j).winOk := by
  have := @Dev.modBus_winOk; have := @Dev.when_winOk; have := @Dev.offset_winOk; have := @Dev.wakeSleep_winOk
  unfold Dev.busTick
  grind

theorem Dev.demandRule_winOk {m : Nat} : (d.demandRule m).winOk := by
  have := @Dev.modMit_winOk; have := @Dev.startMit_winOk
  unfold Dev.demandRule
  grind

theorem Dev.emptyRule_winOk {m : Nat} : (d.emptyRule m).winOk := by
  have := @Dev.mittenFault_winOk; have := @Dev.stopMit_winOk
  unfold Dev.emptyRule
  grind

theorem Dev.ageTick_winOk : d.ageTick.winOk := by
  have := @Dev.each_winOk; have := @Dev.modSw_winOk; have := @Dev.modSrc_winOk; have := @Dev.modMit_winOk
  unfold Dev.ageTick
  grind

theorem Dev.capTick_winOk {j : Nat} : (d.capTick j).winOk := by
  have := @Dev.modBus_winOk; have := @Dev.ageWork_winOk
  unfold Dev.capTick
  grind

theorem Dev.startOuts_winOk : d.startOuts.winOk := by
  have := @Dev.each_winOk; have := @Dev.modSrc_winOk
  unfold Dev.startOuts
  grind

theorem Dev.tickTime_winOk {cycles : Nat} : (d.tickTime cycles).winOk := by
  have := @Dev.onSy_winOk; have := @Dev.boundary_winOk
  unfold Dev.tickTime
  grind

theorem Dev.tickWork_winOk : d.tickWork.winOk := by
  unfold Dev.tickWork
  refine Dev.ageTick_winOk (Dev.startOuts_winOk (Dev.applySwitches_winOk (Dev.each_winOk (Dev.each_winOk (Dev.onPw_winOk
    (Dev.each_winOk (Dev.each_winOk (Dev.each_winOk (Dev.each_winOk (Dev.each_winOk (Dev.each_winOk (Dev.each_winOk
      (Dev.onMs_winOk h) ?bus) ?string) ?source) ?change) ?supplement) ?floor) ?targets)) ?rules) ?demand)))
  case bus => exact fun _ _ he => Dev.capTick_winOk (Dev.busTick_winOk he)
  case string => exact fun _ _ he => Dev.stringTick_winOk he
  case source => exact fun _ _ he => Dev.lendTick_winOk (Dev.sourceWindow_winOk he)
  case change => exact fun _ _ he => Dev.supplementRule_winOk (ite_winOk (Dev.stopForChange_winOk he) he)
  case supplement => exact fun _ _ he => ite_winOk (Dev.pauseSupp_winOk he) he
  case floor => exact fun _ _ he => Dev.floorRule_winOk he
  case targets => exact fun _ _ he => Dev.deliverTargets_winOk he
  case rules => exact fun _ _ he => Dev.recallRule_winOk (Dev.limitedRule_winOk (Dev.emptyRule_winOk he))
  case demand => exact fun _ _ he => Dev.demandRule_winOk he

end

/-! ### Strings -/

section
variable {d : Dev} (h : d.winOk)
include h

theorem Dev.publish_winOk {k : Nat} : (d.publish k).winOk := h

theorem Dev.toStep_winOk {k n : Nat} : (d.toStep k n).winOk := by
  have := @Dev.modStr_winOk; have := @Dev.endImp_winOk; have := @Dev.publish_winOk; have := @Dev.stepEvent_winOk
  unfold Dev.toStep
  grind

theorem Dev.toStart_winOk {k : Nat} : (d.toStart k).winOk := by
  have := @Dev.modStr_winOk; have := @Dev.toStep_winOk
  unfold Dev.toStart
  grind

theorem Dev.enterPre_winOk {k : Nat} : (d.enterPre k).winOk := by
  have := @Dev.modStr_winOk; have := @Dev.onset_winOk; have := @Dev.publish_winOk
  unfold Dev.enterPre
  grind

theorem Dev.runFromStart_winOk {k : Nat} : (d.runFromStart k).winOk := by
  have := @Dev.modStr_winOk; have := @Dev.enterPre_winOk; have := @Dev.publish_winOk; have := @Dev.stepEvent_winOk
  unfold Dev.runFromStart
  grind

theorem Dev.stopStr_winOk {k : Nat} : (d.stopStr k).winOk := by
  have := @Dev.endImp_winOk; have := @Dev.endPre_winOk; have := @Dev.modStr_winOk
  unfold Dev.stopStr
  grind

theorem Dev.pauseRules_winOk {k : Nat} : (d.pauseRules k).winOk := by
  have := @Dev.modStr_winOk; have := @Dev.pause_winOk
  unfold Dev.pauseRules
  grind

theorem Dev.anchorFull_winOk {k : Nat} : (d.anchorFull k).winOk := by
  have := @Dev.modStr_winOk; have := @Dev.ageWork_winOk; have := @Dev.raise_winOk
  unfold Dev.anchorFull
  grind

theorem Dev.takeExit_winOk {k : Nat} {q : Step} {c : ExitCond} : (d.takeExit k q c).winOk := by
  have := @Dev.anchorFull_winOk; have := @Dev.toStep_winOk
  unfold Dev.takeExit
  grind

theorem Dev.strFaultRow_winOk {k ev cause : Nat} {all : Bool} : (d.strFaultRow k ev cause all).winOk := by
  have := @Dev.fault_winOk; have := @Dev.stringFault_winOk
  unfold Dev.strFaultRow
  grind

theorem Dev.pmAdopt_winOk {k : Nat} : (d.pmAdopt k).winOk := by
  have := @Dev.modStr_winOk; have := @Dev.strFaultRow_winOk
  unfold Dev.pmAdopt
  grind

theorem Dev.preFrame_winOk {k : Nat} : (d.preFrame k).winOk := by
  have := @Dev.modStr_winOk; have := @Dev.onset_winOk
  unfold Dev.preFrame
  grind

theorem Dev.exitFrame_winOk {k : Nat} {run : Bool} : (d.exitFrame k run).winOk := by
  have := @Dev.modStr_winOk
  unfold Dev.exitFrame
  grind

theorem Dev.pauseFrame_winOk {k : Nat} {tested : Bool} : (d.pauseFrame k tested).winOk := by
  have := @Dev.pauseRules_winOk; have := @Dev.takeExit_winOk; have := @Dev.modStr_winOk
  unfold Dev.pauseFrame
  grind

theorem Dev.stringFrame_winOk {k : Nat} : (d.stringFrame k).winOk := by
  have := @Dev.modStr_winOk; have := @Dev.pmAdopt_winOk; have := @Dev.toStart_winOk; have := @Dev.preFrame_winOk
  have := @Dev.exitFrame_winOk; have := @Dev.pauseFrame_winOk; have := @Dev.publish_winOk
  unfold Dev.stringFrame
  grind

theorem Dev.enterAbsent_winOk {k : Nat} : (d.enterAbsent k).winOk := by
  have := @Dev.endDonor_winOk; have := @Dev.modStr_winOk; have := @Dev.stopStr_winOk; have := @Dev.onset_winOk
  unfold Dev.enterAbsent
  grind

theorem Dev.pmRecord_winOk {k : Nat} {b : List Byte} : (d.pmRecord k b).winOk := by
  have := @Dev.modStr_winOk; have := @Dev.offset_winOk
  unfold Dev.pmRecord
  grind

theorem Dev.packLost_winOk {k : Nat} : (d.packLost k).winOk := by
  have := @Dev.modStr_winOk; have := @Dev.pause_winOk; have := @Dev.onset_winOk
  unfold Dev.packLost
  grind

theorem Dev.pollMissed_winOk {k : Nat} : (d.pollMissed k).winOk := by
  have := @Dev.modStr_winOk; have := @Dev.when_winOk; have := @Dev.packLost_winOk
  unfold Dev.pollMissed
  grind

end

/-! ### Phases -/

section
variable {d : Dev} (h : d.winOk)
include h

theorem Dev.setupNow_winOk {p : Nat} : (d.setupNow p).winOk := by
  have := @Dev.applySetup_winOk
  unfold Dev.setupNow
  grind

theorem Dev.rebase_winOk {m : Nat} : (d.rebase m).winOk := by
  have := @Dev.offset_winOk; have := @Dev.each_winOk; have := @Dev.modPh_winOk
  unfold Dev.rebase
  grind

theorem Dev.leadStart_winOk {m : Nat} : (d.leadStart m).winOk := by
  have := @Dev.rebase_winOk; have := @Dev.each_winOk; have := @Dev.modPh_winOk; have := @Dev.modMit_winOk
  unfold Dev.leadStart
  grind

theorem Dev.autorange_winOk {p : Nat} : (d.autorange p).winOk := by
  have := @Dev.modPh_winOk
  unfold Dev.autorange
  grind

theorem Dev.swapRule_winOk {m p : Nat} : (d.swapRule m p).winOk := by
  have := @Dev.each_winOk; have := @Dev.modPh_winOk; have := @Dev.modMit_winOk
  unfold Dev.swapRule
  grind

theorem Dev.linerCycle_winOk {p at0 : Nat} : (d.linerCycle p at0).winOk := h

theorem Dev.dropTrigger_winOk {p t : Nat} : (d.dropTrigger p t).winOk := h

theorem Dev.gauntletTransient_winOk {p ev : Nat} : (d.gauntletTransient p ev).winOk := by
  have := @Dev.retirePhase_winOk; have := @Dev.modPh_winOk
  unfold Dev.gauntletTransient
  grind

theorem Dev.quadFault_winOk {quad ev : Nat} : (d.quadFault quad ev).winOk := by
  have := @Dev.each_winOk; have := @Dev.enterRetired_winOk; have := @Dev.modPh_winOk; have := @Dev.phaseTransient_winOk
  have := @Dev.declareAll_winOk
  unfold Dev.quadFault
  grind

theorem Dev.phaseRetry_winOk {p : Nat} : (d.phaseRetry p).winOk := h

theorem Dev.phaseExpiry_winOk {p : Nat} {flt : Bool} : (d.phaseExpiry p flt).winOk := by
  have := @Dev.modPh_winOk; have := @Dev.wakeSleep_winOk; have := @Dev.phaseRetry_winOk
  unfold Dev.phaseExpiry
  grind

theorem Dev.joinTest_winOk {p : Nat} : (d.joinTest p).winOk := by
  have := @Dev.modPh_winOk
  unfold Dev.joinTest
  grind

end

/-! ### Mittens -/

section
variable {d : Dev} (h : d.winOk)
include h

theorem Dev.finding_winOk {p step : Nat} : (d.finding p step).winOk := by
  have := @Dev.when_winOk; have := @Dev.onSy_winOk; have := @Dev.fault_winOk; have := @Dev.retirePhase_winOk
  unfold Dev.finding
  grind

theorem Dev.pulseResult_winOk {m p at' : Nat} : (d.pulseResult m p at').winOk := by
  have := @Dev.modPh_winOk; have := @Dev.finding_winOk; have := @Dev.fault_winOk; have := @Dev.gauntletTransient_winOk
  unfold Dev.pulseResult
  grind

theorem Dev.enterSoft_winOk {m : Nat} : (d.enterSoft m).winOk := h

theorem Dev.gauntletStop_winOk {m : Nat} {test : Bool} : (d.gauntletStop m test).winOk := by
  have := @Dev.idleMembers_winOk; have := @Dev.modMit_winOk; have := @Dev.endLendOn_winOk
  unfold Dev.gauntletStop
  grind

theorem Dev.mitFaultRow_winOk {m ev : Nat} : (d.mitFaultRow m ev).winOk := by
  have := @Dev.mittenFault_winOk; have := @Dev.fault_winOk
  unfold Dev.mitFaultRow
  grind

theorem Dev.shedMembers_winOk {m : Nat} : (d.shedMembers m).winOk := by
  have := @Dev.each_winOk; have := @Dev.modPh_winOk
  unfold Dev.shedMembers
  grind

end

/-! ### Sources -/

section
variable {d : Dev} (h : d.winOk)
include h

theorem Dev.loseSource_winOk {k : Nat} : (d.loseSource k).winOk := by
  have := @Dev.modSrc_winOk; have := @Dev.when_winOk; have := @Dev.outgoing_winOk; have := @Dev.onPw_winOk
  have := @Dev.wakeSleep_winOk; have := @Dev.raise_winOk
  unfold Dev.loseSource
  grind

theorem Dev.srcFaultRow_winOk {k ev : Nat} : (d.srcFaultRow k ev).winOk := by
  have := @Dev.fault_winOk; have := @Dev.sourceFault_winOk
  unfold Dev.srcFaultRow
  grind

theorem Dev.deselect_winOk {k : Nat} : (d.deselect k).winOk := by
  have := @Dev.modSrc_winOk; have := @Dev.outgoing_winOk
  unfold Dev.deselect
  grind

theorem Dev.select_winOk {k : Nat} : (d.select k).winOk := by
  have := @Dev.outgoing_winOk; have := @Dev.modSrc_winOk
  unfold Dev.select
  grind

theorem Dev.arbitrate_winOk : d.arbitrate.winOk := by
  have := @Dev.each_winOk; have := @Dev.deselect_winOk; have := @Dev.select_winOk; have := @Dev.modSrc_winOk
  have := @Dev.onPw_winOk
  unfold Dev.arbitrate
  grind

theorem Dev.newPeriod_winOk {k : Nat} : (d.newPeriod k).winOk := by
  have := @Dev.each_winOk; have := @Dev.modMit_winOk
  unfold Dev.newPeriod
  grind

end

/-! ### LIMP and captures -/

section
variable {d : Dev} (h : d.winOk)
include h

theorem Dev.endCapture_winOk {j reason : Nat} : (d.endCapture j reason).winOk := by
  have := @Dev.onMs_winOk; have := @Dev.raise_winOk; have := @Dev.powerUnits_winOk
  unfold Dev.endCapture
  grind

theorem Dev.endActivities_winOk : d.endActivities.winOk := by
  have := @Dev.each_winOk; have := @Dev.endCapture_winOk; have := @Dev.endLend_winOk; have := @Dev.endImp_winOk
  unfold Dev.endActivities
  grind

theorem Dev.limpLevers_winOk {m : Nat} : (d.limpLevers m).winOk := by
  have := @Dev.recall_winOk; have := @Dev.modMit_winOk
  unfold Dev.limpLevers
  grind

theorem Dev.beginLimp_winOk : d.beginLimp.winOk := by
  have := @Dev.onSy_winOk; have := @Dev.raise_winOk; have := @Dev.endActivities_winOk; have := @Dev.each_winOk
  have := @Dev.limpLevers_winOk
  unfold Dev.beginLimp
  grind

theorem Dev.enterLimp_winOk {cause : Nat} : (d.enterLimp cause).winOk := by
  have := @Dev.wakeSleep_winOk; have := @Dev.onSy_winOk; have := @Dev.beginLimp_winOk
  unfold Dev.enterLimp
  grind

theorem Dev.limpChain_winOk {on : Bool} : (d.limpChain on).winOk := by
  have := @Dev.onSy_winOk; have := @Dev.each_winOk; have := @Dev.limpLevers_winOk; have := @Dev.when_winOk
  have := @Dev.raise_winOk
  unfold Dev.limpChain
  grind

theorem Dev.reenter_winOk {k : Nat} : (d.reenter k).winOk := by
  have := @Dev.toStart_winOk
  unfold Dev.reenter
  grind

theorem Dev.leaveLimp_winOk : d.leaveLimp.winOk := by
  have := @Dev.onSy_winOk; have := @Dev.each_winOk; have := @Dev.reenter_winOk; have := @Dev.raise_winOk
  unfold Dev.leaveLimp
  grind

end

/-! ### Set-up of the measurement fabric -/

section
variable {d : Dev} (h : d.winOk)
include h

theorem Dev.clearAcc_winOk {n : Nat} : (d.clearAcc n).winOk := by
  have := @Dev.each_winOk; have := @Dev.modAcc_winOk
  unfold Dev.clearAcc
  grind

theorem Dev.setGen_winOk {c : AccCfg} : (d.setGen c).winOk := by
  have := @Dev.onMs_winOk
  unfold Dev.setGen
  grind

theorem Dev.setAcc_winOk {n : Nat} {c : AccCfg} : (d.setAcc n c).winOk := by
  have := @Dev.modAcc_winOk
  unfold Dev.setAcc
  grind

theorem Dev.setMmx_winOk {m : Nat} {c : MmxCfg} : (d.setMmx m c).winOk := h

theorem Dev.commitAcc_winOk {n : Nat} {c : AccCfg} : (d.commitAcc n c).winOk := by
  have := @Dev.setGen_winOk; have := @Dev.onMs_winOk; have := @Dev.setAcc_winOk
  unfold Dev.commitAcc
  grind

theorem Dev.commitMmx_winOk {n : Nat} {c : MmxCfg} : (d.commitMmx n c).winOk := by
  have := @Dev.onMs_winOk; have := @Dev.setMmx_winOk
  unfold Dev.commitMmx
  grind

theorem Dev.takeSetups_winOk {k : Nat} : (d.takeSetups k).winOk := by
  have := @Dev.setAcc_winOk; have := @Dev.setMmx_winOk; have := @Dev.onMs_winOk; have := @foldl_winOk
  unfold Dev.takeSetups
  grind

end

/-! ### Measurement -/

section
variable {d : Dev} (h : d.winOk)
include h

theorem Dev.accTake_winOk {n : Nat} {v : Int} {mk : Marks} {t : Nat} {withheld : Bool} :
    (d.accTake n v mk t withheld).winOk := by
  have := @Dev.modAcc_winOk; have := @Dev.when_winOk; have := @Dev.raise_winOk
  unfold Dev.accTake
  grind

theorem Dev.accTakes_winOk {n : Nat} {v : Int} {mk : Marks} {t : Nat} {withheld : Bool} :
    (d.accTakes n v mk t withheld).winOk := by
  have := @Dev.accTake_winOk
  unfold Dev.accTakes
  grind

theorem Dev.mmxTake_winOk {m : Nat} {v : Int} {mk : Marks} {t : Nat} {withheld : Bool} :
    (d.mmxTake m v mk t withheld).winOk := by
  have := @Dev.modMmx_winOk; have := @Dev.when_winOk; have := @Dev.raise_winOk
  unfold Dev.mmxTake
  grind

theorem Dev.tapTake_winOk {i : Nat} {v : Int} {mk : Marks} {withheld : Bool} : (d.tapTake i v mk withheld).winOk := by
  have := @Dev.modTap_winOk; have := @Dev.modSrc_winOk
  unfold Dev.tapTake
  grind

theorem Dev.deliverResult_winOk {k : Nat} {e : SeqEntry} {v : Int} {mk : Marks} {t : Nat} {withheld : Bool} :
    (d.deliverResult k e v mk t withheld).winOk := by
  have := @Dev.tapTake_winOk; have := @Dev.accTakes_winOk; have := @Dev.mmxTake_winOk
  unfold Dev.deliverResult
  grind

theorem Dev.beginVisit_winOk {k : Nat} : (d.beginVisit k).winOk := by
  have := @Dev.modMu_winOk
  unfold Dev.beginVisit
  grind

theorem Dev.precise_winOk {k i : Nat} {e : SeqEntry} {x : Int} {mk : Marks} {t : Nat} : (d.precise k i e x mk t).winOk := by
  have := @Dev.modMu_winOk; have := @Dev.deliverResult_winOk
  unfold Dev.precise
  grind

theorem Dev.fast_winOk {k : Nat} {e : SeqEntry} {sum : Int} {mk : Marks} {t : Nat} : (d.fast k e sum mk t).winOk := by
  have := @Dev.deliverResult_winOk; have := @Dev.modMu_winOk; have := @Dev.tickFree_winOk
  unfold Dev.fast
  grind

theorem Dev.newSequence_winOk {k : Nat} : (d.newSequence k).winOk := by
  have := @Dev.modMu_winOk; have := @Dev.each_winOk; have := @Dev.modAcc_winOk; have := @Dev.endImp_winOk
  unfold Dev.newSequence
  grind

theorem Dev.syncEntries_winOk {k : Nat} {mask : BitVec 16} : (d.syncEntries k mask).winOk := by
  have := @Dev.each_winOk; have := @Dev.modMu_winOk
  unfold Dev.syncEntries
  grind

theorem Dev.skipPass_winOk {k : Nat} : (d.skipPass k).winOk := by
  have := @Dev.each_winOk; have := @Dev.precise_winOk
  unfold Dev.skipPass
  grind

theorem Dev.unitFault_winOk {k : Nat} : (d.unitFault k).winOk := by
  have := @Dev.fault_winOk; have := @Dev.endImp_winOk; have := @Dev.endCapture_winOk; have := @Dev.modMu_winOk
  have := @Dev.each_winOk; have := @Dev.enterRetired_winOk; have := @Dev.declareAll_winOk; have := @Dev.enterLimp_winOk
  have := @Dev.quadFault_winOk
  unfold Dev.unitFault
  grind

theorem Dev.latchAcc_winOk {reader n : Nat} {byMate : Bool} : (d.latchAcc reader n byMate).winOk := h

end

/-! ### Impedance runs -/

section
variable {d : Dev} (h : d.winOk)
include h

theorem Dev.modRun_winOk {k : Nat} {f : ImpRun → ImpRun} : (d.modRun k f).winOk := h

theorem Dev.startPoint_winOk {k : Nat} {r : ImpRun} : (d.startPoint k r).winOk := by
  have := @Dev.onMs_winOk; have := @Dev.setAcc_winOk; have := @Dev.modRun_winOk
  unfold Dev.startPoint
  grind

theorem Dev.impTick_winOk {k : Nat} : (d.impTick k).winOk := by
  have := @Dev.endImp_winOk; have := @Dev.modRun_winOk
  unfold Dev.impTick
  grind

end

/-! ### Timers, motion and the watchdog -/

section
variable {d : Dev} (h : d.winOk)
include h

theorem Dev.timerEvent_winOk {t ev : Nat} : (d.timerEvent t ev).winOk := by
  have := @Dev.raise_winOk; have := @Dev.wakeSleep_winOk
  unfold Dev.timerEvent
  grind

theorem Dev.compareEvent_winOk {t : Nat} : (d.compareEvent t).winOk := by
  have := @Dev.modTmr_winOk; have := @Dev.timerEvent_winOk; have := @Dev.each_winOk
  unfold Dev.compareEvent
  grind

theorem Dev.endEvent_winOk {t : Nat} : (d.endEvent t).winOk := by
  have := @Dev.modTmr_winOk; have := @Dev.timerEvent_winOk; have := @Dev.each_winOk
  unfold Dev.endEvent
  grind

theorem Dev.writeMode_winOk {t : Nat} {v : Word} : (d.writeMode t v).winOk := by
  have := @Dev.accessError_winOk; have := @Dev.raise_winOk; have := @Dev.modTmr_winOk
  unfold Dev.writeMode
  grind

theorem Dev.motionFrame_winOk : d.motionFrame.winOk := by
  have := @Dev.onSy_winOk
  unfold Dev.motionFrame
  grind

theorem Dev.writeMotion_winOk {v : Word} : (d.writeMotion v).winOk := by
  have := @Dev.onSy_winOk; have := @Dev.when_winOk; have := @Dev.raise_winOk
  unfold Dev.writeMotion
  grind

theorem Dev.clearWdt_winOk {v : Word} : (d.clearWdt v).winOk := by
  have := @Dev.accessError_winOk; have := @Dev.onSy_winOk
  unfold Dev.clearWdt
  grind

theorem Dev.wdtTick_winOk {ns : Nat} {erase : Bool} : (d.wdtTick ns erase).winOk := h

end

/-! ### Commits -/

section
variable {d : Dev} (h : d.winOk)
include h

theorem Dev.writeRecord_winOk : d.writeRecord.winOk := by
  have := @Dev.onSy_winOk
  unfold Dev.writeRecord
  grind

theorem Dev.saveSettings_winOk : d.saveSettings.winOk := h

theorem Dev.saveCounts_winOk : d.saveCounts.winOk := h

theorem Dev.sendConfigCheck_winOk {m : Nat} : (d.sendConfigCheck m).winOk := by
  have := @Dev.chainSend_winOk
  unfold Dev.sendConfigCheck
  grind

theorem Dev.joinRule_winOk {m : Nat} : (d.joinRule m).winOk := by
  have := @Dev.each_winOk; have := @Dev.modPh_winOk; have := @Dev.modMit_winOk
  unfold Dev.joinRule
  grind

theorem Dev.applyAux_winOk {todo : List Nat} : (d.applyAux todo).winOk := h

theorem Dev.applyMit_winOk {todo : List Nat} {m : Nat} : (d.applyMit todo m).winOk := by
  have := @Dev.each_winOk; have := @Dev.leave_winOk; have := @Dev.modPh_winOk; have := @Dev.onPw_winOk
  have := @Dev.modMit_winOk; have := @Dev.rethreshold_winOk; have := @foldl_winOk
  unfold Dev.applyMit
  grind

theorem Dev.applyMits_winOk {todo : List Nat} : (d.applyMits todo).winOk := by
  have := @Dev.each_winOk; have := @Dev.applyMit_winOk; have := @Dev.applyAux_winOk
  unfold Dev.applyMits
  grind

theorem Dev.applySource_winOk {k : Nat} : (d.applySource k).winOk := by
  have := @Dev.modSrc_winOk; have := @Dev.stopAt_winOk; have := @Dev.endLend_winOk; have := @Dev.setSwitch_winOk
  have := @Dev.onPw_winOk
  unfold Dev.applySource
  grind

theorem Dev.newProgram_winOk {k : Nat} : (d.newProgram k).winOk := by
  have := @Dev.modStr_winOk; have := @Dev.toStep_winOk
  unfold Dev.newProgram
  grind

theorem Dev.applyString_winOk {k : Nat} : (d.applyString k).winOk := by
  have := @Dev.modStr_winOk; have := @Dev.endImp_winOk; have := @Dev.stopAt_winOk; have := @Dev.setSwitch_winOk
  have := @Dev.onPw_winOk; have := @Dev.enterAbsent_winOk; have := @Dev.runFromStart_winOk; have := @Dev.newProgram_winOk
  unfold Dev.applyString
  grind

theorem Dev.applyNodes_winOk : d.applyNodes.winOk := by
  have := @Dev.each_winOk; have := @Dev.stopMit_winOk; have := @Dev.modBus_winOk; have := @Dev.onPw_winOk
  unfold Dev.applyNodes
  grind

theorem Dev.applyMeas_winOk {old : PathMap} : (d.applyMeas old).winOk := by
  have := @Dev.each_winOk; have := @Dev.modMu_winOk; have := @Dev.commitAcc_winOk; have := @Dev.commitMmx_winOk
  have := @foldl_winOk
  unfold Dev.applyMeas
  grind

theorem Dev.applyProfile_winOk : d.applyProfile.winOk := by
  have := @Dev.onPw_winOk; have := @Dev.modGlb_winOk
  unfold Dev.applyProfile
  grind

theorem Dev.clearFaultCause_winOk : d.clearFaultCause.winOk := by
  have := @Dev.onSy_winOk
  unfold Dev.clearFaultCause
  grind

theorem Dev.finishCommit_winOk : d.finishCommit.winOk := by
  have committed : ((((d.onPw fun p => { p with map := d.pw.stage.map.getD p.map, stage := { step := d.pw.stage.step }
      }).powerQuads.powerUnits.saveSettings).writeRecord).each (List.range 16) fun m e => e.sendConfigCheck m).winOk :=
    Dev.each_winOk (Dev.writeRecord_winOk (Dev.saveSettings_winOk (Dev.powerUnits_winOk (Dev.powerQuads_winOk
      (Dev.onPw_winOk h))))) fun _ _ he => Dev.sendConfigCheck_winOk he
  unfold Dev.finishCommit
  dsimp only
  split
  · exact Dev.done_winOk committed
  · exact committed

theorem Dev.commitStep_winOk {all : Bool} : (d.commitStep all).winOk := by
  have joined {e : Dev} {rest : List Nat} (he : e.winOk) : ((e.applyMits rest).powerQuads.powerUnits).winOk :=
    Dev.powerUnits_winOk (Dev.powerQuads_winOk (Dev.applyMits_winOk he))
  have ended {e : Dev} {c : Prop} [Decidable c] (he : e.winOk) : (if c then e.finishCommit else e).winOk :=
    ite_winOk (Dev.finishCommit_winOk he) he
  unfold Dev.commitStep
  exact ite_winOk h (ite_winOk
    (ended (joined (Dev.applyProfile_winOk (Dev.applyMeas_winOk (Dev.applyNodes_winOk (Dev.each_winOk (Dev.each_winOk
      (Dev.modStage_winOk h) fun _ _ he => Dev.applySource_winOk he) fun _ _ he => Dev.applyString_winOk he))))))
    (ended (joined (Dev.modStage_winOk h))))

end

/-! ### Frames and checkpoints -/

section
variable {d : Dev} (h : d.winOk)
include h

theorem Dev.writeCheckpoint_winOk : d.writeCheckpoint.winOk := h

theorem Dev.endHold_winOk : d.endHold.winOk := by
  have := @Dev.onSy_winOk; have := @Dev.onHo_winOk; have := @Dev.deliver_winOk; have := @Dev.offset_winOk
  have := @foldl_winOk
  unfold Dev.endHold
  grind

theorem Dev.enterSleep_winOk : d.enterSleep.winOk := by
  have := @Dev.endActivities_winOk; have := @Dev.onSy_winOk
  unfold Dev.enterSleep
  grind

theorem Dev.activated_winOk : d.activated.winOk := by
  have := @Dev.onSy_winOk; have := @Dev.raise_winOk; have := @Dev.onPw_winOk
  unfold Dev.activated
  grind

theorem Dev.closeCheckpoint_winOk : d.closeCheckpoint.winOk := by
  unfold Dev.closeCheckpoint
  exact ite_winOk h (Dev.activated_winOk (Dev.when_winOk
    (Dev.modHb_winOk (Dev.onHo_winOk (Dev.onSy_winOk h) rfl)) fun _ he => Dev.endHold_winOk he))

theorem Dev.refFrame_winOk : d.refFrame.winOk := by
  have := @Dev.fault_winOk; have := @Dev.modRef_winOk; have := @Dev.each_winOk; have := @Dev.modMu_winOk
  have := @Dev.when_winOk; have := @Dev.offset_winOk
  unfold Dev.refFrame
  grind

theorem Dev.sourceFrame_winOk {k : Nat} : (d.sourceFrame k).winOk := h

theorem Dev.frameCounts_winOk : d.frameCounts.winOk := by
  have := @Dev.each_winOk; have := @Dev.modBus_winOk; have := @Dev.modMit_winOk
  unfold Dev.frameCounts
  grind

theorem Dev.senseFrame_winOk {m : Nat} : (d.senseFrame m).winOk := by
  have := @Dev.onset_winOk; have := @Dev.offset_winOk; have := @Dev.modMit_winOk
  unfold Dev.senseFrame
  grind

theorem Dev.showBoundary_winOk {l : Nat} : (d.showBoundary l).winOk := h

theorem Dev.levers_winOk {m : Nat} : (d.levers m).winOk := by
  have := @Dev.modMit_winOk; have := @Dev.setActive_winOk; have := @Dev.shedChain_winOk
  unfold Dev.levers
  grind

theorem Dev.mittenPolicy_winOk {m : Nat} : (d.mittenPolicy m).winOk := by
  have := @Dev.modMit_winOk; have := @Dev.raise_winOk; have := @Dev.tickFree_winOk
  unfold Dev.mittenPolicy
  grind

theorem Dev.preRetest_winOk {k : Nat} : (d.preRetest k).winOk := by
  have := @Dev.modStr_winOk; have := @Dev.offset_winOk; have := @Dev.publish_winOk
  unfold Dev.preRetest
  grind

theorem Dev.socAge_winOk {k : Nat} : (d.socAge k).winOk := h

theorem Dev.busDemands_winOk : d.busDemands.winOk := h

theorem Dev.cleanFrames_winOk : d.cleanFrames.winOk := h

theorem Dev.ageReset_winOk : d.ageReset.winOk := by
  have := @Dev.each_winOk; have := @Dev.modSw_winOk; have := @Dev.modSrc_winOk; have := @Dev.modMit_winOk
  unfold Dev.ageReset
  grind

theorem Dev.recordMeas_winOk {l : List AgeMeas} : (d.recordMeas l).winOk := by
  have := @Dev.ageMeasure_winOk; have := @foldl_winOk
  unfold Dev.recordMeas
  grind

theorem Dev.classCFrame_winOk {l : List AgeMeas} : (d.classCFrame l).winOk := by
  have := @Dev.onSy_winOk; have := @Dev.ageRef_winOk; have := @Dev.recordMeas_winOk; have := @Dev.each_winOk
  have := @Dev.brimRow_winOk
  unfold Dev.classCFrame
  grind

theorem Dev.policyB_winOk : d.policyB.winOk := by
  have := @Dev.onSy_winOk; have := @Dev.arbitrate_winOk; have := @Dev.each_winOk; have := @Dev.mittenPolicy_winOk
  have := @Dev.when_winOk; have := @Dev.onPw_winOk; have := @Dev.levers_winOk
  unfold Dev.policyB
  grind

theorem Dev.closeMeans_winOk : d.closeMeans.winOk := by
  have := @Dev.each_winOk; have := @Dev.modMit_winOk
  unfold Dev.closeMeans
  grind

theorem Dev.policyWork_winOk {meas : List AgeMeas} {late : Bool} : (d.policyWork meas late).winOk := by
  unfold Dev.policyWork
  have demands := Dev.busDemands_winOk (Dev.closeMeans_winOk h)
  exact Dev.saveCounts_winOk (Dev.each_winOk (Dev.ageReset_winOk (Dev.classCFrame_winOk (Dev.brimFloors_winOk
    (ite_winOk (Dev.onSy_winOk demands) (Dev.policyB_winOk demands))))) fun _ _ he => Dev.preRetest_winOk he)

theorem Dev.policyFrame_winOk {meas : List AgeMeas} {late : Bool} : (d.policyFrame meas late).winOk := by
  unfold Dev.policyFrame
  with_reducible refine ite_winOk (Dev.policyWork_winOk ?_) ?_
  all_goals
    refine ite_winOk (Dev.each_winOk ?_ fun _ _ he => Dev.socAge_winOk he) ?_ <;>
      exact Dev.motionFrame_winOk (Dev.each_winOk (Dev.cleanFrames_winOk (Dev.showBoundary_winOk
        (Dev.boundary_winOk h))) fun _ _ he => Dev.modMu_winOk he)

end

end Sys2Proof.Machine
end

section
/-! PROOFS. The byte windows under rings, commands, starts, links, registers and the tick (R262, R431). -/

namespace Sys2Proof.Machine

/-! ### Rings -/

section
variable {d : Dev} (h : d.winOk)
include h

theorem Dev.runCmd_winOk {t op : Nat} {f : TagRec → Dev → Dev} (hf : ∀ x e, Dev.winOk e → (f x e).winOk) :
    (d.runCmd t op f).winOk := by
  unfold Dev.runCmd
  split
  · exact hf _ d h
  · exact h

theorem Dev.ringGone_winOk {r : Nat} : (d.ringGone r).winOk := by
  have := @Dev.setRing_winOk
  unfold Dev.ringGone
  grind

theorem Dev.atCompletion_winOk {x : TagRec} : (d.atCompletion x).winOk := by
  have := @Dev.modRing_winOk
  unfold Dev.atCompletion
  grind

theorem Dev.complete_winOk {x : TagRec} : (d.complete x).winOk := by
  have := @Dev.hostWrite_winOk; have := @Dev.writeEntry_winOk; have := @Dev.atCompletion_winOk; have := @Dev.freeTag_winOk
  have := @Dev.ringGone_winOk
  unfold Dev.complete
  grind

theorem Dev.doorbell_winOk {r : Nat} {val : BitVec 64} {bytes : Nat} : (d.doorbell r val bytes).winOk := by
  have := @Dev.accessError_winOk; have := @Dev.raise_winOk; have := @Dev.modRing_winOk; have := @Dev.when_winOk
  have := @Dev.wakeSleep_winOk
  unfold Dev.doorbell
  grind

theorem Dev.dropStage_winOk {r : Nat} : (d.dropStage r).winOk := by
  have := @Dev.modStage_winOk
  unfold Dev.dropStage
  grind

theorem Dev.deleteRings_winOk : d.deleteRings.winOk := by
  have := @Dev.each_winOk; have := @Dev.dropStage_winOk; have := @Dev.onHo_winOk
  unfold Dev.deleteRings
  grind

theorem Dev.sendPending_winOk : d.sendPending.winOk := by
  have := @Dev.each_winOk; have := @Dev.sendMsix_winOk
  unfold Dev.sendPending
  grind

theorem Dev.writeHifCtrl_winOk {v : Word} : (d.writeHifCtrl v).winOk := by
  have := @Dev.accessError_winOk; have := @Dev.modHif_winOk; have := @Dev.raise_winOk; have := @Dev.setRing_winOk
  have := @Dev.each_winOk; have := @Dev.dropStage_winOk; have := @Dev.modRing_winOk; have := @Dev.ringGone_winOk
  unfold Dev.writeHifCtrl
  grind

end

/-! ### Staging commands -/

section
variable {d : Dev} (h : d.winOk)
include h

theorem Dev.staged_winOk {x : TagRec} {f : Dev → Dev} (hf : ∀ e, Dev.winOk e → (f e).winOk) : (d.staged x f).winOk := by
  unfold Dev.staged
  exact ite_winOk (hf d h) (Dev.refuse_winOk h)

theorem Dev.stageSet_winOk {t : Nat} {r : Except Nat ParamSet} {f : ParamSet → Stage → Stage} :
    (d.stageSet t r f).winOk := by
  have := @Dev.refuse_winOk; have := @Dev.ok_winOk; have := @Dev.modStage_winOk
  unfold Dev.stageSet
  grind

end

/-! ### Control commands -/

section
variable {d : Dev} (h : d.winOk)
include h

theorem Dev.wrong0_winOk {t reason unit : Nat} : (d.wrong0 t reason unit).winOk := h

theorem Dev.onMitten_winOk {t : Nat} {x : TagRec} {f : Nat → Dev → Dev} (hf : ∀ m e, Dev.winOk e → (f m e).winOk) :
    (d.onMitten t x f).winOk := by
  unfold Dev.onMitten
  exact ite_winOk (Dev.refuse_winOk h) (ite_winOk (Dev.wrong0_winOk h) (hf _ d h))

theorem Dev.onString_winOk {t : Nat} {x : TagRec} {f : Nat → Dev → Dev} (hf : ∀ k e, Dev.winOk e → (f k e).winOk) :
    (d.onString t x f).winOk := by
  unfold Dev.onString
  exact ite_winOk (Dev.refuse_winOk h) (ite_winOk (Dev.wrong0_winOk h) (hf _ d h))

theorem Dev.hostStopMit_winOk {m : Nat} : (d.hostStopMit m).winOk := by
  have := @Dev.stopMit_winOk; have := @Dev.modMit_winOk
  unfold Dev.hostStopMit
  grind

theorem Dev.returnPhase_winOk {n : Nat} : (d.returnPhase n).winOk := by
  have := @Dev.modPh_winOk; have := @Dev.recoverAgent_winOk; have := @Dev.joinRule_winOk
  unfold Dev.returnPhase
  grind

theorem Dev.returned_winOk {kind n : Nat} {e : Dev} (ret : d.returned kind n = some (some e)) : e.winOk := by
  have := @Dev.returnPhase_winOk; have := @Dev.modMit_winOk; have := @Dev.modSrc_winOk; have := @Dev.modSw_winOk
  have := @Dev.recoverAgent_winOk; have := @Dev.modStr_winOk; have := @Dev.modMu_winOk; have := @Dev.clearFaultCause_winOk
  have := @Dev.onSy_winOk; have := @Dev.modRef_winOk
  unfold Dev.returned at ret
  split at ret <;> grind

theorem Dev.holdDonor_winOk {i : Nat} : (d.holdDonor i).winOk := h

theorem Dev.startLend_winOk {m k : Nat} {l : Lend} : (d.startLend m k l).winOk := by
  have := @Dev.modSrc_winOk; have := @Dev.each_winOk; have := @Dev.endImp_winOk; have := @Dev.holdDonor_winOk
  have := @Dev.modMit_winOk; have := @Dev.startMit_winOk
  unfold Dev.startLend
  grind

theorem Dev.shedMit_winOk {m : Nat} : (d.shedMit m).winOk := by
  have := @Dev.each_winOk; have := @Dev.modPh_winOk; have := @Dev.hostStopMit_winOk
  unfold Dev.shedMit
  grind

theorem Dev.disconnectPort_winOk {p : Nat} : (d.disconnectPort p).winOk := by
  have := @Dev.modSw_winOk; have := @Dev.linerStop_winOk; have := @Dev.endLend_winOk; have := @Dev.modSrc_winOk
  have := @Dev.onPw_winOk; have := @Dev.endDonor_winOk; have := @Dev.pause_winOk
  unfold Dev.disconnectPort
  grind

theorem Dev.disconnectMit_winOk {m : Nat} : (d.disconnectMit m).winOk := by
  have := @Dev.modMit_winOk; have := @Dev.endLendOn_winOk; have := @Dev.stopMit_winOk
  unfold Dev.disconnectMit
  grind

end

/-! ### Measurement commands -/

section
variable {d : Dev} (h : d.winOk)
include h

theorem Dev.clipRuns_winOk {f n : Nat} : (d.clipRuns f n).winOk := h

theorem Dev.testMit_winOk {m : Nat} : (d.testMit m).winOk := by
  have := @Dev.gauntletOf_winOk; have := @Dev.modMit_winOk
  unfold Dev.testMit
  grind

theorem Dev.testConv_winOk {c : TestConv} : (d.testConv c).winOk := by
  have := @Dev.modMu_winOk
  unfold Dev.testConv
  grind

end

/-! ### Starts and failover -/

section
variable {d : Dev} (h : d.winOk)
include h

theorem Dev.startTime_winOk {b : BootIn} : (d.startTime b).winOk := by
  have := @Dev.onSy_winOk
  unfold Dev.startTime
  grind

theorem Dev.setPower_winOk {p : PowerSt} : (d.setPower p).winOk := by
  have := @Dev.onSy_winOk; have := @Dev.powerQuads_winOk; have := @Dev.powerUnits_winOk
  unfold Dev.setPower
  grind

end

theorem Dev.fresh_winOk {d : Dev} {kind : StartKind} {b : BootIn} : (d.fresh kind b).winOk := ⟨rfl, rfl⟩

section
variable {d : Dev} (h : d.winOk)
include h

theorem Dev.loadSettings_winOk : d.loadSettings.winOk := by
  have := @Dev.onPw_winOk; have := @Dev.onMs_winOk; have := @Dev.setGen_winOk; have := @Dev.setAcc_winOk
  have := @Dev.setMmx_winOk; have := @Dev.modGlb_winOk; have := @Dev.onLn_winOk; have := @Dev.onSy_winOk
  have := @foldl_winOk
  unfold Dev.loadSettings
  grind

theorem Dev.defaultSettings_winOk : d.defaultSettings.winOk := by
  have := @Dev.onSy_winOk; have := @Dev.raise_winOk
  unfold Dev.defaultSettings
  grind

theorem Dev.startLiner_winOk : d.startLiner.winOk := by
  have := @Dev.onSy_winOk; have := @Dev.powerQuads_winOk
  unfold Dev.startLiner
  grind

theorem Dev.recovery_winOk : d.recovery.winOk := by
  have := @Dev.leaveChain_winOk; have := @Dev.setPower_winOk
  unfold Dev.recovery
  grind

omit h in
theorem Dev.boot_winOk {n : Nv} {kind : StartKind} {b : BootIn} : (d.boot n kind b).1.winOk := by
  have reported {k : StartKind} {g : Sys → Sys} {c : Bool} :
      (((((((d.startTime b).fresh k b).onSy g).setPower .liner).startLiner).when b.aonLost fun e =>
        e.raise evTimeEpochNew none []).when c fun e => e.raise evImageSlotSwitched none []).winOk :=
    Dev.when_winOk (Dev.when_winOk (Dev.startLiner_winOk (Dev.setPower_winOk (Dev.onSy_winOk
      (Dev.fresh_winOk)))) fun _ he => Dev.raise_winOk he) fun _ he => Dev.raise_winOk he
  unfold Dev.boot
  simp only [apply_ite Prod.fst]
  with_reducible refine ite_winOk ?_ (ite_winOk ?_ ?_)
  · exact Dev.recovery_winOk reported
  · exact Dev.onSy_winOk reported
  · exact Dev.powerUnits_winOk (Dev.powerQuads_winOk (Dev.loadSettings_winOk
      (Dev.when_winOk reported fun _ he => Dev.defaultSettings_winOk he)))

theorem Dev.wdtCause_winOk {c : Nat} : (d.wdtCause c).winOk := h

theorem Dev.modLiner_winOk {f : LinerS → LinerS} : (d.modLiner f).winOk := h

theorem Dev.selectLiner_winOk : d.selectLiner.winOk := by
  have := @Dev.modSrc_winOk; have := @Dev.modSw_winOk
  unfold Dev.selectLiner
  grind

theorem Dev.takeLiner_winOk : d.takeLiner.winOk := by
  unfold Dev.takeLiner
  exact Dev.respread_winOk (Dev.linerFree_winOk (Dev.modMit_winOk (Dev.each_winOk
    (Dev.selectLiner_winOk (Dev.tickFree_winOk h)) fun _ _ he => Dev.modPh_winOk he)))

theorem Dev.autostart_winOk : d.autostart.winOk := by
  have := @Dev.each_winOk; have := @Dev.enterAbsent_winOk; have := @Dev.runFromStart_winOk
  unfold Dev.autostart
  grind

theorem Dev.linerReports_winOk : d.linerReports.winOk := by
  have := @Dev.when_winOk; have := @Dev.raise_winOk; have := @Dev.finding_winOk; have := @Dev.modLiner_winOk
  have := @foldl_winOk
  unfold Dev.linerReports
  grind

theorem Dev.adoptTags_winOk {ck : Nat} : (d.adoptTags ck).winOk := h

theorem Dev.adoptBody_winOk {b : CkBody} : (d.adoptBody b).winOk := h

theorem Dev.adoptNone_winOk : d.adoptNone.winOk := h

theorem Dev.supBack_winOk : d.supBack.winOk := h

theorem Dev.adopt_winOk : d.adopt.1.winOk := by
  have := @Dev.adoptBody_winOk; have := @Dev.onSy_winOk; have := @Dev.adoptTags_winOk; have := @Dev.supBack_winOk
  have := @Dev.adoptNone_winOk; have := @foldl_winOk
  unfold Dev.adopt
  grind

theorem Dev.warmLines_winOk {q : Nat} {t : Int} : (d.warmLines q t).winOk := by
  have := @Dev.each_winOk; have := @Dev.modPh_winOk
  unfold Dev.warmLines
  grind

theorem Dev.warmReset_winOk {w : WarmIn} : (d.warmReset w).winOk := by
  have := @Dev.onSy_winOk; have := @Dev.each_winOk; have := @Dev.breakLocks_winOk; have := @Dev.recoverAgent_winOk
  have := @Dev.modMu_winOk; have := @Dev.warmLines_winOk
  unfold Dev.warmReset
  grind

theorem Dev.warmStart_winOk {n : Nv} {i : StartIn} : (d.warmStart n i).1.winOk := by
  have reset : (d.warmReset i.warm).winOk := Dev.warmReset_winOk h
  unfold Dev.warmStart
  simp only [apply_ite Prod.fst]
  with_reducible refine ite_winOk ?_ (ite_winOk ?_ (ite_winOk ?_ (ite_winOk ?_ ?_)))
  · exact Dev.boot_winOk
  · exact Dev.endHold_winOk (Dev.supBack_winOk reset)
  · exact Dev.recovery_winOk (Dev.startLiner_winOk (Dev.fresh_winOk))
  · exact Dev.onSy_winOk reset
  · exact Dev.adopt_winOk (Dev.onSy_winOk reset)

theorem Dev.supFault_winOk {a ev : Nat} : (d.supFault a ev).winOk := by
  have := @Dev.onSy_winOk; have := @Dev.enterLimp_winOk
  unfold Dev.supFault
  grind

theorem Dev.takeOver_winOk {ev : Nat} : (d.takeOver ev).winOk := by
  have := @Dev.onSy_winOk; have := @Dev.onMs_winOk; have := @Dev.declare_winOk; have := @Dev.supFault_winOk
  unfold Dev.takeOver
  grind

theorem Dev.restoreShadow_winOk {a : Nat} : (d.restoreShadow a).winOk := by
  have := @Dev.modSrc_winOk; have := @Dev.modStr_winOk
  unfold Dev.restoreShadow
  grind

theorem Dev.agentFault_winOk {a ev : Nat} : (d.agentFault a ev).winOk := by
  have := @Dev.declare_winOk; have := @Dev.retirePhase_winOk; have := @Dev.modPh_winOk; have := @Dev.phaseTransient_winOk
  have := @Dev.wakeSleep_winOk; have := @Dev.retireSource_winOk; have := @Dev.restoreShadow_winOk; have := @Dev.modSrc_winOk
  have := @Dev.recoverAgent_winOk; have := @Dev.retireString_winOk; have := @Dev.modStr_winOk; have := @Dev.takeOver_winOk
  have := @Dev.supFault_winOk; have := @Dev.onSy_winOk
  unfold Dev.agentFault
  grind

theorem Dev.stalled_winOk {n : Nv} {a ev : Nat} {i : StartIn} : (d.stalled n a ev i).1.winOk := by
  have := @Dev.declare_winOk; have := @Dev.supFault_winOk; have := @Dev.warmStart_winOk; have := @Dev.agentFault_winOk
  unfold Dev.stalled
  grind

theorem Dev.quiesce_winOk : d.quiesce.winOk := by
  unfold Dev.quiesce
  exact Dev.modLiner_winOk (Dev.each_winOk (Dev.linerStop_winOk (Dev.endActivities_winOk h))
    fun _ _ he => ite_winOk (Dev.stopMit_winOk he) he)

theorem Dev.sleepSources_winOk : d.sleepSources.winOk := h

theorem Dev.enterDeep_winOk {p : PowerSt} {aon : Nat} : (d.enterDeep p aon).winOk := by
  unfold Dev.enterDeep
  exact Dev.modHif_winOk (Dev.setPower_winOk (Dev.onSy_winOk (Dev.saveCounts_winOk (Dev.each_winOk
    (Dev.leaveChain_winOk (Dev.quiesce_winOk (Dev.sleepSources_winOk h))) fun _ _ he => Dev.setSwitch_winOk he))))

theorem Dev.wakeDeep_winOk {cause src : Nat} : (d.wakeDeep cause src).winOk := by
  have := @Dev.onSy_winOk; have := @Dev.abandon_winOk
  unfold Dev.wakeDeep
  grind

end

/-! ### Service commands -/

section
variable {d : Dev} (h : d.winOk)
include h

theorem Dev.powerState_winOk {t : Nat} {e : Dev} (ordered : d.powerState t = .ok e) : e.winOk := by
  have := @Dev.onSy_winOk; have := @Dev.when_winOk; have := @Dev.chainSend_winOk
  unfold Dev.powerState at ordered
  grind

theorem Dev.hitless_winOk {n : Nv} {i : StartIn} : (d.hitless n i).1.winOk := by
  have := @Dev.closeCheckpoint_winOk; have := @Dev.writeCheckpoint_winOk; have := @Dev.warmStart_winOk
  unfold Dev.hitless
  grind

theorem Dev.relayItem_winOk {origin : Nat} {head : List Byte} {offBytes : Nat} {data : List Byte} :
    (d.relayItem origin head offBytes data).winOk := by
  have := @Dev.modChn_winOk
  unfold Dev.relayItem
  grind

theorem Dev.relayManifest_winOk {origin : Nat} {b : List Byte} : (d.relayManifest origin b).winOk := by
  have := @Dev.relayItem_winOk
  unfold Dev.relayManifest
  grind

theorem Dev.relayPiece_winOk {origin p : Nat} {b : List Byte} : (d.relayPiece origin p b).winOk := by
  have := @Dev.relayItem_winOk
  unfold Dev.relayPiece
  grind

theorem Dev.takeManifest_winOk {n m : Nv} {origin : Nat} {b : List Byte} {e : Dev} {new : Bool}
    (taken : d.takeManifest n origin b = .ok (e, m, new)) : e.winOk := by
  have := @Dev.raise_winOk; have := @Dev.relayManifest_winOk
  unfold Dev.takeManifest at taken
  grind

theorem Dev.activating_winOk {t : Nat} : (d.activating t).winOk := h

theorem Dev.takePiece_winOk {n : Nv} {origin p : Nat} {b : List Byte} {readOk : Bool} :
    (d.takePiece n origin p b readOk).1.winOk := by
  have := @Dev.relayPiece_winOk; have := @Dev.when_winOk; have := @Dev.raise_winOk
  unfold Dev.takePiece
  grind

end

theorem Dev.takePieces_winOk {badRead : Option Nat} {payload : List Byte} {l : List Nat} :
    ∀ {d : Dev} (_ : d.winOk) {n : Nv} {i : Nat} {any : Bool}, (d.takePieces n badRead payload l i any).1.winOk := by
  induction l with
  | nil => exact fun h _ _ _ => h
  | cons p t ih =>
    intro d h n i any
    unfold Dev.takePieces
    dsimp only
    split
    · exact Dev.takePiece_winOk h
    · exact ih (Dev.takePiece_winOk h)
    · exact ih (Dev.takePiece_winOk h)

section
variable {d : Dev} (h : d.winOk)
include h

theorem Dev.activate_winOk {n : Nv} {t : Nat} {i : StartIn} : (d.activate n t i).1.winOk := by
  have := @Dev.onSy_winOk; have := @Dev.refuse_winOk; have := @Dev.activated_winOk; have := @Dev.endActivities_winOk
  have := @Dev.hitless_winOk; have := @Dev.done_winOk
  unfold Dev.activate
  grind

end

/-! ### Two-wire ports and the hatband -/

section
variable {d : Dev} (h : d.winOk)
include h

theorem Dev.hbRefuse_winOk {status result : Nat} : (d.hbRefuse status result).winOk := h

theorem Dev.hbDone_winOk {status result : Nat} {data : List Byte} : (d.hbDone status result data).winOk := by
  have := @Dev.modHb_winOk; have := @Dev.complete_winOk
  unfold Dev.hbDone
  grind

theorem Dev.hbGo_winOk : d.hbGo.winOk := by
  have woken {e : Dev} {c₁ c₂ : Prop} {c₃ c₄ : Bool} [Decidable c₁] [Decidable c₂] {g : Sys → Sys} (he : e.winOk) :
      (if c₁ then (if c₂ then e.onSy g else e)
       else (e.when c₃ fun e => e.wakeSleep 3).when c₄ Dev.abandon).winOk :=
    ite_winOk (ite_winOk (Dev.onSy_winOk he) he) (Dev.when_winOk
      (Dev.when_winOk he fun _ he => Dev.wakeSleep_winOk he) fun _ he => Dev.abandon_winOk he)
  unfold Dev.hbGo
  dsimp only
  refine ite_winOk ?_ (ite_winOk ?_ ?_)
  · exact woken (Dev.modHb_winOk h)
  · exact Dev.hbRefuse_winOk (woken (Dev.modHb_winOk h))
  · exact Dev.hbRefuse_winOk (woken (Dev.modHb_winOk h))

theorem Dev.hbByte_winOk {a : Nat} {b : Byte} : (d.hbByte a b).winOk := by
  have := @Dev.modHb_winOk
  unfold Dev.hbByte
  grind

theorem Dev.hbRun_winOk {code : Nat} {priv : Option Nat} {f : Dev → Dev} (hf : ∀ e, Dev.winOk e → (f e).winOk) :
    (d.hbRun code priv f).winOk := by
  unfold Dev.hbRun
  refine ite_winOk h (ite_winOk (Dev.hbRefuse_winOk h) ?_)
  split
  · exact Dev.hbRefuse_winOk h
  · exact hf _ (Dev.when_winOk h fun _ he => Dev.wakeSleep_winOk he)

theorem Dev.hbManifest_winOk {n : Nv} {units : Nat} {b : List Byte} : (d.hbManifest n units b).1.winOk := by
  have := @Dev.modHb_winOk; have := @Dev.activating_winOk; have := @Dev.hbRefuse_winOk; have := @Dev.takeManifest_winOk
  have := @Dev.ok_winOk; have := @Dev.hbDone_winOk
  unfold Dev.hbManifest
  grind

theorem Dev.hbPiece_winOk {n : Nv} {p : Nat} {b : List Byte} {readOk : Bool} : (d.hbPiece n p b readOk).1.winOk := by
  have := @Dev.modHb_winOk; have := @Dev.activating_winOk; have := @Dev.hbRefuse_winOk; have := @Dev.onSy_winOk
  have := @Dev.takePiece_winOk; have := @Dev.hbDone_winOk
  unfold Dev.hbPiece
  grind

theorem Dev.hbChunk_winOk {n : Nv} {readOk : Bool} : (d.hbChunk n readOk).1.winOk := by
  have := @Dev.hbRefuse_winOk; have := @Dev.modHb_winOk; have := @Dev.hbManifest_winOk; have := @Dev.hbDone_winOk
  have := @Dev.hbPiece_winOk
  unfold Dev.hbChunk
  grind

theorem Dev.portMissed_winOk {port : Nat} : (d.portMissed port).winOk := by
  have := @Dev.pollMissed_winOk
  unfold Dev.portMissed
  grind

end

/-! ### CAN -/

section
variable {d : Dev} (h : d.winOk)
include h

theorem Dev.canErrors_winOk {k st : Nat} : (d.canErrors k st).winOk := h

theorem Dev.canActive_winOk {k : Nat} : (d.canActive k).winOk := h

end

/-! ### The chain -/

section
variable {d : Dev} (h : d.winOk)
include h

theorem Dev.interleave_winOk {m total : Nat} {bases : List Nat} : (d.interleave m total bases).winOk := h

theorem Dev.chainLatch_winOk : d.chainLatch.winOk := h

theorem Dev.chainLimp_winOk {parts : Nat → Bool} : (d.chainLimp parts).winOk := by
  have := @Dev.limpChain_winOk
  unfold Dev.chainLimp
  grind

theorem Dev.crownTick_winOk : d.crownTick.winOk := by
  have := @Dev.chainLatch_winOk; have := @Dev.modChn_winOk; have := @Dev.chainLimp_winOk; have := @Dev.interleave_winOk
  have := @Dev.modMit_winOk; have := @foldl_winOk
  unfold Dev.crownTick
  grind

theorem Dev.emitFrame_winOk : d.emitFrame.winOk := h

theorem Dev.recallDue_winOk {m : Nat} {b : CrownBlk} : (d.recallDue m b).winOk := by
  have := @Dev.setActive_winOk; have := @Dev.modMit_winOk
  unfold Dev.recallDue
  grind

theorem Dev.applyBlk_winOk {m : Nat} {b : CrownBlk} : (d.applyBlk m b).winOk := by
  have := @Dev.shedMembers_winOk; have := @Dev.modMit_winOk; have := @Dev.recallDue_winOk; have := @Dev.each_winOk
  have := @Dev.modPh_winOk
  unfold Dev.applyBlk
  grind

theorem Dev.senseCompare_winOk {m : Nat} : (d.senseCompare m).winOk := by
  have := @Dev.modMit_winOk; have := @Dev.tickFree_winOk
  unfold Dev.senseCompare
  grind

theorem Dev.followerTick_winOk : d.followerTick.winOk := by
  have := @Dev.chainLatch_winOk; have := @Dev.chainLimp_winOk; have := @Dev.modMit_winOk; have := @Dev.applyBlk_winOk
  have := @Dev.senseCompare_winOk
  unfold Dev.followerTick
  grind

theorem Dev.dropFrame_winOk : d.dropFrame.winOk := by
  have := @Dev.modChn_winOk; have := @Dev.modMit_winOk
  unfold Dev.dropFrame
  grind

theorem Dev.forwardFrame_winOk {f : List Byte} {tick : Nat} : (d.forwardFrame f tick).winOk := by
  have := @Dev.modChn_winOk
  unfold Dev.forwardFrame
  grind

theorem Dev.hearMarker_winOk {f : List Byte} : (d.hearMarker f).winOk := by
  have := @Dev.when_winOk; have := @Dev.modChn_winOk
  unfold Dev.hearMarker
  grind

theorem Dev.arriveFrame_winOk {f : List Byte} {r : RxFrame} : (d.arriveFrame f r).winOk := by
  have := @Dev.modChn_winOk; have := @Dev.modMit_winOk; have := @Dev.when_winOk; have := @Dev.each_winOk
  have := @Dev.modPh_winOk; have := @Dev.onSy_winOk; have := @Dev.stepGrid_winOk
  unfold Dev.arriveFrame
  grind

theorem Dev.writeChnCtrl_winOk {v : Word} : (d.writeChnCtrl v).winOk := by
  have := @Dev.accessError_winOk; have := @Dev.modChn_winOk; have := @Dev.offset_winOk; have := @Dev.leaveChain_winOk
  unfold Dev.writeChnCtrl
  grind

theorem Dev.orderTick_winOk : d.orderTick.winOk := by
  have := @Dev.modChn_winOk; have := @Dev.wakeSleep_winOk; have := @Dev.onSy_winOk
  unfold Dev.orderTick
  grind

theorem Dev.relayReject_winOk {n : Nat} : (d.relayReject n).winOk := by
  have := @Dev.modUpd_winOk; have := @Dev.raise_winOk
  unfold Dev.relayReject
  grind

theorem Dev.chainPiece_winOk {n : Nv} {origin p : Nat} {b : List Byte} {readOk : Bool} :
    (d.chainPiece n origin p b readOk).1.winOk := by
  have := @Dev.onSy_winOk; have := @Dev.takePiece_winOk; have := @Dev.relayReject_winOk
  unfold Dev.chainPiece
  grind

end

/-! ### Deferred pieces -/

section
variable {d : Dev} (h : d.winOk)
include h

theorem Dev.latePiece_winOk {n : Nv} {x : LatePiece} : (d.latePiece n x).1.winOk := by
  have := @Dev.hbPiece_winOk; have := @Dev.activating_winOk; have := @Dev.chainPiece_winOk
  unfold Dev.latePiece
  grind

theorem Dev.latePieces_winOk {n : Nv} : (d.latePieces n).1.winOk := by
  have piece (l : List LatePiece) : ∀ p : Dev × Nv, p.1.winOk → (l.foldl (fun a x => a.1.latePiece a.2 x) p).1.winOk := by
    induction l with
    | nil => exact fun _ hp => hp
    | cons x t ih => exact fun p hp => ih _ (Dev.latePiece_winOk hp)
  unfold Dev.latePieces
  split
  · exact h
  · exact piece _ _ (Dev.onSy_winOk h)

end

/-! ### Read actions -/

section
variable {d : Dev} (h : d.winOk)
include h

theorem Dev.mmxAct_winOk {reader n : Nat} : (d.mmxAct reader n).winOk := h

theorem Dev.accAct_winOk {reader n : Nat} : (d.accAct reader n).winOk := by
  have := @Dev.onMs_winOk; have := @Dev.latchAcc_winOk
  unfold Dev.accAct
  grind

theorem Dev.readAct_winOk {off : Nat} : (d.readAct off).winOk := by
  unfold Dev.readAct
  repeat' with_reducible refine ite_winOk ?_ ?_
  · exact Dev.modGlb_winOk h
  · exact Dev.onSy_winOk h
  · exact Dev.modTmr_winOk h
  · exact h
  · exact Dev.modTwt_winOk h
  · exact Dev.modTwc_winOk h
  · exact h
  · exact Dev.modCan_winOk h
  · exact Dev.modChn_winOk h
  · exact Dev.modMu_winOk h
  · exact Dev.accAct_winOk h
  · exact h
  · exact Dev.mmxAct_winOk h
  · exact h
  · exact Dev.modPh_winOk h
  · exact h
  · exact Dev.onSy_winOk h
  · exact Dev.onSy_winOk h
  · exact Dev.modUpd_winOk (g := fun u => { u with rejects := 0, relayRej := 0 }) h rfl
  · exact Dev.modUpd_winOk (g := fun u => { u with authFails := 0 }) h rfl
  · exact h

end

/-! ### Registers -/

section
variable {d : Dev} (h : d.winOk)
include h

theorem Dev.invalid_winOk {off : Nat} : (d.invalid off).winOk := by
  have := @Dev.accessError_winOk
  unfold Dev.invalid
  grind

theorem Dev.writeBehav_winOk {n : Nv} {v : Word} : (d.writeBehav n v).winOk := by
  have := @Dev.raise_winOk; have := @Dev.modGlb_winOk
  unfold Dev.writeBehav
  grind

theorem Dev.writeAuxMode_winOk {hi : Bool} {v : Word} : (d.writeAuxMode hi v).winOk := by
  have := @Dev.invalid_winOk; have := @Dev.modGlb_winOk
  unfold Dev.writeAuxMode
  grind

theorem Dev.writeEvvec_winOk {i : Nat} {v : Word} : (d.writeEvvec i v).winOk := by
  have := @Dev.invalid_winOk; have := @Dev.modGlb_winOk; have := @foldl_winOk
  unfold Dev.writeEvvec
  grind

theorem Dev.writeEvstat_winOk {j : Nat} {v : Word} : (d.writeEvstat j v).winOk := h

theorem Dev.writeGlb_winOk {n : Nv} {off : Nat} {v : Word} : (d.writeGlb n off v).winOk := by
  have := @Dev.writeBehav_winOk; have := @Dev.writeAuxMode_winOk; have := @Dev.modGlb_winOk; have := @Dev.writeEvstat_winOk
  have := @Dev.writeEvvec_winOk
  unfold Dev.writeGlb
  grind

theorem Dev.writeHif_winOk {off : Nat} {v : Word} : (d.writeHif off v).winOk := by
  have := @Dev.writeHifCtrl_winOk; have := @Dev.modHif_winOk
  unfold Dev.writeHif
  grind

theorem Dev.writeTmrCtrl_winOk {t : Nat} {v : Word} : (d.writeTmrCtrl t v).winOk := by
  have := @Dev.modTmr_winOk; have := @Dev.when_winOk; have := @Dev.compareEvent_winOk
  unfold Dev.writeTmrCtrl
  grind

theorem Dev.writeTmr_winOk {off : Nat} {v : Word} : (d.writeTmr off v).winOk := by
  have := @Dev.writeTmrCtrl_winOk; have := @Dev.writeMode_winOk; have := @Dev.modTmr_winOk; have := @Dev.invalid_winOk
  have := @Dev.writeMotion_winOk; have := @Dev.onSy_winOk
  unfold Dev.writeTmr
  grind

theorem Dev.writeTiming_winOk {c reg : Nat} {v : Word} : (d.writeTiming c reg v).winOk := h

theorem Dev.writeTwoWire_winOk {off : Nat} {v : Word} : (d.writeTwoWire off v).winOk := by
  have := @Dev.modTwt_winOk; have := @Dev.invalid_winOk; have := @Dev.modHb_winOk; have := @Dev.modTwc_winOk
  have := @Dev.writeTiming_winOk
  unfold Dev.writeTwoWire
  grind

theorem Dev.writeCanCtrl_winOk {k : Nat} {v : Word} : (d.writeCanCtrl k v).winOk := by
  have := @Dev.raise_winOk; have := @Dev.modCan_winOk; have := @Dev.canActive_winOk
  unfold Dev.writeCanCtrl
  grind

theorem Dev.writeCan_winOk {off : Nat} {v : Word} : (d.writeCan off v).winOk := by
  have := @Dev.writeCanCtrl_winOk; have := @Dev.invalid_winOk; have := @Dev.modCan_winOk
  unfold Dev.writeCan
  grind

theorem Dev.writeBufEn_winOk {v : Word} : (d.writeBufEn v).winOk := by
  have := @Dev.modRef_winOk; have := @Dev.raise_winOk; have := @Dev.offset_winOk
  unfold Dev.writeBufEn
  grind

theorem Dev.writePh_winOk {off : Nat} {v : Word} : (d.writePh off v).winOk := by
  have := @Dev.invalid_winOk; have := @Dev.modPh_winOk; have := @Dev.setupNow_winOk
  unfold Dev.writePh
  grind

theorem Dev.writeUpdCtrl_winOk {v : Word} : (d.writeUpdCtrl v).winOk := by
  have := @Dev.invalid_winOk; have := @Dev.modUpd_winOk
  unfold Dev.writeUpdCtrl
  grind

theorem Dev.writePairEn_winOk {v : BitVec 8} : (d.writePairEn v).winOk := by
  have := @Dev.modRef_winOk; have := @Dev.each_winOk; have := @Dev.modMu_winOk
  unfold Dev.writePairEn
  grind

theorem Dev.writeOpen_winOk {n : Nv} {off : Nat} {v : Word} : (d.writeOpen n off v).winOk := by
  unfold Dev.writeOpen
  repeat' with_reducible refine ite_winOk ?_ ?_
  · exact Dev.writeGlb_winOk h
  · exact Dev.writeHif_winOk h
  · exact Dev.clearWdt_winOk h
  · exact h
  · exact Dev.writeTmr_winOk h
  · exact Dev.writeTwoWire_winOk h
  · exact Dev.writeCan_winOk h
  · exact Dev.writeChnCtrl_winOk h
  · exact Dev.modChn_winOk h
  · exact Dev.writeBufEn_winOk h
  · exact Dev.writePairEn_winOk h
  · exact Dev.writePh_winOk h
  · exact Dev.writeUpdCtrl_winOk h
  · exact h

theorem Dev.writeReg_winOk {n : Nv} {off : Nat} {v : Word} : (d.writeReg n off v).winOk := by
  have := @Dev.ignoredWrite_winOk; have := @Dev.invalid_winOk; have := @Dev.writeOpen_winOk
  unfold Dev.writeReg
  grind

theorem Dev.setVecMask_winOk {v : Nat} {mask : Bool} : (d.setVecMask v mask).winOk := by
  have := @Dev.modHif_winOk; have := @Dev.sendMsix_winOk
  unfold Dev.setVecMask
  grind

theorem Dev.writeBar2_winOk {o : Nat} {v : Word} : (d.writeBar2 o v).winOk := by
  have := @Dev.setVecMask_winOk; have := @Dev.modHif_winOk
  unfold Dev.writeBar2
  grind

theorem Dev.romPut_winOk {a : Nat} {b : List Byte} : (d.romPut a b).winOk := ⟨h.1, romWrite_wf _ _ _ h.2⟩

theorem Dev.hostWriteAt_winOk {n : Nv} {a : Nat} {b : List Byte} : (d.hostWriteAt n a b).winOk := by
  have := @Dev.recovery_winOk; have := @Dev.romPut_winOk; have := @Dev.accessError_winOk; have := @Dev.doorbell_winOk
  have := @Dev.writeReg_winOk; have := @Dev.writeBar2_winOk
  unfold Dev.hostWriteAt
  grind

theorem Dev.readWordAt_winOk {n : Nv} {a lo k : Nat} : (d.readWordAt n a lo k).1.winOk := by
  have read := ite_winOk (c := k = 4) (Dev.readAct_winOk (off := a) h) h
  unfold Dev.readWordAt
  refine ite_fst_winOk ?_ (ite_fst_winOk h (ite_fst_winOk h h))
  exact ite_winOk (c := 0xF000 ≤ a) read read

end

theorem Dev.readSpan_winOk {n : Nv} (w : Nat) : ∀ {d : Dev} (_ : d.winOk) {a len :
    Nat}, (d.readSpan n w a len).1.winOk := by
  induction w with
  | zero => exact fun h _ _ => h
  | succ w ih =>
    intro d h a len
    unfold Dev.readSpan
    exact ite_fst_winOk h (ih (Dev.readWordAt_winOk h))

section
variable {d : Dev} (h : d.winOk)
include h

theorem Dev.hostReadAt_winOk {n : Nv} {a len : Nat} : (d.hostReadAt n a len).winOk := by
  have := @Dev.recovery_winOk; have := @Dev.reply_winOk; have := @Dev.accessError_winOk; have := @Dev.readSpan_winOk
  unfold Dev.hostReadAt
  grind

end

theorem Dev.qspiWords_winOk {n : Nv} {w : Nat} : ∀ {d : Dev} (_ : d.winOk) {a : Nat} {b : List Byte},
    (d.qspiWords n w a b).winOk := by
  induction w with
  | zero => exact fun h _ _ => h
  | succ w ih =>
    intro d h a b
    unfold Dev.qspiWords
    exact ite_winOk h (ite_winOk ⟨winWrite_wf _ _ _ h.1, h.2⟩ (ih (Dev.hostWriteAt_winOk h)))

section
variable {d : Dev} (h : d.winOk)
include h

theorem Dev.qspiFault_winOk {a err : Nat} : (d.qspiFault a err).winOk := by
  have := @Dev.accessError_winOk
  unfold Dev.qspiFault
  grind

theorem Dev.qspiWrite_winOk {n : Nv} {a : Nat} {b : List Byte} : (d.qspiWrite n a b).winOk := by
  have status {g : HostSt → HostSt} (same : (g d.ho).win = d.ho.win) : (d.onHo g).winOk := Dev.onHo_winOk h same
  have written {e : Dev} {a : Nat} (he : e.winOk) : (e.onHo fun h => { h with win := winWrite h.win a b }).winOk :=
    ⟨winWrite_wf _ _ _ he.1, he.2⟩
  unfold Dev.qspiWrite
  dsimp only
  refine ite_winOk ?_ (ite_winOk ?_ ?_)
  · exact Dev.qspiFault_winOk (ite_winOk (written (status rfl)) (status rfl))
  · exact Dev.hostWriteAt_winOk (status rfl)
  · exact Dev.qspiWords_winOk (status rfl)

end

/-! ### The recovery ROM -/

section
variable {d : Dev} (h : d.winOk)
include h

theorem Dev.romAnswer_winOk {pkt : List Byte} {status : Nat} {data : List Byte} : (d.romAnswer pkt status data).winOk := 
  ⟨h.1, winSet_wf 0 0 (by decide) _ h.2⟩

theorem Dev.romBy_winOk {att : RomAtt} : (d.romBy att).winOk := h

theorem Dev.romSend_winOk {att : RomAtt} : (d.romSend att).winOk := by
  have := @Dev.reply_winOk
  unfold Dev.romSend
  grind

theorem Dev.romRow_winOk {n : Nv} {code : Nat} {raw : List Byte} {att : RomAtt} {f : List Byte → Dev → Nv → Dev × Nv}
    (hf : ∀ p e n, Dev.winOk e → (f p e n).1.winOk) : (d.romRow n code raw att f).1.winOk := by
  have served := Dev.romBy_winOk (att := att) h
  unfold Dev.romRow
  refine ite_fst_winOk h ?_
  split
  · exact Dev.romSend_winOk (Dev.reply_winOk h)
  · exact ite_fst_winOk (Dev.romSend_winOk (Dev.romAnswer_winOk h)) (ite_fst_winOk
      (Dev.romSend_winOk (Dev.reply_winOk (d := (d.romBy att).modUpd fun u => { u with romWin := winSet u.romWin 0 0 })
        ⟨served.1, winSet_wf 0 0 (by decide) _ served.2⟩))
      (ite_fst_winOk (Dev.romSend_winOk (Dev.romAnswer_winOk served)) (ite_fst_winOk h (Dev.romSend_winOk (hf _ _ _ served)))))

end

/-! ### The tick as a whole -/

section
variable {d : Dev} (h : d.winOk)
include h

theorem Dev.linerRule_winOk : d.linerRule.winOk := by
  have := @Dev.linerStop_winOk
  unfold Dev.linerRule
  grind

theorem Dev.chainTick_winOk : d.chainTick.winOk := by
  have order := Dev.orderTick_winOk h
  have quiet := Dev.modChn_winOk (g := fun c => { c with quiet := satInc 2 c.quiet }) order
  unfold Dev.chainTick
  exact ite_winOk (Dev.each_winOk order fun _ _ he => Dev.modMit_winOk he) (ite_winOk order
    (ite_winOk (Dev.crownTick_winOk quiet) (ite_winOk (Dev.followerTick_winOk quiet) quiet)))

theorem Dev.linerSoftTick_winOk : d.linerSoftTick.winOk := h

theorem Dev.engineTick_winOk : d.engineTick.winOk := by
  have soft := Dev.linerSoftTick_winOk h
  have taps := Dev.onMs_winOk (g := fun m => { m with tap := m.tap.map Tap.latch }) soft
  unfold Dev.engineTick
  exact ite_winOk (Dev.linerRule_winOk (Dev.each_winOk (Dev.tickWork_winOk soft) fun _ _ he => Dev.impTick_winOk he))
    (ite_winOk (Dev.each_winOk taps fun _ _ he => Dev.stringTick_winOk he) taps)

theorem Dev.turnWindows_winOk : d.turnWindows.winOk := h

end

end Sys2Proof.Machine
end

section
/-! PROOFS. Every command keeps the byte windows canonical (R262, R431). -/

namespace Sys2Proof.Machine

/-- An outcome whose state has canonical windows where `s` has. -/
structure WindowsKept (s : State) (o : Host.Outcome State Fault Refusal) : Prop where
  keeps : s.dev.winOk → ∀ t, o = .next t → t.dev.winOk

section
variable {s : State}

theorem onDev_windowsKept {f : Dev → Dev} (hf : ∀ d, d.winOk → (f d).winOk) : WindowsKept s (s.onDev f) where
  keeps := by
    rintro h t ⟨⟩
    exact hf _ h

theorem onBoth_windowsKept {f : Dev → Nv → Dev × Nv} (hf : ∀ d n, d.winOk → (f d n).1.winOk) :
    WindowsKept s (s.onBoth f) where
  keeps := by
    rintro h t ⟨⟩
    exact hf _ _ h

theorem runBoth_windowsKept {t op : Nat} {f : TagRec → Dev → Nv → Dev × Nv} (hf : ∀ x d n, d.winOk → (f x d n).1.winOk) :
    WindowsKept s (s.runBoth t op f) :=
  onBoth_windowsKept fun d n h => by
    cases d.command t op with
    | none => exact h
    | some x => exact hf _ _ _ h

@[simp] theorem execMbxPtrStage_windowsKept {agent : Fin 128} {secure : Bool} {box : Fin 64} {val : Word} :
    WindowsKept s (execMbxPtrStage agent secure box val s) := by
  have := @Dev.guardWrite_winOk; have := @Dev.modMbx_winOk
  unfold execMbxPtrStage
  refine onDev_windowsKept fun d h => ?_
  grind

@[simp] theorem execMbxSend_windowsKept {agent : Fin 128} {secure : Bool} {box : Fin 64} {val : Word} :
    WindowsKept s (execMbxSend agent secure box val s) := by
  have := @Dev.guardWrite_winOk; have := @Dev.invalidValue_winOk; have := @Dev.busError_winOk; have := @Dev.revoked_winOk
  have := @Dev.modMbx_winOk; have := @Dev.logNotice_winOk; have := @Dev.staged_winOk
  unfold execMbxSend
  refine onDev_windowsKept fun d h => ?_
  grind

@[simp] theorem execMbxRecv_windowsKept {agent : Fin 128} {secure : Bool} {box : Fin 64} {wide : Bool} :
    WindowsKept s (execMbxRecv agent secure box s wide) := by
  have := @Dev.reply_winOk; have := @Dev.recvBox_winOk; have := @Dev.replyW_winOk
  unfold execMbxRecv
  refine onDev_windowsKept fun d h => ?_
  grind

@[simp] theorem execLckTake_windowsKept {agent : Fin 128} {secure : Bool} {lock : Fin 64} :
    WindowsKept s (execLckTake agent secure lock s) := by
  have := @Dev.replyW_winOk; have := @Dev.takeLock_winOk
  unfold execLckTake
  refine onDev_windowsKept fun d h => ?_
  grind

@[simp] theorem execLckRelease_windowsKept {agent : Fin 128} {secure : Bool} {lock : Fin 64} {val : Word} :
    WindowsKept s (execLckRelease agent secure lock val s) := by
  have := @Dev.guardWrite_winOk; have := @Dev.invalidValue_winOk; have := @Dev.modLck_winOk; have := @Dev.busError_winOk
  unfold execLckRelease
  refine onDev_windowsKept fun d h => ?_
  grind

@[simp] theorem execBusUndervoltage_windowsKept {bus : Fin 4} : WindowsKept s (execBusUndervoltage bus s) := by
  have := @Dev.modBus_winOk; have := @Dev.onset_winOk
  unfold execBusUndervoltage
  refine onDev_windowsKept fun d h => ?_
  grind

@[simp] theorem execSupplementReturn_windowsKept {mit : Fin 16} : WindowsKept s (execSupplementReturn mit s) := by
  have := @Dev.modMit_winOk
  unfold execSupplementReturn
  refine onDev_windowsKept fun d h => ?_
  grind

@[simp] theorem execStringAbsent_windowsKept {str : Fin 16} : WindowsKept s (execStringAbsent str s) := by
  have := @Dev.enterAbsent_winOk
  unfold execStringAbsent
  refine onDev_windowsKept fun d h => ?_
  grind

@[simp] theorem execStringPresent_windowsKept {str : Fin 16} : WindowsKept s (execStringPresent str s) := by
  have := @Dev.modStr_winOk; have := @Dev.offset_winOk; have := @Dev.runFromStart_winOk
  unfold execStringPresent
  refine onDev_windowsKept fun d h => ?_
  grind

@[simp] theorem execPrechargeEntry_windowsKept {str : Fin 16} : WindowsKept s (execPrechargeEntry str s) := by
  have := @Dev.endImp_winOk; have := @Dev.endDonor_winOk; have := @Dev.enterPre_winOk
  unfold execPrechargeEntry
  refine onDev_windowsKept fun d h => ?_
  grind

@[simp] theorem execPrechargeEnd_windowsKept {str : Fin 16} : WindowsKept s (execPrechargeEnd str s) := by
  have := @Dev.stopStr_winOk; have := @Dev.endPre_winOk; have := @Dev.modStr_winOk; have := @Dev.toStep_winOk
  unfold execPrechargeEnd
  refine onDev_windowsKept fun d h => ?_
  grind

@[simp] theorem execStringPrechargeTimeout_windowsKept {str : Fin 16} :
    WindowsKept s (execStringPrechargeTimeout str s) := by
  have := @Dev.fault_winOk; have := @Dev.retireString_winOk
  unfold execStringPrechargeTimeout
  refine onDev_windowsKept fun d h => ?_
  grind

@[simp] theorem execStepExit_windowsKept {str : Fin 16} : WindowsKept s (execStepExit str s) := by
  have := @Dev.takeExit_winOk; have := @Dev.stopStr_winOk; have := @Dev.fault_winOk; have := @Dev.retireString_winOk
  have := @Dev.raise_winOk
  unfold execStepExit
  refine onDev_windowsKept fun d h => ?_
  grind

@[simp] theorem execStringTieLimit_windowsKept {str : Fin 16} : WindowsKept s (execStringTieLimit str s) := by
  have := @Dev.modStr_winOk; have := @Dev.raise_winOk
  unfold execStringTieLimit
  refine onDev_windowsKept fun d h => ?_
  grind

@[simp] theorem execTieRearmExpiry_windowsKept {str : Fin 16} : WindowsKept s (execTieRearmExpiry str s) :=
  onDev_windowsKept fun _ h => h

@[simp] theorem execPauseEnd_windowsKept {str : Fin 16} : WindowsKept s (execPauseEnd str s) := by
  have := @Dev.modStr_winOk; have := @Dev.publish_winOk
  unfold execPauseEnd
  refine onDev_windowsKept fun d h => ?_
  grind

@[simp] theorem execPackMonitorRecord_windowsKept {str : Fin 16} {rec : List Byte} :
    WindowsKept s (execPackMonitorRecord str rec s) := by
  have := @Dev.pmRecord_winOk
  unfold execPackMonitorRecord
  refine onDev_windowsKept fun d h => ?_
  grind

@[simp] theorem execPackMonitorLost_windowsKept {str : Fin 16} : WindowsKept s (execPackMonitorLost str s) := by
  have := @Dev.packLost_winOk
  unfold execPackMonitorLost
  refine onDev_windowsKept fun d h => ?_
  grind

@[simp] theorem execStringDischargeLimit_windowsKept {str : Fin 16} : WindowsKept s (execStringDischargeLimit str s) := by
  have := @Dev.raise_winOk
  unfold execStringDischargeLimit
  refine onDev_windowsKept fun d h => ?_
  grind

@[simp] theorem execStringOvervoltage_windowsKept {str : Fin 16} : WindowsKept s (execStringOvervoltage str s) := by
  have := @Dev.strFaultRow_winOk
  unfold execStringOvervoltage
  refine onDev_windowsKept fun d h => ?_
  grind

@[simp] theorem execStringOvercurrent_windowsKept {str : Fin 16} : WindowsKept s (execStringOvercurrent str s) := by
  have := @Dev.strFaultRow_winOk
  unfold execStringOvercurrent
  refine onDev_windowsKept fun d h => ?_
  grind

@[simp] theorem execStringOvertemp_windowsKept {str : Fin 16} : WindowsKept s (execStringOvertemp str s) := by
  have := @Dev.strFaultRow_winOk
  unfold execStringOvertemp
  refine onDev_windowsKept fun d h => ?_
  grind

@[simp] theorem execStringSenseFault_windowsKept {str : Fin 16} {current : Bool} :
    WindowsKept s (execStringSenseFault str current s) := by
  have := @Dev.modTap_winOk; have := @Dev.strFaultRow_winOk
  unfold execStringSenseFault
  refine onDev_windowsKept fun d h => ?_
  grind

@[simp] theorem execStringTempFault_windowsKept {str : Fin 16} : WindowsKept s (execStringTempFault str s) := by
  have := @Dev.endImp_winOk; have := @Dev.fault_winOk; have := @Dev.retireString_winOk; have := @Dev.modStr_winOk
  have := @Dev.pauseNow_winOk
  unfold execStringTempFault
  refine onDev_windowsKept fun d h => ?_
  grind

@[simp] theorem execStringSwitchFault_windowsKept {str : Fin 16} : WindowsKept s (execStringSwitchFault str s) := by
  have := @Dev.fault_winOk; have := @Dev.endImp_winOk; have := @Dev.stopAt_winOk; have := @Dev.retireString_winOk
  unfold execStringSwitchFault
  refine onDev_windowsKept fun d h => ?_
  grind

@[simp] theorem execPwmCycleBoundary_windowsKept {ph : Fin 64} {at0 : Nat} :
    WindowsKept s (execPwmCycleBoundary ph s at0) := by
  have := @Dev.linerCycle_winOk; have := @Dev.modPh_winOk; have := @Dev.autorange_winOk; have := @Dev.applySetup_winOk
  have := @Dev.respread_winOk; have := @Dev.when_winOk; have := @Dev.leadStart_winOk; have := @Dev.swapRule_winOk
  have := @Dev.tickFree_winOk
  unfold execPwmCycleBoundary
  refine onDev_windowsKept fun d h => ?_
  grind

@[simp] theorem execSampleTrigger_windowsKept {ph : Fin 64} {trig : Fin 4} {clk : Nat} :
    WindowsKept s (execSampleTrigger ph trig clk s) := by
  have := @Dev.modPh_winOk; have := @Dev.dropTrigger_winOk; have := @Dev.modMu_winOk
  unfold execSampleTrigger
  refine onDev_windowsKept fun d h => ?_
  grind

@[simp] theorem execUrgentConversionDone_windowsKept {ph : Fin 64} {code : Int} {cmBad : Bool} :
    WindowsKept s (execUrgentConversionDone ph code cmBad s) := by
  have := @Dev.modMu_winOk; have := @Dev.autorange_winOk; have := @Dev.modPh_winOk; have := @Dev.when_winOk
  have := @Dev.tickFree_winOk
  unfold execUrgentConversionDone
  refine onDev_windowsKept fun d h => ?_
  grind

@[simp] theorem execComparatorTrip_windowsKept {ph : Fin 64} {trip : TripAt} :
    WindowsKept s (execComparatorTrip ph s trip) := by
  have := @Dev.when_winOk; have := @Dev.rethreshold_winOk; have := @Dev.modPh_winOk
  unfold execComparatorTrip
  refine onDev_windowsKept fun d h => ?_
  grind

@[simp] theorem execPhaseOvercurrent_windowsKept {ph : Fin 64} : WindowsKept s (execPhaseOvercurrent ph s) := by
  have := @Dev.fault_winOk; have := @Dev.phaseTransient_winOk; have := @Dev.modPh_winOk
  unfold execPhaseOvercurrent
  refine onDev_windowsKept fun d h => ?_
  grind

@[simp] theorem execPhaseDriverFault_windowsKept {ph : Fin 64} : WindowsKept s (execPhaseDriverFault ph s) := by
  have := @Dev.modPh_winOk; have := @Dev.fault_winOk; have := @Dev.gauntletTransient_winOk
  have := @Dev.phaseTransient_winOk; have := @Dev.onSy_winOk
  unfold execPhaseDriverFault
  refine onDev_windowsKept fun d h => ?_
  grind

@[simp] theorem execPhaseSenseFault_windowsKept {ph : Fin 64} : WindowsKept s (execPhaseSenseFault ph s) := by
  have := @Dev.fault_winOk; have := @Dev.phaseTransient_winOk; have := @Dev.modPh_winOk; have := @Dev.when_winOk
  unfold execPhaseSenseFault
  refine onDev_windowsKept fun d h => ?_
  grind

@[simp] theorem execQuadSupplyFault_windowsKept {quad : Fin 16} : WindowsKept s (execQuadSupplyFault quad s) := by
  have := @Dev.onPw_winOk; have := @Dev.fault_winOk; have := @Dev.quadFault_winOk
  unfold execQuadSupplyFault
  refine onDev_windowsKept fun d h => ?_
  grind

@[simp] theorem execQuadSupplyRecovery_windowsKept {quad : Fin 16} : WindowsKept s (execQuadSupplyRecovery quad s) := by
  have := @Dev.onPw_winOk; have := @Dev.each_winOk; have := @Dev.phaseRetry_winOk
  unfold execQuadSupplyRecovery
  refine onDev_windowsKept fun d h => ?_
  grind

@[simp] theorem execDelayLineCalibration_windowsKept {quad : Fin 16} {fails : BitVec 4} :
    WindowsKept s (execDelayLineCalibration quad fails s) := by
  have := @Dev.each_winOk; have := @Dev.modPh_winOk; have := @Dev.when_winOk; have := @Dev.raise_winOk
  have := @Dev.joinTest_winOk
  unfold execDelayLineCalibration
  refine onDev_windowsKept fun d h => ?_
  grind

@[simp] theorem execPhaseRejoinCheckEnd_windowsKept {ph : Fin 64} {maxMa : Nat} {flt : Bool} :
    WindowsKept s (execPhaseRejoinCheckEnd ph maxMa s flt) := by
  have := @Dev.modPh_winOk; have := @Dev.retirePhase_winOk; have := @Dev.respread_winOk
  unfold execPhaseRejoinCheckEnd
  refine onDev_windowsKept fun d h => ?_
  grind

@[simp] theorem execGauntletStep_windowsKept {mit : Fin 16} {obs : GntObs} :
    WindowsKept s (execGauntletStep mit obs s) := by
  have := @Dev.each_winOk; have := @Dev.applySetup_winOk; have := @Dev.fault_winOk; have := @Dev.gauntletTransient_winOk
  have := @Dev.finding_winOk; have := @Dev.pulseResult_winOk; have := @Dev.modMit_winOk
  unfold execGauntletStep
  refine onDev_windowsKept fun d h => ?_
  grind

@[simp] theorem execGauntletEnd_windowsKept {mit : Fin 16} : WindowsKept s (execGauntletEnd mit s) := by
  have := @Dev.each_winOk; have := @Dev.modPh_winOk; have := @Dev.modMit_winOk; have := @Dev.respread_winOk
  have := @Dev.gauntletStop_winOk; have := @Dev.mittenFault_winOk; have := @Dev.fault_winOk; have := @Dev.enterSoft_winOk
  unfold execGauntletEnd
  refine onDev_windowsKept fun d h => ?_
  grind

@[simp] theorem execGauntletNoSupply_windowsKept {mit : Fin 16} : WindowsKept s (execGauntletNoSupply mit s) := by
  have := @Dev.raise_winOk; have := @Dev.each_winOk; have := @Dev.modPh_winOk; have := @Dev.modMit_winOk
  have := @Dev.gauntletStop_winOk
  unfold execGauntletNoSupply
  refine onDev_windowsKept fun d h => ?_
  grind

@[simp] theorem execSoftStartComplete_windowsKept {mit : Fin 16} : WindowsKept s (execSoftStartComplete mit s) := by
  have := @Dev.modMit_winOk
  unfold execSoftStartComplete
  refine onDev_windowsKept fun d h => ?_
  grind

@[simp] theorem execStandbyCurrentFinding_windowsKept {ph : Fin 64} {avgMa : Nat} :
    WindowsKept s (execStandbyCurrentFinding ph s avgMa) := by
  have := @Dev.finding_winOk
  unfold execStandbyCurrentFinding
  refine onDev_windowsKept fun d h => ?_
  grind

@[simp] theorem execMittenShort_windowsKept {mit : Fin 16} : WindowsKept s (execMittenShort mit s) := by
  have := @Dev.mitFaultRow_winOk
  unfold execMittenShort
  refine onDev_windowsKept fun d h => ?_
  grind

@[simp] theorem execMittenOvervoltage_windowsKept {mit : Fin 16} : WindowsKept s (execMittenOvervoltage mit s) := by
  have := @Dev.mitFaultRow_winOk
  unfold execMittenOvervoltage
  refine onDev_windowsKept fun d h => ?_
  grind

@[simp] theorem execMittenOvertemp_windowsKept {mit : Fin 16} : WindowsKept s (execMittenOvertemp mit s) := by
  have := @Dev.mitFaultRow_winOk
  unfold execMittenOvertemp
  refine onDev_windowsKept fun d h => ?_
  grind

@[simp] theorem execMittenUnderstaffed_windowsKept {mit : Fin 16} : WindowsKept s (execMittenUnderstaffed mit s) := by
  have := @Dev.mitFaultRow_winOk
  unfold execMittenUnderstaffed
  refine onDev_windowsKept fun d h => ?_
  grind

@[simp] theorem execSetpointLoss_windowsKept {mit : Fin 16} : WindowsKept s (execSetpointLoss mit s) := by
  have := @Dev.shedMembers_winOk
  unfold execSetpointLoss
  refine onDev_windowsKept fun d h => ?_
  grind

@[simp] theorem execSourceQualified_windowsKept {src : Fin 12} : WindowsKept s (execSourceQualified src s) := by
  have := @Dev.modSrc_winOk; have := @Dev.raise_winOk
  unfold execSourceQualified
  refine onDev_windowsKept fun d h => ?_
  grind

@[simp] theorem execSourceUndervoltageLoss_windowsKept {src : Fin 12} :
    WindowsKept s (execSourceUndervoltageLoss src s) := by
  have := @Dev.modSrc_winOk; have := @Dev.loseSource_winOk
  unfold execSourceUndervoltageLoss
  refine onDev_windowsKept fun d h => ?_
  grind

@[simp] theorem execRippleLoss_windowsKept {src : Fin 12} : WindowsKept s (execRippleLoss src s) := by
  have := @Dev.loseSource_winOk
  unfold execRippleLoss
  refine onDev_windowsKept fun d h => ?_
  grind

@[simp] theorem execRideThroughExpiry_windowsKept {src : Fin 12} : WindowsKept s (execRideThroughExpiry src s) := by
  have := @Dev.loseSource_winOk
  unfold execRideThroughExpiry
  refine onDev_windowsKept fun d h => ?_
  grind

@[simp] theorem execSourceOvervoltage_windowsKept {src : Fin 12} : WindowsKept s (execSourceOvervoltage src s) := by
  have := @Dev.modSrc_winOk; have := @Dev.fault_winOk; have := @Dev.srcFaultRow_winOk
  unfold execSourceOvervoltage
  refine onDev_windowsKept fun d h => ?_
  grind

@[simp] theorem execAlternatorSurgeHoldExpiry_windowsKept {src : Fin 12} :
    WindowsKept s (execAlternatorSurgeHoldExpiry src s) := by
  have := @Dev.sourceFault_winOk
  unfold execAlternatorSurgeHoldExpiry
  refine onDev_windowsKept fun d h => ?_
  grind

@[simp] theorem execSourceOvercurrent_windowsKept {src : Fin 12} : WindowsKept s (execSourceOvercurrent src s) := by
  have := @Dev.srcFaultRow_winOk
  unfold execSourceOvercurrent
  refine onDev_windowsKept fun d h => ?_
  grind

@[simp] theorem execSourceReverse_windowsKept {src : Fin 12} : WindowsKept s (execSourceReverse src s) := by
  have := @Dev.srcFaultRow_winOk
  unfold execSourceReverse
  refine onDev_windowsKept fun d h => ?_
  grind

@[simp] theorem execSourceSenseFault_windowsKept {src : Fin 12} : WindowsKept s (execSourceSenseFault src s) := by
  have := @Dev.modTap_winOk; have := @Dev.srcFaultRow_winOk
  unfold execSourceSenseFault
  refine onDev_windowsKept fun d h => ?_
  grind

@[simp] theorem execSourceSwitchFault_windowsKept {src : Fin 12} : WindowsKept s (execSourceSwitchFault src s) := by
  have := @Dev.fault_winOk; have := @Dev.stopAt_winOk; have := @Dev.modSrc_winOk; have := @Dev.retireSource_winOk
  unfold execSourceSwitchFault
  refine onDev_windowsKept fun d h => ?_
  grind

@[simp] theorem execSwitchOpen_windowsKept {port : Fin 28} : WindowsKept s (execSwitchOpen port s) := by
  have := @Dev.portTransient_winOk; have := @Dev.modSw_winOk
  unfold execSwitchOpen
  refine onDev_windowsKept fun d h => ?_
  grind

@[simp] theorem execIdealDiodeTurnOff_windowsKept {port : Fin 28} : WindowsKept s (execIdealDiodeTurnOff port s) := by
  have := @Dev.modSw_winOk
  unfold execIdealDiodeTurnOff
  refine onDev_windowsKept fun d h => ?_
  grind

@[simp] theorem execIdealDiodeTurnOn_windowsKept {port : Fin 28} : WindowsKept s (execIdealDiodeTurnOn port s) := by
  have := @Dev.modSw_winOk
  unfold execIdealDiodeTurnOn
  refine onDev_windowsKept fun d h => ?_
  grind

@[simp] theorem execChangeoverSwitchClose_windowsKept {src : Fin 12} : WindowsKept s (execChangeoverSwitchClose src s) := by
  unfold execChangeoverSwitchClose
  refine onDev_windowsKept fun d h => ite_winOk h (ite_winOk (Dev.modSrc_winOk h) (ite_winOk h ?_))
  exact ite_winOk (Dev.tryClose_winOk h) (Dev.each_winOk (Dev.modSrc_winOk (Dev.tryClose_winOk h)) fun _ _ he =>
    ite_winOk (Dev.startMit_winOk (Dev.modMit_winOk he)) he)

@[simp] theorem execHoldoffEnd_windowsKept {src : Fin 12} : WindowsKept s (execHoldoffEnd src s) := by
  have := @Dev.modSrc_winOk
  unfold execHoldoffEnd
  refine onDev_windowsKept fun d h => ?_
  grind

@[simp] theorem execMpptStep_windowsKept {src : Fin 12} : WindowsKept s (execMpptStep src s) := by
  have := @Dev.modSrc_winOk; have := @Dev.newPeriod_winOk
  unfold execMpptStep
  refine onDev_windowsKept fun d h => ?_
  grind

@[simp] theorem execSolarScanStart_windowsKept {src : Fin 12} : WindowsKept s (execSolarScanStart src s) := by
  have := @Dev.modSrc_winOk; have := @Dev.newPeriod_winOk
  unfold execSolarScanStart
  refine onDev_windowsKept fun d h => ?_
  grind

@[simp] theorem execSolarScanStep_windowsKept {src : Fin 12} : WindowsKept s (execSolarScanStep src s) := by
  have := @Dev.modSrc_winOk; have := @Dev.newPeriod_winOk; have := @Dev.when_winOk; have := @Dev.addLog_winOk
  unfold execSolarScanStep
  refine onDev_windowsKept fun d h => ?_
  grind

@[simp] theorem execGeneratorWarmUpEnd_windowsKept {src : Fin 12} : WindowsKept s (execGeneratorWarmUpEnd src s) :=
  onDev_windowsKept fun _ h => h

@[simp] theorem execStartOutRelease_windowsKept {src : Fin 12} : WindowsKept s (execStartOutRelease src s) := by
  have := @Dev.modSrc_winOk
  unfold execStartOutRelease
  refine onDev_windowsKept fun d h => ?_
  grind

@[simp] theorem execLendEndCondition_windowsKept {src : Fin 12} {reason : LendEnd} :
    WindowsKept s (execLendEndCondition src reason s) := by
  have := @Dev.endLend_winOk
  unfold execLendEndCondition
  refine onDev_windowsKept fun d h => ?_
  grind

@[simp] theorem execVisitEnd_windowsKept {mu : Fin 16} {samples : List Int} {cmBad : Bool} {clipped : Bool} {time : Nat} :
    WindowsKept s (execVisitEnd mu samples cmBad clipped time s) := by
  unfold execVisitEnd
  split
  · exact ⟨by rintro - t ⟨⟩⟩
  · refine onDev_windowsKept fun d h => ?_
    dsimp only
    split
    · exact h
    · exact ite_winOk h (Dev.beginVisit_winOk (Dev.modMu_winOk (ite_winOk (Dev.precise_winOk h) (Dev.fast_winOk h))))

@[simp] theorem execPassStart_windowsKept {mu : Fin 16} {behind : Nat} {clk : Nat} :
    WindowsKept s (execPassStart mu behind s clk) := by
  have := @Dev.skipPass_winOk; have := @Dev.modMu_winOk; have := @Dev.raise_winOk; have := @Dev.newSequence_winOk
  have := @Dev.takeSetups_winOk; have := @Dev.syncEntries_winOk; have := @Dev.beginVisit_winOk
  unfold execPassStart
  refine onDev_windowsKept fun d h => ?_
  grind

@[simp] theorem execCorrectionSlot_windowsKept {mu : Fin 16} {coef : SliceCoef} :
    WindowsKept s (execCorrectionSlot mu coef s) := by
  have := @Dev.modMu_winOk; have := @Dev.offset_winOk
  unfold execCorrectionSlot
  refine onDev_windowsKept fun d h => ?_
  grind

@[simp] theorem execCorrectionConverged_windowsKept {mu : Fin 16} : WindowsKept s (execCorrectionConverged mu s) := by
  have := @Dev.modMu_winOk
  unfold execCorrectionConverged
  refine onDev_windowsKept fun d h => ?_
  grind

@[simp] theorem execMuSliceFault_windowsKept {mu : Fin 16} {slice : Fin 4} :
    WindowsKept s (execMuSliceFault mu slice s) := by
  have := @Dev.fault_winOk; have := @Dev.modMu_winOk; have := @Dev.endImp_winOk; have := @Dev.endCapture_winOk
  have := @Dev.unitFault_winOk
  unfold execMuSliceFault
  refine onDev_windowsKept fun d h => ?_
  grind

@[simp] theorem execMuUnitFault_windowsKept {mu : Fin 16} {stall : Bool} : WindowsKept s (execMuUnitFault mu s stall) := by
  have := @Dev.when_winOk; have := @Dev.fault_winOk; have := @Dev.stallSeen_winOk; have := @Dev.unitFault_winOk
  unfold execMuUnitFault
  refine onDev_windowsKept fun d h => ?_
  grind

@[simp] theorem execMeasTapStale_windowsKept {tap : Fin 112} : WindowsKept s (execMeasTapStale tap s) := by
  have := @Dev.modTap_winOk; have := @Dev.srcFaultRow_winOk; have := @Dev.strFaultRow_winOk; have := @Dev.raise_winOk
  have := @Dev.each_winOk; have := @Dev.mitFaultRow_winOk
  unfold execMeasTapStale
  refine onDev_windowsKept fun d h => ?_
  grind

@[simp] theorem execPairWindow_windowsKept {pair : Fin 8} {samples : List (Option WinSample)} {time : Nat} :
    WindowsKept s (execPairWindow pair samples time s) := by
  have := @Dev.each_winOk; have := @Dev.modMu_winOk; have := @Dev.accTakes_winOk; have := @Dev.mmxTake_winOk
  have := @Dev.onMs_winOk; have := @Dev.endCapture_winOk
  unfold execPairWindow
  refine onDev_windowsKept fun d h => ?_
  grind

@[simp] theorem execCaptureTriggerTimeout_windowsKept {pair : Fin 8} :
    WindowsKept s (execCaptureTriggerTimeout pair s) := by
  have := @Dev.endCapture_winOk
  unfold execCaptureTriggerTimeout
  refine onDev_windowsKept fun d h => ?_
  grind

@[simp] theorem execReferenceSettled_windowsKept : WindowsKept s (execReferenceSettled s) := by
  have := @Dev.modRef_winOk; have := @Dev.offset_winOk
  unfold execReferenceSettled
  refine onDev_windowsKept fun d h => ?_
  grind

@[simp] theorem execMeasRefTimeout_windowsKept : WindowsKept s (execMeasRefTimeout s) := by
  have := @Dev.modRef_winOk; have := @Dev.onset_winOk
  unfold execMeasRefTimeout
  refine onDev_windowsKept fun d h => ?_
  grind

@[simp] theorem execMeasRefMismatch_windowsKept : WindowsKept s (execMeasRefMismatch s) := by
  have := @Dev.modRef_winOk; have := @Dev.onset_winOk
  unfold execMeasRefMismatch
  refine onDev_windowsKept fun d h => ?_
  grind

@[simp] theorem execMeasRefFault_windowsKept : WindowsKept s (execMeasRefFault s) := by
  have := @Dev.fault_winOk; have := @Dev.modRef_winOk; have := @Dev.enterLimp_winOk
  unfold execMeasRefFault
  refine onDev_windowsKept fun d h => ?_
  grind

@[simp] theorem execImpedanceRunStart_windowsKept {str : Fin 16} : WindowsKept s (execImpedanceRunStart str s) := by
  have := @Dev.endImp_winOk; have := @Dev.modImp_winOk; have := @Dev.modMu_winOk; have := @Dev.modMit_winOk
  have := @Dev.startPoint_winOk; have := @Dev.publish_winOk
  unfold execImpedanceRunStart
  refine onDev_windowsKept fun d h => ?_
  grind

@[simp] theorem execImpedanceSettleEnd_windowsKept {str : Fin 16} : WindowsKept s (execImpedanceSettleEnd str s) := by
  have := @Dev.each_winOk; have := @Dev.modAcc_winOk; have := @Dev.modRun_winOk
  unfold execImpedanceSettleEnd
  refine onDev_windowsKept fun d h => ?_
  grind

@[simp] theorem execImpedancePointEnd_windowsKept {str : Fin 16} : WindowsKept s (execImpedancePointEnd str s) := by
  have := @Dev.modRun_winOk; have := @Dev.tickFree_winOk; have := @Dev.startPoint_winOk; have := @Dev.endImp_winOk
  unfold execImpedancePointEnd
  refine onDev_windowsKept fun d h => ?_
  grind

@[simp] theorem execImpedanceRepeat_windowsKept {str : Fin 16} : WindowsKept s (execImpedanceRepeat str s) := by
  have := @Dev.modImp_winOk
  unfold execImpedanceRepeat
  refine onDev_windowsKept fun d h => ?_
  grind

@[simp] theorem execTmrArm_windowsKept {tmr : Fin 16} : WindowsKept s (execTmrArm tmr s) :=
  onDev_windowsKept fun _ h => h

@[simp] theorem execTmrStop_windowsKept {tmr : Fin 16} : WindowsKept s (execTmrStop tmr s) :=
  onDev_windowsKept fun _ h => h

@[simp] theorem execTmrForceCmp_windowsKept {tmr : Fin 16} : WindowsKept s (execTmrForceCmp tmr s) := by
  have := @Dev.compareEvent_winOk; have := @Dev.modTmr_winOk
  unfold execTmrForceCmp
  refine onDev_windowsKept fun d h => ?_
  grind

@[simp] theorem execTmrCompare_windowsKept {tmr : Fin 16} : WindowsKept s (execTmrCompare tmr s) := by
  have := @Dev.compareEvent_winOk
  unfold execTmrCompare
  refine onDev_windowsKept fun d h => ?_
  grind

@[simp] theorem execTmrEnd_windowsKept {tmr : Fin 16} : WindowsKept s (execTmrEnd tmr s) := by
  have := @Dev.endEvent_winOk
  unfold execTmrEnd
  refine onDev_windowsKept fun d h => ?_
  grind

@[simp] theorem execTmrCapture_windowsKept {tmr : Fin 16} : WindowsKept s (execTmrCapture tmr s) := by
  have := @Dev.modTmr_winOk
  unfold execTmrCapture
  refine onDev_windowsKept fun d h => ?_
  grind

@[simp] theorem execTmrCapRead_windowsKept {tmr : Fin 16} : WindowsKept s (execTmrCapRead tmr s) :=
  onDev_windowsKept fun _ h => h

@[simp] theorem execTmrCmpWrite_windowsKept {tmr : Fin 16} {val : Word} : WindowsKept s (execTmrCmpWrite tmr val s) :=
  onDev_windowsKept fun _ h => h

@[simp] theorem execTmrTopWrite_windowsKept {tmr : Fin 16} {val : Word} : WindowsKept s (execTmrTopWrite tmr val s) :=
  onDev_windowsKept fun _ h => h

@[simp] theorem execTmrModeWrite_windowsKept {tmr : Fin 16} {val : Word} : WindowsKept s (execTmrModeWrite tmr val s) := by
  have := @Dev.writeMode_winOk
  unfold execTmrModeWrite
  refine onDev_windowsKept fun d h => ?_
  grind

@[simp] theorem execTmrCountedEdge_windowsKept {tmr : Fin 16} : WindowsKept s (execTmrCountedEdge tmr s) := by
  have := @Dev.modTmr_winOk
  unfold execTmrCountedEdge
  refine onDev_windowsKept fun d h => ?_
  grind

@[simp] theorem execMotionChanged_windowsKept : WindowsKept s (execMotionChanged s) := by
  have := @Dev.onSy_winOk; have := @Dev.raise_winOk
  unfold execMotionChanged
  refine onDev_windowsKept fun d h => ?_
  grind

@[simp] theorem execWdtWindowOpen_windowsKept : WindowsKept s (execWdtWindowOpen s) := by
  have := @Dev.onSy_winOk
  unfold execWdtWindowOpen
  refine onDev_windowsKept fun d h => ?_
  grind

@[simp] theorem execWdtKeyLapse_windowsKept : WindowsKept s (execWdtKeyLapse s) :=
  onDev_windowsKept fun _ h => h

@[simp] theorem execWdtEnWrite_windowsKept {agent : Fin 128} {val : Word} : WindowsKept s (execWdtEnWrite agent val s) := by
  have := @Dev.ignoredWrite_winOk; have := @Dev.accessError_winOk; have := @Dev.onSy_winOk
  unfold execWdtEnWrite
  refine onDev_windowsKept fun d h => ?_
  grind

@[simp] theorem execWdtResetClear_windowsKept {val : Word} : WindowsKept s (execWdtResetClear val s) := by
  have := @Dev.clearWdt_winOk
  unfold execWdtResetClear
  refine onDev_windowsKept fun d h => ?_
  grind

@[simp] theorem execCheckpointComplete_windowsKept : WindowsKept s (execCheckpointComplete s) := by
  unfold execCheckpointComplete
  exact onDev_windowsKept fun d h => ite_winOk h (Dev.when_winOk (Dev.closeCheckpoint_winOk h) fun _ he =>
    Dev.enterSleep_winOk he)

@[simp] theorem execChargeFrameBoundary_windowsKept {all : Bool} : WindowsKept s (execChargeFrameBoundary s all) := by
  unfold execChargeFrameBoundary
  refine onDev_windowsKept fun d h => ite_winOk h ?_
  have reference := Dev.refFrame_winOk (Dev.showBoundary_winOk (l := 1) (Dev.boundary_winOk (l := 1)
    (Dev.when_winOk (c := d.supWorks) (f := fun e => e.writeCheckpoint) h fun _ he => Dev.writeCheckpoint_winOk he)))
  refine ite_winOk reference (Dev.when_winOk (Dev.each_winOk (Dev.when_winOk (Dev.applySwitches_winOk (Dev.when_winOk
    (Dev.each_winOk (Dev.each_winOk (Dev.frameCounts_winOk (Dev.each_winOk (Dev.each_winOk reference ?string) ?source)) ?sense)
      ?sync) ?arbitrate)) ?commit) ?join) ?late)
  case string => exact fun _ _ he => Dev.stringFrame_winOk he
  case source => exact fun _ _ he => Dev.sourceFrame_winOk he
  case sense => exact fun _ _ he => Dev.senseFrame_winOk he
  case sync => exact fun _ _ he => Dev.modMu_winOk he
  case arbitrate => exact fun _ he => Dev.arbitrate_winOk he
  case commit => exact fun _ he => Dev.commitStep_winOk he
  case join => exact fun _ _ he => Dev.joinRule_winOk he
  case late => exact fun _ he => Dev.policyB_winOk he

@[simp] theorem execCapacitanceMeasurement_windowsKept {bus : Fin 4} {mit : Fin 16} :
    WindowsKept s (execCapacitanceMeasurement bus mit s) := by
  have := @Dev.modBus_winOk
  unfold execCapacitanceMeasurement
  refine onDev_windowsKept fun d h => ?_
  grind

@[simp] theorem execFrameLagLimp_windowsKept {level : Fin 3} : WindowsKept s (execFrameLagLimp level s) := by
  have := @Dev.enterLimp_winOk
  unfold execFrameLagLimp
  refine onDev_windowsKept fun d h => ?_
  grind

@[simp] theorem execLimpLeft_windowsKept : WindowsKept s (execLimpLeft s) := by
  have := @Dev.leaveLimp_winOk
  unfold execLimpLeft
  refine onDev_windowsKept fun d h => ?_
  grind

@[simp] theorem execDescriptorAdmit_windowsKept {ring : Fin 1024} {tag : Tag} {read : HostRead} :
    WindowsKept s (execDescriptorAdmit ring tag read s) := by
  have := @Dev.onHo_winOk; have := @Dev.countOutcome_winOk; have := @Dev.modRing_winOk
  unfold execDescriptorAdmit
  refine onDev_windowsKept fun d h => ?_
  grind

@[simp] theorem execCompletionWrite_windowsKept {tag : Tag} : WindowsKept s (execCompletionWrite tag s) := by
  have := @Dev.atCompletion_winOk; have := @Dev.freeTag_winOk; have := @Dev.wakeSideband_winOk; have := @Dev.complete_winOk
  unfold execCompletionWrite
  refine onDev_windowsKept fun d h => ?_
  grind

@[simp] theorem execVectorFire_windowsKept {ring : Fin 1024} {waited : Bool} :
    WindowsKept s (execVectorFire ring s waited) := by
  have := @Dev.when_winOk; have := @Dev.wakeSideband_winOk; have := @Dev.modRing_winOk; have := @Dev.fire_winOk
  unfold execVectorFire
  refine onDev_windowsKept fun d h => ?_
  grind

@[simp] theorem execEventsLost_windowsKept {ring : Fin 1024} : WindowsKept s (execEventsLost ring s) := by
  have := @Dev.when_winOk; have := @Dev.wakeSideband_winOk; have := @Dev.onHo_winOk; have := @Dev.fire_winOk
  have := @Dev.modRing_winOk; have := @Dev.eventTo_winOk; have := @Dev.addLog_winOk; have := @Dev.hbEvent_winOk
  unfold execEventsLost
  refine onDev_windowsKept fun d h => ?_
  grind

@[simp] theorem execDoorbellSqTail_windowsKept {ring : Fin 1024} {val : BitVec 64} {bytes : Nat} :
    WindowsKept s (execDoorbellSqTail ring val bytes s) := by
  have := @Dev.doorbell_winOk
  unfold execDoorbellSqTail
  refine onDev_windowsKept fun d h => ?_
  grind

@[simp] theorem execDoorbellCqHead_windowsKept {ring : Fin 1024} {val : BitVec 64} {bytes : Nat} :
    WindowsKept s (execDoorbellCqHead ring val bytes s) := by
  have := @Dev.doorbell_winOk
  unfold execDoorbellCqHead
  refine onDev_windowsKept fun d h => ?_
  grind

@[simp] theorem execDoorbellArm_windowsKept {ring : Fin 1024} {val : BitVec 64} {bytes : Nat} :
    WindowsKept s (execDoorbellArm ring val bytes s) := by
  have := @Dev.doorbell_winOk
  unfold execDoorbellArm
  refine onDev_windowsKept fun d h => ?_
  grind

@[simp] theorem execRingError_windowsKept {ring : Fin 1024} : WindowsKept s (execRingError ring s) := by
  have := @Dev.modRing_winOk; have := @Dev.raise_winOk
  unfold execRingError
  refine onDev_windowsKept fun d h => ?_
  grind

@[simp] theorem execRingDrainEnd_windowsKept {ring : Fin 1024} : WindowsKept s (execRingDrainEnd ring s) := by
  have := @Dev.dropStage_winOk; have := @Dev.setRing_winOk; have := @Dev.ok_winOk; have := @Dev.refuse_winOk
  have := @Dev.modRing_winOk
  unfold execRingDrainEnd
  refine onDev_windowsKept fun d h => ?_
  grind

@[simp] theorem execFunctionLevelReset_windowsKept : WindowsKept s (execFunctionLevelReset s) := by
  have := @Dev.deleteRings_winOk; have := @Dev.modHif_winOk
  unfold execFunctionLevelReset
  refine onDev_windowsKept fun d h => ?_
  grind

@[simp] theorem execBusMasterEnableClear_windowsKept : WindowsKept s (execBusMasterEnableClear s) := by
  have := @Dev.deleteRings_winOk; have := @Dev.modHif_winOk
  unfold execBusMasterEnableClear
  refine onDev_windowsKept fun d h => ?_
  grind

@[simp] theorem execPcieLinkL0_windowsKept {wide : Bool} {speed : Fin 3} {msixEn : Bool} {msixMask : Bool} {bme : Bool} :
    WindowsKept s (execPcieLinkL0 wide speed msixEn msixMask s bme) := by
  have := @Dev.modHif_winOk; have := @Dev.sendPending_winOk
  unfold execPcieLinkL0
  refine onDev_windowsKept fun d h => ?_
  grind

@[simp] theorem execPcieConventionalReset_windowsKept : WindowsKept s (execPcieConventionalReset s) := by
  have := @Dev.deleteRings_winOk; have := @Dev.modHif_winOk
  unfold execPcieConventionalReset
  refine onDev_windowsKept fun d h => ?_
  grind

@[simp] theorem execHifEnable_windowsKept {val : Word} : WindowsKept s (execHifEnable val s) := by
  have := @Dev.when_winOk; have := @Dev.writeHifCtrl_winOk
  unfold execHifEnable
  refine onDev_windowsKept fun d h => ?_
  grind

@[simp] theorem execHifDisable_windowsKept {val : Word} : WindowsKept s (execHifDisable val s) := by
  have := @Dev.when_winOk; have := @Dev.writeHifCtrl_winOk
  unfold execHifDisable
  refine onDev_windowsKept fun d h => ?_
  grind

@[simp] theorem execRingCreate_windowsKept {tag : Tag} : WindowsKept s (execRingCreate tag s) := by
  have := @Dev.refuse_winOk; have := @Dev.setRing_winOk; have := @Dev.ok_winOk
  unfold execRingCreate
  refine runBoth_windowsKept fun x d n h => ?_
  grind

@[simp] theorem execRingDelete_windowsKept {tag : Tag} : WindowsKept s (execRingDelete tag s) := by
  have := @Dev.runCmd_winOk; have := @Dev.refuse_winOk; have := @Dev.modRing_winOk; have := @Dev.modTag_winOk
  unfold execRingDelete
  refine onDev_windowsKept fun d h => ?_
  grind

@[simp] theorem execRingReset_windowsKept {tag : Tag} : WindowsKept s (execRingReset tag s) := by
  have := @Dev.runCmd_winOk; have := @Dev.refuse_winOk; have := @Dev.modRing_winOk; have := @Dev.modTag_winOk
  unfold execRingReset
  refine onDev_windowsKept fun d h => ?_
  grind

@[simp] theorem execRingModify_windowsKept {tag : Tag} : WindowsKept s (execRingModify tag s) := by
  have := @Dev.refuse_winOk; have := @Dev.ok_winOk; have := @Dev.modTag_winOk
  unfold execRingModify
  refine runBoth_windowsKept fun x d n h => ?_
  grind

@[simp] theorem execAbort_windowsKept {tag : Tag} {posted : BitVec 16} : WindowsKept s (execAbort tag posted s) := by
  have := @Dev.runCmd_winOk; have := @Dev.done_winOk; have := @Dev.modTag_winOk; have := @Dev.refuse_winOk
  have := @Dev.modRing_winOk
  unfold execAbort
  refine onDev_windowsKept fun d h => ?_
  grind

@[simp] theorem execEventSubscribe_windowsKept {tag : Tag} : WindowsKept s (execEventSubscribe tag s) := by
  have := @Dev.runCmd_winOk; have := @Dev.refuse_winOk; have := @Dev.ok_winOk
  unfold execEventSubscribe
  refine onDev_windowsKept fun d h => ?_
  grind

@[simp] theorem execStageBegin_windowsKept {tag : Tag} : WindowsKept s (execStageBegin tag s) := by
  have := @Dev.runCmd_winOk; have := @Dev.refuse_winOk; have := @Dev.modStage_winOk; have := @Dev.ok_winOk
  unfold execStageBegin
  refine onDev_windowsKept fun d h => ?_
  grind

@[simp] theorem execStageCommit_windowsKept {tag : Tag} : WindowsKept s (execStageCommit tag s) := by
  unfold execStageCommit
  exact onDev_windowsKept fun d h => Dev.runCmd_winOk h fun x e he => ite_winOk (Dev.wrong_winOk he)
    (Dev.staged_winOk he fun e he => ite_winOk
      (Dev.done_winOk (Dev.saveSettings_winOk (Dev.modStage_winOk (Dev.applyProfile_winOk he))))
      (Dev.modTag_winOk (Dev.modStage_winOk he)))

@[simp] theorem execStageAbort_windowsKept {tag : Tag} : WindowsKept s (execStageAbort tag s) := by
  have := @Dev.runCmd_winOk; have := @Dev.refuse_winOk; have := @Dev.modStage_winOk; have := @Dev.ok_winOk
  unfold execStageAbort
  refine onDev_windowsKept fun d h => ?_
  grind

@[simp] theorem execPathMapLoad_windowsKept {tag : Tag} : WindowsKept s (execPathMapLoad tag s) := by
  have := @Dev.runCmd_winOk; have := @Dev.staged_winOk; have := @Dev.refuse_winOk; have := @Dev.modStage_winOk
  have := @Dev.ok_winOk
  unfold execPathMapLoad
  refine onDev_windowsKept fun d h => ?_
  grind

@[simp] theorem execMittenConfig_windowsKept {tag : Tag} : WindowsKept s (execMittenConfig tag s) := by
  have := @Dev.runCmd_winOk; have := @Dev.staged_winOk; have := @Dev.wrong_winOk; have := @Dev.stageSet_winOk
  unfold execMittenConfig
  refine onDev_windowsKept fun d h => ?_
  grind

@[simp] theorem execSourceConfig_windowsKept {tag : Tag} : WindowsKept s (execSourceConfig tag s) := by
  have := @Dev.runCmd_winOk; have := @Dev.staged_winOk; have := @Dev.wrong_winOk; have := @Dev.stageSet_winOk
  unfold execSourceConfig
  refine onDev_windowsKept fun d h => ?_
  grind

@[simp] theorem execStringConfig_windowsKept {tag : Tag} : WindowsKept s (execStringConfig tag s) := by
  have := @Dev.runCmd_winOk; have := @Dev.staged_winOk; have := @Dev.wrong_winOk; have := @Dev.stageSet_winOk
  unfold execStringConfig
  refine onDev_windowsKept fun d h => ?_
  grind

@[simp] theorem execStringProgram_windowsKept {tag : Tag} : WindowsKept s (execStringProgram tag s) := by
  have := @Dev.runCmd_winOk; have := @Dev.staged_winOk; have := @Dev.wrong_winOk; have := @Dev.refuse_winOk
  have := @Dev.modStage_winOk; have := @Dev.ok_winOk
  unfold execStringProgram
  refine onDev_windowsKept fun d h => ?_
  grind

@[simp] theorem execProfileSet_windowsKept {tag : Tag} : WindowsKept s (execProfileSet tag s) := by
  have := @Dev.runCmd_winOk; have := @Dev.staged_winOk; have := @Dev.refuse_winOk; have := @Dev.modStage_winOk
  have := @Dev.ok_winOk
  unfold execProfileSet
  refine onDev_windowsKept fun d h => ?_
  grind

@[simp] theorem execMeasSequence_windowsKept {tag : Tag} : WindowsKept s (execMeasSequence tag s) := by
  have := @Dev.runCmd_winOk; have := @Dev.staged_winOk; have := @Dev.refuse_winOk; have := @Dev.modStage_winOk
  have := @Dev.ok_winOk
  unfold execMeasSequence
  refine onDev_windowsKept fun d h => ?_
  grind

@[simp] theorem execAccConfig_windowsKept {tag : Tag} : WindowsKept s (execAccConfig tag s) := by
  have := @Dev.runCmd_winOk; have := @Dev.staged_winOk; have := @Dev.refuse_winOk; have := @Dev.modStage_winOk
  have := @Dev.ok_winOk
  unfold execAccConfig
  refine onDev_windowsKept fun d h => ?_
  grind

@[simp] theorem execMmxConfig_windowsKept {tag : Tag} : WindowsKept s (execMmxConfig tag s) := by
  have := @Dev.runCmd_winOk; have := @Dev.staged_winOk; have := @Dev.refuse_winOk; have := @Dev.modStage_winOk
  have := @Dev.ok_winOk
  unfold execMmxConfig
  refine onDev_windowsKept fun d h => ?_
  grind

@[simp] theorem execMittenStart_windowsKept {tag : Tag} : WindowsKept s (execMittenStart tag s) := by
  have := @Dev.runCmd_winOk; have := @Dev.onMitten_winOk; have := @Dev.refuse_winOk; have := @Dev.wrong0_winOk
  have := @Dev.done_winOk; have := @Dev.modMit_winOk; have := @Dev.startMit_winOk; have := @Dev.ok_winOk
  unfold execMittenStart
  refine onDev_windowsKept fun d h => ?_
  grind

@[simp] theorem execMittenStop_windowsKept {tag : Tag} : WindowsKept s (execMittenStop tag s) := by
  have := @Dev.runCmd_winOk; have := @Dev.onMitten_winOk; have := @Dev.wrong0_winOk; have := @Dev.done_winOk
  have := @Dev.modMit_winOk; have := @Dev.hostStopMit_winOk; have := @Dev.ok_winOk
  unfold execMittenStop
  refine onDev_windowsKept fun d h => ?_
  grind

@[simp] theorem execStringStart_windowsKept {tag : Tag} : WindowsKept s (execStringStart tag s) := by
  have := @Dev.runCmd_winOk; have := @Dev.onString_winOk; have := @Dev.refuse_winOk; have := @Dev.wrong0_winOk
  have := @Dev.runFromStart_winOk; have := @Dev.ok_winOk; have := @Dev.done_winOk
  unfold execStringStart
  refine onDev_windowsKept fun d h => ?_
  grind

@[simp] theorem execStringStop_windowsKept {tag : Tag} : WindowsKept s (execStringStop tag s) := by
  have := @Dev.runCmd_winOk; have := @Dev.onString_winOk; have := @Dev.done_winOk; have := @Dev.wrong0_winOk
  have := @Dev.ok_winOk; have := @Dev.modStr_winOk; have := @Dev.stopStr_winOk
  unfold execStringStop
  refine onDev_windowsKept fun d h => ?_
  grind

@[simp] theorem execReturnToService_windowsKept {tag : Tag} : WindowsKept s (execReturnToService tag s) := by
  have := @Dev.runCmd_winOk; have := @Dev.refuse_winOk; have := @Dev.wrong0_winOk; have := @Dev.returned_winOk
  have := @Dev.done_winOk; have := @Dev.ok_winOk
  unfold execReturnToService
  refine onDev_windowsKept fun d h => ?_
  grind

@[simp] theorem execLendStart_windowsKept {tag : Tag} : WindowsKept s (execLendStart tag s) := by
  have := @Dev.runCmd_winOk; have := @Dev.refuse_winOk; have := @Dev.onMitten_winOk; have := @Dev.wrong_winOk
  have := @Dev.startLend_winOk; have := @Dev.ok_winOk
  unfold execLendStart
  refine onDev_windowsKept fun d h => ?_
  grind

@[simp] theorem execLendStop_windowsKept {tag : Tag} : WindowsKept s (execLendStop tag s) := by
  have := @Dev.runCmd_winOk; have := @Dev.onMitten_winOk; have := @Dev.done_winOk; have := @Dev.wrong0_winOk
  have := @Dev.modSrc_winOk; have := @Dev.endLend_winOk
  unfold execLendStop
  refine onDev_windowsKept fun d h => ?_
  grind

@[simp] theorem execMotionSet_windowsKept {tag : Tag} : WindowsKept s (execMotionSet tag s) := by
  have := @Dev.runCmd_winOk; have := @Dev.onPw_winOk; have := @Dev.ok_winOk
  unfold execMotionSet
  refine onDev_windowsKept fun d h => ?_
  grind

@[simp] theorem execShed_windowsKept {tag : Tag} : WindowsKept s (execShed tag s) := by
  have := @Dev.runCmd_winOk; have := @Dev.each_winOk; have := @Dev.shedMit_winOk; have := @Dev.ok_winOk
  unfold execShed
  refine onDev_windowsKept fun d h => ?_
  grind

@[simp] theorem execDisconnect_windowsKept {tag : Tag} : WindowsKept s (execDisconnect tag s) := by
  have := @Dev.runCmd_winOk; have := @Dev.each_winOk; have := @Dev.modSw_winOk; have := @Dev.when_winOk
  have := @Dev.modStr_winOk; have := @Dev.modMit_winOk; have := @Dev.disconnectPort_winOk; have := @Dev.disconnectMit_winOk
  have := @Dev.ok_winOk
  unfold execDisconnect
  refine onDev_windowsKept fun d h => ?_
  grind

@[simp] theorem execHold_windowsKept {tag : Tag} : WindowsKept s (execHold tag s) := by
  have := @Dev.runCmd_winOk; have := @Dev.each_winOk; have := @Dev.modSw_winOk; have := @Dev.modMit_winOk
  have := @Dev.ok_winOk
  unfold execHold
  refine onDev_windowsKept fun d h => ?_
  grind

@[simp] theorem execMeasFilterSync_windowsKept {tag : Tag} : WindowsKept s (execMeasFilterSync tag s) := by
  have := @Dev.runCmd_winOk; have := @Dev.refuse_winOk; have := @Dev.each_winOk; have := @Dev.modMu_winOk
  have := @Dev.ok_winOk
  unfold execMeasFilterSync
  refine onDev_windowsKept fun d h => ?_
  grind

@[simp] theorem execMeasPairCapture_windowsKept {tag : Tag} : WindowsKept s (execMeasPairCapture tag s) := by
  have := @Dev.runCmd_winOk; have := @Dev.refuse_winOk; have := @Dev.wrong_winOk; have := @Dev.onMs_winOk
  have := @Dev.ok_winOk
  unfold execMeasPairCapture
  refine onDev_windowsKept fun d h => ?_
  grind

@[simp] theorem execAccClear_windowsKept {tag : Tag} : WindowsKept s (execAccClear tag s) := by
  have := @Dev.runCmd_winOk; have := @Dev.refuse_winOk; have := @Dev.each_winOk; have := @Dev.clearAcc_winOk
  have := @Dev.clipRuns_winOk; have := @Dev.ok_winOk
  unfold execAccClear
  refine onDev_windowsKept fun d h => ?_
  grind

@[simp] theorem execMmxRead_windowsKept {tag : Tag} : WindowsKept s (execMmxRead tag s) := by
  have := @Dev.runCmd_winOk; have := @Dev.refuse_winOk; have := @Dev.each_winOk; have := @Dev.modMmx_winOk
  have := @Dev.done_winOk
  unfold execMmxRead
  refine onDev_windowsKept fun d h => ?_
  grind

@[simp] theorem execImpedanceRun_windowsKept {tag : Tag} : WindowsKept s (execImpedanceRun tag s) := by
  have := @Dev.runCmd_winOk; have := @Dev.refuse_winOk; have := @Dev.ok_winOk; have := @Dev.onString_winOk
  have := @Dev.wrong_winOk; have := @Dev.modImp_winOk
  unfold execImpedanceRun
  refine onDev_windowsKept fun d h => ?_
  grind

@[simp] theorem execImpedanceAbort_windowsKept {tag : Tag} : WindowsKept s (execImpedanceAbort tag s) := by
  have := @Dev.runCmd_winOk; have := @Dev.onString_winOk; have := @Dev.done_winOk; have := @Dev.modRun_winOk
  have := @Dev.endImp_winOk
  unfold execImpedanceAbort
  refine onDev_windowsKept fun d h => ?_
  grind

@[simp] theorem execImpedanceRead_windowsKept {tag : Tag} : WindowsKept s (execImpedanceRead tag s) := by
  have := @Dev.runCmd_winOk; have := @Dev.ok_winOk; have := @Dev.done_winOk
  unfold execImpedanceRead
  refine onDev_windowsKept fun d h => ?_
  grind

@[simp] theorem execSelfTest_windowsKept {tag : Tag} : WindowsKept s (execSelfTest tag s) := by
  have := @Dev.runCmd_winOk; have := @Dev.wrong_winOk; have := @Dev.each_winOk; have := @Dev.testMit_winOk
  have := @Dev.onSy_winOk; have := @Dev.modTag_winOk
  unfold execSelfTest
  refine onDev_windowsKept fun d h => ?_
  grind

@[simp] theorem execSelfTestDone_windowsKept {conv : List TestConv} {scrub : Nat} :
    WindowsKept s (execSelfTestDone conv s scrub) := by
  have := @Dev.testConv_winOk; have := @Dev.onSy_winOk; have := @Dev.done_winOk; have := @foldl_winOk
  unfold execSelfTestDone
  refine onDev_windowsKept fun d h => ?_
  grind

@[simp] theorem execPowerOn_windowsKept {boot : BootIn} : WindowsKept s (execPowerOn boot s) := by
  have := @Dev.boot_winOk
  unfold execPowerOn
  refine onBoth_windowsKept fun d n h => ?_
  grind

@[simp] theorem execResetNLow_windowsKept {boot : BootIn} : WindowsKept s (execResetNLow boot s) := by
  have := @Dev.boot_winOk
  unfold execResetNLow
  refine onBoth_windowsKept fun d n h => ?_
  grind

@[simp] theorem execBrownOut_windowsKept {boot : BootIn} {vaon : Bool} : WindowsKept s (execBrownOut boot s vaon) := by
  have := @Dev.boot_winOk
  unfold execBrownOut
  refine onBoth_windowsKept fun d n h => ?_
  grind

@[simp] theorem execEngineClockLockLoss_windowsKept {boot : BootIn} : WindowsKept s (execEngineClockLockLoss boot s) := by
  have := @Dev.boot_winOk
  unfold execEngineClockLockLoss
  refine onBoth_windowsKept fun d n h => ?_
  grind

@[simp] theorem execClockLost_windowsKept {boot : BootIn} : WindowsKept s (execClockLost boot s) := by
  have := @Dev.wdtCause_winOk; have := @Dev.boot_winOk
  unfold execClockLost
  refine onBoth_windowsKept fun d n h => ?_
  grind

@[simp] theorem execAonRcFallback_windowsKept : WindowsKept s (execAonRcFallback s) :=
  onDev_windowsKept fun _ h => h

@[simp] theorem execWakeStart_windowsKept {boot : BootIn} : WindowsKept s (execWakeStart boot s) := by
  have := @Dev.boot_winOk
  unfold execWakeStart
  refine onBoth_windowsKept fun d n h => ?_
  grind

@[simp] theorem execRecoveryWakeNHold_windowsKept : WindowsKept s (execRecoveryWakeNHold s) := by
  unfold execRecoveryWakeNHold
  exact onDev_windowsKept fun d h => ite_winOk h (ite_winOk (Dev.recovery_winOk h)
    (ite_winOk (Dev.recovery_winOk (Dev.startLiner_winOk Dev.fresh_winOk)) h))

@[simp] theorem execBootFailsClear_windowsKept : WindowsKept s (execBootFailsClear s) := by
  unfold execBootFailsClear
  refine onBoth_windowsKept fun d n h => ?_
  grind

@[simp] theorem execLinerSourceTestPass_windowsKept {obs : LinerObs} : WindowsKept s (execLinerSourceTestPass obs s) := by
  have := @Dev.setSwitch_winOk; have := @Dev.modLiner_winOk; have := @Dev.powerDomains_winOk; have := @foldl_winOk
  unfold execLinerSourceTestPass
  refine onDev_windowsKept fun d h => ?_
  grind

@[simp] theorem execLinerBusOvervoltage_windowsKept {busUv : Int} : WindowsKept s (execLinerBusOvervoltage s busUv) := by
  have := @Dev.modLiner_winOk; have := @Dev.linerLow_winOk
  unfold execLinerBusOvervoltage
  refine onDev_windowsKept fun d h => ?_
  grind

@[simp] theorem execLinerOvervoltageRelease_windowsKept {busUv : Int} :
    WindowsKept s (execLinerOvervoltageRelease s busUv) := by
  have := @Dev.modLiner_winOk
  unfold execLinerOvervoltageRelease
  refine onDev_windowsKept fun d h => ?_
  grind

@[simp] theorem execLinerBusCollapse_windowsKept {busUv : Int} : WindowsKept s (execLinerBusCollapse s busUv) := by
  have := @Dev.modLiner_winOk; have := @Dev.linerLow_winOk
  unfold execLinerBusCollapse
  refine onDev_windowsKept fun d h => ?_
  grind

@[simp] theorem execLinerSoftStartRepeat_windowsKept {busUv : Int} : WindowsKept s (execLinerSoftStartRepeat s busUv) :=
  onDev_windowsKept fun _ h => h

@[simp] theorem execLinerSourceLow_windowsKept {srcUv : Int} : WindowsKept s (execLinerSourceLow s srcUv) := by
  have := @Dev.modLiner_winOk; have := @Dev.linerLow_winOk; have := @Dev.setSwitch_winOk
  unfold execLinerSourceLow
  refine onDev_windowsKept fun d h => ?_
  grind

@[simp] theorem execHandOver_windowsKept : WindowsKept s (execHandOver s) := by
  have lined {e : Dev} {c₁ c₂ c₃ : Prop} [Decidable c₁] [Decidable c₂] [Decidable c₃] (he : e.winOk) :
      (if c₁ then (if c₂ then e.takeLiner else e.selectLiner) else if c₃ then e.linerFree else e).winOk :=
    ite_winOk (ite_winOk (Dev.takeLiner_winOk he) (Dev.selectLiner_winOk he)) (ite_winOk (Dev.linerFree_winOk he) he)
  unfold execHandOver
  refine onDev_windowsKept fun d h => ite_winOk h ?_
  have entered := Dev.linerReports_winOk (Dev.setPower_winOk (p := .run) h)
  with_reducible refine ite_winOk (Dev.enterSleep_winOk ?_) ?_ <;>
    exact Dev.beginLimp_winOk (Dev.joinRule_winOk (Dev.autostart_winOk (Dev.powerQuads_winOk (lined entered))))

@[simp] theorem execWatchdogTimeout_windowsKept {start : StartIn} : WindowsKept s (execWatchdogTimeout start s) := by
  have := @Dev.wdtCause_winOk; have := @Dev.warmStart_winOk
  unfold execWatchdogTimeout
  refine onBoth_windowsKept fun d n h => ?_
  grind

@[simp] theorem execWdtKeyWrite_windowsKept {agent : Fin 128} {val : Word} {start : StartIn} :
    WindowsKept s (execWdtKeyWrite agent val start s) := by
  have := @Dev.ignoredWrite_winOk; have := @Dev.onSy_winOk; have := @Dev.wdtCause_winOk; have := @Dev.warmStart_winOk
  unfold execWdtKeyWrite
  refine onBoth_windowsKept fun d n h => ?_
  grind

@[simp] theorem execEngineStall_windowsKept {agent : Fin 128} {start : StartIn} :
    WindowsKept s (execEngineStall agent start s) := by
  have := @Dev.stallSeen_winOk; have := @Dev.stalled_winOk
  unfold execEngineStall
  refine onBoth_windowsKept fun d n h => ?_
  grind

@[simp] theorem execEccCorrected_windowsKept {agent : Fin 128} : WindowsKept s (execEccCorrected agent s) := by
  have := @Dev.raise_winOk
  unfold execEccCorrected
  refine onDev_windowsKept fun d h => ?_
  grind

@[simp] theorem execEccUncorrectable_windowsKept {agent : Fin 128} {buf : Option (Fin 2)} {start : StartIn} :
    WindowsKept s (execEccUncorrectable agent buf start s) := by
  have := @Dev.onSy_winOk; have := @Dev.stalled_winOk
  unfold execEccUncorrectable
  refine onBoth_windowsKept fun d n h => ?_
  grind

@[simp] theorem execTakeoverComplete_windowsKept {micros : Nat} {start : StartIn} :
    WindowsKept s (execTakeoverComplete micros start s) := by
  have := @Dev.warmStart_winOk; have := @Dev.adopt_winOk; have := @Dev.onSy_winOk; have := @Dev.raise_winOk
  unfold execTakeoverComplete
  refine onBoth_windowsKept fun d n h => ?_
  grind

@[simp] theorem execStandbyOk_windowsKept : WindowsKept s (execStandbyOk s) := by
  have := @Dev.onSy_winOk
  unfold execStandbyOk
  refine onDev_windowsKept fun d h => ?_
  grind

@[simp] theorem execHoldExpired_windowsKept : WindowsKept s (execHoldExpired s) := by
  have := @Dev.onSy_winOk; have := @Dev.onset_winOk; have := @Dev.each_winOk; have := @Dev.modStr_winOk
  have := @Dev.endImp_winOk; have := @Dev.endLend_winOk
  unfold execHoldExpired
  refine onDev_windowsKept fun d h => ?_
  grind

@[simp] theorem execBackoffExpiry_windowsKept {unit : UnitRef} {flt : Bool} :
    WindowsKept s (execBackoffExpiry unit s flt) := by
  have := @Dev.phaseExpiry_winOk; have := @Dev.recoverAgent_winOk; have := @Dev.modMit_winOk; have := @Dev.wakeSleep_winOk
  have := @Dev.beginGauntlet_winOk; have := @Dev.modSrc_winOk; have := @Dev.modSw_winOk; have := @Dev.modStr_winOk
  have := @Dev.runFromStart_winOk; have := @Dev.endImp_winOk; have := @Dev.enterPre_winOk; have := @Dev.toStart_winOk
  have := @Dev.fault_winOk; have := @Dev.modMu_winOk; have := @Dev.onSy_winOk
  unfold execBackoffExpiry
  refine onDev_windowsKept fun d h => ?_
  grind

@[simp] theorem execPowerStateEntry_windowsKept {aonCount : Nat} : WindowsKept s (execPowerStateEntry aonCount s) := by
  have := @Dev.onSy_winOk; have := @Dev.enterDeep_winOk
  unfold execPowerStateEntry
  refine onDev_windowsKept fun d h => ?_
  grind

@[simp] theorem execWakeNLow_windowsKept : WindowsKept s (execWakeNLow s) := by
  have := @Dev.wakeSleep_winOk; have := @Dev.wakeDeep_winOk
  unfold execWakeNLow
  refine onDev_windowsKept fun d h => ?_
  grind

@[simp] theorem execSourceWakeComparator_windowsKept {src : Fin 12} {ballUv : Nat} {fell : Bool} :
    WindowsKept s (execSourceWakeComparator src s ballUv fell) := by
  have := @Dev.wakeDeep_winOk
  unfold execSourceWakeComparator
  refine onDev_windowsKept fun d h => ?_
  grind

@[simp] theorem execStatusRead_windowsKept {tag : Tag} : WindowsKept s (execStatusRead tag s) := by
  have := @Dev.runCmd_winOk; have := @Dev.refuse_winOk; have := @Dev.done_winOk
  unfold execStatusRead
  refine onDev_windowsKept fun d h => ?_
  grind

@[simp] theorem execRecordRead_windowsKept {tag : Tag} {cut : Option Nat} : WindowsKept s (execRecordRead tag s cut) := by
  have := @Dev.runCmd_winOk; have := @Dev.refuse_winOk; have := @Dev.done_winOk
  unfold execRecordRead
  refine onDev_windowsKept fun d h => ?_
  grind

@[simp] theorem execBrimRead_windowsKept {tag : Tag} : WindowsKept s (execBrimRead tag s) := by
  have := @Dev.runCmd_winOk; have := @Dev.done_winOk
  unfold execBrimRead
  refine onDev_windowsKept fun d h => ?_
  grind

@[simp] theorem execBrimFloorSet_windowsKept {tag : Tag} : WindowsKept s (execBrimFloorSet tag s) := by
  have := @Dev.runCmd_winOk; have := @Dev.refuse_winOk; have := @Dev.each_winOk; have := @Dev.onPw_winOk
  have := @Dev.ok_winOk
  unfold execBrimFloorSet
  refine onDev_windowsKept fun d h => ?_
  grind

@[simp] theorem execAgeingRebase_windowsKept {tag : Tag} : WindowsKept s (execAgeingRebase tag s) := by
  have := @Dev.runCmd_winOk; have := @Dev.ageRebase_winOk; have := @Dev.ok_winOk
  unfold execAgeingRebase
  refine onDev_windowsKept fun d h => ?_
  grind

@[simp] theorem execPowerState_windowsKept {tag : Tag} : WindowsKept s (execPowerState tag s) := by
  have := @Dev.runCmd_winOk; have := @Dev.powerState_winOk; have := @Dev.refuse_winOk; have := @Dev.ok_winOk
  unfold execPowerState
  refine onDev_windowsKept fun d h => ?_
  grind

@[simp] theorem execDeviceRestart_windowsKept {tag : Tag} {start : StartIn} :
    WindowsKept s (execDeviceRestart tag start s) := by
  have := @Dev.refuse_winOk; have := @Dev.wrong_winOk; have := @Dev.modTag_winOk; have := @Dev.hitless_winOk
  have := @Dev.ok_winOk; have := @Dev.complete_winOk; have := @Dev.when_winOk; have := @Dev.fire_winOk
  have := @Dev.boot_winOk
  unfold execDeviceRestart
  refine runBoth_windowsKept fun x d n h => ?_
  grind

@[simp] theorem execTimeRead_windowsKept {tag : Tag} : WindowsKept s (execTimeRead tag s) :=
  runBoth_windowsKept fun _ _ _ h => h

@[simp] theorem execTimeAnchor_windowsKept {tag : Tag} : WindowsKept s (execTimeAnchor tag s) := by
  have := @Dev.runCmd_winOk; have := @Dev.refuse_winOk; have := @Dev.onSy_winOk; have := @Dev.ok_winOk
  unfold execTimeAnchor
  refine onDev_windowsKept fun d h => ?_
  grind

@[simp] theorem execUpdateManifest_windowsKept {tag : Tag} : WindowsKept s (execUpdateManifest tag s) := by
  have := @Dev.activating_winOk; have := @Dev.takeManifest_winOk; have := @Dev.refuse_winOk; have := @Dev.ok_winOk
  have := @Dev.done_winOk
  unfold execUpdateManifest
  refine runBoth_windowsKept fun x d n h => ?_
  grind

@[simp] theorem execUpdatePiece_windowsKept {tag : Tag} {badRead : Option Nat} {cut : Option Nat} :
    WindowsKept s (execUpdatePiece tag badRead s cut) := by
  have := @Dev.activating_winOk; have := @Dev.refuse_winOk; have := @Dev.takePieces_winOk; have := @Dev.done_winOk
  have := @Dev.countOutcome_winOk
  unfold execUpdatePiece
  refine runBoth_windowsKept fun x d n h => ?_
  grind

@[simp] theorem execUpdateStatus_windowsKept {tag : Tag} : WindowsKept s (execUpdateStatus tag s) :=
  runBoth_windowsKept fun _ _ _ h => h

@[simp] theorem execUpdateActivate_windowsKept {tag : Tag} {start : StartIn} :
    WindowsKept s (execUpdateActivate tag start s) := by
  have := @Dev.refuse_winOk; have := @Dev.modTag_winOk; have := @Dev.activating_winOk; have := @Dev.onSy_winOk
  have := @Dev.activate_winOk
  unfold execUpdateActivate
  refine runBoth_windowsKept fun x d n h => ?_
  grind

@[simp] theorem execActivationResume_windowsKept {start : StartIn} : WindowsKept s (execActivationResume start s) := by
  have := @Dev.onSy_winOk; have := @Dev.refuse_winOk; have := @Dev.activate_winOk
  unfold execActivationResume
  refine onBoth_windowsKept fun d n h => ?_
  grind

@[simp] theorem execUpdateCancel_windowsKept {tag : Tag} : WindowsKept s (execUpdateCancel tag s) := by
  have := @Dev.activating_winOk; have := @Dev.done_winOk; have := @Dev.ok_winOk
  unfold execUpdateCancel
  refine runBoth_windowsKept fun x d n h => ?_
  grind

@[simp] theorem execOwnerLock_windowsKept {tag : Tag} : WindowsKept s (execOwnerLock tag s) := by
  have := @Dev.refuse_winOk; have := @Dev.when_winOk; have := @Dev.raise_winOk; have := @Dev.ok_winOk
  unfold execOwnerLock
  refine runBoth_windowsKept fun x d n h => ?_
  grind

@[simp] theorem execKeyUpdate_windowsKept {tag : Tag} : WindowsKept s (execKeyUpdate tag s) := by
  have := @Dev.activating_winOk; have := @Dev.refuse_winOk; have := @Dev.modRing_winOk; have := @Dev.raise_winOk
  have := @Dev.ok_winOk
  unfold execKeyUpdate
  refine runBoth_windowsKept fun x d n h => ?_
  grind

@[simp] theorem execTwtWriteTransfer_windowsKept {port : Fin 2} {addr : BitVec 7} {data : List Byte} :
    WindowsKept s (execTwtWriteTransfer port addr data s) := by
  have stretched {e : Dev} {c : Bool} {n : Nat} {g : Twt → Twt} (he : e.winOk) : (e.when c fun e => e.modTwt n g).winOk :=
    Dev.when_winOk he fun _ he => Dev.modTwt_winOk he
  unfold execTwtWriteTransfer
  refine onDev_windowsKept fun d h => ite_winOk (Dev.busError_winOk h) (ite_winOk (Dev.busError_winOk (stretched h)) ?_)
  dsimp only
  split
  · exact stretched (Dev.reply_winOk h)
  · exact Dev.when_winOk (foldl_winOk (fun _ _ he => Dev.hbByte_winOk he) _ _ (Dev.modTwt_winOk (stretched (Dev.reply_winOk h))))
      fun _ he => Dev.hbGo_winOk he

@[simp] theorem execTwtReadTransfer_windowsKept {port : Fin 2} {addr : BitVec 7} {len : Nat} :
    WindowsKept s (execTwtReadTransfer port addr len s) := by
  have := @Dev.busError_winOk; have := @Dev.reply_winOk; have := @Dev.when_winOk; have := @Dev.modTwt_winOk
  have := @Dev.modHb_winOk
  unfold execTwtReadTransfer
  refine onBoth_windowsKept fun d n h => ?_
  grind

@[simp] theorem execInBandRequest_windowsKept : WindowsKept s (execInBandRequest s) := by
  have := @Dev.modHb_winOk
  unfold execInBandRequest
  refine onDev_windowsKept fun d h => ?_
  grind

@[simp] theorem execRequestAcknowledge_windowsKept : WindowsKept s (execRequestAcknowledge s) := by
  have := @Dev.modHb_winOk; have := @Dev.modTwt_winOk
  unfold execRequestAcknowledge
  refine onDev_windowsKept fun d h => ?_
  grind

@[simp] theorem execRequestTimeout_windowsKept : WindowsKept s (execRequestTimeout s) := by
  have := @Dev.modHb_winOk; have := @Dev.modTwt_winOk
  unfold execRequestTimeout
  refine onDev_windowsKept fun d h => ?_
  grind

@[simp] theorem execHatbandStatus_windowsKept : WindowsKept s (execHatbandStatus s) := by
  have := @Dev.hbRun_winOk; have := @Dev.hbRefuse_winOk; have := @Dev.hbDone_winOk
  unfold execHatbandStatus
  refine onDev_windowsKept fun d h => ?_
  grind

@[simp] theorem execHatbandTime_windowsKept : WindowsKept s (execHatbandTime s) := by
  have := @Dev.hbRun_winOk; have := @Dev.hbDone_winOk
  unfold execHatbandTime
  refine onBoth_windowsKept fun d n h => ?_
  grind

@[simp] theorem execHatbandMotion_windowsKept : WindowsKept s (execHatbandMotion s) := by
  have := @Dev.hbRun_winOk; have := @Dev.onPw_winOk; have := @Dev.hbDone_winOk
  unfold execHatbandMotion
  refine onDev_windowsKept fun d h => ?_
  grind

@[simp] theorem execHatbandPower_windowsKept : WindowsKept s (execHatbandPower s) := by
  have := @Dev.hbRun_winOk; have := @Dev.powerState_winOk; have := @Dev.hbRefuse_winOk; have := @Dev.ok_winOk
  have := @Dev.hbDone_winOk
  unfold execHatbandPower
  refine onDev_windowsKept fun d h => ?_
  grind

@[simp] theorem execHatbandWake_windowsKept : WindowsKept s (execHatbandWake s) := by
  have := @Dev.hbRun_winOk; have := @Dev.hbDone_winOk
  unfold execHatbandWake
  refine onDev_windowsKept fun d h => ?_
  grind

@[simp] theorem execHatbandUpdateChunk_windowsKept {readOk : Bool} : WindowsKept s (execHatbandUpdateChunk readOk s) := by
  have := @Dev.recovery_winOk; have := @Dev.hbChunk_winOk; have := @Dev.hbRun_winOk
  unfold execHatbandUpdateChunk
  refine onBoth_windowsKept fun d n h => ?_
  grind

@[simp] theorem execPackMonitorPoll_windowsKept {port : Fin 4} {str : Fin 16} {reply : PollReply} :
    WindowsKept s (execPackMonitorPoll port str reply s) := by
  have := @Dev.modTwc_winOk; have := @Dev.pmRecord_winOk; have := @Dev.modStr_winOk; have := @Dev.pollMissed_winOk
  unfold execPackMonitorPoll
  refine onDev_windowsKept fun d h => ?_
  grind

@[simp] theorem execTwcArbitrationLost_windowsKept {port : Fin 4} : WindowsKept s (execTwcArbitrationLost port s) := by
  have := @Dev.modTwc_winOk; have := @Dev.when_winOk; have := @Dev.portMissed_winOk
  unfold execTwcArbitrationLost
  refine onDev_windowsKept fun d h => ?_
  grind

@[simp] theorem execTwcArbLostCond_windowsKept {port : Fin 4} : WindowsKept s (execTwcArbLostCond port s) := by
  have := @Dev.modTwc_winOk; have := @Dev.raise_winOk; have := @Dev.portMissed_winOk
  unfold execTwcArbLostCond
  refine onDev_windowsKept fun d h => ?_
  grind

@[simp] theorem execTwcTimeout_windowsKept {port : Fin 4} : WindowsKept s (execTwcTimeout port s) := by
  have := @Dev.modTwc_winOk; have := @Dev.raise_winOk; have := @Dev.portMissed_winOk
  unfold execTwcTimeout
  refine onDev_windowsKept fun d h => ?_
  grind

@[simp] theorem execCanFrameReceived_windowsKept {can : Fin 2} {ident : BitVec 29} {ide : Bool} {data : List Byte} :
    WindowsKept s (execCanFrameReceived can ident ide data s) := by
  have := @Dev.modCan_winOk; have := @Dev.each_winOk; have := @Dev.pmRecord_winOk
  unfold execCanFrameReceived
  refine onDev_windowsKept fun d h => ?_
  grind

@[simp] theorem execCanStatusFrame_windowsKept {can : Fin 2} : WindowsKept s (execCanStatusFrame can s) := by
  have := @Dev.modCan_winOk; have := @Dev.tickFree_winOk
  unfold execCanStatusFrame
  refine onDev_windowsKept fun d h => ?_
  grind

@[simp] theorem execCanErrorPassive_windowsKept {can : Fin 2} : WindowsKept s (execCanErrorPassive can s) := by
  have := @Dev.canErrors_winOk; have := @Dev.onset_winOk
  unfold execCanErrorPassive
  refine onDev_windowsKept fun d h => ?_
  grind

@[simp] theorem execCanBusOff_windowsKept {can : Fin 2} : WindowsKept s (execCanBusOff can s) := by
  have := @Dev.canErrors_winOk; have := @Dev.offset_winOk; have := @Dev.onset_winOk
  unfold execCanBusOff
  refine onDev_windowsKept fun d h => ?_
  grind

@[simp] theorem execCanBusOffRecovery_windowsKept {can : Fin 2} : WindowsKept s (execCanBusOffRecovery can s) := by
  have := @Dev.canActive_winOk
  unfold execCanBusOffRecovery
  refine onDev_windowsKept fun d h => ?_
  grind

@[simp] theorem execChainFrame_windowsKept {frame : List Byte} {codeErr : Bool} {side : ChainSide} :
    WindowsKept s (execChainFrame frame codeErr s side) := by
  have := @Dev.modChn_winOk; have := @Dev.hearMarker_winOk; have := @Dev.dropFrame_winOk; have := @Dev.arriveFrame_winOk
  have := @Dev.forwardFrame_winOk
  unfold execChainFrame
  refine onDev_windowsKept fun d h => ?_
  grind

@[simp] theorem execChainEnable_windowsKept {val : Word} : WindowsKept s (execChainEnable val s) := by
  have := @Dev.writeChnCtrl_winOk
  unfold execChainEnable
  refine onDev_windowsKept fun d h => ?_
  grind

@[simp] theorem execChainSymbolLock_windowsKept : WindowsKept s (execChainSymbolLock s) :=
  onDev_windowsKept fun _ h => h

@[simp] theorem execChainFormed_windowsKept {form : Formation} : WindowsKept s (execChainFormed form s) := by
  have := @Dev.modChn_winOk; have := @Dev.raise_winOk; have := @Dev.each_winOk; have := @Dev.modMit_winOk
  have := @Dev.offset_winOk; have := @Dev.when_winOk; have := @Dev.stepGrid_winOk
  unfold execChainFormed
  refine onDev_windowsKept fun d h => ?_
  grind

@[simp] theorem execChainLost_windowsKept : WindowsKept s (execChainLost s) := by
  have := @Dev.modChn_winOk; have := @Dev.onset_winOk; have := @Dev.when_winOk; have := @Dev.rebaseGrid_winOk
  unfold execChainLost
  refine onDev_windowsKept fun d h => ?_
  grind

@[simp] theorem execChainFramesReturn_windowsKept {present : BitVec 16} :
    WindowsKept s (execChainFramesReturn present s) := by
  have := @Dev.modChn_winOk; have := @Dev.offset_winOk; have := @Dev.stepGrid_winOk
  unfold execChainFramesReturn
  refine onDev_windowsKept fun d h => ?_
  grind

@[simp] theorem execChainInterleave_windowsKept {msg : List Byte} : WindowsKept s (execChainInterleave msg s) := by
  have := @Dev.modMit_winOk
  unfold execChainInterleave
  refine onDev_windowsKept fun d h => ?_
  grind

@[simp] theorem execChainOrder_windowsKept {msg : List Byte} : WindowsKept s (execChainOrder msg s) := by
  have := @Dev.modChn_winOk
  unfold execChainOrder
  refine onDev_windowsKept fun d h => ?_
  grind

@[simp] theorem execChainConfigCheck_windowsKept {msg : List Byte} : WindowsKept s (execChainConfigCheck msg s) := by
  have := @Dev.modMit_winOk; have := @Dev.stopMit_winOk; have := @Dev.raise_winOk
  unfold execChainConfigCheck
  refine onDev_windowsKept fun d h => ?_
  grind

@[simp] theorem execChainEvent_windowsKept {msg : List Byte} : WindowsKept s (execChainEvent msg s) := by
  have := @Dev.modChn_winOk; have := @Dev.when_winOk; have := @Dev.raiseHere_winOk; have := @Dev.chainSend_winOk
  unfold execChainEvent
  refine onDev_windowsKept fun d h => ?_
  grind

@[simp] theorem execManifestChunk_windowsKept {msg : List Byte} : WindowsKept s (execManifestChunk msg s) := by
  have := @Dev.activating_winOk; have := @Dev.modChn_winOk; have := @Dev.takeManifest_winOk; have := @Dev.relayReject_winOk
  have := @Dev.ok_winOk
  unfold execManifestChunk
  refine onBoth_windowsKept fun d n h => ?_
  grind

@[simp] theorem execPieceChunk_windowsKept {msg : List Byte} {readOk : Bool} :
    WindowsKept s (execPieceChunk msg readOk s) := by
  have := @Dev.activating_winOk; have := @Dev.modChn_winOk; have := @Dev.chainPiece_winOk
  unfold execPieceChunk
  refine onBoth_windowsKept fun d n h => ?_
  grind

@[simp] theorem execSyncEdge_windowsKept {period : Nat} {off : Int} {width : Nat} :
    WindowsKept s (execSyncEdge period off s width) := by
  unfold execSyncEdge
  refine onDev_windowsKept fun d h => ite_winOk h ?_
  have counted {g : Chain → Chain} : (d.modChn g).winOk := Dev.modChn_winOk h
  refine ite_winOk (ite_winOk ?locked (ite_winOk ?locks counted)) (ite_winOk ?lost counted)
  case locked => exact Dev.onSy_winOk (Dev.modChn_winOk counted)
  case locks =>
    exact Dev.when_winOk (Dev.stepGrid_winOk (Dev.offset_winOk (Dev.modChn_winOk counted)))
      fun _ he => Dev.raise_winOk he
  case lost => exact Dev.rebaseGrid_winOk (Dev.onset_winOk (Dev.modChn_winOk counted))

@[simp] theorem execPolicyFrameBoundary_windowsKept {meas : List AgeMeas} {late : Bool} :
    WindowsKept s (execPolicyFrameBoundary meas s late) := by
  have := @Dev.policyFrame_winOk; have := @Dev.latePieces_winOk
  unfold execPolicyFrameBoundary
  refine onBoth_windowsKept fun d n h => ?_
  grind

@[simp] theorem execRcRead_windowsKept {off : BitVec 24} {bytes : Nat} {agent : Fin 128} {secure : Bool} :
    WindowsKept s (execRcRead off bytes s agent secure) := by
  have := @Dev.hostReadAt_winOk; have := @Dev.boxRead_winOk
  unfold execRcRead
  refine onDev_windowsKept fun d h => ?_
  grind

@[simp] theorem execW1cWrite_windowsKept {off : BitVec 24} {val : Word} : WindowsKept s (execW1cWrite off val s) := by
  have := @Dev.hostWriteAt_winOk
  unfold execW1cWrite
  refine onDev_windowsKept fun d h => ?_
  grind

@[simp] theorem execSetupRegisterWrite_windowsKept {off : BitVec 24} {data : List Byte} :
    WindowsKept s (execSetupRegisterWrite off data s) := by
  have := @Dev.hostWriteAt_winOk
  unfold execSetupRegisterWrite
  refine onDev_windowsKept fun d h => ?_
  grind

@[simp] theorem execBehaviourLevelWrite_windowsKept {val : Word} : WindowsKept s (execBehaviourLevelWrite val s) := by
  have := @Dev.when_winOk; have := @Dev.writeReg_winOk
  unfold execBehaviourLevelWrite
  refine onDev_windowsKept fun d h => ?_
  grind

@[simp] theorem execAuxmodeWrite_windowsKept {hi : Bool} {val : Word} : WindowsKept s (execAuxmodeWrite hi val s) := by
  have := @Dev.when_winOk; have := @Dev.writeReg_winOk
  unfold execAuxmodeWrite
  refine onDev_windowsKept fun d h => ?_
  grind

@[simp] theorem execPhSetupWrite_windowsKept {ph : Fin 64} {reg : Fin 6} {val : Word} :
    WindowsKept s (execPhSetupWrite ph reg val s) := by
  have := @Dev.when_winOk; have := @Dev.writeReg_winOk
  unfold execPhSetupWrite
  refine onDev_windowsKept fun d h => ?_
  grind

@[simp] theorem execBufEnWrite_windowsKept {val : Word} : WindowsKept s (execBufEnWrite val s) := by
  have := @Dev.when_winOk; have := @Dev.writeReg_winOk
  unfold execBufEnWrite
  refine onDev_windowsKept fun d h => ?_
  grind

@[simp] theorem execTwcTimingWrite_windowsKept {port : Fin 4} {reg : Fin 4} {val : Word} :
    WindowsKept s (execTwcTimingWrite port reg val s) := by
  have := @Dev.when_winOk; have := @Dev.writeReg_winOk
  unfold execTwcTimingWrite
  refine onDev_windowsKept fun d h => ?_
  grind

@[simp] theorem execCanEnableWrite_windowsKept {can : Fin 2} {val : Word} :
    WindowsKept s (execCanEnableWrite can val s) := by
  have := @Dev.when_winOk; have := @Dev.writeReg_winOk
  unfold execCanEnableWrite
  refine onDev_windowsKept fun d h => ?_
  grind

@[simp] theorem execAccSumLoRead_windowsKept {reader : Fin 128} {acc : Fin 512} :
    WindowsKept s (execAccSumLoRead reader acc s) := by
  have := @Dev.accAct_winOk; have := @Dev.replyW_winOk
  unfold execAccSumLoRead
  refine onDev_windowsKept fun d h => ?_
  grind

@[simp] theorem execMmxMinRead_windowsKept {reader : Fin 128} {mmx : Fin 256} :
    WindowsKept s (execMmxMinRead reader mmx s) := by
  have := @Dev.mmxAct_winOk; have := @Dev.replyW_winOk
  unfold execMmxMinRead
  refine onDev_windowsKept fun d h => ?_
  grind

@[simp] theorem execQspiRead_windowsKept {addr : BitVec 24} {len : Nat} {frameErr : Bool} :
    WindowsKept s (execQspiRead addr len frameErr s) := by
  have := @Dev.onHo_winOk; have := @Dev.reply_winOk; have := @Dev.recovery_winOk; have := @Dev.readSpan_winOk
  unfold execQspiRead
  refine onDev_windowsKept fun d h => ?_
  grind

@[simp] theorem execQspiWrite_windowsKept {addr : BitVec 24} {data : List Byte} {frameErr : Bool} :
    WindowsKept s (execQspiWrite addr data frameErr s) := by
  have := @Dev.onHo_winOk; have := @Dev.recovery_winOk; have := @Dev.romPut_winOk; have := @Dev.qspiWrite_winOk
  unfold execQspiWrite
  refine onDev_windowsKept fun d h => ?_
  grind

@[simp] theorem execQspiStatus_windowsKept : WindowsKept s (execQspiStatus s) := by
  have := @Dev.recovery_winOk; have := @Dev.reply_winOk
  unfold execQspiStatus
  refine onDev_windowsKept fun d h => ?_
  grind

@[simp] theorem execRomHello_windowsKept {pkt : List Byte} {att : RomAtt} : WindowsKept s (execRomHello pkt s att) := by
  have := @Dev.romRow_winOk; have := @Dev.romAnswer_winOk; have := @Dev.tickFree_winOk
  unfold execRomHello
  refine onBoth_windowsKept fun d n h => ?_
  grind

@[simp] theorem execRomManifest_windowsKept {pkt : List Byte} {att : RomAtt} :
    WindowsKept s (execRomManifest pkt s att) := by
  have := @Dev.romRow_winOk; have := @Dev.romAnswer_winOk; have := @Dev.modUpd_winOk
  unfold execRomManifest
  refine onBoth_windowsKept fun d n h => ?_
  grind

@[simp] theorem execRomPiece_windowsKept {pkt : List Byte} {readOk : Bool} {att : RomAtt} :
    WindowsKept s (execRomPiece pkt readOk s att) := by
  have := @Dev.romRow_winOk; have := @Dev.romAnswer_winOk; have := @Dev.takePiece_winOk
  unfold execRomPiece
  refine onBoth_windowsKept fun d n h => ?_
  grind

@[simp] theorem execRomBitmap_windowsKept {pkt : List Byte} {att : RomAtt} : WindowsKept s (execRomBitmap pkt s att) := by
  have := @Dev.romRow_winOk; have := @Dev.romAnswer_winOk
  unfold execRomBitmap
  refine onBoth_windowsKept fun d n h => ?_
  grind

@[simp] theorem execRomCommit_windowsKept {pkt : List Byte} {verified : Bool} {boot : BootIn} {att : RomAtt} :
    WindowsKept s (execRomCommit pkt verified boot s att) := by
  have := @Dev.romRow_winOk; have := @Dev.romAnswer_winOk; have := @Dev.activated_winOk; have := @Dev.boot_winOk
  unfold execRomCommit
  refine onBoth_windowsKept fun d n h => ?_
  grind

@[simp] theorem execRomReset_windowsKept {pkt : List Byte} {boot : BootIn} {att : RomAtt} :
    WindowsKept s (execRomReset pkt boot s att) := by
  have := @Dev.romRow_winOk; have := @Dev.romAnswer_winOk; have := @Dev.boot_winOk
  unfold execRomReset
  refine onBoth_windowsKept fun d n h => ?_
  grind

@[simp] theorem execJtagInstruction_windowsKept {ir : BitVec 8} {drives : Bool} {resetLow : Bool} :
    WindowsKept s (execJtagInstruction ir drives resetLow s) := by
  have := @Dev.onSy_winOk; have := @Dev.raise_winOk
  unfold execJtagInstruction
  refine onDev_windowsKept fun d h => ?_
  grind

@[simp] theorem execControlTick_windowsKept {cycles : Nat} {aux : BitVec 32} {erase : Bool} :
    WindowsKept s (execControlTick cycles aux s erase) := by
  unfold execControlTick
  refine onDev_windowsKept fun d h => ite_winOk h ?_
  have flushed {e : Dev} {l : List Nat} (he : e.winOk) : (e.each l fun r e => e.flushRing r).winOk :=
    Dev.each_winOk he fun _ _ he => Dev.flushRing_winOk he
  with_reducible refine ite_winOk (Dev.emitFrame_winOk ?_) ?_ <;>
    exact flushed (Dev.engineTick_winOk (Dev.chainTick_winOk (Dev.turnWindows_winOk (Dev.onMs_winOk (Dev.modGlb_winOk
      (Dev.wdtTick_winOk (Dev.tickTime_winOk h)))))))

/-- Every command keeps the windows: each row's meaning does. -/
theorem exec_windowsKept (c : Instr) : WindowsKept s (exec c s) := by
  cases c <;> simp only [exec] <;> simp

end

/-- Settles O60: a step is a command or nothing, and every command keeps both windows. -/
theorem windowsStayCanonical : Obligations.WindowsStayCanonical := by
  intro s t ring rom run
  unfold step at run
  split at run
  · cases run
    exact ⟨ring, rom⟩
  · next c rest _ => exact (exec_windowsKept (s := { s with pending := rest }) c).keeps ⟨ring, rom⟩ t run

end Sys2Proof.Machine
end

section
/-! PROOFS. Retry records (R238). -/

namespace Sys2Proof.Machine

namespace Ladder

theorem enter_backoff (l : Ladder) (now cause : Nat) : (l.enter now cause).backoff = some (10 * 2 ^ (l.recent now).length) := rfl

theorem enter_recent (l : Ladder) (now cause : Nat) : (l.enter now cause).recent now = l.recent now := by
  simp [recent, enter]

theorem spent_eq_false_iff (l : Ladder) (now : Nat) : l.spent now = false ↔ (l.recent now).length < 5 := by
  simp [spent]

/-- Below five recent retries the backoff is one of the ladder's five. -/
theorem enter_backoff_mem {l : Ladder} {now : Nat} (cause : Nat) (fresh : l.spent now = false) :
    ∃ ms ∈ [10, 20, 40, 80, 160], (l.enter now cause).backoff = some ms := by
  have few := (l.spent_eq_false_iff now).1 fresh
  rw [enter_backoff]
  generalize (l.recent now).length = k at few
  interval_cases k <;> simp

theorem start_retries_length (l : Ladder) (now : Nat) : (l.start now).retries.length = (l.recent now).length + 1 := by
  simp [start]

/-- A retry counts from its start on. -/
theorem now_mem_recent_start (l : Ladder) {now later : Nat} (h : later ≤ now) : now ∈ (l.start now).recent later := by
  have soon : later < now + 60000000000 := by omega
  simp [recent, start, soon]

/-- Retries older than 60 s no longer count. -/
theorem recent_of_old {l : Ladder} {later : Nat} (old : ∀ t ∈ l.retries, t + 60000000000 ≤ later) : l.recent later = [] := by
  simpa [recent] using old

end Ladder

/-- Settles O11. -/
theorem retryLadder : Obligations.RetryLadder := by
  intro l now cause
  refine ⟨rfl, rfl, Ladder.enter_backoff_mem cause, fun _ => ?_, fun later h none => ?_, fun later old => ?_⟩
  · rw [Ladder.start_retries_length, Ladder.enter_recent]
    rfl
  · exact List.ne_nil_of_mem (l.now_mem_recent_start h) none
  · rw [Ladder.spent_eq_false_iff, Ladder.recent_of_old old]
    decide

end Sys2Proof.Machine
end

section
/-! PROOFS. Accumulators and trackers (R192, R193, R197, R199). -/

namespace Sys2Proof.Machine

/-! ### Saturation at 64 bits (R197) -/

theorem clamp64_bounds (x : Int) : -9223372036854775808 ≤ clamp64 x ∧ clamp64 x ≤ 9223372036854775807 := by
  unfold clamp64 clampI
  split_ifs <;> omega

theorem clamp64_of_inside {x : Int} (lo : -9223372036854775808 ≤ x) (hi : x ≤ 9223372036854775807) : clamp64 x = x := by
  unfold clamp64 clampI
  split_ifs <;> omega

theorem clamp64_of_above {x : Int} (hi : 9223372036854775807 < x) : clamp64 x = 9223372036854775807 := by
  unfold clamp64 clampI
  split_ifs <;> omega

/-! ### A taken result of SUM and SUMSQ -/

/-- Without a window, a result that is taken adds its term, saturated, and counts once (R193, R197). -/
theorem Acc.add_of_sum {a : Acc} {x : Int} {ovr : Bool} {ix turns : Nat} (mode : a.cfg.mode = .sum ∨ a.cfg.mode = .sumsq)
    (room : a.full = false) :
    a.add x ovr ix turns =
      ({ a with sum := clamp64 (a.sum + a.term x ix), count := a.count + 1,
                sat := a.sat || (a.sum + a.term x ix != clamp64 (a.sum + a.term x ix)), ovr := a.ovr || ovr,
                full := decide (0xFFFFFFFF ≤ a.count + 1),
                satSent := a.satSent || (a.sum + a.term x ix != clamp64 (a.sum + a.term x ix)) },
       (a.sum + a.term x ix != clamp64 (a.sum + a.term x ix)) && !a.satSent) := by
  have still : a.turn turns = a := by rcases mode with m | m <;> simp [Acc.turn, Acc.demodWindow, m]
  have plain : a.windowed = false := by rcases mode with m | m <;> simp [Acc.windowed, Acc.demodWindow, m]
  simp [Acc.add, still, plain, room]

/-- Settles O28: the sum is the clamped one of `Acc.add_of_sum`. -/
theorem accumulatorSums : Obligations.AccumulatorSums := by
  intro a x ovr ix turns mode room _
  have term : a.term x ix = if a.cfg.mode = .sum then x else x * x := by
    rcases mode with m | m <;> simp [Acc.term, m]
  rw [Acc.add_of_sum mode room, term]
  generalize (if a.cfg.mode = .sum then x else x * x) = v
  refine ⟨rfl, ⟨fun lo hi => ?_, fun above => ?_⟩, (clamp64_bounds _).1, (clamp64_bounds _).2, ?_, rfl, rfl⟩
  · simp [clamp64_of_inside lo hi]
  · have moved : a.sum + v ≠ 9223372036854775807 := by omega
    simp [clamp64_of_above above, moved]
  · simp

/-! ### Trackers (R199) -/

/-- MIN, MAX and COUNT of a tracker stand for the results of a list. -/
structure Mmx.Tracks (y : Mmx) (l : List (Int × Nat)) : Prop where
  min : ∃ p ∈ l, y.min = p.1 ∧ y.minT = p.2
  max : ∃ p ∈ l, y.max = p.1 ∧ y.maxT = p.2
  bounds : ∀ p ∈ l, y.min ≤ p.1 ∧ p.1 ≤ y.max
  count : y.count = l.length

/-- The first result sets both extremes of a tracker at reset, whose extremes it lies between. -/
theorem Mmx.tracks_first {x : Mmx} {p : Int × Nat} (min : x.min = 0x7FFFFFFF) (max : x.max = -0x80000000) (count : x.count = 0)
    (inside : -0x80000000 < p.1 ∧ p.1 < 0x7FFFFFFF) : (x.add p.1 p.2 false).Tracks [p] := by
  constructor <;> simp [Mmx.add, min, max, count, inside.1, inside.2, satInc]

/-- A further result keeps an extreme or becomes it. -/
theorem Mmx.Tracks.add {y : Mmx} {l : List (Int × Nat)} (h : y.Tracks l) (p : Int × Nat) (short : l.length < 0xFFFFFFFF) :
    (y.add p.1 p.2 false).Tracks (l ++ [p]) := by
  obtain ⟨⟨a, ha, hmin, hminT⟩, ⟨b, hb, hmax, hmaxT⟩, bounds, count⟩ := h
  constructor
  · by_cases lower : p.1 < y.min
    · exact ⟨p, by simp, by simp [Mmx.add, lower]⟩
    · exact ⟨a, by simp [ha], by simpa [Mmx.add, lower] using ⟨hmin, hminT⟩⟩
  · by_cases higher : y.max < p.1
    · exact ⟨p, by simp, by simp [Mmx.add, higher]⟩
    · exact ⟨b, by simp [hb], by simpa [Mmx.add, higher] using ⟨hmax, hmaxT⟩⟩
  · intro q hq
    have old : q ∈ l → y.min ≤ q.1 ∧ q.1 ≤ y.max := bounds q
    have member : q ∈ l ∨ q = p := by simpa using hq
    simp only [Mmx.add]
    rcases member with hq | rfl
    · split_ifs <;> have := old hq <;> omega
    · split_ifs <;> omega
  · simp [Mmx.add, satInc, count, short]

theorem Mmx.tracks_fold (r : List (Int × Nat)) : ∀ {y : Mmx} {l : List (Int × Nat)}, y.Tracks l → l.length + r.length < 0xFFFFFFFF →
    (r.foldl (fun (z : Mmx) p => z.add p.1 p.2 false) y).Tracks (l ++ r) := by
  induction r with
  | nil => exact fun h _ => by simpa using h
  | cons p t ih =>
    intro y l h short
    have length : l.length + (t.length + 1) < 0xFFFFFFFF := short
    have more := ih (h.add p (by omega)) (by rw [List.length_append, List.length_singleton]; omega)
    simpa using more

/-- Settles O29, by induction over the results after the first. -/
theorem trackerExtremes : Obligations.TrackerExtremes := by
  intro l x nonempty min max count inside short
  cases l with
  | nil => exact absurd rfl nonempty
  | cons p t =>
    have length : t.length + 1 < 0xFFFFFFFF := short
    have tracked := Mmx.tracks_fold t (Mmx.tracks_first min max count (inside p (by simp)))
      (by rw [List.length_singleton]; omega)
    exact ⟨tracked.min, tracked.max, tracked.bounds, tracked.count⟩

end Sys2Proof.Machine
end

section
/-! PROOFS. The rations of a source (R103). -/

namespace Sys2Proof.Machine

/-- What a mitten has been served in the sharing loop of R103; 0 for one still unserved. -/
def served (acc : List (Nat × Int)) (m : Nat) : Int := (look m acc).getD 0

/-! ### Lists of numbered mittens -/

theorem look_append {α : Type} (k : Nat) (l r : List (Nat × α)) : look k (l ++ r) = (look k l).or (look k r) := by
  induction l with
  | nil => rfl
  | cons p t ih =>
    obtain ⟨j, a⟩ := p
    simp only [List.cons_append, look, ih]
    split <;> rfl

theorem look_map_self {α : Type} (f : Nat → α) (k : Nat) (l : List Nat) :
    look k (l.map fun m => (m, f m)) = if k ∈ l then some (f k) else none := by
  induction l with
  | nil => rfl
  | cons j t ih =>
    simp only [List.map_cons, look, ih, List.mem_cons]
    by_cases h : j = k
    · simp [h]
    · simp [h, Ne.symm h]

theorem foldl_add_eq_sum (f : Nat → Int) (l : List Nat) (a : Int) : l.foldl (fun a m => a + f m) a = a + (l.map f).sum := by
  induction l generalizing a with
  | nil => simp
  | cons m t ih => rw [List.foldl_cons, ih, List.map_cons, List.sum_cons, add_assoc]

theorem foldl_sub_eq_sum (f : Nat → Int) (l : List Nat) (a : Int) : l.foldl (fun a m => a - f m) a = a - (l.map f).sum := by
  induction l generalizing a with
  | nil => simp
  | cons m t ih => rw [List.foldl_cons, ih, List.map_cons, List.sum_cons, sub_sub]

/-- A sum over a list without repeats counts a part of it where its members stand. -/
theorem sum_ite_mem {l part : List Nat} (f : Nat → Int) (distinct : l.Nodup) (partDistinct : part.Nodup) (sub : ∀ m ∈ part, m ∈ l) :
    (l.map fun m => if m ∈ part then f m else 0).sum = (part.map f).sum := by
  have finsets := Finset.sum_subset (s₁ := part.toFinset) (s₂ := l.toFinset) (f := fun m => if m ∈ part then f m else 0)
    (fun m hm => by simpa using sub m (by simpa using hm)) (fun m _ hm => if_neg (by simpa using hm))
  rw [List.sum_toFinset _ distinct, List.sum_toFinset _ partDistinct] at finsets
  rw [← finsets]
  exact congrArg List.sum (List.map_congr_left fun m hm => by simp [hm])

/-! ### The sharing loop -/

/-- Every round moves demand from what is left to what is served, so their sum over the drawing mittens stands. -/
theorem shareLoop_sum {demand weight : Nat → Int} {draw : List Nat} (distinct : draw.Nodup) (n : Nat) :
    ∀ (left : Int) (set : List Nat) (acc : List (Nat × Int)), set.Nodup → (∀ m ∈ set, m ∈ draw) → (∀ m ∈ set, look m acc = none) →
      (shareLoop demand weight n left set acc).1 + (draw.map (served (shareLoop demand weight n left set acc).2.2)).sum =
        left + (draw.map (served acc)).sum := by
  induction n with
  | zero => exact fun _ _ _ _ _ _ => rfl
  | succ n ih =>
    intro left set acc nodup sub unserved
    unfold shareLoop
    dsimp only
    set full := set.filter fun m => decide (demand m * set.foldl (fun a m => a + weight m) 0 ≤ left * weight m) with hfull
    have fullSub : ∀ m ∈ full, m ∈ set := fun m hm => List.mem_of_mem_filter hm
    have moved : ∀ m, served (acc ++ full.map fun m => (m, demand m)) m = served acc m + if m ∈ full then demand m else 0 := by
      intro m
      rw [served, served, look_append, look_map_self]
      by_cases hm : m ∈ full
      · simp [unserved m (fullSub m hm), hm]
      · simp [hm]
    have round : full.foldl (fun a m => a - demand m) left +
        (draw.map (served (acc ++ full.map fun m => (m, demand m)))).sum = left + (draw.map (served acc)).sum := by
      rw [foldl_sub_eq_sum, funext moved, List.sum_map_add,
        sum_ite_mem demand distinct (nodup.filter _) fun m hm => sub m (fullSub m hm)]
      ring
    split
    · rfl
    · split
      · exact round
      · refine (ih _ _ _ (nodup.filter _) (fun m hm => sub m (List.mem_of_mem_filter hm)) fun m hm => ?_).trans round
        obtain ⟨inSet, rest⟩ := List.mem_filter.1 hm
        have unfull : m ∉ full := by simpa using rest
        rw [look_append, look_map_self, unserved m inSet, if_neg unfull]
        rfl

/-- A round serves no more than is left: each fits its share by weight. -/
theorem full_demand_le {demand weight : Nat → Int} {left : Int} {set : List Nat} (left0 : 0 ≤ left)
    (weights : ∀ m ∈ set, 0 < weight m) :
    ((set.filter fun m => decide (demand m * (set.map weight).sum ≤ left * weight m)).map demand).sum ≤ left := by
  set W := (set.map weight).sum with hW
  set full := set.filter fun m => decide (demand m * W ≤ left * weight m) with hfull
  rcases set.eq_nil_or_concat with rfl | ⟨_, _, hset⟩
  · simpa [hfull] using left0
  · have Wpos : 0 < W := by
      rw [hW]
      exact List.sum_pos _ (by simpa using weights) (by simp [hset])
    have fits : (full.map fun m => demand m * W).sum ≤ (full.map fun m => left * weight m).sum :=
      List.sum_le_sum fun m hm => by simpa using (List.mem_filter.1 hm).2
    have part : (full.map weight).sum ≤ W :=
      (List.filter_sublist.map weight).sum_le_sum fun w hw => by
        obtain ⟨m, hm, rfl⟩ := List.mem_map.1 hw
        exact (weights m hm).le
    rw [List.sum_map_mul_right, List.sum_map_mul_left] at fits
    exact le_of_mul_le_mul_right (fits.trans (mul_le_mul_of_nonneg_left part left0)) Wpos

/-- What is left never falls below 0, and nothing served is negative. -/
theorem shareLoop_nonneg {demand weight : Nat → Int} (n : Nat) :
    ∀ (left : Int) (set : List Nat) (acc : List (Nat × Int)), 0 ≤ left → (∀ m ∈ set, 0 ≤ demand m) → (∀ m ∈ set, 0 < weight m) →
      (∀ m, 0 ≤ served acc m) →
      0 ≤ (shareLoop demand weight n left set acc).1 ∧ ∀ m, 0 ≤ served (shareLoop demand weight n left set acc).2.2 m := by
  induction n with
  | zero => exact fun _ _ _ left0 _ _ acc0 => ⟨left0, acc0⟩
  | succ n ih =>
    intro left set acc left0 demands weights acc0
    have fits := full_demand_le (demand := demand) left0 weights
    unfold shareLoop
    simp only [foldl_add_eq_sum, foldl_sub_eq_sum, zero_add]
    set full := set.filter fun m => decide (demand m * (set.map weight).sum ≤ left * weight m) with hfull
    have left1 : 0 ≤ left - (full.map demand).sum := sub_nonneg.2 fits
    have acc1 : ∀ m, 0 ≤ served (acc ++ full.map fun m => (m, demand m)) m := by
      intro m
      rw [served, look_append, look_map_self]
      cases h : look m acc with
      | some v => simpa [served, h] using acc0 m
      | none =>
        split
        · next hm => exact demands m (List.mem_of_mem_filter hm)
        · exact le_rfl
    split
    · exact ⟨left0, acc0⟩
    · split
      · exact ⟨left1, acc1⟩
      · exact ih _ _ _ left1 (fun m hm => demands m (List.mem_of_mem_filter hm))
          (fun m hm => weights m (List.mem_of_mem_filter hm)) acc1

/-! ### The split of the base -/

/-- The part of the rest that a weight takes, rounded down. -/
def restPart (left : Int) (weight : Nat → Int) (draw : List Nat) (m : Nat) : Int :=
  if (draw.map weight).sum = 0 then 0 else floorDiv (left * weight m) (draw.map weight).sum

theorem weightSum_pos {weight : Nat → Int} {draw : List Nat} (nonempty : draw ≠ []) (weights : ∀ m ∈ draw, 0 < weight m) :
    0 < (draw.map weight).sum :=
  List.sum_pos _ (by simpa using weights) (by simpa using nonempty)

theorem restPart_nonneg {left : Int} {weight : Nat → Int} {draw : List Nat} (left0 : 0 ≤ left)
    (weights : ∀ m ∈ draw, 0 < weight m) {m : Nat} (hm : m ∈ draw) : 0 ≤ restPart left weight draw m := by
  unfold restPart floorDiv
  split
  · exact le_rfl
  · exact Int.fdiv_nonneg (mul_nonneg left0 (weights m hm).le) (weightSum_pos (List.ne_nil_of_mem hm) weights).le

/-- The parts rounded down never exceed the rest. -/
theorem restPart_sum_le {left : Int} {weight : Nat → Int} {draw : List Nat} (nonempty : draw ≠ [])
    (weights : ∀ m ∈ draw, 0 < weight m) : (draw.map (restPart left weight draw)).sum ≤ left := by
  have pos := weightSum_pos nonempty weights
  have floors : (draw.map fun m => restPart left weight draw m * (draw.map weight).sum).sum ≤
      (draw.map fun m => left * weight m).sum :=
    List.sum_le_sum fun m _ => by
      rw [restPart, if_neg pos.ne', floorDiv, Int.fdiv_eq_ediv_of_nonneg _ pos.le]
      exact Int.ediv_mul_le _ pos.ne'
  rw [List.sum_map_mul_right, List.sum_map_mul_left] at floors
  exact le_of_mul_le_mul_right floors pos

/-- The rations: what was served, a part of the rest by weight, and the remainder for the lowest-numbered mitten. -/
theorem splitBase_cons (base : Int) (a : Nat) (t : List Nat) (demand weight : Nat → Int) :
    splitBase base (a :: t) demand weight = (a :: t).map fun m =>
      (m, served (shareLoop demand weight 17 base (a :: t) []).2.2 m +
        restPart (shareLoop demand weight 17 base (a :: t) []).1 weight (a :: t) m +
        if m = a then (shareLoop demand weight 17 base (a :: t) []).1 -
          ((a :: t).map (restPart (shareLoop demand weight 17 base (a :: t) []).1 weight (a :: t))).sum else 0) := by
  simp only [splitBase, foldl_add_eq_sum, zero_add]
  rfl

/-- Settles O56: the loop keeps the sum of what is left and what is served, and the remainder goes to one mitten. -/
theorem rationsSumToBase : Obligations.RationsSumToBase := by
  intro base draw demand weight nonempty distinct
  obtain ⟨a, t, rfl⟩ := List.exists_cons_of_ne_nil nonempty
  have kept := shareLoop_sum (demand := demand) (weight := weight) distinct 17 base (a :: t) [] distinct (fun _ h => h) fun _ _ => rfl
  rw [splitBase_cons]
  refine ⟨by simp [Function.comp_def], ?_, fun base0 demands weights p hp => ?_⟩
  · have remainder (r : Int) : ((a :: t).map fun m => if m = a then r else 0).sum = r := by
      simpa using sum_ite_mem (fun _ => r) distinct (List.nodup_singleton a) (by simp)
    have nothing : ((a :: t).map (served [])).sum = 0 :=
      List.sum_eq_zero fun v hv => by obtain ⟨_, _, rfl⟩ := List.mem_map.1 hv; rfl
    rw [nothing, add_zero] at kept
    rw [List.map_map]
    simp only [Function.comp_def]
    rw [List.sum_map_add, List.sum_map_add, remainder]
    omega
  · obtain ⟨left0, served0⟩ := shareLoop_nonneg 17 base (a :: t) [] base0 demands weights fun _ => le_rfl
    obtain ⟨m, hm, rfl⟩ := List.mem_map.1 hp
    have part0 := restPart_nonneg left0 weights hm
    have rest := restPart_sum_le (left := (shareLoop demand weight 17 base (a :: t) []).1) nonempty weights
    have served0 := served0 m
    dsimp only
    split <;> omega

end Sys2Proof.Machine
end

section
/-! PROOFS. The limiter in charge (R74, R75). -/

namespace Sys2Proof.Machine

/-! ### The least candidate -/

theorem foldl_min_le (t : List (Nat × Int)) (v : Int) :
    t.foldl (fun a p => min a p.2) v ≤ v ∧ ∀ q ∈ t, t.foldl (fun a p => min a p.2) v ≤ q.2 := by
  induction t generalizing v with
  | nil => simp
  | cons p t ih =>
    obtain ⟨least, rest⟩ := ih (min v p.2)
    rw [List.foldl_cons]
    refine ⟨least.trans (min_le_left _ _), fun q hq => ?_⟩
    rcases List.mem_cons.1 hq with rfl | hq
    · exact least.trans (min_le_right _ _)
    · exact rest q hq

theorem foldl_min_mem (t : List (Nat × Int)) (v : Int) :
    t.foldl (fun a p => min a p.2) v = v ∨ ∃ q ∈ t, q.2 = t.foldl (fun a p => min a p.2) v := by
  induction t generalizing v with
  | nil => simp
  | cons p t ih =>
    rw [List.foldl_cons]
    rcases ih (min v p.2) with h | ⟨q, hq, h⟩
    · rcases min_choice v p.2 with hm | hm
      · exact .inl (h.trans hm)
      · exact .inr ⟨p, by simp, (h.trans hm).symm⟩
    · exact .inr ⟨q, by simp [hq], h⟩

theorem leastOf_le {l : List (Nat × Int)} {q : Nat × Int} (hq : q ∈ l) : leastOf l ≤ q.2 := by
  match l, hq with
  | p :: t, hq =>
    obtain ⟨least, rest⟩ := foldl_min_le t p.2
    rcases List.mem_cons.1 hq with rfl | hq
    · exact least
    · exact rest q hq

theorem exists_eq_leastOf {l : List (Nat × Int)} (nonempty : l ≠ []) : ∃ q ∈ l, q.2 = leastOf l := by
  match l, nonempty with
  | p :: t, _ =>
    rcases foldl_min_mem t p.2 with h | ⟨q, hq, h⟩
    · exact ⟨p, by simp, h.symm⟩
    · exact ⟨q, by simp [hq], h⟩

/-- With rising codes the limiter reported is the first candidate at the command, so the one with the lowest code. -/
theorem codeOf_least {l : List (Nat × Int)} {cmd : Int} (rising : (l.map (·.1)).Pairwise (· < ·))
    (met : ∃ q ∈ l, max 0 q.2 = cmd) :
    ∃ p ∈ l, p.1 = codeOf l cmd ∧ max 0 p.2 = cmd ∧ ∀ q ∈ l, max 0 q.2 = cmd → p.1 ≤ q.1 := by
  induction l with
  | nil => simp at met
  | cons a t ih =>
    by_cases ha : max 0 a.2 = cmd
    · refine ⟨a, by simp, by simp [codeOf, ha], ha, fun q hq _ => ?_⟩
      rcases List.mem_cons.1 hq with rfl | hq
      · exact le_rfl
      · exact ((List.pairwise_cons.1 rising).1 q.1 (List.mem_map_of_mem hq)).le
    · obtain ⟨p, hp, code, atCmd, lowest⟩ := ih (List.pairwise_cons.1 rising).2 (by simpa [ha] using met)
      refine ⟨p, by simp [hp], by simpa [codeOf, ha] using code, atCmd, fun q hq hv => ?_⟩
      rcases List.mem_cons.1 hq with rfl | hq
      · exact absurd hv ha
      · exact lowest q hq hv

/-! ### The candidates' codes -/

/-- Candidates whose codes rise and lie from `lo` to below `hi`. -/
def Coded (lo hi : Nat) (l : List (Nat × Int)) : Prop :=
  (l.map fun p => p.1).Pairwise (· < ·) ∧ ∀ p ∈ l, lo ≤ p.1 ∧ p.1 < hi

namespace Coded

theorem nil {lo hi : Nat} : Coded lo hi [] := ⟨.nil, by simp⟩

theorem single {lo c : Nat} {v : Int} (h : lo ≤ c) : Coded lo (c + 1) [(c, v)] := ⟨by simp, by simpa using h⟩

theorem ite {lo hi : Nat} {c : Prop} [Decidable c] {l r : List (Nat × Int)} (hl : Coded lo hi l) (hr : Coded lo hi r) :
    Coded lo hi (if c then l else r) := by
  split
  · exact hl
  · exact hr

theorem append {lo mid hi : Nat} {l r : List (Nat × Int)} (hl : Coded lo mid l) (hr : Coded mid hi r)
    (le₁ : lo ≤ mid) (le₂ : mid ≤ hi) : Coded lo hi (l ++ r) := by
  refine ⟨?_, fun p hp => ?_⟩
  · rw [List.map_append, List.pairwise_append]
    refine ⟨hl.1, hr.1, fun a ha b hb => ?_⟩
    obtain ⟨p, hp, rfl⟩ := List.mem_map.1 ha
    obtain ⟨q, hq, rfl⟩ := List.mem_map.1 hb
    exact (hl.2 p hp).2.trans_le (hr.2 q hq).1
  · rcases List.mem_append.1 hp with hp | hp
    · exact ⟨(hl.2 p hp).1, (hl.2 p hp).2.trans_le le₂⟩
    · exact ⟨le₁.trans (hr.2 p hp).1, (hr.2 p hp).2⟩

theorem filter {lo hi lo' hi' : Nat} {l : List (Nat × Int)} {P : Nat × Int → Bool} (hl : Coded lo hi l)
    (into : ∀ p, P p = true → lo ≤ p.1 → p.1 < hi → lo' ≤ p.1 ∧ p.1 < hi') : Coded lo' hi' (l.filter P) :=
  ⟨hl.1.sublist (List.filter_sublist.map _), fun p hp => by
    obtain ⟨mem, holds⟩ := List.mem_filter.1 hp
    exact into p holds (hl.2 p mem).1 (hl.2 p mem).2⟩

end Coded

/-- The candidates of a mitten stand in the order of R74's table. -/
theorem Dev.ceilings_coded (d : Dev) (m : Nat) (g : Goal) (vOut vIn vSet : Int) : Coded 1 8 (d.ceilings m g vOut vIn vSet) := by
  have one (c : Nat) (v : Int) : Coded c (c + 1) [(c, v)] := .single le_rfl
  unfold Dev.ceilings
  refine .append (mid := 7) (.append (mid := 6) (.append (mid := 5) (.append (mid := 4) (.append (mid := 3) (.append (mid := 2)
    (.ite (one 1 _) .nil) (.ite (one 2 _) .nil) ?_ ?_) (.ite (one 3 _) .nil) ?_ ?_) ?ration ?_ ?_) (one 5 _) ?_ ?_)
    (.ite .nil (one 6 _)) ?_ ?_) (one 7 _) ?_ ?_
  case ration =>
    split
    · exact one 4 _
    · exact .nil
  all_goals decide

/-- On a crown the peers' values take the places of TEMPERATURE, BRIM and I_LIMIT, so the order stands (R91). -/
theorem Dev.withPeers_coded (d : Dev) (m : Nat) {l : List (Nat × Int)} (hl : Coded 1 8 l) : Coded 1 8 (d.withPeers m l) := by
  have one (c : Nat) (v : Int) : Coded c (c + 1) [(c, v)] := .single le_rfl
  unfold Dev.withPeers
  refine .ite hl ?_
  refine .append (mid := 6) (.append (mid := 5) (.append (mid := 4) (.append (mid := 3) (.append (mid := 2)
    (hl.filter ?_) ?temp ?_ ?_) ?brim ?_ ?_) (hl.filter ?_) ?_ ?_) ?limit ?_ ?_) (hl.filter ?_) ?_ ?_
  case temp | brim | limit =>
    dsimp only
    split
    exacts [one _ _, one _ _, one _ _, .nil]
  all_goals simp
  all_goals omega

/-- Settles O55: the first candidate at the command stands before the others, and the codes of the candidates rise. -/
theorem limiterInCharge : Obligations.LimiterInCharge := by
  refine ⟨fun l cmd nonempty hcmd rising => ⟨fun q hq => leastOf_le hq, ?_⟩, fun d m g vOut vIn vSet iV => ?_⟩
  · obtain ⟨q, hq, least⟩ := exists_eq_leastOf nonempty
    obtain ⟨p, hp, code, atCmd, lowest⟩ := codeOf_least (cmd := cmd) rising ⟨q, hq, by rw [least, hcmd]⟩
    refine ⟨p, hp, code, atCmd, lowest, fun below r hr => lowest r hr ?_⟩
    have := below r hr
    have := below p hp
    omega
  · exact ((d.withPeers_coded m (d.ceilings_coded m g vOut vIn vSet)).append (.single (c := 8) le_rfl) (by decide) (by decide)).1

end Sys2Proof.Machine
end

section
/-! PROOFS. Mailboxes and locks: the accesses that R317 admits, and a notice from its send to its receiver's read. -/

namespace Sys2Proof.Machine

/-! ### The guards of an access -/

theorem Dev.guardWrite_admitted {d : Dev} {a off : Nat} {sec obj : Bool} (f : Dev → Dev) (agent : isAgent a = true)
    (notHost : a ≠ agHost) (admitted : obj = true → isSecure a sec = true) : d.guardWrite a sec obj off f = f (d.reply []) := by
  cases obj <;> simp_all [guardWrite]

theorem Dev.guardWrite_insecure {d : Dev} {a off : Nat} {sec obj : Bool} (f : Dev → Dev) (agent : isAgent a = true)
    (notHost : a ≠ agHost) (secureObj : obj = true) (insecure : isSecure a sec = false) :
    d.guardWrite a sec obj off f = d.busError := by
  simp_all [guardWrite]

theorem Dev.guardWrite_host (d : Dev) (off : Nat) (sec obj : Bool) (f : Dev → Dev) :
    d.guardWrite 98 sec obj off f = (d.ignoredWrite off).reply [] := rfl

theorem fld_type_eq (v : Word) : fld v 0 8 = v.toNat % 256 := bits_eq_div_mod _ _ _ |>.trans (by simp)

/-- The reserved bits of MBXn_SEND are 31:8. -/
theorem fld_send_reserved (v : Word) : fld v 8 24 = v.toNat / 256 := by
  have := v.isLt
  rw [fld, bits_eq_div_mod, Nat.mod_eq_of_lt] <;> omega

theorem Dev.modMbx_at {d : Dev} {n : Nat} {x : Mailbox} (there : d.sy.mbx[n]? = some x) (f : Mailbox → Mailbox) :
    d.modMbx n f = d.modMbx n fun _ => f x :=
  congrArg (fun l => ({ d with sy := { d.sy with mbx := l } } : Dev)) <|
    modify_agree d.sy.mbx n f (fun _ => f x) fun y hy => by rw [there] at hy; cases hy; rfl

theorem Dev.modMbx_same {d : Dev} {n : Nat} {x : Mailbox} (there : d.sy.mbx[n]? = some x) : (d.modMbx n fun _ => x) = d :=
  congrArg (fun l => ({ d with sy := { d.sy with mbx := l } } : Dev)) <|
    (modify_agree _ _ _ id fun _ hy => (Option.some.inj (hy.symm.trans there)).symm).trans (List.modify_id _ _)

theorem Dev.mailbox_modMbx {d : Dev} {n : Nat} {x : Mailbox} (there : d.sy.mbx[n]? = some x) (f : Mailbox → Mailbox) :
    (d.modMbx n f).sy.mbx[n]? = some (f x) := by
  simp [there]

/-! ### Commands of a mailbox -/

section
variable {a : Fin 128} {sec : Bool} {n : Fin 64} {v : Word} {x : Mailbox} {s : State}
  (agent : isAgent a = true) (notHost : a.val ≠ agHost) (admitted : n.val < 16 → isSecure a sec = true)
include agent notHost admitted

theorem exec_mbxPtrStage_admitted : exec (.mbxPtrStage a sec n v) s =
    .next { s with dev := (s.dev.reply []).modMbx n fun x => { x with staged := v } } := by
  simp only [exec, execMbxPtrStage, State.onDev]
  rw [Dev.guardWrite_admitted _ agent notHost (by simpa using admitted)]

theorem exec_mbxSend_admitted : exec (.mbxSend a sec n v) s = .next { s with dev := (
    let e := s.dev.reply []
    let x := e.sy.mbx.getD n {}
    if 256 ≤ v.toNat then e.invalidValue (0x1404 + 16 * n.val)
    else if x.full then e.busError
    else if x.revoked then (e.modMbx n fun y => { y with lastType := v.toNat % 256 }).logNotice n (v.toNat % 256) a
    else e.modMbx n fun y => { y with full := true, ptr := y.staged, type := v.toNat % 256, sender := a }) } := by
  have reserved : fld v 8 24 ≠ 0 ↔ 256 ≤ v.toNat := by rw [fld_send_reserved]; omega
  have off : mbxOff n 1 = 0x1404 + 16 * n.val := by unfold mbxOff; omega
  simp only [exec, execMbxSend, State.onDev]
  rw [Dev.guardWrite_admitted _ agent notHost (by simpa using admitted)]
  simp only [reserved, fld_type_eq, off]

theorem exec_mbxSend_empty (there : s.dev.sy.mbx[n.val]? = some x) (empty : x.full = false) (kept : x.revoked = false)
    (type : v.toNat < 256) : exec (.mbxSend a sec n v) s = .next { s with dev := (s.dev.reply []).modMbx n fun _ =>
      { x with full := true, ptr := x.staged, type := v.toNat % 256, sender := a.val } } := by
  rw [exec_mbxSend_admitted agent notHost admitted]
  simp only [Dev.reply_sy, getD_there _ _ _ _ there, empty, kept, Nat.not_le.2 type, Bool.false_eq_true, if_false]
  rw [Dev.modMbx_at (d := s.dev.reply []) there, kept]

theorem exec_mbxSend_full (there : s.dev.sy.mbx[n.val]? = some x) (full : x.full = true) (type : v.toNat < 256) :
    exec (.mbxSend a sec n v) s = .next { s with dev := s.dev.busError } := by
  rw [exec_mbxSend_admitted agent notHost admitted]
  simp only [Dev.reply_sy, getD_there _ _ _ _ there, full, Nat.not_le.2 type, if_true, if_false]
  rfl

omit notHost in
theorem exec_mbxRecv_admitted (wide : Bool) : exec (.mbxRecv a sec n wide) s = .next { s with dev := (
    let r := s.dev.recvBox a n
    if wide then r.1.reply (leBytes 4 r.2.toNat ++ leBytes 4 ((r.1.sy.mbx.getD n {}).statusWord n).toNat) else r.1.replyW r.2) } := by
  simp only [exec, execMbxRecv, State.onDev, agent]
  rw [if_neg (by simp), if_neg (by simpa using admitted)]

end

/-- The receiver's read takes a pending notice, and of an empty mailbox nothing. -/
theorem Dev.recvBox_receiver {d : Dev} {a n : Nat} {x : Mailbox} (notHost : a ≠ agHost) (there : d.sy.mbx[n]? = some x)
    (receiver : x.receiver = a) : d.recvBox a n = (d.modMbx n fun _ => x.take, if x.full then x.ptr else 0) := by
  simp only [recvBox, getD_there _ _ _ _ there, receiver, notHost, ne_eq, not_false_eq_true, and_self, if_true]
  rw [Dev.modMbx_at there]

theorem exec_mbxRecv_insecure {a : Fin 128} {sec : Bool} {n : Fin 64} {s : State} (agent : isAgent a = true)
    (lower : n.val < 16) (insecure : isSecure a sec = false) : exec (.mbxRecv a sec n) s = .next { s with dev := s.dev.replyW 0 } := by
  simp only [exec, execMbxRecv, State.onDev, agent, lower, insecure]
  rfl

/-! ### Commands of a lock -/

section
variable {a : Fin 128} {sec : Bool} {n : Fin 64} {s : State} (agent : isAgent a = true)
include agent

theorem exec_lckTake_admitted (admitted : n.val < 8 → isSecure a sec = true) : exec (.lckTake a sec n) s =
    .next { s with dev := (s.dev.takeLock a n).1.replyW (s.dev.takeLock a n).2 } := by
  simp only [exec, execLckTake, State.onDev, agent]
  rw [if_neg (by simp), if_neg (by simpa using admitted)]

theorem exec_lckTake_insecure (lower : n.val < 8) (insecure : isSecure a sec = false) :
    exec (.lckTake a sec n) s = .next { s with dev := s.dev.replyW 0 } := by
  simp only [exec, execLckTake, State.onDev, agent, lower, insecure]
  rfl

end

/-- The checks of a TAKE in their order: a higher lock, then the lock's owner (R325). -/
theorem Dev.takeLock_agent {d : Dev} {a n : Nat} {x : Lock} (notHost : a ≠ agHost) (none : d.sy.higherLock a n = none)
    (there : d.sy.lck[n]? = some x) : d.takeLock a n =
      if x.owner = 0 then (d.modLck n fun y => { y with owner := a }, 0) else if x.owner = a then (d, 0) else (d, wd x.owner) := by
  simp only [takeLock, getD_there _ _ _ _ there, none, notHost, if_false]

/-! ### The statements -/

/-- Settles O3: the send's mailbox is the one whose pointer the read takes. -/
theorem noticeArrives : Obligations.NoticeArrives := by
  intro a r sa sr n v x s t u agentA notHostA admittedA agentR notHostR admittedR there empty kept receiver type send recv
  rw [exec_mbxSend_empty agentA notHostA admittedA there empty kept type, Host.Outcome.next.injEq] at send
  subst send
  rw [exec_mbxRecv_admitted agentR admittedR, Host.Outcome.next.injEq] at recv
  dsimp only at recv
  rw [Dev.recvBox_receiver notHostR (Dev.mailbox_modMbx (d := s.dev.reply []) there _) receiver] at recv
  subst recv
  refine ⟨rfl, ⟨_, Dev.mailbox_modMbx (Dev.mailbox_modMbx (d := s.dev.reply []) there _) _, rfl, rfl, rfl, rfl, receiver⟩, fun k hk => ?_,
    rfl, rfl, rfl, rfl, rfl, rfl⟩
  simp [Dev.replyW, Ne.symm hk]

/-- Settles O2: each access by the guard that admits or turns it away, and then by its mailbox or lock. -/
theorem mailboxesAndLocks : Obligations.MailboxesAndLocks := by
  refine ⟨⟨?stage, ?send, ?full, ?reserved, ?recv⟩, ⟨?order, ?take⟩, ?insecure, ?host⟩
  case stage => exact fun a sec n v s agent notHost admitted => exec_mbxPtrStage_admitted agent notHost admitted
  case send =>
    exact fun a sec n v x s agent notHost admitted there empty kept type =>
      exec_mbxSend_empty agent notHost admitted there empty kept type
  case full =>
    exact fun a sec n v x s agent notHost admitted there full type => exec_mbxSend_full agent notHost admitted there full type
  case reserved =>
    intro a sec n v s agent notHost admitted reserved
    rw [exec_mbxSend_admitted agent notHost admitted]
    simp only [reserved, if_true]
  case recv =>
    intro a sec n x s agent notHost admitted there receiver
    rw [exec_mbxRecv_admitted agent admitted, exec_mbxRecv_admitted agent admitted]
    simp only [Dev.recvBox_receiver notHost there receiver]
    cases full : x.full
    · have same : x.take = x := by simp [Mailbox.take, full]
      simp [same, Dev.modMbx_same there, there]
    · have taken : x.take = { x with full := false, sender := 0, lastType := x.type, ptr := 0 } := by simp [Mailbox.take, full]
      simp only [taken, getD_there _ _ _ _ (Dev.mailbox_modMbx there _)]
      exact ⟨rfl, rfl⟩
  case order =>
    intro a sec n h s agent notHost admitted higher
    rw [exec_lckTake_admitted agent admitted]
    simp [Dev.takeLock, notHost, higher]
  case take =>
    intro a sec n x s agent notHost admitted none there
    rw [exec_lckTake_admitted agent admitted, Dev.takeLock_agent notHost none there]
    refine ⟨fun free => ?_, fun owned own => ?_, fun owned other => ?_⟩
    · rw [if_pos free]
    · rw [if_neg owned, if_pos own]
    · rw [if_neg owned, if_neg other]
      rfl
  case insecure =>
    refine fun a sec n v s agent notHost insecure => ⟨fun lower => ⟨exec_mbxRecv_insecure agent lower insecure, ?_, ?_⟩,
      fun lower => ⟨exec_lckTake_insecure agent lower insecure, ?_⟩⟩
    · simp only [exec, execMbxPtrStage, State.onDev]
      rw [Dev.guardWrite_insecure _ agent notHost (by simpa using lower) insecure]
    · simp only [exec, execMbxSend, State.onDev]
      rw [Dev.guardWrite_insecure _ agent notHost (by simpa using lower) insecure]
    · simp only [exec, execLckRelease, State.onDev]
      rw [Dev.guardWrite_insecure _ agent notHost (by simpa using lower) insecure]
  case host =>
    have sendOff (n : Fin 64) : mbxOff n 1 = 0x1404 + 16 * n.val := by unfold mbxOff; omega
    have lockOff (n : Fin 64) : lckOff n 1 = 0x1804 + 8 * n.val := by unfold lckOff; omega
    refine fun sec n v s => ⟨rfl, ?_, ?_⟩
    · rw [← sendOff]; rfl
    · rw [← lockOff]; rfl

end Sys2Proof.Machine
end

section
/-! PROOFS. The quad-SPI window and the words written to the set-up window. -/

namespace Sys2Proof.Machine

theorem leNat_leBytes (n v : Nat) : leNat (leBytes n v) = v % 256 ^ n := by
  induction n generalizing v with
  | zero => simp [leBytes, leNat, Nat.mod_one]
  | succ n ih => rw [leBytes, leNat, ih, BitVec.toNat_ofNat, pow_succ' 256 n, Nat.mod_mul]

theorem leBytes_length (n v : Nat) : (leBytes n v).length = n := by
  induction n generalizing v with
  | zero => rfl
  | succ n ih => rw [leBytes, List.length_cons, ih]

/-- A word goes through its four bytes unchanged. -/
theorem wd_leNat_leBytes (v : Word) : wd (leNat (leBytes 4 v.toNat)) = v := by
  rw [leNat_leBytes, wd, show 256 ^ 4 = 2 ^ 32 from rfl, Nat.mod_eq_of_lt v.isLt, BitVec.ofNat_toNat, BitVec.setWidth_eq]

theorem Dev.not_recovery_of_windowUp {d : Dev} (up : d.windowUp = true) : d.sy.power ≠ .recovery := by
  intro recovery
  simp [windowUp, recovery] at up

/-! ### A word of the set-up window (R436, R439) -/

/-- A whole aligned word of the set-up window goes to its register. -/
theorem Dev.hostWriteAt_word {d : Dev} (n : Nv) {off : Nat} {b : List Byte} (up : d.windowUp = true) (aligned : off % 4 = 0)
    (inside : off < 0x10000) (len : b.length = 4) : d.hostWriteAt n off b = d.writeReg n off (wd (leNat b)) := by
  simp only [hostWriteAt, not_recovery_of_windowUp up, up, len, aligned, inside, Nat.mod_eq_of_lt inside, if_true, if_false]
  simp
  omega

/-- A word with no reserved bit set is taken by a mapped register that is open. -/
theorem Dev.writeReg_open {d : Dev} {n : Nv} {off : Nat} {v : Word} (opened : closedOff off = false)
    (mapped : (d.regWord n off).isSome = true) (reserved : v &&& reservedBits off = 0) :
    d.writeReg n off v = d.writeOpen n off v := by
  simp only [writeReg, opened, Option.isNone_eq_false_iff.2 mapped, reserved]
  simp

theorem reservedBits_evstat {j : Nat} (hj : j < 8) : reservedBits (0x40 + 4 * j) = 0 := by
  interval_cases j <;> rfl

theorem Dev.regWord_evstat (d : Dev) (n : Nv) {j : Nat} (hj : j < 8) :
    d.regWord n (0x40 + 4 * j) = some (d.ho.glb.evstatWord j) := by
  have index : (0x40 + 4 * j - 0x40) / 4 = j := by omega
  have low : 0x40 + 4 * j < 0x400 := by omega
  have span : 0x40 ≤ 0x40 + 4 * j ∧ 0x40 + 4 * j < 0x60 := by omega
  have above (o : Nat) (ho : o < 0x40) : ¬ 0x40 + 4 * j = o := by omega
  rw [regWord, if_pos low, glbWord]
  simp only [above _ (by decide : 0x00 < 0x40), above _ (by decide : 0x04 < 0x40), above _ (by decide : 0x08 < 0x40),
    above _ (by decide : 0x10 < 0x40), above _ (by decide : 0x14 < 0x40), above _ (by decide : 0x20 < 0x40),
    above _ (by decide : 0x24 < 0x40), above _ (by decide : 0x28 < 0x40), above _ (by decide : 0x2C < 0x40), if_false]
  rw [if_pos span, index]

theorem Dev.writeOpen_evstat (d : Dev) (n : Nv) {j : Nat} (hj : j < 8) (v : Word) :
    d.writeOpen n (0x40 + 4 * j) v = d.writeEvstat j v := by
  have index : (0x40 + 4 * j - 0x40) / 4 = j := by omega
  have low : 0x40 + 4 * j < 0x400 := by omega
  have span : 0x40 ≤ 0x40 + 4 * j ∧ 0x40 + 4 * j < 0x60 := by omega
  have above (o : Nat) (ho : o < 0x40) : ¬ 0x40 + 4 * j = o := by omega
  rw [writeOpen, if_pos low, writeGlb, if_neg (above _ (by decide)), if_neg (above _ (by decide)), if_neg (above _ (by decide)),
    if_neg (above _ (by decide)), if_pos span, index]

/-- Settles O46: the word reaches GLB_EVSTATj, whose filter keeps a class C bit while its condition stands. -/
theorem statusBitsClear : Obligations.StatusBitsClear := by
  intro j v s run hj
  have up : s.dev.windowUp = true := by simp [Dev.windowUp, run]
  have off : (BitVec.ofNat 24 (0x40 + 4 * j)).toNat = 0x40 + 4 * j := by
    rw [BitVec.toNat_ofNat, Nat.mod_eq_of_lt]
    omega
  refine ⟨{ s with dev := s.dev.writeEvstat j v }, ?_, fun e => ?_, rfl, rfl, rfl, rfl, rfl, rfl, rfl⟩
  · simp only [exec, execW1cWrite, State.onDev, off]
    rw [Dev.hostWriteAt_word s.nv up (by omega) (by omega) (leBytes_length 4 _), wd_leNat_leBytes,
      Dev.writeReg_open ?_ (by rw [Dev.regWord_evstat _ _ hj]; rfl) (by rw [reservedBits_evstat hj]; exact BitVec.and_zero),
      Dev.writeOpen_evstat _ _ hj]
    simp only [closedOff, Bool.or_eq_false_iff, beq_eq_false_iff_ne, Bool.and_eq_false_iff, decide_eq_false_iff_not]
    omega
  · simp only [Dev.writeEvstat, Dev.modGlb_ho, List.mem_filter, bit]
    cases v.getLsbD (e % 32) <;> simp
    by_cases word : e / 32 = j <;> simp [word]

/-! ### The ring window by quad-SPI (R262) -/

theorem winRead_add (m : Window) (a k l : Nat) : winRead m a (k + l) = winRead m a k ++ winRead m (a + k) l := by
  simp only [winRead, List.range_add, List.map_append, List.map_map, Function.comp_def, Nat.add_assoc]

theorem qspiStray_inside {a len : Nat} (lo : 0x40000 ≤ a) (hi : a + len ≤ 0x80000) : qspiStray a len = false := by
  simp only [qspiStray, List.any_eq_false, List.mem_range]
  intro i hi
  simp [qspiMapped]
  omega

theorem qspiWriteErr_inside {a len : Nat} (lo : 0x40000 ≤ a) (hi : a + len ≤ 0x80000) : qspiWriteErr a len = 0 := by
  have h₁ : ¬ a < 0x12000 := by omega
  have h₂ : ¬ a < 0x14000 := by omega
  have h₃ : ¬ a < 0x10000 := by omega
  simp [qspiWriteErr, qspiStray_inside lo hi, h₁, h₂, h₃, b2n]

/-- Inside the window a span reads its bytes and changes nothing. -/
theorem Dev.readSpan_window (d : Dev) (n : Nv) (w : Nat) : ∀ a len : Nat, 0x40000 ≤ a → a + len ≤ 0x80000 →
    (len = 0 ∨ len + a % 4 ≤ 4 * w) → d.readSpan n w a len = (d, winRead d.ho.win (a - 0x40000) len) := by
  induction w with
  | zero =>
    intro a len _ _ fuel
    obtain rfl : len = 0 := by omega
    rfl
  | succ w ih =>
    intro a len lo hi fuel
    by_cases empty : len = 0
    · subst empty
      rfl
    · set k := min len (4 - a % 4) with hk
      have word : d.readWordAt n (a - a % 4) (a % 4) k = (d, winRead d.ho.win (a - 0x40000) k) := by
        have span : 0x40000 ≤ a - a % 4 ∧ a - a % 4 < 0x80000 := by omega
        have start : a - a % 4 - 0x40000 + a % 4 = a - 0x40000 := by omega
        rw [readWordAt, if_neg (by omega), if_neg (by omega), if_pos span, start]
      have rest : a + k - 0x40000 = a - 0x40000 + k := by omega
      have whole : k + (len - k) = len := by omega
      rw [readSpan, if_neg empty]
      dsimp only
      rw [← hk, word]
      dsimp only
      rw [ih (a + k) (len - k) (by omega) (by omega) (by omega), rest, ← winRead_add, whole]

section
variable {a : BitVec 24} {b : List Byte} {n : Nat} {s : State} (mode : s.dev.qspiMode = true) (up : s.dev.windowUp = true)
include mode up

theorem exec_qspiWrite_window (lo : 0x40000 ≤ a.toNat) (hi : a.toNat + b.length ≤ 0x80000) :
    exec (.qspiWrite a b false) s =
      .next { s with dev := s.dev.onHo fun h => { h with qspi := 0, win := winWrite h.win (a.toNat - 0x40000) b } } := by
  have notBell : ¬ (0x10000 ≤ a.toNat ∧ a.toNat < 0x12000) := by omega
  simp only [exec, execQspiWrite, State.onDev, mode, up, Dev.not_recovery_of_windowUp up, Dev.qspiWrite,
    qspiWriteErr_inside lo hi, notBell]
  cases b with
  | nil => rfl
  | cons x t =>
    simp only [List.length_cons, Dev.qspiWords, lo, List.isEmpty_cons]
    rfl

theorem exec_qspiRead_window (lo : 0x40000 ≤ a.toNat) (hi : a.toNat + n ≤ 0x80000) :
    exec (.qspiRead a n false) s = .next { s with dev :=
      (s.dev.onHo fun h => { h with qspi := 0 }).reply (winRead s.dev.ho.win (a.toNat - 0x40000) n) } := by
  simp only [exec, execQspiRead, State.onDev, mode, up, Dev.not_recovery_of_windowUp up, qspiStray_inside lo hi]
  rw [Dev.readSpan_window s.dev s.nv (n / 4 + 2) a.toNat n lo hi (by omega)]
  rfl

end

/-- Settles O35: inside the window every byte is mapped, so a write ends without error and a read gives the window's bytes. -/
theorem quadSpiWindow : Obligations.QuadSpiWindow := by
  refine fun a b n s mode up => ⟨exec_qspiWrite_window mode up, exec_qspiRead_window mode up, ?_, ?_, ?_⟩
  · simp only [exec, execQspiStatus, State.onDev, mode, up]
    rfl
  · simp only [exec, execQspiWrite, State.onDev, mode]
    rfl
  · simp only [exec, execQspiRead, State.onDev, mode]
    rfl

/-- What was written to a canonical window is read back. -/
theorem winRead_winWrite {m : Window} (wf : winWf m = true) {a : Nat} {b : List Byte} (fits : a + b.length ≤ 262144) :
    winRead (winWrite m a b) a b.length = b := by
  refine List.ext_getElem (by simp [winRead]) fun i hi hb => ?_
  simp only [winRead, List.getElem_map, List.getElem_range, winGet_winWrite b m a _ wf]
  rw [if_pos (by omega), Nat.add_sub_cancel_left, List.getD_eq_getElem _ _ hb]

/-- Settles O36: the write fills the window's cells and the read takes them. -/
theorem quadSpiReadsBack : Obligations.QuadSpiReadsBack := by
  intro a b s t u mode up wf lo hi write read
  rw [exec_qspiWrite_window mode up lo hi, Host.Outcome.next.injEq] at write
  have modeT : t.dev.qspiMode = true := by rw [← write]; exact mode
  have upT : t.dev.windowUp = true := by rw [← write]; exact up
  rw [exec_qspiRead_window modeT upT lo hi, Host.Outcome.next.injEq] at read
  subst read write
  refine ⟨by
    rw [Dev.reply_out, Dev.onHo_ho, winRead_winWrite wf (by omega)], winWrite_wf b _ _ wf,
    fun k hk => ?_, rfl, rfl, rfl, rfl⟩
  simp only [Dev.reply_ho, Dev.onHo_ho, winGet_winWrite b _ _ _ wf]
  rw [if_neg (by omega)]

end Sys2Proof.Machine
end

section
/-! PROOFS. The admission of a descriptor (R276, R277, R279, R280, R285). -/

namespace Sys2Proof.Machine

/-! ### A ring that is there -/

theorem Dev.ring_of_look {d : Dev} {r : Nat} {g : Ring} (there : look r d.ho.rings = some g) : d.ring r = g := by
  rw [ring, there]
  rfl

/-- An update that leaves a ring in being replaces it in the ring list. -/
theorem Dev.modRing_rings {d : Dev} {r : Nat} {g : Ring} {f : Ring → Ring} (there : look r d.ho.rings = some g)
    (kept : (f g).st ≠ .none) : (d.modRing r f).ho.rings = assign r (f g) d.ho.rings := by
  simp only [modRing, there, setRing, onHo_ho, if_neg kept]

theorem Dev.modRing_tags (d : Dev) (r : Nat) (f : Ring → Ring) : (d.modRing r f).ho.tags = d.ho.tags := by
  unfold modRing
  split <;> rfl

theorem Dev.modRing_arb (d : Dev) (r : Nat) (f : Ring → Ring) : (d.modRing r f).ho.arb = d.ho.arb := by
  unfold modRing
  split <;> rfl

/-- A ring's update changes nothing but the host's part. -/
theorem Dev.modRing_parts (d : Dev) (r : Nat) (f : Ring → Ring) :
    (d.modRing r f).pw = d.pw ∧ (d.modRing r f).ms = d.ms ∧ (d.modRing r f).sy = d.sy := by
  unfold modRing
  split <;> exact ⟨rfl, rfl, rfl⟩

/-- A ring is admitted from only while it is ACTIVE. -/
theorem Dev.active_of_mayAdmit {d : Dev} {r : Nat} (turn : d.mayAdmit r = true) : (d.ring r).st = .active := by
  simp only [mayAdmit, admits, Bool.and_eq_true, beq_iff_eq] at turn
  tauto

/-! ### The admitted command -/

/-- The payload that is fetched with a descriptor; none for a marked slot. -/
def Dev.admitPayload (d : Dev) (g : Ring) (rd : HostRead) : List Byte :=
  if g.marked.contains g.head then [] else d.payloadBytes (d.descBytes g rd) rd

/-- Why an admission fails at once, if it does: the slot's mark, then the descriptor's checks. -/
def Dev.admitFailure (d : Dev) (r : Nat) (g : Ring) (rd : HostRead) : Option (Nat × Nat) :=
  if g.marked.contains g.head then some (stAborted, 0)
  else d.checkDesc r g g.seq (d.descBytes g rd) (d.admitPayload g rd) rd.payErr

/-- The record of the admitted command, due at once where a check fails. -/
def Dev.admitRec (d : Dev) (r : Nat) (tag : Nat) (g : Ring) (rd : HostRead) : TagRec :=
  let x : TagRec :=
    { tag := tag, ring := r, cls := g.cls, slot := g.head, desc := d.descBytes g rd, seq := g.seq,
      payload := d.admitPayload g rd }
  match d.admitFailure r g rd with
  | some f => { x with st := .due, status := f.1, result := f.2, payload := [] }
  | none => x

theorem Dev.admitRec_names (d : Dev) (r tag : Nat) (g : Ring) (rd : HostRead) :
    (d.admitRec r tag g rd).tag = tag ∧ (d.admitRec r tag g rd).ring = r ∧ (d.admitRec r tag g rd).slot = g.head ∧
      (d.admitRec r tag g rd).cls = g.cls ∧ (d.admitRec r tag g rd).seq = g.seq ∧
      (d.admitRec r tag g rd).desc = d.descBytes g rd := by
  unfold admitRec
  dsimp only
  split <;> exact ⟨rfl, rfl, rfl, rfl, rfl, rfl⟩

theorem Dev.admitRec_passed {d : Dev} {r : Nat} {g : Ring} {rd : HostRead} (tag : Nat) (passed : d.admitFailure r g rd = none) :
    (d.admitRec r tag g rd).st = .admitted := by
  simp only [admitRec, passed]

theorem Dev.admitRec_failed {d : Dev} {r : Nat} {g : Ring} {rd : HostRead} {f : Nat × Nat} (tag : Nat)
    (failed : d.admitFailure r g rd = some f) :
    (d.admitRec r tag g rd).st = .due ∧ (d.admitRec r tag g rd).status = f.1 ∧ (d.admitRec r tag g rd).result = f.2 := by
  simp only [admitRec, failed, and_self]

/-- The ring after an admission: head and SEQ advance, and the slot's mark is used up. -/
def Ring.admitted (g : Ring) (b : List Byte) (x : Ring) : Ring :=
  { x with seq := x.seq + 1, head := (x.head + 1) % x.sqLen, slots := assign g.head (leAt b 2 2) x.slots,
            marked := x.marked.filter (· ≠ g.head), fence := if byteAt b 1 % 2 = 1 then some g.seq else .none }

theorem exec_descriptorAdmit_turn {r : Fin 1024} {tag : Tag} {rd : HostRead} {g : Ring} {s : State}
    (free : s.dev.tagOf tag = none) (there : look r.val s.dev.ho.rings = some g) (turn : s.dev.mayAdmit r = true) :
    exec (.descriptorAdmit r tag rd) s = .next { s with dev := (
      ((s.dev.onHo fun h => { h with tags := s.dev.admitRec r tag g rd :: h.tags, arb := h.arb.served g.cls r }).countOutcome
        (s.dev.admitRec r tag g rd).status).modRing r (g.admitted (s.dev.descBytes g rd))) } := by
  simp only [exec, execDescriptorAdmit, State.onDev, turn, free, Dev.ring_of_look there]
  simp only [Bool.not_true, Option.isSome_none, Bool.or_self, Bool.false_eq_true, if_false]
  rfl

/-- Settles O32: the ring whose turn it is is ACTIVE, so its update and the new record show in the state after. -/
theorem descriptorAdmission : Obligations.DescriptorAdmission := by
  refine fun r tag rd g s free there => ⟨fun wait => ?_, fun turn => ?_⟩
  · simp only [exec, execDescriptorAdmit, State.onDev, wait]
    rfl
  · have active : g.st = .active := Dev.ring_of_look there ▸ Dev.active_of_mayAdmit turn
    set e := (s.dev.onHo fun h =>
      { h with tags := s.dev.admitRec r tag g rd :: h.tags, arb := h.arb.served g.cls r }).countOutcome
        (s.dev.admitRec r tag g rd).status with he
    have thereE : look r.val e.ho.rings = some g := there
    have rings : (e.modRing r (g.admitted (s.dev.descBytes g rd))).ho.rings =
        assign r.val (g.admitted (s.dev.descBytes g rd) g) s.dev.ho.rings :=
      Dev.modRing_rings thereE (show g.st ≠ .none by rw [active]; decide)
    have ring : (e.modRing r (g.admitted (s.dev.descBytes g rd))).ring r = g.admitted (s.dev.descBytes g rd) g :=
      Dev.ring_of_look (by rw [rings, look_assign, if_pos rfl])
    obtain ⟨hpw, hms, hsy⟩ := e.modRing_parts r (g.admitted (s.dev.descBytes g rd))
    obtain ⟨htag, hring, hslot, hcls, hseq, hdesc⟩ := s.dev.admitRec_names r tag g rd
    refine ⟨_, s.dev.admitRec r tag g rd, exec_descriptorAdmit_turn free there turn, ?_, hring, hslot, hcls,
      Dev.modRing_arb e _ _, hseq, hdesc, congrArg Ring.head ring, congrArg Ring.seq ring, fun marked => ?_,
      fun unmarked passed => ?_, fun f unmarked failed => ?_, hpw, hms, hsy, rfl, fun k hk => ?_⟩
    · have tags : e.ho.tags = s.dev.admitRec r tag g rd :: s.dev.ho.tags := rfl
      rw [Dev.tagOf, Dev.modRing_tags, tags, List.find?_cons_of_pos (by simpa using htag)]
    · obtain ⟨due, status, _⟩ := Dev.admitRec_failed (f := (stAborted, 0)) tag.val
        (show s.dev.admitFailure r g rd = some (stAborted, 0) by rw [Dev.admitFailure, if_pos marked])
      exact ⟨due, status⟩
    · refine Dev.admitRec_passed tag.val ?_
      rw [Dev.admitFailure, Dev.admitPayload, unmarked]
      exact passed
    · refine Dev.admitRec_failed tag.val ?_
      rw [Dev.admitFailure, Dev.admitPayload, unmarked]
      exact failed
    · dsimp only
      rw [rings, look_assign, if_neg hk]

end Sys2Proof.Machine
end

section
/-! PROOFS. The boundaries of a level (R210-R212, R217). -/

namespace Sys2Proof.Machine

theorem satInc_eq_min (cap n : Nat) : satInc cap n = min cap (n + 1) := by
  unfold satInc
  split <;> omega

namespace Sys

theorem level_setLevel (s : Sys) (l : Nat) (v : Level) : (s.setLevel l v).level l = v := by
  unfold setLevel level
  split
  · rfl
  · split <;> rfl

theorem setLevel_kept (s : Sys) (l : Nat) (v : Level) : (s.setLevel l v).time = s.time ∧ (s.setLevel l v).gridNew = s.gridNew ∧
    (s.setLevel l v).overruns = s.overruns := by
  unfold setLevel
  split
  · exact ⟨rfl, rfl, rfl⟩
  · split <;> exact ⟨rfl, rfl, rfl⟩

/-- An overrun of a level opens its episode and is counted. -/
def overrunOpened (s : Sys) (l : Nat) (v : Level) : Sys :=
  { s.setLevel l { v with episode := true } with overruns := satInc 255 s.overruns }

theorem overrunOpened_level (s : Sys) (l : Nat) (v : Level) : (s.overrunOpened l v).level l = { v with episode := true } :=
  s.level_setLevel l _

end Sys

/-- The level's record at a boundary: what the chain's crown or its SYNC gives as due, else the nominal place. -/
def Dev.bounded (d : Dev) (l : Nat) : Level :=
  (d.sy.level l).boundary l d.now (d.chainLag l) (if d.ln.chn.follows then d.crownDue l d.now
    else if d.ln.chn.syncLock then some (d.syncDue l ((d.sy.level l).count + 1)) else none)

/-- The device with a level's record moved on and the crown's due boundary used up. -/
def Dev.advanced (d : Dev) (l : Nat) : Dev :=
  (d.onSy fun s => s.setLevel l (d.bounded l)).modChn fun c =>
    if l = 1 then { c with dueC := c.dueC.drop 1 } else if l = 2 then { c with dueP := c.dueP.drop 1 } else c

/-- What a boundary does with the lag of its level: a late policy frame is marked, and an overrun raised once in its episode. -/
def Dev.lagged (d : Dev) (l : Nat) : Dev :=
  let v := d.sy.level l
  let e := d.onSy fun s => { s with pDirty := s.pDirty || v.lag != 0 || d.chainLag l != 0 }
  if 2 * levelPeriod l < max v.lag (e.chainLag l) ∧ v.episode = false then
    (e.onSy fun s => s.overrunOpened l v).raise
      evFrameOverrun .none (d2 l ++ dDur (max v.lag (e.chainLag l)))
  else e

theorem Dev.startGrid_old {d : Dev} (old : d.sy.gridNew = false) : d.startGrid = d := by
  rw [startGrid, old]
  rfl

/-- A boundary away from a new grid moves its level on and takes its lag. -/
theorem Dev.boundary_eq {d : Dev} {l : Nat} (grid : l = 0 → d.sy.gridNew = false) : d.boundary l = (d.advanced l).lagged l := by
  have start : (if l = 0 then (d.advanced l).startGrid else d.advanced l) = d.advanced l := by
    split
    · next h => exact startGrid_old ((d.sy.setLevel_kept l _).2.1.trans (grid h))
    · rfl
  exact congrArg (fun e : Dev => e.lagged l) start

theorem Dev.advanced_level (d : Dev) (l : Nat) : (d.advanced l).sy.level l = d.bounded l := d.sy.level_setLevel l _

/-- The lag changes nothing of a level but its episode, and nothing of the power path, the measurement and the time. -/
theorem Dev.lagged_kept (d : Dev) (l : Nat) : ((d.lagged l).sy.level l).count = (d.sy.level l).count ∧ (d.lagged l).pw = d.pw ∧
    (d.lagged l).ms = d.ms ∧ (d.lagged l).sy.time = d.sy.time := by
  unfold lagged
  dsimp only
  split
  · rw [raise_sy, raise_pw, raise_ms, onSy_sy, Sys.overrunOpened_level]
    exact ⟨rfl, rfl, rfl, (Sys.setLevel_kept _ l _).1⟩
  · exact ⟨rfl, rfl, rfl, rfl⟩

/-- A lag over two periods outside an episode raises FRAME_OVERRUN, counts it and opens the episode. -/
theorem Dev.lagged_overrun {d : Dev} {l : Nat} (late : 2 * levelPeriod l < (d.sy.level l).lag)
    (first : (d.sy.level l).episode = false) : evFrameOverrun ∈ (d.lagged l).ho.glb.evstat ∧
    ((d.lagged l).sy.level l).episode = true ∧ (d.lagged l).sy.overruns = min 255 (d.sy.overruns + 1) := by
  have both (n : Nat) : 2 * levelPeriod l < max (d.sy.level l).lag n ∧ (d.sy.level l).episode = false := ⟨lt_max_of_lt_left late, first⟩
  unfold lagged
  dsimp only
  rw [if_pos (both _)]
  refine ⟨raise_evstat _ _ _ _, ?_, ?_⟩
  · rw [raise_sy, onSy_sy, Sys.overrunOpened_level]
  · rw [raise_sy]
    exact satInc_eq_min 255 _

/-- What a boundary makes of a level's record where nothing outside gives its place (R210-R212). -/
theorem Level.boundary_own (v : Level) (l now rep : Nat) : let w := v.boundary l now rep none
    w.count = v.count + 1 ∧ w.last = now ∧ w.dt = now - v.last ∧ w.epoch = v.epoch ∧
      w.lag = ((now : Int) - (v.epoch + (v.count + 1) * levelPeriod l)).toNat ∧
      w.lagRun = (if w.lag = 0 ∧ rep = 0 then 0 else v.lagRun + 1) ∧
      w.episode = (v.episode && !(decide (w.lag = 0) && decide (rep = 0))) := by
  refine ⟨rfl, rfl, rfl, rfl, by simp [boundary], ?_, ?_⟩
  · simp only [boundary]
    grind
  · simp only [boundary]
    grind

/-- Settles O14: the record of the level by `Level.boundary`, then what its lag makes. -/
theorem levelGrid : Obligations.LevelGrid := by
  refine ⟨fun v l now rep => ?_, fun d l _ grid => ?_, fun d l _ role unlocked old first late => ?_⟩
  · obtain ⟨hcount, hlast, hdt, hepoch, hlag, hrun, hepisode⟩ := v.boundary_own l now rep
    refine ⟨hcount, hlast, hdt, hepoch, fun onTime => ?_, fun late => ?_⟩
    · have none : (v.boundary l now rep none).lag = 0 := by omega
      exact ⟨none, fun free => ⟨by rw [hrun, if_pos ⟨none, free⟩], by rw [hepisode, none, free]; simp⟩⟩
    · have some : (v.boundary l now rep none).lag ≠ 0 := by omega
      exact ⟨by omega, by rw [hrun, if_neg fun h => some h.1], by simp [hepisode, some]⟩
  · obtain ⟨count, hpw, hms, time⟩ := (d.advanced l).lagged_kept l
    rw [Dev.boundary_eq grid]
    refine ⟨?_, hpw, hms, time.trans (d.sy.setLevel_kept l _).1⟩
    rw [count, Dev.advanced_level]
    rfl
  · have alone : d.bounded l = (d.sy.level l).boundary l d.now 0 none := by
      simp [Dev.bounded, Dev.chainLag, Chain.follows, role, unlocked]
    obtain ⟨hcount, hlast, hdt, hepoch, hlag, hrun, hepisode⟩ := (d.sy.level l).boundary_own l d.now 0
    have lag : 2 * levelPeriod l < (d.bounded l).lag := by rw [alone]; omega
    have episode : (d.bounded l).episode = false := by rw [alone, hepisode, first]; rfl
    rw [Dev.boundary_eq fun _ => old]
    have overrun := Dev.lagged_overrun (d := d.advanced l) (l := l)
    rw [Dev.advanced_level] at overrun
    obtain ⟨raised, opened, counted⟩ := overrun lag episode
    exact ⟨raised, opened, counted.trans (by rw [show (d.advanced l).sy.overruns = d.sy.overruns from (d.sy.setLevel_kept l _).2.2])⟩

end Sys2Proof.Machine
end

section
/-! PROOFS. What events, declarations and retirements leave of the power path, and the reactions to a transient phase fault, a
transient mitten fault and a string overcurrent (R32, R61, R87-R89, R149, R238). -/

namespace Sys2Proof.Machine

/-! ### Elements of a bank -/

theorem getD_modify_or {α : Type} (l : List α) (n k : Nat) (f : α → α) (a : α) :
    (l.modify n f).getD k a = f (l.getD k a) ∨ (l.modify n f).getD k a = l.getD k a := by
  simp only [List.getD_eq_getElem?_getD, List.getElem?_modify]
  cases l[k]? with
  | none => exact .inr rfl
  | some x =>
    by_cases h : n = k
    · exact .inl (by simp [h])
    · exact .inr (by simp [h])

/-- A property of an element survives an update that keeps it. -/
theorem getD_modify_of {α : Type} {P : α → Prop} {l : List α} {k : Nat} {a : α} (n : Nat) {f : α → α} (h : P (l.getD k a))
    (hf : ∀ x, P x → P (f x)) : P ((l.modify n f).getD k a) := by
  rcases getD_modify_or l n k f a with e | e <;> rw [e]
  · exact hf _ h
  · exact h

theorem Dev.each_induct {P : Dev → Prop} {f : Nat → Dev → Dev} (hf : ∀ n e, P e → P (f n e)) :
    ∀ (l : List Nat) {d : Dev}, P d → P (d.each l f)
  | [], _, h => h
  | n :: t, d, h => each_induct hf t (d := f n d) (hf n d h)

theorem Dev.when_induct {P : Dev → Prop} {f : Dev → Dev} {c : Bool} {d : Dev} (h : P d) (hf : P d → P (f d)) : P (d.when c f) := by
  cases c
  · exact h
  · exact hf h

/-! ### Notices -/

/-- A notice leaves the power path and the clock, and clears no status bit. -/
structure Dev.notes (d e : Dev) : Prop where
  pw : e.pw = d.pw
  time : e.sy.time = d.sy.time
  tick : e.sy.tick = d.sy.tick
  evstat : ∀ ev ∈ d.ho.glb.evstat, ev ∈ e.ho.glb.evstat

namespace Dev

theorem notes.refl (d : Dev) : d.notes d := ⟨rfl, rfl, rfl, fun _ h => h⟩

theorem notes.trans {a b c : Dev} (h : a.notes b) (k : b.notes c) : a.notes c :=
  ⟨k.pw.trans h.pw, k.time.trans h.time, k.tick.trans h.tick, fun ev m => k.evstat ev (h.evstat ev m)⟩

theorem notes.now {d e : Dev} (h : d.notes e) : e.now = d.now := by rw [Dev.now, Dev.now, h.time]

section
variable (d : Dev) (ev : Nat) (inst : Option Nat) (data : List Byte)

theorem raise_notes : d.notes (d.raise ev inst data) :=
  ⟨raise_pw d ev inst data, by rw [raise_sy], by rw [raise_sy], fun e h => by
    rw [raise_glb]
    exact (mem_insertN ev e _).2 (.inr h)⟩

theorem addLog_notes (n time code k : Nat) : d.notes (d.addLog n time code k data) := ⟨rfl, rfl, rfl, fun _ h => h⟩

theorem offset_notes (unit : Nat) : d.notes (d.offset ev unit) := ⟨rfl, rfl, rfl, fun _ h => h⟩

theorem abandon_notes : d.notes d.abandon :=
  notes.trans (b := d.onSy fun s => { s with order := none, sleepNext := false }) ⟨rfl, rfl, rfl, fun _ h => h⟩
    (raise_notes _ _ _ _)

theorem wakeSleep_notes (cause : Nat) : d.notes (d.wakeSleep cause) := by
  unfold wakeSleep
  split
  · dsimp only
    split <;> exact ⟨rfl, rfl, rfl, fun _ h => h⟩
  · split
    · exact abandon_notes d
    · exact notes.refl d

theorem fault_notes : d.notes (d.fault ev inst data) :=
  ((raise_notes d ev inst data).trans (addLog_notes _ _ _ _ _ _)).trans (wakeSleep_notes _ _)

theorem fault_evstat : ev ∈ (d.fault ev inst data).ho.glb.evstat :=
  ((addLog_notes (d.raise ev inst data) _ _ _ _ _).trans (wakeSleep_notes _ _)).evstat ev (raise_evstat d ev inst data)

@[simp] theorem fault_pw : (d.fault ev inst data).pw = d.pw := (fault_notes d ev inst data).pw

end

/-- A property that notices and the end of a lead duty keep survives the declaration of an agent (R244). -/
theorem declare_induct {P : Dev → Prop} (noted : ∀ d e, notes d e → P d → P e)
    (lead : ∀ d m, P d → P (d.modMit m fun x => { x with lead := .none })) {d : Dev} (a : Nat) (h : P d) : P (d.declare a) := by
  have raised (e : Dev) (ev : Nat) (inst : Option Nat) (data : List Byte) (he : P e) : P (e.raise ev inst data) :=
    noted e _ (raise_notes e ev inst data) he
  have onSys (e : Dev) (g : Sys → Sys) (he : P e) (time : (g e.sy).time = e.sy.time) (tick : (g e.sy).tick = e.sy.tick) :
      P (e.onSy g) := noted e _ ⟨rfl, time, tick, fun _ m => m⟩ he
  have revoke (e : Dev) (b step res : Nat) (he : P e) : P (e.revoked b step res) :=
    raised _ _ _ _ (onSys e _ he rfl rfl)
  unfold declare declareAll
  refine each_induct (fun b e he => ?locks) _ (each_induct (fun b e he => ?boxes) _ (each_induct (fun b e he => ?seqs) _
    (each_induct (fun b e he => ?leads) _ (each_induct (fun b e he => ?declared) _ h))))
  case declared => exact raised _ _ _ _ (onSys e _ he rfl rfl)
  case leads => exact each_induct (fun m e he => revoke _ _ _ _ (lead e m he)) _ he
  case seqs =>
    refine each_induct (fun k e he => revoke _ _ _ _ ?_) _ he
    exact noted e _ ⟨rfl, rfl, rfl, fun _ m => m⟩ he
  case boxes =>
    refine each_induct (fun n e he => revoke _ _ _ _ ?_) _ he
    have moved : P (e.modMbx n fun y => { y.take with receiver := e.sy.activeSup, revoked := true }) := onSys e _ he rfl rfl
    split
    · exact noted _ _ (addLog_notes _ _ _ _ _ _) moved
    · exact moved
  case locks =>
    refine each_induct (fun n e he => revoke _ _ _ _ ?_) _ he
    have broken : P (e.modLck n fun _ => { owner := 0, broken := true, brokenBy := b }) := onSys e _ he rfl rfl
    exact raised _ _ _ _ (onSys _ _ broken rfl rfl)

end Dev

/-! ### A phase that leaves service (R61) -/

theorem mateOf_ne (p : Nat) : mateOf p ≠ p := by
  unfold mateOf
  split <;> omega

namespace Dev

theorem respread_ph (d : Dev) (m : Nat) : (d.respread m).pw.ph = d.pw.ph := by
  unfold respread
  split
  · split <;> rfl
  · rfl

/-- A phase that leaves at once is parked low. -/
theorem leave_phase {d : Dev} {p : Nat} {x : Phase} (there : d.pw.ph[p]? = some x) (st : PhaseSt) :
    (d.leave p st true).pw.ph[p]? = some (x.park st).low := by
  have parked : (d.modPh p fun x => (x.park st).low).pw.ph[p]? = some (x.park st).low := by simp [there]
  simp only [leave, if_true]
  split
  · exact parked
  · split
    · rw [respread_ph]
      split
      · exact (List.getElem?_modify_ne _ _ (mateOf_ne p)).trans parked
      · exact parked
    · exact parked

theorem phase_of_get {d : Dev} {p : Nat} {x : Phase} (there : d.pw.ph[p]? = some x) : d.phase p = x := getD_there _ _ _ _ there

/-- A retired phase stays RETIRED through the declaration of its agent. -/
theorem retirePhase_phase {d : Dev} {p : Nat} {x : Phase} (there : d.pw.ph[p]? = some x) (ev : Nat) :
    ∃ y, (d.retirePhase p ev).pw.ph[p]? = some y ∧ y.st = .retired ∧ y.lad.backoff = none ∧
      evPhaseRetired ∈ (d.retirePhase p ev).ho.glb.evstat := by
  let P (e : Dev) : Prop :=
    ∃ y, e.pw.ph[p]? = some y ∧ y.st = .retired ∧ y.lad.backoff = none ∧ evPhaseRetired ∈ e.ho.glb.evstat
  refine declare_induct (P := P) (fun d e noted ⟨y, hy, st, backoff, raised⟩ =>
    ⟨y, noted.pw ▸ hy, st, backoff, noted.evstat _ raised⟩) (fun _ _ h => h) _
    ⟨{ (x.park .retired).low with lad := x.lad.retire d.now }, ?_, rfl, rfl, fault_evstat _ _ _ _⟩
  rw [enterRetired, fault_pw, modPh_pw, List.getElem?_modify_eq, leave_phase there]
  rfl

theorem inService_eq {d : Dev} {p : Nat} {x : Phase} (there : d.pw.ph[p]? = some x) : d.inService p =
    (x.st == .active || x.st == .shed || x.st == .gauntlet || (x.st == .idle && x.idledAt == some d.sy.tick.count)) := by
  rw [inService, phase_of_get there]

/-- A transient fault in service below five retries: FAULTED with the ladder's backoff. -/
theorem phaseTransient_faulted {d : Dev} {p : Nat} {x : Phase} (there : d.pw.ph[p]? = some x) (ev : Nat)
    (serves : d.inService p = true) (fresh : x.lad.spent d.now = false) :
    (d.phaseTransient p ev).pw.ph[p]? =
      some { (x.park .faulted).low with lad := x.lad.enter d.now ev, rejoin := false, idledAt := .none } := by
  simp only [phaseTransient, serves, phase_of_get there, fresh, if_true, Bool.false_eq_true, if_false]
  rw [modPh_pw, List.getElem?_modify_eq, leave_phase there]
  rfl

theorem phaseTransient_idle {d : Dev} {p : Nat} (ev : Nat) (out : d.inService p = false) : d.phaseTransient p ev = d := by
  rw [phaseTransient, out]
  rfl

end Dev

/-- Settles O17: the phase in service leaves at once; any other is untouched. -/
theorem phaseTransient : Obligations.PhaseTransient := by
  refine fun d p ev x there => ⟨fun active fresh => ?_, fun active spent => ?_, fun out => ?_, fun idle now fresh => ?_⟩
  · exact ⟨_, Dev.phaseTransient_faulted there ev (by simp [Dev.inService_eq there, active]) fresh, rfl, rfl, rfl, rfl, rfl, rfl⟩
  · have serves : d.inService p = true := by simp [Dev.inService_eq there, active]
    have eq : d.phaseTransient p ev = d.retirePhase p ev := by
      simp only [Dev.phaseTransient, serves, Dev.phase_of_get there, spent, if_true]
    rw [eq]
    exact Dev.retirePhase_phase there ev
  · refine Dev.phaseTransient_idle ev ?_
    rw [Dev.inService_eq there]
    rcases out with st | ⟨st, tick⟩ | st | st
    · simp [st]
    · simp [st, tick]
    · simp [st]
    · simp [st]
  · exact ⟨_, Dev.phaseTransient_faulted there ev (by simp [Dev.inService_eq there, idle, now]) fresh, rfl, rfl⟩

end Sys2Proof.Machine
end

section
/-! PROOFS. The reactions to a string overcurrent and to a transient mitten fault (R32, R87, R88, R149, R238). -/

namespace Sys2Proof.Machine

namespace Dev

/-! ### Lends -/

/-- No source lends. -/
def noLend (d : Dev) : Prop := ∀ k, (d.source k).lend = none

theorem noLend_of_src {d e : Dev} (h : d.noLend) (src : e.pw.src = d.pw.src) : e.noLend := fun k => by
  rw [source, src]
  exact h k

theorem each_fixed {d : Dev} {f : Nat → Dev → Dev} (hf : ∀ n, f n d = d) (l : List Nat) : d.each l f = d :=
  each_induct (P := fun e => e = d) (fun n _ he => he ▸ hf n) l rfl

section
variable {d : Dev} (h : d.noLend) (reason : Nat)
include h

theorem endLend_noLend (k : Nat) : d.endLend k reason = d := by
  rw [endLend, h k]

theorem endLendOn_noLend (m : Nat) : d.endLendOn m reason = d := each_fixed (fun k => by rw [h k]) _

theorem endDonor_noLend (k : Nat) : d.endDonor k reason = d := each_fixed (fun k => by rw [h k]) _

end

/-! ### The end of an impedance run -/

/-- A run that ends with a code other than COMPLETE changes of the power path only the perturbation of its mitten. -/
theorem endImp_induct {P : Dev → Prop} (noted : ∀ d e, notes d e → P d → P e)
    (steady : ∀ d n, P d → P (d.modMit n fun m => { m with perturb := 0 })) {d : Dev} (h : P d) (k : Nat) {reason : Nat}
    (cut : reason ≠ 1) : P (d.endImp k reason) := by
  have aside (e f : Dev) (he : P e) (pw : f.pw = e.pw) (sy : f.sy = e.sy) (glb : f.ho.glb = e.ho.glb) : P f :=
    noted e f ⟨pw, by rw [sy], by rw [sy], fun ev m => by rw [glb]; exact m⟩ he
  unfold endImp
  split
  · exact h
  · dsimp only
    rw [if_neg cut]
    refine noted _ _ (raise_notes _ _ _ _) ?_
    split
    · exact aside _ _ (steady _ _ (aside d _ h rfl rfl rfl)) rfl rfl rfl
    · exact steady _ _ (aside d _ h rfl rfl rfl)

/-! ### A string that an overcurrent opens -/

/-- The strings, switches and sources of `d`, and its time. -/
def sameTies (d e : Dev) : Prop := e.pw.str = d.pw.str ∧ e.pw.sw = d.pw.sw ∧ e.pw.src = d.pw.src ∧ e.sy.time = d.sy.time

theorem sameTies_noted (d : Dev) : ∀ e f, notes e f → d.sameTies e → d.sameTies f := fun e f h ⟨str, sw, src, time⟩ => by
  rw [sameTies, h.pw, h.time]
  exact ⟨str, sw, src, time⟩

theorem idleMembers_sameTies {d e : Dev} (h : d.sameTies e) (m : Nat) : d.sameTies (e.idleMembers m) := by
  refine each_induct (fun p c hc => ?_) _ h
  dsimp only
  split <;> exact hc

theorem stopMit_sameTies {d e : Dev} (quiet : d.noLend) (h : d.sameTies e) (m : Nat) : d.sameTies (e.stopMit m) := by
  have idle := idleMembers_sameTies h m
  have still : (e.idleMembers m).noLend := noLend_of_src quiet idle.2.2.1
  rw [stopMit, endLendOn_noLend]
  · exact idle
  · exact still

theorem stopAt_sameTies {d e : Dev} (quiet : d.noLend) (h : d.sameTies e) (p : Nat) : d.sameTies (e.stopAt p) := by
  refine each_induct (fun m c hc => ?_) _ h
  split
  · exact hc
  · exact stopMit_sameTies quiet hc m

/-- The end of a precharge leaves the string's record but for the precharge itself. -/
theorem endPre_str (d : Dev) (k : Nat) : (d.endPre k).pw.str = d.pw.str.modify k fun x =>
    { x with preMit := .none, noPre := false, preOk := 0 } := by
  unfold endPre
  cases (d.string k).noPre <;> rfl

theorem endPre_kept (d : Dev) (k : Nat) : (d.endPre k).pw.sw = d.pw.sw ∧ (d.endPre k).pw.src = d.pw.src ∧
    (d.endPre k).sy = d.sy := by
  unfold endPre
  cases (d.string k).noPre <;> exact ⟨rfl, rfl, rfl⟩

/-- A switch with nothing blocked opens at once and no other changes. -/
theorem openNow_spec {d : Dev} {p : Nat} {w : Switch} (there : d.pw.sw[p]? = some w) (free : w.blocked = false) :
    (∃ v, (d.openNow p).pw.sw[p]? = some v ∧ v.mode = .off) ∧ (∀ i, i ≠ p → (d.openNow p).pw.sw[i]? = d.pw.sw[i]?) ∧
      (d.openNow p).pw.str = d.pw.str ∧ (d.openNow p).sy = d.sy := by
  have hw : d.switch p = w := getD_there _ _ _ _ there
  by_cases off : w.mode = .off
  · have same : d.openNow p = d := by
      rw [openNow, setSwitch, hw, if_pos off, unblock, hw, free]
      rfl
    rw [same]
    exact ⟨⟨w, there, off⟩, fun _ _ => rfl, rfl, rfl⟩
  · obtain ⟨v, moved, mode, blocked⟩ : ∃ v, (d.setSwitch p .off) = d.modSw p (fun x => { x with
        mode := .off, conduct := false, offTick := d.sy.tick.count }) ∧ v = ({ w with
        mode := .off, conduct := false, offTick := d.sy.tick.count } : Switch) ∧ v.blocked = false :=
      ⟨_, by rw [setSwitch, hw, if_neg off]; rfl, rfl, free⟩
    have atP : (d.setSwitch p .off).pw.sw[p]? = some v := by rw [moved, modSw_pw, List.getElem?_modify_eq, there, mode]; rfl
    have same : d.openNow p = d.setSwitch p .off := by
      rw [openNow, unblock, switch, getD_there _ _ _ _ atP, blocked]
      rfl
    rw [same]
    refine ⟨⟨v, atP, by rw [mode]⟩, fun i hi => ?_, by rw [moved]; rfl, by rw [moved]; rfl⟩
    rw [moved]
    exact List.getElem?_modify_ne _ _ (Ne.symm hi)

/-- What a string overcurrent does once the string's mittens have stopped. -/
def opened (d : Dev) (k : Nat) : Dev :=
  (((d.modStr k fun y => { y with iCeil := 0, chgMit := .none }).endPre k).endDonor k 8).openNow (12 + k)

/-- The opening moves one switch, and leaves the string without a charge ceiling. -/
theorem opened_spec {d e : Dev} {k : Nat} {x : Str} {w : Switch} (same : d.sameTies e) (quiet : d.noLend)
    (hx : d.pw.str[k]? = some x) (hw : d.pw.sw[12 + k]? = some w) (free : w.blocked = false) :
    (∃ v, (e.opened k).pw.sw[12 + k]? = some v ∧ v.mode = .off) ∧
      (∀ i, i ≠ 12 + k → (e.opened k).pw.sw[i]? = d.pw.sw[i]?) ∧
      (∃ y, (e.opened k).pw.str[k]? = some y ∧ y.iCeil = 0 ∧ y.chgMit = none ∧ y.lad = x.lad) ∧
      (e.opened k).now = d.now := by
  obtain ⟨str, sw, src, time⟩ := same
  set g := e.modStr k fun y => { y with iCeil := 0, chgMit := .none } with hg
  obtain ⟨preSw, preSrc, preSy⟩ := g.endPre_kept k
  have still : (g.endPre k).noLend := noLend_of_src quiet (preSrc.trans src)
  have tie : (g.endPre k).pw.sw[12 + k]? = some w := by rw [preSw, hg, modStr_pw, sw, hw]
  obtain ⟨off, others, sameStr, sameSy⟩ := openNow_spec tie free
  have eq : e.opened k = (g.endPre k).openNow (12 + k) := by rw [opened, ← hg, endDonor_noLend still]
  rw [eq]
  refine ⟨off, fun i hi => ?_, ⟨{ x with iCeil := 0, chgMit := .none, preMit := .none, noPre := false, preOk := 0 }, ?_, rfl, rfl, rfl⟩, ?_⟩
  · rw [others i hi, preSw, hg, modStr_pw, sw]
  · rw [sameStr, endPre_str, List.getElem?_modify_eq, hg, modStr_pw, List.getElem?_modify_eq, str, hx]
    rfl
  · rw [now, sameSy, preSy, hg, modStr_sy, time, now]

/-- A string overcurrent below five retries, in its parts. -/
theorem stringFault_overcurrent (d : Dev) (k : Nat) : d.stringFault k evStringOvercurrent evStringOvercurrent true =
    let f := (d.endImp k 8).fault evStringOvercurrent (some (strNode k)) []
    let e := (f.stopAt (12 + k)).opened k
    if (f.string k).lad.spent e.now then e.retireString k evStringOvercurrent
    else e.modStr k fun y => { y with st := .faulted, lad := y.lad.enter e.now evStringOvercurrent, cnt := [0, 0, 0, 0] } := by
  unfold stringFault
  simp only [true_or, if_true]
  rfl

end Dev

/-- Settles O24: up to the opening the strings and switches stand, and the opening moves one switch. -/
theorem overcurrentOpensTie : Obligations.OvercurrentOpensTie := by
  intro d k x w hx hw free fresh quiet
  have start : d.sameTies d := ⟨rfl, rfl, rfl, rfl⟩
  have faulted := Dev.sameTies_noted d _ _ (Dev.fault_notes (d.endImp k 8) evStringOvercurrent (some (strNode k)) [])
    (Dev.endImp_induct (Dev.sameTies_noted d) (fun _ _ h => h) start k (by decide))
  rw [Dev.stringFault_overcurrent]
  generalize (d.endImp k 8).fault evStringOvercurrent (some (strNode k)) [] = f at faulted ⊢
  obtain ⟨⟨v, hv, off⟩, others, ⟨y, hy, ceil, chg, lad⟩, now⟩ :=
    Dev.opened_spec (Dev.stopAt_sameTies quiet faulted (12 + k)) quiet hx hw free
  have old : f.string k = x := by
    rw [Dev.string, faulted.1]
    exact getD_there _ _ _ _ hx
  dsimp only
  generalize (f.stopAt (12 + k)).opened k = e at *
  simp only [old, now, fresh, Bool.false_eq_true, if_false, Dev.modStr_pw, List.getElem?_modify_eq, hy]
  exact ⟨_, v, rfl, hv, rfl, ceil, chg, rfl, off, others⟩

end Sys2Proof.Machine
end

section
/-! PROOFS. The reaction to a transient mitten fault, and its escalation after five retries (R87, R88, R238). -/

namespace Sys2Proof.Machine

namespace Dev

/-- A mitten that a fault retired: RETIRED by it, none of its members ACTIVE, no source lending, and both events raised. -/
structure mitOut (d : Dev) (m ev : Nat) (members : List Nat) : Prop where
  mit : ∃ y, d.pw.mit[m]? = some y ∧ y.st = .retired ∧ y.retiredBy = ev
  idle : ∀ p ∈ members, (d.phase p).st ≠ .active
  quiet : d.noLend
  raised : ev ∈ d.ho.glb.evstat
  retired : evMittenRetired ∈ d.ho.glb.evstat

/-! ### Members that leave -/

theorem stopSt_ne_active (x : Phase) : x.stopSt ≠ .active := by
  unfold Phase.stopSt
  split <;> decide

theorem modPh_idle {d : Dev} {p : Nat} (h : (d.phase p).st ≠ .active) (q : Nat) {f : Phase → Phase}
    (hf : ∀ x, x.st ≠ .active → (f x).st ≠ .active) : ((d.modPh q f).phase p).st ≠ .active :=
  getD_modify_of (P := fun x : Phase => x.st ≠ .active) q h hf

theorem modPh_phase (d : Dev) (p : Nat) (f : Phase → Phase) : (d.modPh p f).phase p = f (d.phase p) ∨
    (d.modPh p f).phase p = d.phase p ∧ d.phase p = {} := by
  simp only [phase, modPh_pw, List.getD_eq_getElem?_getD, List.getElem?_modify_eq]
  cases d.pw.ph[p]? with
  | none => exact .inr ⟨rfl, rfl⟩
  | some x => exact .inl rfl

/-- One member that a stop idles, and one that it does not reach. -/
theorem idleOne_idle (d : Dev) (q : Nat) :
    let e := if (d.phase q).st = .active ∨ (d.phase q).st = .shed ∨ (d.phase q).st = .gauntlet then
      (d.modPh q fun x => { x.park x.stopSt with revSw := false, rejoin := false }) else d
    (e.phase q).st ≠ .active ∧ ∀ p, (d.phase p).st ≠ .active → (e.phase p).st ≠ .active := by
  dsimp only
  split
  · refine ⟨?_, fun p hp => modPh_idle hp q fun x _ => stopSt_ne_active x⟩
    rcases modPh_phase d q fun x => { x.park x.stopSt with revSw := false, rejoin := false } with h | ⟨h, none⟩
    · rw [h]
      exact stopSt_ne_active _
    · rw [h, none]
      decide
  · next h => exact ⟨fun active => h (.inl active), fun _ hp => hp⟩

theorem idleMembers_kept {d : Dev} {p : Nat} (h : (d.phase p).st ≠ .active) (m : Nat) : ((d.idleMembers m).phase p).st ≠ .active :=
  each_induct (P := fun e => (e.phase p).st ≠ .active) (fun q e he => (idleOne_idle e q).2 p he) _ h

theorem idleMembers_idle (d : Dev) (m p : Nat) (member : p ∈ (d.mitE m).members) : ((d.idleMembers m).phase p).st ≠ .active := by
  unfold idleMembers
  generalize (d.mitE m).members = l at member
  induction l generalizing d with
  | nil => simp at member
  | cons q t ih =>
    rw [each_cons]
    rcases List.mem_cons.1 member with rfl | tail
    · exact each_induct (P := fun e => (e.phase p).st ≠ .active) (fun q e he => (idleOne_idle e q).2 p he) _ (idleOne_idle d p).1
    · exact ih _ tail

theorem idleMembers_parts (d : Dev) (m : Nat) : (d.idleMembers m).pw.mit = d.pw.mit ∧ (d.idleMembers m).pw.src = d.pw.src ∧
    (d.idleMembers m).ho = d.ho ∧ (d.idleMembers m).sy = d.sy := by
  refine each_induct (P := fun e => e.pw.mit = d.pw.mit ∧ e.pw.src = d.pw.src ∧ e.ho = d.ho ∧ e.sy = d.sy)
    (fun p e he => ?_) _ ⟨rfl, rfl, rfl, rfl⟩
  dsimp only
  split <;> exact he

/-- What a protection that drops a mitten's members leaves. -/
theorem dropMembers_parts (d : Dev) (m : Nat) : (d.dropMembers m).pw.mit = d.pw.mit ∧ (d.dropMembers m).pw.src = d.pw.src ∧
    (d.dropMembers m).ho = d.ho ∧ (d.dropMembers m).sy = d.sy := by
  let P (e : Dev) : Prop := e.pw.mit = d.pw.mit ∧ e.pw.src = d.pw.src ∧ e.ho = d.ho ∧ e.sy = d.sy
  have one (q : Nat) (f : Phase → Phase) (e : Dev) (he : P e) : P (e.modPh q f) := he
  exact each_induct (P := P) (fun q e => one q _ e) _ (each_induct (P := P) (fun q e => one q _ e) _ (idleMembers_parts d m))

theorem dropMembers_idle (d : Dev) (m p : Nat) (member : p ∈ (d.mitE m).members) : ((d.dropMembers m).phase p).st ≠ .active := by
  let P (e : Dev) : Prop := (e.phase p).st ≠ .active
  have stamped (q : Nat) (e : Dev) (he : P e) : P (e.modPh q fun x => { x with idledAt := some d.sy.tick.count }) :=
    modPh_idle he q fun _ h => h
  have low (q : Nat) (e : Dev) (he : P e) : P (e.modPh q Phase.low) := modPh_idle he q fun _ h => h
  exact each_induct (P := P) low _ (each_induct (P := P) stamped _ (idleMembers_idle d m p member))

/-! ### What the escalation leaves -/

section
variable {m ev : Nat} {members : List Nat}

theorem mitOut_noted (d e : Dev) (h : d.notes e) (out : d.mitOut m ev members) : e.mitOut m ev members where
  mit := by rw [h.pw]; exact out.mit
  idle := fun p hp => by rw [phase, h.pw]; exact out.idle p hp
  quiet := noLend_of_src out.quiet (by rw [h.pw])
  raised := h.evstat _ out.raised
  retired := h.evstat _ out.retired

variable {d : Dev} (out : d.mitOut m ev members)
include out

theorem modMit_mitOut (n : Nat) {f : Mitten → Mitten}
    (hf : n = m → ∀ x, x.st = .retired → (f x).st = .retired ∧ (f x).retiredBy = x.retiredBy) : (d.modMit n f).mitOut m ev members where
  mit := by
    obtain ⟨y, hy, st, by'⟩ := out.mit
    by_cases h : n = m
    · obtain ⟨stays, by''⟩ := hf h y st
      exact ⟨f y, by rw [modMit_pw, h, List.getElem?_modify_eq, hy]; rfl, stays, by''.trans by'⟩
    · exact ⟨y, (List.getElem?_modify_ne _ _ h).trans hy, st, by'⟩
  idle := out.idle
  quiet := out.quiet
  raised := out.raised
  retired := out.retired

theorem modSrc_mitOut (n : Nat) {f : Source → Source} (hf : ∀ x, x.lend = none → (f x).lend = none) : (d.modSrc n f).mitOut m ev members where
  mit := out.mit
  idle := out.idle
  quiet := fun k => getD_modify_of (P := fun x : Source => x.lend = none) n (out.quiet k) hf
  raised := out.raised
  retired := out.retired

theorem idleMembers_mitOut (n : Nat) : (d.idleMembers n).mitOut m ev members := by
  obtain ⟨mit, src, ho, _⟩ := d.idleMembers_parts n
  exact ⟨by rw [mit]; exact out.mit, fun p hp => idleMembers_kept (out.idle p hp) n, noLend_of_src out.quiet src,
    by rw [ho]; exact out.raised, by rw [ho]; exact out.retired⟩

theorem declare_mitOut (a : Nat) : (d.declare a).mitOut m ev members :=
  declare_induct mitOut_noted (fun _ n h => modMit_mitOut h n fun _ _ st => ⟨st, rfl⟩) a out

/-- A direction change leaves a retired mitten where it is. -/
theorem changeMit_mitOut (n : Nat) : (d.changeMit n).mitOut m ev members := by
  unfold changeMit
  split
  · exact modMit_mitOut out n fun _ _ st => ⟨st, rfl⟩
  · have due := modMit_mitOut (f := fun y => { y with changeDue := false }) out n fun _ _ st => ⟨st, rfl⟩
    unfold stopForChange
    dsimp only
    split
    · exact due
    · next loud =>
      have other : n ≠ m := by
        rintro rfl
        obtain ⟨y, hy, st, _⟩ := out.mit
        rw [mitten, getD_there _ _ _ _ hy, Mitten.quiet, st] at loud
        exact loud rfl
      have stopped := modMit_mitOut (f := fun y => { y.clearLoop with st := .stopped, dChange := true })
        (idleMembers_mitOut due n) n fun h => absurd h other
      rw [endLendOn_noLend stopped.quiet]
      exact stopped

theorem outgoing_mitOut (k : Nat) : (d.outgoing k).mitOut m ev members := by
  have cut := modSrc_mitOut (f := Source.noRations) out k fun _ h => h
  unfold outgoing
  dsimp only
  split
  · exact each_induct (P := fun e => e.mitOut m ev members) (fun n _ he => changeMit_mitOut he n) _ cut
  · exact cut

theorem retireSource_mitOut (k fault : Nat) : (d.retireSource k fault).mitOut m ev members := by
  unfold retireSource
  dsimp only
  rw [endLend_noLend out.quiet]
  refine declare_mitOut (mitOut_noted _ _ (fault_notes _ _ _ _) ?_) _
  have gone := modSrc_mitOut (f := fun x => { x.noRations with
    st := .retired, lad := x.lad.retire d.now, selAt := .none, scan := .none, surge := false, pendClose := false }) out k fun _ h => h
  refine when_induct (P := fun e => e.mitOut m ev members) gone fun h => ?_
  obtain ⟨mit, idle, quiet, raised, retired⟩ := outgoing_mitOut h k
  exact ⟨mit, idle, quiet, raised, retired⟩

theorem endPre_mitOut (k : Nat) : (d.endPre k).mitOut m ev members := by
  unfold endPre
  obtain ⟨mit, idle, quiet, raised, retired⟩ := out
  exact when_induct (P := fun e => e.mitOut m ev members) ⟨mit, idle, quiet, raised, retired⟩ (mitOut_noted _ _ (offset_notes _ _ _))

theorem retireString_mitOut (k fault : Nat) : (d.retireString k fault).mitOut m ev members := by
  have ended := endImp_induct (P := fun e => e.mitOut m ev members) mitOut_noted
    (fun _ n h => modMit_mitOut h n fun _ _ st => ⟨st, rfl⟩) out k (reason := 8) (by decide)
  unfold retireString
  rw [endDonor_noLend ended.quiet]
  refine declare_mitOut (mitOut_noted _ _ (fault_notes _ _ _ _) ?_) _
  obtain ⟨mit, idle, quiet, raised, retired⟩ := endPre_mitOut ended k
  exact ⟨mit, idle, quiet, raised, retired⟩

/-- The escalation retires ports and leaves the retired mitten. -/
theorem escalate_mitOut (n code : Nat) : (d.escalate n code).mitOut m ev members := by
  have noted (e : Dev) (he : e.mitOut m ev members) (inst : Option Nat) : (e.raise evPortEscalated inst []).mitOut m ev members :=
    mitOut_noted _ _ (raise_notes _ _ _ _) he
  unfold escalate
  split
  · exact out
  · refine each_induct (P := fun e => e.mitOut m ev members) (fun p c hc => ?_) _ out
    dsimp only
    split
    · exact hc
    · split
      · split
        · exact hc
        · exact noted _ (retireSource_mitOut hc p _) _
      · split
        · exact hc
        · exact noted _ (retireString_mitOut hc _ _) _

end

/-! ### The fault -/

/-- The device with the fault raised and the members dropped. -/
def mitDropped (d : Dev) (m ev : Nat) : Dev := (d.fault ev (some m) []).dropMembers m

theorem mitDropped_spec {d : Dev} (quiet : d.noLend) (m ev : Nat) : (d.mitDropped m ev).pw.mit = d.pw.mit ∧
    (d.mitDropped m ev).now = d.now ∧ (d.mitDropped m ev).noLend ∧ ev ∈ (d.mitDropped m ev).ho.glb.evstat ∧
    ∀ p ∈ (d.mitE m).members, ((d.mitDropped m ev).phase p).st ≠ .active := by
  have notes := fault_notes d ev (some m) []
  have raised := fault_evstat d ev (some m) []
  unfold mitDropped
  generalize d.fault ev (some m) [] = f at notes raised ⊢
  obtain ⟨mit, src, ho, sy⟩ := f.dropMembers_parts m
  refine ⟨by rw [mit, notes.pw], by rw [now, sy, notes.time, now], noLend_of_src quiet (by rw [src, notes.pw]), by rw [ho]; exact raised,
    fun p hp => dropMembers_idle f m p ?_⟩
  rw [mitE, notes.pw]
  exact hp

theorem mittenFault_eq {d : Dev} (quiet : d.noLend) (m ev : Nat) : d.mittenFault m ev [] =
    let e := d.mitDropped m ev
    if (d.mitten m).lad.spent e.now then
      ((e.modMit m fun x => { x.clearLoop with st := .retired, retiredAt := e.now, retiredBy := ev, lad := x.lad.retire e.now }).fault
        evMittenRetired (some m) []).escalate m ev
    else e.modMit m fun x => { x.clearLoop with st := .faulted, lad := x.lad.enter e.now ev } := by
  obtain ⟨_, _, still, _⟩ := mitDropped_spec quiet m ev
  have lad : (d.fault ev (some m) []).mitten m = d.mitten m := by rw [mitten, fault_pw, mitten]
  unfold mittenFault
  dsimp only
  rw [lad]
  rw [mitDropped] at still
  rw [endLendOn_noLend still]
  rfl

end Dev

/-- Settles O19: the members leave first; below five retries the mitten is FAULTED, else its retirement stands through the
escalation. -/
theorem mittenFaultReaction : Obligations.MittenFaultReaction := by
  intro d m ev x there quiet _ _ _ _
  obtain ⟨mit, now, still, raised, idle⟩ := Dev.mitDropped_spec quiet m ev
  rw [Dev.mittenFault_eq quiet]
  have hx : d.mitten m = x := getD_there _ _ _ _ there
  generalize d.mitDropped m ev = e at *
  dsimp only
  rw [hx, now]
  cases spent : x.lad.spent d.now
  · simp only [Bool.false_eq_true, if_false]
    refine ⟨raised, idle, fun _ => ⟨{ x.clearLoop with st := .faulted, lad := x.lad.enter d.now ev }, ?_, rfl, rfl, rfl, rfl⟩, nofun⟩
    rw [Dev.modMit_pw, List.getElem?_modify_eq, mit, there]
    rfl
  · simp only [if_true]
    set f := e.modMit m fun x => { x.clearLoop with
      st := .retired, retiredAt := d.now, retiredBy := ev, lad := x.lad.retire d.now } with hf
    have notes := Dev.fault_notes f evMittenRetired (some m) []
    have atM : f.pw.mit[m]? = some { x.clearLoop with
        st := .retired, retiredAt := d.now, retiredBy := ev, lad := x.lad.retire d.now } := by
      rw [hf, Dev.modMit_pw, List.getElem?_modify_eq, mit, there]
      rfl
    have out : (f.fault evMittenRetired (some m) []).mitOut m ev (d.mitE m).members :=
      ⟨⟨_, by rw [notes.pw]; exact atM, rfl, rfl⟩, fun p hp => by rw [Dev.phase, notes.pw]; exact idle p hp,
        Dev.noLend_of_src still (by rw [notes.pw]; rfl), notes.evstat _ raised, Dev.fault_evstat _ _ _ _⟩
    obtain ⟨⟨y, hy, st, by'⟩, members, _, code, retired⟩ := Dev.escalate_mitOut out m ev
    exact ⟨code, members, nofun, fun _ => ⟨y, hy, st, by', retired⟩⟩

end Sys2Proof.Machine
end

section
/-! PROOFS. The timers' commands and events, and the motion pulses (R366-R371). -/

namespace Sys2Proof.Machine

theorem fld_eq (w : Word) (lo n : Nat) : fld w lo n = w.toNat / 2 ^ lo % 2 ^ n := bits_eq_div_mod _ _ _

/-- The reserved bits of TMRt_MODE are 31:14. -/
theorem fld_mode_reserved {v : Word} (short : v.toNat < 16384) : fld v 14 18 = 0 := by
  rw [fld_eq, Nat.div_eq_of_lt (by exact short), Nat.zero_mod]

/-- A master must be of a lower number, except where nothing uses one (R370). -/
theorem modeInvalid_iff (t clkSel : Nat) (v : Word) : modeInvalid t clkSel v = true ↔
    t ≤ v.toNat % 16 ∧ (t ≠ 0 ∨ v.toNat % 64 ≠ 0 ∨ v.getLsbD 13 = true ∨ clkSel = 3) := by
  simp only [modeInvalid, fld_eq, bit, pow_zero, Nat.div_one, Bool.and_eq_true, decide_eq_true_eq, Bool.not_eq_true',
    Bool.and_eq_false_iff, beq_eq_false_iff_ne, Bool.not_eq_false', bne_eq_false_iff_eq]
  tauto

theorem exec_tmrModeWrite {t : Fin 16} {v : Word} (s : State) (short : v.toNat < 16384) : exec (.tmrModeWrite t v) s =
    .next { s with dev := if modeInvalid t (s.dev.timer t).clkSel v then s.dev.raise evTmrConfigInvalid .none []
      else s.dev.modTmr t fun x => { x with mode := v } } := by
  simp only [exec, execTmrModeWrite, State.onDev, Dev.writeMode, fld_mode_reserved short]
  rfl

/-- A counted edge counts only where the timer's clock is the one of the edge and its gate is open (R366, R370). -/
theorem exec_tmrCountedEdge (t : Fin 16) (s : State) : exec (.tmrCountedEdge t) s = .next { s with dev := (
    if s.dev.sy.timersRun = true ∧ s.dev.clocked t = true ∧
      ¬((s.dev.timer t).slaveMode = 1 ∧ (s.dev.timer (s.dev.timer t).master).run = false) then s.dev.modTmr t Timer.edge else s.dev) } := by
  simp [exec, execTmrCountedEdge, State.onDev, and_assoc, imp_iff_not_or]

theorem Timer.edge_eq : Timer.edge = fun x : Timer => if x.run then
    { x with count := x.count + 1, atCmp := x.count + 1 == x.cmp && x.count + 1 != 0,
             atTop := x.count + 1 == x.top && x.count + 1 != 0 } else x := by
  funext x
  unfold edge
  cases x.run <;> rfl

theorem Dev.modTmr_at {d : Dev} {n : Nat} {x : Timer} (there : d.sy.tmr[n]? = some x) (f : Timer → Timer) :
    d.modTmr n f = d.modTmr n fun _ => f x :=
  congrArg (fun l => ({ d with sy := { d.sy with tmr := l } } : Dev)) <|
    modify_agree d.sy.tmr n f (fun _ => f x) fun y hy => by rw [there] at hy; cases hy; rfl

/-- A timer without an interrupt announces nothing. -/
theorem Dev.timerEvent_silent {d : Dev} {t : Nat} (ev : Nat) (silent : (d.timer t).irqEn = false) : d.timerEvent t ev = d := by
  rw [timerEvent, silent]
  rfl

theorem Dev.timer_modTmr {d : Dev} {t : Nat} {x : Timer} (there : d.sy.tmr[t]? = some x) (y : Timer) :
    (d.modTmr t fun _ => y).timer t = y := by
  simp [timer, there]

theorem Timer.act_noOutput {x : Timer} (off : x.ctrl.getLsbD 18 = false) (a : Nat) : x.act a = x := by
  rw [act, bit, off]
  rfl

/-- A timer is no slave of itself, so its own update leaves its slaves. -/
theorem Dev.slaves_modTmr (d : Dev) (t : Nat) (f : Timer → Timer) : (d.modTmr t f).slaves t = d.slaves t := by
  refine List.filter_congr fun i _ => ?_
  by_cases above : t < i
  · have same : (d.modTmr t f).timer i = d.timer i := by simp [timer, List.getElem?_modify_ne, above.ne]
    rw [same]
  · simp [above]

section
variable {d : Dev} {t : Nat} {x : Timer} (there : d.sy.tmr[t]? = some x) (alone : d.slaves t = []) (silent : x.irqEn = false)
  (noOutput : x.ctrl.getLsbD 18 = false)
include there alone silent noOutput

theorem Dev.compareEvent_alone : d.compareEvent t =
    d.modTmr t fun _ => { x with cmpFlag := true, hits := min 3 (x.hits + 1), atCmp := false } := by
  have quiet (y : Timer) (h : y.irqEn = false) : (d.modTmr t fun _ => y).timerEvent t evTmrCompare = d.modTmr t fun _ => y :=
    timerEvent_silent _ ((congrArg Timer.irqEn (timer_modTmr there y)).trans h)
  unfold compareEvent
  dsimp only
  rw [slaves_modTmr, alone, each_nil, modTmr_at there, Timer.act_noOutput (by exact noOutput), ite_self, satInc_eq_min]
  exact quiet _ silent

theorem Dev.endEvent_alone (still : d.sy.motion.ctl.getLsbD 0 = false) : d.endEvent t =
    d.modTmr t fun _ => { x with run := false, endFlag := true, atTop := false } := by
  have quiet (y : Timer) (h : y.irqEn = false) : (d.modTmr t fun _ => y).timerEvent t evTmrEnd = d.modTmr t fun _ => y :=
    timerEvent_silent _ ((congrArg Timer.irqEn (timer_modTmr there y)).trans h)
  unfold endEvent
  dsimp only
  rw [slaves_modTmr, alone, each_nil, modTmr_at there, Timer.act_noOutput (by exact noOutput), ite_self, bit, still]
  exact quiet _ silent

end

/-- Settles O4: each row's own update, with a master's and an event's conditions by the lemmas above. -/
theorem timers : Obligations.Timers := by
  refine ⟨fun t v s => ⟨rfl, rfl, ?edge, ?gated, ?capture, rfl, rfl, rfl, ?mode, ?noMaster, ?noClock, ?clocked⟩,
    ⟨?compare, ?top, fun _ _ => rfl, ?events⟩, ?moving, ?still⟩
  case edge =>
    intro runs open' clock aux
    have clocked : s.dev.clocked t = true := by
      simp only [Dev.clocked, fld_eq, Bool.and_eq_true, bne_iff_ne, Bool.or_eq_true, beq_iff_eq]
      exact ⟨clock, or_iff_not_imp_left.2 fun two => aux (not_not.1 two)⟩
    rw [exec_tmrCountedEdge, if_pos ⟨runs, clocked, fun gate => open' gate.1⟩, Timer.edge_eq]
  case gated =>
    intro slave idle
    rw [exec_tmrCountedEdge, if_neg fun h => h.2.2 ⟨slave, idle⟩]
  case capture =>
    intro edge
    simp only [exec, execTmrCapture, State.onDev, edge, if_false]
    rfl
  case mode =>
    intro short lower
    rw [exec_tmrModeWrite s short, if_neg fun h => absurd ((modeInvalid_iff _ _ _).1 h).1 (Nat.not_le.2 lower)]
  case noMaster =>
    intro short above used
    rw [exec_tmrModeWrite s short, if_pos ((modeInvalid_iff _ _ _).2 ⟨above, .inr (.inl used)⟩)]
  case noClock =>
    intro short above three
    rw [exec_tmrModeWrite s short, if_pos ((modeInvalid_iff _ _ _).2 ⟨above, .inr (.inr (.inr three))⟩)]
  case clocked =>
    intro three
    have unclocked : s.dev.clocked t = false := by simp [Dev.clocked, three]
    rw [exec_tmrCountedEdge, if_neg fun h => by rw [unclocked] at h; exact absurd h.2.1 (by decide)]
  case compare =>
    intro t s run atCmp enabled
    simp only [exec, execTmrCompare, State.onDev, run, atCmp, enabled]
    rfl
  case top =>
    intro t s run atTop other
    simp only [exec, execTmrEnd, State.onDev, run, atTop]
    rcases other with h | h <;> simp [h]
  case events =>
    exact fun t x d there alone silent noOutput => ⟨Dev.compareEvent_alone there alone silent noOutput,
      Dev.endEvent_alone there alone silent noOutput⟩
  case moving =>
    intro s en still above
    simp only [exec, execMotionChanged, State.onDev, en, still, above, decide_true, Bool.and_self, Bool.not_false, Bool.true_or, if_true]
    rfl
  case still =>
    intro s moving calm
    have ended : fld s.dev.sy.motion.ctl 12 10 * 1000000000 ≤ s.dev.sy.motion.calmNs := by
      rw [fld_eq]
      exact calm
    simp only [exec, execMotionChanged, State.onDev, moving, ended, decide_true, Bool.and_self, Bool.or_true, if_true,
      Bool.not_true, Bool.and_false, Bool.false_and]
    rfl

end Sys2Proof.Machine
end

section
/-! PROOFS. The bookkeeping of updates at reset, and the commands of class 0 (R222, R307). -/

namespace Sys2Proof.Machine

/-- Settles O58: at reset the slot and BOOT_FAILS read 0, nothing is held and no piece is stored. -/
theorem updateBookkeepingAtReset : Obligations.UpdateBookkeepingAtReset where
  slot := Nat.zero_le _
  fails := Nat.zero_le _
  images := Nat.zero_le _
  distinct := List.nodup_nil
  pieces p hp := absurd hp List.not_mem_nil
  whole h := by rcases h with h | h <;> cases h

/-- A command that may start runs its effect on its record. -/
theorem Dev.runCmd_of {d : Dev} {t op : Nat} {x : TagRec} (cmd : d.command t op = some x) (f : TagRec → Dev → Dev) :
    d.runCmd t op f = f x d := by
  rw [runCmd, cmd]

namespace Dev

/-- What a HOLD leaves of the power path and the rest of the device: every switch keeps its mode and its demand. -/
structure holdsSwitches (d e : Dev) : Prop where
  sw : ∀ (k : Nat) (w : Switch), d.pw.sw[k]? = some w → ∃ v : Switch, e.pw.sw[k]? = some v ∧ v.mode = w.mode ∧ v.disc = w.disc
  ph : e.pw.ph = d.pw.ph
  src : e.pw.src = d.pw.src
  str : e.pw.str = d.pw.str
  sy : e.sy = d.sy
  ms : e.ms = d.ms
  ln : e.ln = d.ln

theorem holdsSwitches.refl (d : Dev) : d.holdsSwitches d := ⟨fun _ w h => ⟨w, h, rfl, rfl⟩, rfl, rfl, rfl, rfl, rfl, rfl⟩

theorem holdSw_holdsSwitches {d e : Dev} (h : d.holdsSwitches e) (p : Nat) (on : Bool) :
    d.holdsSwitches (e.modSw p fun w => { w with hold := on }) where
  sw k w there := by
    obtain ⟨v, hv, mode, disc⟩ := h.sw k w there
    refine ⟨if p = k then { v with hold := on } else v, ?_, ?_, ?_⟩
    · rw [modSw_pw, List.getElem?_modify, hv]
      split <;> rfl
    · split <;> exact mode
    · split <;> exact disc
  ph := h.ph
  src := h.src
  str := h.str
  sy := h.sy
  ms := h.ms
  ln := h.ln

theorem holdMit_holdsSwitches {d e : Dev} (h : d.holdsSwitches e) (m : Nat) (on : Bool) :
    d.holdsSwitches (e.modMit m fun y => { y with held := on }) :=
  ⟨h.sw, h.ph, h.src, h.str, h.sy, h.ms, h.ln⟩

end Dev

theorem exec_hold {tag : Tag} {x : TagRec} {s : State} (cmd : s.dev.command tag opHold = some x) :
    exec (.hold tag) s = .next { s with dev :=
      (((s.dev.each (portsOf (leAt x.desc 32 8)) fun p e => e.modSw p fun w => { w with hold := byteAt x.desc 42 % 2 == 0 }).each
        (bitsSet 16 (leAt x.desc 40 2)) fun m e => e.modMit m fun y => { y with held := byteAt x.desc 42 % 2 == 0 }).ok tag) } := by
  simp only [exec, execHold, State.onDev, Dev.runCmd_of cmd]
  rfl

/-- Settles O40: each command is its equation on the ports and mittens it names; a HOLD writes `hold` and `held` alone. -/
theorem classZero : Obligations.ClassZero := by
  intro tag x s
  refine ⟨fun cmd => ?shed, fun cmd asserts => ?demand, fun cmd releases => ?release, exec_hold, fun cmd => ?frame⟩
  case shed =>
    simp only [exec, execShed, State.onDev, Dev.runCmd_of cmd]
  case demand =>
    simp only [exec, execDisconnect, State.onDev, Dev.runCmd_of cmd, asserts]
    rfl
  case release =>
    simp only [exec, execDisconnect, State.onDev, Dev.runCmd_of cmd, releases, if_true]
    congr 6
    funext p e
    by_cases bus : 12 ≤ p <;> simp [bus]
  case frame =>
    have kept : s.dev.holdsSwitches ((s.dev.each (portsOf (leAt x.desc 32 8)) fun p e =>
        e.modSw p fun w => { w with hold := byteAt x.desc 42 % 2 == 0 }).each (bitsSet 16 (leAt x.desc 40 2)) fun m e =>
        e.modMit m fun y => { y with held := byteAt x.desc 42 % 2 == 0 }) :=
      Dev.each_induct (P := s.dev.holdsSwitches) (fun m _ h => Dev.holdMit_holdsSwitches h m _) _
        (Dev.each_induct (P := s.dev.holdsSwitches) (fun p _ h => Dev.holdSw_holdsSwitches h p _) _ (.refl _))
    exact ⟨_, exec_hold cmd, kept.sw, kept.ph, kept.src, kept.str, kept.sy, kept.ms, kept.ln, rfl⟩

end Sys2Proof.Machine
end

section
/-! PROOFS. The measurement commands (R180, R181, R188, R198, R202-R204, R207-R209, R249, R308). -/

namespace Sys2Proof.Machine

theorem exec_measFilterSync {tag : Tag} {x : TagRec} {s : State} (cmd : s.dev.command tag opMeasFilterSync = some x) :
    exec (.measFilterSync tag) s = .next { s with dev := (
      if 2 < byteAt x.desc 36 then s.dev.refuse tag stInvalidParameter 36
      else (s.dev.each (bitsSet 16 (leAt x.desc 32 2)) fun k e => e.modMu k fun u =>
        { u with syncNow := if byteAt x.desc 36 = 0 then u.syncNow ||| BitVec.ofNat 16 (leAt x.desc 34 2) else u.syncNow
                 syncChg := if byteAt x.desc 36 = 1 then u.syncChg ||| BitVec.ofNat 16 (leAt x.desc 34 2) else u.syncChg
                 syncPol := if byteAt x.desc 36 = 2 then u.syncPol ||| BitVec.ofNat 16 (leAt x.desc 34 2)
                  else u.syncPol }).ok tag) } := by
  simp only [exec, execMeasFilterSync, State.onDev, Dev.runCmd_of cmd]

theorem exec_measPairCapture {tag : Tag} {x : TagRec} {s : State} (cmd : s.dev.command tag opMeasPairCapture = some x) :
    exec (.measPairCapture tag) s = .next { s with dev := (
      match (captureOf x.desc).bad with
      | some o => s.dev.refuse tag stInvalidParameter o
      | none => match s.dev.captureRefusal (byteAt x.desc 32) (captureOf x.desc) with
        | some r => s.dev.wrong tag r.1 0xFFFF r.2
        | none => (s.dev.onMs fun m => { m with cap := m.cap.set (byteAt x.desc 32) (some (captureOf x.desc)) }).ok tag) } := by
  simp only [exec, execMeasPairCapture, State.onDev, Dev.runCmd_of cmd] <;> rfl

/-- A string command on a string of the map in force runs its effect. -/
theorem Dev.onString_used {d : Dev} {tag : Tag} {x : TagRec} {f : Nat → Dev → Dev} (inMap : byteAt x.desc 32 < 16)
    (used : (d.strE (byteAt x.desc 32)).type ≠ 0) : d.onString tag x f = f (byteAt x.desc 32) d := by
  simp [onString, Nat.not_lt.mpr (Nat.le_of_lt_succ inMap), used]

theorem exec_impedanceRun {tag : Tag} {x : TagRec} {s : State} {l : List ImpFreq}
    (cmd : s.dev.command tag opImpedanceRun = some x) (inMap : byteAt x.desc 32 < 16) (ampl : 0 < byteAt x.desc 33)
    (ampl' : byteAt x.desc 33 ≤ 10) (even : leAt x.desc 34 2 % 2 = 0) (acc : leAt x.desc 34 2 ≤ 508)
    (rep : leAt x.desc 36 2 ≤ 1440) (len : x.payload.length = 16 + 8 * byteAt x.payload 2) (list : parseFreqs x.payload = .ok l)
    (used : (s.dev.strE (byteAt x.desc 32)).type ≠ 0) :
    exec (.impedanceRun tag) s = .next { s with dev := (
      match s.dev.impRefusal (byteAt x.desc 32) (byteAt x.desc 33) (leAt x.desc 34 2) l with
      | some o => s.dev.wrong tag (impReason o) (if o = 1 then 0xFFFF else 0x200 + byteAt x.desc 32) o
      | none => (s.dev.modImp (byteAt x.desc 32) fun i => { i with
          run := some { ampl := byteAt x.desc 33, accBase := leAt x.desc 34 2, rep := leAt x.desc 36 2, freqs := l,
                        ring := x.ring } }).ok tag) } := by
  have a1 : ¬(byteAt x.desc 33 = 0 ∨ 10 < byteAt x.desc 33) := by omega
  have a2 : ¬(leAt x.desc 34 2 % 2 ≠ 0 ∨ 508 < leAt x.desc 34 2) := by omega
  have a3 : ¬1440 < leAt x.desc 36 2 := by omega
  have a4 : ¬(x.payload.length < 16 ∨ x.payload.length ≠ 16 + 8 * byteAt x.payload 2) := by omega
  simp only [exec, execImpedanceRun, State.onDev, Dev.runCmd_of cmd, if_neg a1, if_neg a2, if_neg a3, if_neg a4, list,
    Dev.onString_used inMap used] <;> rfl

/-- Settles O41: each command is its equation, under the conditions of its rule. -/
theorem measurementCommands : Obligations.MeasurementCommands := by
  intro tag x s
  refine ⟨fun cmd => ?sync, fun cmd => ?capture, fun cmd some fits => ?clear, fun cmd some fits => ?read,
    fun l cmd inMap ampl ampl' even acc rep len list used => ?run, fun cmd inMap used => ?abort, fun cmd => ?record,
    fun cmd => ?begin, fun conv scrub t l oldest ended => ?done⟩
  case sync =>
    refine ⟨fun h => ?_, fun h => ?_, fun h => ?_, fun h => ?_⟩ <;> rw [exec_measFilterSync cmd]
    · simp [h]
    · simp [h]
    · simp [h]
    · rw [if_pos h]
  case capture =>
    refine ⟨fun o bad => ?_, fun r good refused => ?_, fun good accepted => ?_⟩ <;> rw [exec_measPairCapture cmd]
    · rw [bad]
    · rw [good, refused]
    · rw [good, accepted]
  case clear =>
    have inRange : ¬(leAt x.desc 34 2 = 0 ∨ 512 < leAt x.desc 34 2) := by omega
    simp only [exec, execAccClear, State.onDev, Dev.runCmd_of cmd, if_neg inRange, if_neg (Nat.not_lt.mpr fits)]
  case read =>
    have inRange : ¬(leAt x.desc 34 2 = 0 ∨ 256 < leAt x.desc 34 2) := by omega
    refine ⟨fun keep => ?_, fun empty => ?_⟩
    · simp only [exec, execMmxRead, State.onDev, Dev.runCmd_of cmd, if_neg inRange, if_neg (Nat.not_lt.mpr fits), keep]
      rfl
    · simp only [exec, execMmxRead, State.onDev, Dev.runCmd_of cmd, if_neg inRange, if_neg (Nat.not_lt.mpr fits), empty, if_true]
  case run =>
    refine ⟨fun accepted => ?_, fun o refused => ?_⟩ <;>
      rw [exec_impedanceRun cmd inMap ampl ampl' even acc rep len list used]
    · rw [accepted]
    · rw [refused]
  case abort =>
    refine ⟨fun running => ?_, fun idle => ?_⟩ <;>
      simp only [exec, execImpedanceAbort, State.onDev, Dev.runCmd_of cmd, Dev.onString_used inMap used]
    · rw [if_neg (by simpa using Option.isSome_iff_ne_none.mp running)]
    · rw [idle]
      rfl
  case record =>
    refine ⟨fun h => ?_, fun r h => ?_⟩ <;> simp only [exec, execImpedanceRead, State.onDev, Dev.runCmd_of cmd, h]
  case begin =>
    refine ⟨fun h => ?_, fun h => ?_⟩ <;> simp only [exec, execSelfTest, State.onDev, Dev.runCmd_of cmd]
    · rw [if_neg (not_not.mpr h)]
    · rw [if_pos h]
  case done =>
    have idle : (s.dev.pw.mit.any fun x => match x.gnt with | .some g => g.test | none => false) = false := by
      rw [List.any_eq_false]
      intro m hm
      cases h : m.gnt with
      | none => simp
      | some g => simpa using ended m hm g h
    simp only [exec, execSelfTestDone, State.onDev, oldest]
    exact congrArg (fun d => Host.Outcome.next { s with dev := d }) (if_neg (Bool.eq_false_iff.mp idle))

end Sys2Proof.Machine
end

section
/-! PROOFS. The status, record, margin, power and time commands (R250, R252, R256, R285, R309-R312, R379, R380, R404). -/

namespace Sys2Proof.Machine

/-- A command that also writes the non-volatile state runs its effect on its record. -/
theorem State.runBoth_of {s : State} {t op : Nat} {x : TagRec} (cmd : s.dev.command t op = some x)
    (f : TagRec → Dev → Nv → Dev × Nv) : s.runBoth t op f =
      .next { s with dev := (f x s.dev s.nv).1, nv := (f x s.dev s.nv).2 } := by
  simp [runBoth, cmd]

theorem exec_powerState {tag : Tag} {x : TagRec} {s : State} (cmd : s.dev.command tag opPowerState = some x) :
    exec (.powerState tag) s = .next { s with dev := (
      match s.dev.powerState (byteAt x.desc 32) with
      | .error r => s.dev.refuse tag r.1 r.2
      | .ok e => e.ok tag) } := by
  simp only [exec, execPowerState, State.onDev, Dev.runCmd_of cmd] <;> rfl

/-- The first tick of a policy frame at least two ahead, at which a chain's order is entered (R358, R361). -/
def Dev.orderDue (d : Dev) : Nat := (d.sy.tick.count + 2 + 9999) / 10000 * 10000

/-- What an accepted transition does: alone for this device, or for its chain where this is a crown with a shared mitten. -/
theorem Dev.powerState_accepted {d : Dev} {t : Nat} (most : 0 < t) (least : t ≤ 3) (limp : d.sy.power ≠ .limp)
    (free : d.powerRefusal t = none) : d.powerState t = .ok (
      if (d.ln.chn.role == 1 && d.hasShared) = true then
        (d.onSy fun y => { y with order := some (orderOf t), orderAt := d.orderDue }).chainSend
          ([2, BitVec.ofNat 8 t] ++ leBytes 2 d.orderDue)
      else d.onSy fun y => { y with order := some (orderOf t), orderAt := 0 }) := by
  have range : ¬(t = 0 ∨ 3 < t) := by omega
  simp only [powerState, if_neg range, if_neg limp, free, orderDue]
  cases d.ln.chn.role == 1 && d.hasShared <;> simp

theorem exec_deviceRestart {tag : Tag} {x : TagRec} {s : State} (i : StartIn)
    (cmd : s.dev.command tag opDeviceRestart = some x) (kind : byteAt x.desc 32 ≤ 1) (still : s.dev.pw.stage.st ≠ .stepping) :
    exec (.deviceRestart tag i) s = .next (if byteAt x.desc 32 = 0 then { s with
        dev := ((s.dev.modTag tag fun y => { y with st := .executing }).hitless s.nv i).1.ok tag
        nv := ((s.dev.modTag tag fun y => { y with st := .executing }).hitless s.nv i).2 }
      else
        let up := s.dev.linkUp && !x.drop
        let d := if up then s.dev.complete { x with status := stSuccess } else s.dev
        let d := d.when (up && (s.dev.ring x.ring).arm && decide ((s.dev.ring x.ring).vector < 64) &&
          decide ((s.dev.ring x.ring).coalN ≤ (s.dev.ring x.ring).unrel + 1)) fun e => e.fire (s.dev.ring x.ring).vector
        { s with dev := (d.boot s.nv .cold i.boot).1, nv := (d.boot s.nv .cold i.boot).2 }) := by
  simp only [exec, execDeviceRestart, State.runBoth_of cmd, if_neg (Nat.not_lt.mpr kind), if_neg still]
  split <;> rfl

/-- Settles O42: each command is its equation, under the conditions of its rule. -/
theorem serviceCommands : Obligations.ServiceCommands := by
  intro tag x s
  refine ⟨fun cmd kind some fits => ?status, fun cut l cmd log most most' found => ?records, fun cmd => ?margins,
    fun cmd least most => ?floor, fun cmd => ?rebase, fun cmd => ?power, fun i cmd => ?restart, fun cmd => ?time,
    fun cmd => ?anchor⟩
  case status =>
    simp only [exec, execStatusRead, State.onDev, Dev.runCmd_of cmd, if_neg (Nat.not_lt.mpr kind), if_neg (Nat.ne_of_gt some),
      if_neg (Nat.not_lt.mpr fits)]
  case records =>
    have inRange : ¬(leAt x.desc 44 2 = 0 ∨ 2047 < leAt x.desc 44 2) := by omega
    refine ⟨fun whole => ⟨fun empty => ?_, fun r last => ?_⟩, fun k short => ?_⟩ <;>
      simp only [exec, execRecordRead, State.onDev, Dev.runCmd_of cmd, if_neg (Nat.not_lt.mpr log), if_neg inRange, found]
    · rw [whole, empty]
      rfl
    · rw [whole, last]
    · rw [short]
  case margins =>
    simp only [exec, execBrimRead, State.onDev, Dev.runCmd_of cmd]
  case floor =>
    have inRange : ¬(byteAt x.desc 36 < 10 ∨ 100 < byteAt x.desc 36) := by omega
    simp only [exec, execBrimFloorSet, State.onDev, Dev.runCmd_of cmd, if_neg inRange]
  case rebase =>
    simp only [exec, execAgeingRebase, State.onDev, Dev.runCmd_of cmd]
  case power =>
    refine ⟨fun out => ?_, fun least most limp => ?_, fun r least most limp refused => ?_,
      fun least most limp free => ⟨fun alone => ?_, fun crown shared => ?_⟩⟩ <;> rw [exec_powerState cmd]
    · have range : byteAt x.desc 32 = 0 ∨ 3 < byteAt x.desc 32 := out
      rw [Dev.powerState, if_pos range]
    · have range : ¬(byteAt x.desc 32 = 0 ∨ 3 < byteAt x.desc 32) := by omega
      rw [Dev.powerState, if_neg range, if_pos limp]
      rfl
    · have range : ¬(byteAt x.desc 32 = 0 ∨ 3 < byteAt x.desc 32) := by omega
      rw [Dev.powerState, if_neg range, if_neg limp, refused]
      rfl
    · have noChain : (s.dev.ln.chn.role == 1 && s.dev.hasShared) = false := by
        rcases alone with h | h <;> simp [h]
      rw [Dev.powerState_accepted least most limp free, noChain]
      rfl
    · rw [Dev.powerState_accepted least most limp free, crown, shared]
      rfl
  case restart =>
    refine ⟨fun bad => ?_, fun kind busy => ?_, fun hitless still => ?_, fun cold still dropped => ?_,
      fun cold still kept up => ?_⟩
    · simp only [exec, execDeviceRestart, State.runBoth_of cmd, if_pos bad]
    · simp only [exec, execDeviceRestart, State.runBoth_of cmd, if_neg (Nat.not_lt.mpr kind), if_pos busy]
    · rw [exec_deviceRestart i cmd (hitless ▸ Nat.zero_le 1) still, if_pos hitless]
    · have noEntry : (s.dev.linkUp && !x.drop) = false := by
        rcases dropped with h | h <;> simp [h]
      rw [exec_deviceRestart i cmd (Nat.le_of_eq cold) still, if_neg (by omega), noEntry]
      rfl
    · rw [exec_deviceRestart i cmd (Nat.le_of_eq cold) still, if_neg (by omega), kept, up]
      simp only [Bool.not_false, Bool.and_self, if_true, Bool.true_and]
      by_cases armed : (s.dev.ring x.ring).arm = true ∧ (s.dev.ring x.ring).vector < 64 ∧
        (s.dev.ring x.ring).coalN ≤ (s.dev.ring x.ring).unrel + 1
      · rw [if_pos armed]
        simp [armed]
      · rw [if_neg armed]
        have off : ((s.dev.ring x.ring).arm && decide ((s.dev.ring x.ring).vector < 64) &&
            decide ((s.dev.ring x.ring).coalN ≤ (s.dev.ring x.ring).unrel + 1)) = false := by
          rw [← Bool.not_eq_true]
          simpa [and_assoc] using armed
        rw [off, Dev.when_false]
  case time =>
    simp only [exec, execTimeRead, State.runBoth_of cmd]
    rfl
  case anchor =>
    refine ⟨fun bad => ?_, fun len => ?_⟩ <;> simp only [exec, execTimeAnchor, State.onDev, Dev.runCmd_of cmd]
    · rw [if_pos bad]
    · rw [if_neg (not_not.mpr len)]

end Sys2Proof.Machine
end

section
/-! PROOFS. The update and key commands (R285, R311, R315, R414-R428). -/

namespace Sys2Proof.Machine

theorem exec_updatePiece {tag : Tag} {x : TagRec} {s : State} (bad cut : Option Nat)
    (cmd : s.dev.command tag opUpdatePiece = some x) (free : s.nv.upd ≠ .activating) (some : 0 < byteAt x.desc 34)
    (most : byteAt x.desc 34 ≤ 15) (len : x.payload.length = 4096 * byteAt x.desc 34) {e : Dev} {n : Nv} {any : Bool}
    {first : Option Nat} : s.dev.takePieces s.nv bad x.payload (List.range' (leAt x.desc 32 2)
      ((s.dev.cutShort x cut (byteAt x.desc 34)).getD (byteAt x.desc 34))) 0 false = (e, n, any, first) →
    exec (.updatePiece tag bad cut) s = .next { s with nv := n, dev := match first, s.dev.cutShort x cut (byteAt x.desc 34) with
      | .some p, _ => if any = true then (e.done tag stPieceInvalid p []).countOutcome stPieceInvalid
                     else e.refuse tag stPieceInvalid p
      | none, .some k => e.done tag stAborted k []
      | none, none => e.done tag (if any = true then stSuccess else stNoChange) 0 [] } := by
  have range : ¬(byteAt x.desc 34 = 0 ∨ 15 < byteAt x.desc 34) := by omega
  intro taken
  simp only [exec, execUpdatePiece, State.runBoth_of cmd, if_neg free, if_neg range, if_neg (not_not.mpr len), taken]
  cases first with
  | some p => rfl
  | none => cases s.dev.cutShort x cut (byteAt x.desc 34) <;> rfl

theorem exec_updateActivate {tag : Tag} {x : TagRec} {s : State} (i : StartIn)
    (cmd : s.dev.command tag opUpdateActivate = some x) (free : s.dev.activationRefusal s.nv = none) :
    exec (.updateActivate tag i) s = .next (if s.dev.pw.stage.st = .stepping then { s with
        dev := (s.dev.modTag tag fun y => { y with st := .executing }).onSy fun y => { y with waitAct := some tag.val }
        nv := { s.nv with upd := .activating } }
      else { s with
        dev := ((s.dev.modTag tag fun y => { y with st := .executing }).activate { s.nv with upd := .activating } tag i).1
        nv := ((s.dev.modTag tag fun y => { y with st := .executing }).activate { s.nv with upd := .activating } tag i).2 }) := by
  simp only [exec, execUpdateActivate, State.runBoth_of cmd, free]
  have step : (s.dev.modTag tag fun y => { y with st := .executing }).pw.stage.st = s.dev.pw.stage.st := rfl
  rw [step]
  split <;> rfl

theorem exec_updateActivate_refused {tag : Tag} {x : TagRec} {s : State} (i : StartIn) {r : Nat}
    (cmd : s.dev.command tag opUpdateActivate = some x) (refused : s.dev.activationRefusal s.nv = some r) :
    exec (.updateActivate tag i) s = .next { s with dev := s.dev.refuse tag stActivationRefused r } := by
  simp only [exec, execUpdateActivate, State.runBoth_of cmd, refused]

/-- A held update that is not READY refuses its activation with reason 4 (R419). -/
theorem Dev.activationRefusal_notReady {d : Dev} {n : Nv} (held : n.held ≠ none) (notReady : n.upd ≠ .ready) :
    d.activationRefusal n = some 4 := by
  rw [activationRefusal, if_neg (by simpa using held), if_pos notReady]

/-- Settles O43: each command is its equation, under the conditions of its rule. -/
theorem updateCommands : Obligations.UpdateCommands := by
  intro tag x s
  refine ⟨fun cmd busy => ?m, fun bad cut cmd busy => ?p, fun cmd busy => ?c, fun cmd busy => ?k, fun cmd free => ?manifest,
    fun bad cut cmd free => ?pieces, fun cmd => ?status, fun i cmd => ?activate, fun t i waits => ?resume,
    fun cmd free => ?cancel, fun cmd => ?lock, fun cmd free => ?key⟩
  case m =>
    simp only [exec, execUpdateManifest, State.runBoth_of cmd, if_pos busy, Dev.activating]
  case p =>
    simp only [exec, execUpdatePiece, State.runBoth_of cmd, if_pos busy, Dev.activating]
  case c =>
    simp only [exec, execUpdateCancel, State.runBoth_of cmd, if_pos busy, Dev.activating]
  case k =>
    simp only [exec, execKeyUpdate, State.runBoth_of cmd, if_pos busy, Dev.activating]
  case manifest =>
    simp only [exec, execUpdateManifest, State.runBoth_of cmd, if_neg free]
    cases s.dev.takeManifest s.nv s.dev.ln.chn.pos x.payload <;> rfl
  case pieces =>
    refine ⟨fun out => ?_, fun some most len => ?_, fun e n any first some most len =>
      exec_updatePiece bad cut cmd free some most len⟩
    · simp only [exec, execUpdatePiece, State.runBoth_of cmd, if_neg free, if_pos out]
    · have range : ¬(byteAt x.desc 34 = 0 ∨ 15 < byteAt x.desc 34) := by omega
      simp only [exec, execUpdatePiece, State.runBoth_of cmd, if_neg free, if_neg range, if_pos len]
  case status =>
    simp only [exec, execUpdateStatus, State.runBoth_of cmd]
  case activate =>
    refine ⟨fun busy held => ?_, fun r refused => exec_updateActivate_refused i cmd refused, fun free stepping => ?_,
      fun free still => ?_⟩
    · exact exec_updateActivate_refused i cmd (Dev.activationRefusal_notReady held (by simp [busy]))
    · rw [exec_updateActivate i cmd free, if_pos stepping]
    · rw [exec_updateActivate i cmd free, if_neg still]
  case resume =>
    refine ⟨fun still moving => ?_, fun still rest => ?_, fun stepping => ?_⟩ <;>
      simp only [exec, execActivationResume, State.onBoth_next, waits]
    · rw [if_neg still, if_pos moving]
    · rw [if_neg still, rest]
      rfl
    · rw [if_pos stepping]
  case cancel =>
    refine ⟨fun held => ?_, fun noUpdate => ?_⟩ <;>
      simp only [exec, execUpdateCancel, State.runBoth_of cmd, if_neg free]
    · rw [if_neg (by simpa using held)]
    · rw [noUpdate]
      rfl
  case lock =>
    refine ⟨fun bad => ?_, fun len => ?_⟩ <;> simp only [exec, execOwnerLock, State.runBoth_of cmd]
    · rw [if_pos bad]
    · rw [if_neg (not_not.mpr len)]
      cases ownerAuth s.nv 3 x.payload x.desc [] with
      | none => rfl
      | some a => cases byteAt x.desc 32 % 2 == 1 <;> cases s.nv.ownerLock <;> rfl
  case key =>
    refine ⟨fun locked => ?_, fun owner bad => ?_, fun owner len => ?_⟩ <;>
      simp only [exec, execKeyUpdate, State.runBoth_of cmd, if_neg free]
    · rw [if_pos locked]
    · rw [if_neg (Bool.eq_false_iff.mp owner), if_pos bad]
    · rw [if_neg (Bool.eq_false_iff.mp owner), if_neg (not_not.mpr len)]
      simp only [Bool.and_eq_true, Bool.not_eq_true']
      split
      · rfl
      · cases Config.gcmDecrypt (s.dev.ring x.ring).sessKey ((x.payload.drop 68).take 12) ((x.payload.drop 80).take 64)
          ((x.payload.drop 144).take 16) <;> rfl

end Sys2Proof.Machine
end

section
/-! PROOFS. Reads of the set-up window (R7, R196, R201, R435-R438). -/

namespace Sys2Proof.Machine

theorem Dev.windowUp_of_run {d : Dev} (run : d.sy.power = .run) : d.windowUp = true := by
  simp [windowUp, run]

/-! ### Words (R436, R438) -/

/-- A whole aligned word below the AON window is one register and its read action. -/
theorem Dev.readSpan_word (d : Dev) (n : Nv) {off : Nat} (below : off < 0xF000) (aligned : off % 4 = 0) :
    d.readSpan n 2 off 4 = (d.readAct off, leBytes 4 ((d.regWord n off).getD 0).toNat) := by
  have inBar0 : off < 0x10000 := by omega
  have whole : min 4 (4 - 0) = 4 := rfl
  have len (v : Nat) : (leBytes 4 v).take 4 = leBytes 4 v := List.take_of_length_le (by rw [leBytes_length])
  rw [readSpan, if_neg (by decide : ¬(4 = 0)), aligned]
  simp only [readWordAt, Nat.sub_zero, if_pos inBar0, whole, if_true, List.drop_zero, len, if_neg (Nat.not_le.mpr below), readSpan]
  simp

theorem exec_rcRead_host (o : BitVec 24) (n : Nat) (s : State) :
    exec (.rcRead o n) s = .next { s with dev := s.dev.hostReadAt s.nv o.toNat n } := by
  simp only [exec, execRcRead, State.onDev]
  rfl

/-- A register whose fields a read has cleared reads 0 (R435). -/
theorem Dev.regWord_readAct_rc (d : Dev) (n : Nv) {o : Nat}
    (rc : o ∈ [0x200C, 0x204C, 0x2114, 0x2134, 0x2154, 0x2174, 0x300C, 0x8120, 0x8208, 0x8308]) (twt : d.ln.twt.length = 2)
    (twc : d.ln.twc.length = 4) : (d.readAct o).regWord n o = some 0 := by
  simp only [List.mem_cons, List.not_mem_nil, or_false] at rc
  have mapId := (Config.mapIdWord 0).isLt
  rcases rc with rfl | rfl | rfl | rfl | rfl | rfl | rfl | rfl | rfl | rfl <;>
    simp [readAct, regWord, twoWireWord, chnWord, frmWord, updWord, twtOf, twcOf, twt, twc, wd]
  omega

/-! ### Latching readers (R196, R201) -/

/-- SUM_LO is the lower word of the accumulator, where no latch made by its mate stands. -/
theorem Dev.accLow_own {d : Dev} {r n : Nat} {a : Acc} (there : d.ms.acc[n]? = some a)
    (own : (d.accHeld r n).any (·.byMate) = false) : d.accLow r n = BitVec.ofNat 32 (sumBits a.sum) := by
  have low : (d.accLatch r n).lo = BitVec.ofNat 32 (sumBits a.sum) := by
    simp only [accLatch, getD_there _ _ _ _ there, wd]
    simp [BitVec.toNat_eq]
  rw [accLow]
  cases held : d.accHeld r n with
  | none => exact low
  | some l =>
    rw [held] at own
    simp only [Option.any_some] at own
    simp only [own]
    exact low

theorem Dev.accAct_own {d : Dev} {r n : Nat} {a : Acc} (there : d.ms.acc[n]? = some a)
    (own : (d.accHeld r n).any (·.byMate) = false) : d.accAct r n =
      if a.cfg.mode = .demod then (d.latchAcc r n false).latchAcc r (n + 1) true else d.latchAcc r n false := by
  simp only [accAct, getD_there _ _ _ _ there, own]
  rfl

theorem Dev.accHeld_own {d : Dev} {r n : Nat} (own : ∀ l ∈ d.ms.accL, l.reader = r → l.acc = n → l.byMate = false) :
    (d.accHeld r n).any (·.byMate) = false := by
  rw [accHeld]
  cases held : d.ms.accL.find? fun l => l.reader == r && l.acc == n with
  | none => rfl
  | some l =>
    obtain ⟨reader, acc⟩ : l.reader = r ∧ l.acc = n := by simpa using List.find?_some held
    exact own l (List.mem_of_find?_eq_some held) reader acc

theorem exec_accSumLoRead {r : Fin 128} {n : Fin 512} {a : Acc} {s : State} (reader : latchReader r = true)
    (there : s.dev.ms.acc[n.val]? = some a)
    (own : ∀ l ∈ s.dev.ms.accL, l.reader = r.val → l.acc = n.val → l.byMate = false) :
    exec (.accSumLoRead r n) s = .next { s with dev := (
      (if a.cfg.mode = .demod then (s.dev.latchAcc r n false).latchAcc r (n.val + 1) true
        else s.dev.latchAcc r n false).replyW (BitVec.ofNat 32 (sumBits a.sum))) } := by
  have held := Dev.accHeld_own own
  simp only [exec, execAccSumLoRead, State.onDev, reader, Dev.accLow_own there held, Dev.accAct_own there held]
  rfl

/-- Settles O44: a whole aligned word is one turn of the span, and SUM_LO and MIN latch for their reader. -/
theorem registerReads : Obligations.RegisterReads := by
  refine ⟨fun o s run below aligned => ?word, fun o s run inside odd => ?odd, fun o n a sec s agent notHost => ?box,
    fun d n o rc twt twc => Dev.regWord_readAct_rc d n rc twt twc, fun r n a s reader there own => ?sum,
    fun r n x s reader there => ?min⟩
  case word =>
    have up := Dev.windowUp_of_run run
    have inBar0 : o.toNat < 0x10000 := by omega
    rw [exec_rcRead_host, Dev.hostReadAt, if_neg (Dev.not_recovery_of_windowUp up)]
    simp only [Nat.mod_eq_of_lt inBar0, Dev.readSpan_word _ _ below aligned, up, aligned]
    rw [if_neg (by simp; omega), if_neg (by simp)]
  case odd =>
    have up := Dev.windowUp_of_run run
    rw [exec_rcRead_host, Dev.hostReadAt, if_neg (Dev.not_recovery_of_windowUp up)]
    simp only [Nat.mod_eq_of_lt inside, up, inside, if_true]
    rw [if_neg (by simp; omega), if_pos ⟨by decide, odd⟩]
  case box =>
    simp only [exec, execRcRead, State.onDev, if_neg notHost, agent]
    rfl
  case sum =>
    refine ⟨fun plain => ?_, fun demod => ?_⟩ <;> rw [exec_accSumLoRead reader there own]
    · rw [if_neg plain]
    · rw [if_pos demod]
  case min =>
    simp only [exec, execMmxMinRead, State.onDev, reader, Dev.mmxAct, getD_there _ _ _ _ there]
    rfl

end Sys2Proof.Machine
end

section
/-! PROOFS. Writes of the set-up window (R7, R10, R48, R176, R346, R349, R355, R436-R439, R442-R444). -/

namespace Sys2Proof.Machine

theorem closedOff_eq_false {off : Nat} (wdt : off ≠ 0xC00 ∧ off ≠ 0xC04) (box : off < 0x1400 ∨ 0x2000 ≤ off) (aon : off < 0xF000) :
    closedOff off = false := by
  simp only [closedOff, Bool.or_eq_false_iff, beq_eq_false_iff_ne, Bool.and_eq_false_iff, decide_eq_false_iff_not]
  omega

theorem Dev.writeReg_closed {d : Dev} {n : Nv} {off : Nat} {v : Word} (closed : closedOff off = true) :
    d.writeReg n off v = d.ignoredWrite off := by
  rw [writeReg, if_pos (.inl closed)]

/-! ### The single registers -/

/-- A word below 2^k has none of the bits of a mask that starts at bit k. -/
theorem and_eq_zero_of_lt {v m : Word} {k : Nat} (short : v.toNat < 2 ^ k) (above : ∀ i < k, m.getLsbD i = false) :
    v &&& m = 0#32 := by
  refine BitVec.eq_of_getLsbD_eq fun i _ => ?_
  rw [BitVec.getLsbD_and, BitVec.getLsbD_zero]
  by_cases low : i < k
  · rw [above i low, Bool.and_false]
  · have clear : v.getLsbD i = false :=
      Nat.testBit_lt_two_pow (Nat.lt_of_lt_of_le short (Nat.pow_le_pow_right (by decide) (Nat.not_lt.mp low)))
    rw [clear, Bool.false_and]

theorem Dev.writeReg_behav {d : Dev} {n : Nv} {v : Word} (short : v.toNat < 256) : d.writeReg n 0x0008 v = d.writeBehav n v := by
  exact writeReg_open rfl rfl (and_eq_zero_of_lt (k := 8) short (by decide))

theorem fld_low {v : Word} (short : v.toNat < 256) : fld v 0 8 = v.toNat := by
  rw [fld_eq, Nat.pow_zero, Nat.div_one, Nat.mod_eq_of_lt (by exact short)]

theorem Dev.writeReg_auxMode (d : Dev) (n : Nv) (hi : Bool) (v : Word) :
    d.writeReg n (if hi then 0x0024 else 0x0020) v = d.writeAuxMode hi v := by
  cases hi
  · exact writeReg_open rfl rfl BitVec.and_zero
  · exact writeReg_open rfl rfl BitVec.and_zero

/-- AUXMODE is taken where none of its ports is in use (R443). -/
theorem Dev.writeAuxMode_free {d : Dev} {hi : Bool} (v : Word)
    (free : ∀ i, i < 16 → d.auxInUse ((if hi then 16 else 0) + i) = false) : d.writeAuxMode hi v =
      d.modGlb fun g => if hi then { g with auxMode1 := v } else { g with auxMode0 := v } := by
  rw [writeAuxMode]
  refine if_neg (Bool.eq_false_iff.mp (List.any_eq_false.mpr fun i hi => ?_))
  rw [free i (List.mem_range.mp hi), Bool.and_false]
  exact Bool.false_ne_true

theorem Dev.writeReg_phase {d : Dev} {n : Nv} {p r : Nat} {v : Word} (hp : p < 64) (hr : r < 6)
    (reserved : v &&& phReserved (4 * r) = 0) (valid : phInvalid r v = false) :
    d.writeReg n (0x7000 + 64 * p + 4 * r) v = (d.modPh p fun x => { x with held := x.held.put r v }).setupNow p := by
  have phase : (0x7000 + 64 * p + 4 * r - 0x7000) / 64 = p := by omega
  have reg : (0x7000 + 64 * p + 4 * r) % 64 / 4 = r := by omega
  have span : 0x7000 ≤ 0x7000 + 64 * p + 4 * r ∧ 0x7000 + 64 * p + 4 * r < 0x8000 := by omega
  have bits : reservedBits (0x7000 + 64 * p + 4 * r) = phReserved (4 * r) := by
    have own : 4 * r % 64 / 4 = r := by omega
    rw [reservedBits, if_neg (by omega), if_neg (by omega), if_neg (by omega), if_neg (by omega), if_pos span]
    simp only [phReserved, reg, own]
  have mapped : (d.regWord n (0x7000 + 64 * p + 4 * r)).isSome = true := by
    rw [regWord, if_neg (by omega), if_neg (by omega), if_neg (by omega), if_neg (by omega), if_neg (by omega),
      if_neg (by omega), if_neg (by omega), if_neg (by omega), if_neg (by omega), if_neg (by omega), if_neg (by omega),
      if_neg (by omega), if_pos span.2, phWord, reg]
    interval_cases r <;> rfl
  rw [writeReg_open (closedOff_eq_false (by omega) (by omega) (by omega)) mapped (by rw [bits]; exact reserved), writeOpen,
    if_neg (by omega), if_neg (by omega), if_neg (by omega), if_neg (by omega), if_neg (by omega), if_neg (by omega),
    if_neg (by omega), if_neg (by omega), if_neg (by omega), if_neg (by omega), if_neg (by omega), if_pos span]
  simp only [writePh, phase, reg, valid, if_neg (Nat.not_lt.mpr (Nat.le_of_lt_succ hr))]
  rfl

theorem Dev.writeReg_bufEn {d : Dev} {n : Nv} {v : Word} (reserved : v &&& 0xFFFFFFFE#32 = 0) :
    d.writeReg n 0x3400 v = d.writeBufEn v :=
  writeReg_open rfl rfl reserved

theorem Dev.writeReg_timing {d : Dev} {n : Nv} {p r : Nat} (v : Word) (hp : p < 4) (hr : r < 4) :
    d.writeReg n (0x2104 + 32 * p + 4 * r) v = d.writeTiming p (r + 1) v := by
  have port : (0x2104 + 32 * p + 4 * r - 0x2100) / 32 = p := by omega
  have reg : (0x2104 + 32 * p + 4 * r) % 32 / 4 = r + 1 := by omega
  have bits : reservedBits (0x2104 + 32 * p + 4 * r) = 0 := by
    rw [reservedBits, if_neg (by omega), if_pos (by omega), linkReserved, if_neg (by omega), if_pos (by omega), if_neg (by omega)]
  have mapped : (d.regWord n (0x2104 + 32 * p + 4 * r)).isSome = true := by
    rw [regWord, if_neg (by omega), if_neg (by omega), if_neg (by omega), if_neg (by omega), if_neg (by omega),
      if_neg (by omega), if_pos (by omega), twoWireWord, if_neg (by omega), if_neg (by omega), if_pos (by omega), reg]
    simp only [if_pos (by omega : r + 1 < 5)]
    rfl
  rw [writeReg_open (closedOff_eq_false (by omega) (by omega) (by omega)) mapped (by rw [bits]; exact BitVec.and_zero), writeOpen,
    if_neg (by omega), if_neg (by omega), if_neg (by omega), if_neg (by omega), if_neg (by omega), if_pos (by omega),
    writeTwoWire, if_neg (by omega), if_neg (by omega)]
  simp only [port, reg, if_neg (Nat.succ_ne_zero r), if_pos (by omega : r + 1 < 5)]

theorem Dev.writeReg_can {d : Dev} {n : Nv} {k : Nat} {v : Word} (hk : k < 2) (reserved : v &&& 0xFF0000E0#32 = 0) :
    d.writeReg n (0x2800 + 64 * k) v = d.writeCanCtrl k v := by
  interval_cases k
  · exact writeReg_open rfl rfl reserved
  · exact writeReg_open rfl rfl reserved

theorem exec_auxmodeWrite {s : State} (hi : Bool) (v : Word) (up : s.dev.windowUp = true)
    (free : ∀ i, i < 16 → s.dev.auxInUse ((if hi then 16 else 0) + i) = false) : exec (.auxmodeWrite hi v) s =
      .next { s with dev := s.dev.modGlb fun g => if hi then { g with auxMode1 := v } else { g with auxMode0 := v } } := by
  simp only [exec, execAuxmodeWrite, State.onDev, up, Dev.when_true, Dev.writeReg_auxMode, Dev.writeAuxMode_free v free]

/-- Settles O45: a word goes to its register, and each single register's write is its rule's. -/
theorem registerWrites : Obligations.RegisterWrites := by
  intro v s run
  have up := Dev.windowUp_of_run run
  have noRom := Dev.not_recovery_of_windowUp up
  refine ⟨fun o b inside len aligned => ?word, fun o b inside len odd => ?odd, fun o b inside len => ?width, fun j hj => ?w1c,
    fun free short some most => ?behav, fun locked short other => ?behavLocked, fun free => ?aux0, fun free => ?aux1,
    fun p r reserved valid => ?phase, fun one => ?bufOn, fun zero busy => ?bufOff, fun p r => ?timing,
    fun k reserved enable rate was _ => ?can, fun short enable sync was => ?chain, fun ir drives low => ?jtag⟩
  case word =>
    have write : exec (.setupRegisterWrite o b) s = .next { s with dev := s.dev.writeReg s.nv o.toNat (wd (leNat b)) } := by
      simp only [exec, execSetupRegisterWrite, State.onDev, Dev.hostWriteAt_word s.nv up aligned inside len]
    exact ⟨write, fun closed => by rw [write, Dev.writeReg_closed closed]⟩
  case odd =>
    simp only [exec, execSetupRegisterWrite, State.onDev, Dev.hostWriteAt, if_neg noRom, up, len, inside, Nat.mod_eq_of_lt inside]
    rw [if_neg (by simp; omega), if_pos (by simp [odd])]
    rfl
  case width =>
    simp only [exec, execSetupRegisterWrite, State.onDev, Dev.hostWriteAt, if_neg noRom, up, len, inside, Nat.mod_eq_of_lt inside]
    rw [if_neg (by simp; omega), if_neg (by simp), if_neg (by simp), if_neg (by decide), if_neg (by decide)]
    rfl
  case w1c =>
    have off : (BitVec.ofNat 24 (0x40 + 4 * j)).toNat = 0x40 + 4 * j := by
      rw [BitVec.toNat_ofNat, Nat.mod_eq_of_lt (by omega)]
    simp only [exec, execW1cWrite, State.onDev, off]
    rw [Dev.hostWriteAt_word s.nv up (by omega) (by omega) (leBytes_length 4 _), wd_leNat_leBytes,
      Dev.writeReg_open (closedOff_eq_false (by omega) (by omega) (by omega)) (by rw [Dev.regWord_evstat _ _ hj]; rfl)
        (by rw [reservedBits_evstat hj]; exact BitVec.and_zero), Dev.writeOpen_evstat _ _ hj]
  case behav =>
    simp only [exec, execBehaviourLevelWrite, State.onDev, up, Dev.when_true, Dev.writeReg_behav short, Dev.writeBehav, fld_low short,
      free]
    simp [Nat.ne_of_gt some, most]
  case behavLocked =>
    simp only [exec, execBehaviourLevelWrite, State.onDev, up, Dev.when_true, Dev.writeReg_behav short, Dev.writeBehav, fld_low short,
      locked]
    simp [other]
  case aux0 => exact exec_auxmodeWrite false v up (by simpa using free)
  case aux1 => exact exec_auxmodeWrite true v up free
  case phase =>
    simp only [exec, execPhSetupWrite, State.onDev, up, Dev.when_true, Dev.writeReg_phase p.isLt r.isLt reserved valid]
  case bufOn =>
    subst one
    simp only [exec, execBufEnWrite, State.onDev, up, Dev.when_true, Dev.writeReg_bufEn (v := 1) (by decide)]
    rfl
  case bufOff =>
    subst zero
    obtain ⟨m, there, inService⟩ := busy
    have any : (s.dev.pw.mit.any fun m => m.st != .stopped) = true := List.any_eq_true.mpr ⟨m, there, by simpa using inService⟩
    simp only [exec, execBufEnWrite, State.onDev, up, Dev.when_true, Dev.writeReg_bufEn (v := 0) (by decide),
      Dev.writeBufEn, any]
    rfl
  case timing =>
    simp only [exec, execTwcTimingWrite, State.onDev, up, Dev.when_true, Dev.writeReg_timing v p.isLt r.isLt]
  case can =>
    simp only [exec, execCanEnableWrite, State.onDev, up, Dev.when_true, Dev.writeReg_can k.isLt reserved, Dev.writeCanCtrl, bit,
      enable, rate, was]
    rfl
  case chain =>
    have upper : fld v 11 21 = 0 := by rw [fld_eq, Nat.div_eq_of_lt (by exact short), Nat.zero_mod]
    have mode : fld v 9 2 = 2 := by rw [fld_eq]; exact sync
    have chainUp : (s.dev.modChn fun c => { c with ctrl := v }).chainUp = true := by
      simp [Dev.chainUp, Dev.inRun, run]
    simp only [exec, execChainEnable, State.onDev, Dev.writeChnCtrl, upper, mode, bit, enable, was, if_true, chainUp]
    rfl
  case jtag =>
    refine ⟨fun held => ?_, fun drive high => ?_⟩ <;> simp only [exec, execJtagInstruction, State.onDev]
    · rcases held with h | h <;> simp [h]
    · rw [drive, high]
      rfl

end Sys2Proof.Machine
end

section
/-! PROOFS. The administrative commands (R285-R288, R301, R302). -/

namespace Sys2Proof.Machine

/-- A ring that is ACTIVE or in ERROR is there and not being deleted. -/
theorem Ring.there_of_up {g : Ring} (up : g.st = .active ∨ g.st = .error) : g.st ≠ .none ∧ g.st ≠ .deleting := by
  rcases up with h | h <;> simp [h]

/-- Settles O37: each accepted command is its equation. -/
theorem adminCommands : Obligations.AdminCommands := by
  intro tag x s
  refine ⟨fun cmd first last free open' len attr mask classZero => ?create, fun cmd first last up => ?delete,
    fun cmd last error idle => ?reset, fun cmd first last up plain masked len valid mask => ?modify,
    fun y cid cmd zero target other admitted cls => ?abort, fun cid cmd zero target posted up same => ?posted,
    fun cmd len => ?subscribe⟩
  case create =>
    have range : ¬(leAt x.desc 32 2 = 0 ∨ 1023 < leAt x.desc 32 2) := by omega
    have quota : ¬(byteAt x.desc 34 = 0 ∧ 8 ≤ (s.dev.ho.rings.filter fun q => q.2.cls == 0).length) := fun ⟨h0, h8⟩ => by
      have := classZero h0
      omega
    have plain : (byteAt x.desc 59 == 1) = false := by simp [open']
    simp only [exec, execRingCreate, State.runBoth_of cmd, if_neg range, free, len, attr, mask, if_neg quota, plain]
    rfl
  case delete =>
    have range : ¬(leAt x.desc 32 2 = 0 ∨ 1023 < leAt x.desc 32 2) := by omega
    simp only [exec, execRingDelete, State.onDev, Dev.runCmd_of cmd, if_neg range]
    rcases up with h | h <;> rw [h]
  case reset =>
    simp only [exec, execRingReset, State.onDev, Dev.runCmd_of cmd, if_neg (Nat.not_lt.mpr (Nat.le_of_lt_succ last)), error, idle]
    rfl
  case modify =>
    have range : ¬(leAt x.desc 32 2 = 0 ∨ 1023 < leAt x.desc 32 2) := by omega
    obtain ⟨there, kept⟩ := Ring.there_of_up up
    simp only [exec, execRingModify, State.runBoth_of cmd, if_neg range, if_neg there, if_neg kept, masked, len, plain, valid, mask]
    rfl
  case abort =>
    have own : ¬(x.ring ≠ 0 ∧ leAt x.desc 32 2 ≠ x.ring) := fun h => h.1 zero
    simp only [exec, execAbort, State.onDev, Dev.runCmd_of cmd, if_neg own, target, if_neg other]
    rw [if_pos ⟨admitted, cls⟩]
  case posted =>
    have own : ¬(x.ring ≠ 0 ∧ leAt x.desc 32 2 ≠ x.ring) := fun h => h.1 zero
    have found : ((s.dev.ring (leAt x.desc 32 2)).posted (leAt x.desc 34 2) &&
        ((s.dev.ring (leAt x.desc 32 2)).st == .active || (s.dev.ring (leAt x.desc 32 2)).st == .error) &&
        s.dev.postedCid (s.dev.ring (leAt x.desc 32 2)) (leAt x.desc 34 2) cid == leAt x.desc 36 2) = true := by
      rcases up with h | h <;> simp [posted, same, h]
    refine ⟨fun cls => ?_, fun cls => ?_⟩ <;>
      simp only [exec, execAbort, State.onDev, Dev.runCmd_of cmd, if_neg own, target, found, if_true]
    · rw [if_pos cls]
    · rw [if_neg cls]
  case subscribe =>
    simp only [exec, execEventSubscribe, State.onDev, Dev.runCmd_of cmd, if_neg (not_not.mpr len)]

end Sys2Proof.Machine
end

section
/-! PROOFS. The staging commands (R28, R29, R163, R192, R200, R223-R228, R300, R304). -/

namespace Sys2Proof.Machine

/-- A staging command of the ring that owns the open stage runs its effect (R223). -/
theorem Dev.staged_open {d : Dev} {x : TagRec} (opened : d.pw.stage.st = .opened) (owner : d.pw.stage.owner = x.ring)
    (f : Dev → Dev) : d.staged x f = f d := by
  rw [staged, if_pos ⟨opened, owner⟩]

theorem entryOf_used {α : Type} {used : α → Bool} {new : α} (h : used new = true) (old : α) : entryOf used new old = new := by
  rw [entryOf, if_pos h]

/-- A port of the new map is judged against its entry there. -/
theorem entryOf_port {new : PortEntry} (used : new.type ≠ 0) (old : PortEntry) :
    entryOf (fun i => i.type != 0) new old = new := entryOf_used (by simpa using used) old

/-- Settles O38: each accepted command is its equation on the stage. -/
theorem stagingCommands : Obligations.StagingCommands := by
  refine ⟨fun tag x s cmd free => ?begin, fun tag x s opened owner => ⟨fun cmd full => ?commit, fun cmd early untagged => ?abort,
    fun cmd => ?map, fun c cmd used built => ?mitten, fun c cmd used built => ?source, fun c cmd used built => ?string,
    fun cmd used good => ?program, fun cmd sum => ?profile, fun cmd good => ?sequence, fun cmd good => ?acc,
    fun cmd persist below hyst room => ?mmx, fun cmd persist => ?mmxBad⟩⟩
  case begin =>
    simp only [exec, execStageBegin, State.onDev, Dev.runCmd_of cmd, if_neg (not_not.mpr free)]
  case commit =>
    have still : ¬ s.dev.pw.stage.st = .stepping := by simp [opened]
    simp only [exec, execStageCommit, State.onDev, Dev.runCmd_of cmd, if_neg still, Dev.staged_open opened owner, full]
    rfl
  case abort =>
    have own : ¬(s.dev.pw.stage.st = .none ∨ s.dev.pw.stage.owner ≠ x.ring) := by simp [opened, owner]
    simp only [exec, execStageAbort, State.onDev, Dev.runCmd_of cmd, if_neg own, early, untagged]
    rfl
  case map =>
    cases found : checkMap x.payload (s.dev.mapCtx (s.dev.ring x.ring)) with
    | none => simp only [exec, execPathMapLoad, State.onDev, Dev.runCmd_of cmd, Dev.staged_open opened owner, found]
    | some f => simp only [exec, execPathMapLoad, State.onDev, Dev.runCmd_of cmd, Dev.staged_open opened owner, found]
  case mitten =>
    have e := entryOf_used (used := fun i : MitEntry => i.used) used (s.dev.mitE (byteAt x.desc 32))
    simp only [exec, execMittenConfig, State.onDev, Dev.runCmd_of cmd, Dev.staged_open opened owner, used, e, built, Dev.stageSet]
    rfl
  case source =>
    simp only [exec, execSourceConfig, State.onDev, Dev.runCmd_of cmd, Dev.staged_open opened owner, entryOf_port used,
      used, false_and, if_false, built, Dev.stageSet]
  case string =>
    simp only [exec, execStringConfig, State.onDev, Dev.runCmd_of cmd, Dev.staged_open opened owner, entryOf_port used,
      used, false_and, if_false, built, Dev.stageSet]
  case program =>
    have node : strNode (byteAt x.desc 32) = 32 + byteAt x.desc 32 := rfl
    simp only [exec, execStringProgram, State.onDev, Dev.runCmd_of cmd, Dev.staged_open opened owner, entryOf_port used,
      used, false_and, if_false, node, good]
  case profile =>
    have range : ¬(100 < byteAt x.desc 32 ∨ 100 < byteAt x.desc 33 ∨ 100 < byteAt x.desc 34 ∨ 100 < byteAt x.desc 35 ∨
      byteAt x.desc 32 + byteAt x.desc 33 + byteAt x.desc 34 + byteAt x.desc 35 ≠ 100) := by omega
    simp only [exec, execProfileSet, State.onDev, Dev.runCmd_of cmd, Dev.staged_open opened owner, if_neg range]
  case sequence =>
    simp only [exec, execMeasSequence, State.onDev, Dev.runCmd_of cmd, Dev.staged_open opened owner, good]
  case acc =>
    simp only [exec, execAccConfig, State.onDev, Dev.runCmd_of cmd, Dev.staged_open opened owner, good]
  case mmx =>
    have room' : ¬(s32At x.desc 44 < 0 ∨ s32At x.desc 40 - s32At x.desc 36 < 2 * s32At x.desc 44) := by omega
    simp only [exec, execMmxConfig, State.onDev, Dev.runCmd_of cmd, Dev.staged_open opened owner, if_neg persist,
      if_neg (Int.not_le.mpr below), if_neg room']
  case mmxBad =>
    simp only [exec, execMmxConfig, State.onDev, Dev.runCmd_of cmd, Dev.staged_open opened owner, if_pos persist]

end Sys2Proof.Machine
end

section
/-! PROOFS. The control commands (R86, R116-R119, R151, R240, R305, R306). -/

namespace Sys2Proof.Machine

/-- A mitten command on a mitten that the map uses runs its effect. -/
theorem Dev.onMitten_used {d : Dev} {t m : Nat} {x : TagRec} {f : Nat → Dev → Dev} (which : byteAt x.desc 32 = m) (inMap : m < 16)
    (used : (d.mitE m).used = true) : d.onMitten t x f = f m d := by
  have range : ¬15 < m := by omega
  simp only [onMitten, which, if_neg range, used]
  rfl

theorem Dev.onString_there {d : Dev} {t k : Nat} {x : TagRec} {f : Nat → Dev → Dev} (which : byteAt x.desc 32 = k) (inMap : k < 16)
    (used : (d.strE k).type ≠ 0) : d.onString t x f = f k d := by
  have range : ¬15 < k := by omega
  simp only [onString, which, if_neg range, if_neg used]

/-- The one number of a range with a property is found. -/
theorem find?_range_only {n j : Nat} {p : Nat → Bool} (below : j < n) (hit : p j = true) (miss : ∀ i, i ≠ j → p i = false) :
    (List.range n).find? p = some j :=
  List.find?_range_eq_some.mpr ⟨hit, List.mem_range.mpr below, fun i hi => by rw [miss i (Nat.ne_of_lt hi)]; rfl⟩

theorem exec_lendStart {tag : Tag} {x : TagRec} {k j : Nat} {s : State} (which : byteAt x.desc 32 = k) (inMap : k < 16)
    (cmd : s.dev.command tag opLendStart = some x) (len : x.payload.length = 32) (used : (s.dev.mitE k).used = true)
    (run : s.dev.sy.power = .run) (lends : (s.dev.mitE k).lend = true) (port : s.dev.pw.map.lendSrc (s.dev.mitE k) = some j)
    {l : Lend} (asks : lendOf k (s.dev.srcE j) ((s.dev.mitE k).other (.src j)).code
      (s.dev.pw.map.nodeMin ((s.dev.mitE k).other (.src j))) s.dev.now x.payload = l)
    (range : lendRange (s.dev.srcE j) (s.dev.pw.map.nodeMin ((s.dev.mitE k).other (.src j)))
      (s.dev.pw.map.nodeMax ((s.dev.mitE k).other (.src j))) l = none) (free : s.dev.lendRefusal k j l = none) :
    exec (.lendStart tag) s = .next { s with dev := (s.dev.startLend k j l).ok tag } := by
  simp only [exec, execLendStart, State.onDev, Dev.runCmd_of cmd, if_neg (not_not.mpr len), Dev.onMitten_used which inMap used,
    if_neg (not_not.mpr run), lends, if_true, port, asks, range, free]

/-- Settles O39: each accepted command is its equation. -/
theorem controlCommands : Obligations.ControlCommands := by
  intro tag x k s which inMap
  refine ⟨fun cmd used stopped held disc port mismatch => ?mitStart, fun cmd used held notRetired notStopped => ?mitStop,
    fun cmd used stopped disc hold prog => ?strStart, fun cmd used st => ?strStop,
    fun e cmd kind number there back => ⟨fun other => ?returned, fun same => ?sameTick⟩,
    fun j cmd len used run lends port range free => exec_lendStart which inMap cmd len used run lends port rfl range free,
    fun j l cmd used port lend mit alone held => ?lendStop, fun cmd => ?motion⟩
  case mitStart =>
    simp only [exec, execMittenStart, State.onDev, Dev.runCmd_of cmd, Dev.onMitten_used which inMap used, stopped, held, disc, port,
      mismatch]
    rfl
  case mitStop =>
    simp only [exec, execMittenStop, State.onDev, Dev.runCmd_of cmd, Dev.onMitten_used which inMap used, held, if_neg notRetired,
      if_neg notStopped]
    rfl
  case strStart =>
    simp only [exec, execStringStart, State.onDev, Dev.runCmd_of cmd, Dev.onString_there which inMap used, stopped, disc, hold,
      Option.isNone_eq_false_iff.mpr prog]
    rfl
  case strStop =>
    simp only [exec, execStringStop, State.onDev, Dev.runCmd_of cmd, Dev.onString_there which inMap used]
    rcases st with h | h | h | h <;> rw [h]
  case returned =>
    simp only [exec, execReturnToService, State.onDev, Dev.runCmd_of cmd, which, if_neg (Nat.not_lt.mpr kind),
      if_neg (Nat.not_le.mpr number), there, back, if_neg other]
  case sameTick =>
    simp only [exec, execReturnToService, State.onDev, Dev.runCmd_of cmd, which, if_neg (Nat.not_lt.mpr kind),
      if_neg (Nat.not_le.mpr number), there, back, if_pos same]
  case lendStop =>
    simp only [exec, execLendStop, State.onDev, Dev.runCmd_of cmd, Dev.onMitten_used which inMap used]
    rw [find?_range_only (j := j) port (by rw [lend]; simpa using mit) fun i other => by rw [alone i other]]
    simp only [held]
    rfl
  case motion =>
    simp only [exec, execMotionSet, State.onDev, Dev.runCmd_of cmd, which]

end Sys2Proof.Machine
end

section
/-! PROOFS. The two-wire target ports and the hatband's commands (R336-R343). -/

namespace Sys2Proof.Machine

/-! ### Target ports -/

theorem Dev.inRun_of_run {d : Dev} (run : d.sy.power = .run) : d.inRun = true := by
  simp [inRun, run]

/-- Both target ports serve in RUN. -/
theorem Dev.twtServes_of_run {d : Dev} (run : d.sy.power = .run) (i : Nat) : d.twtServes i = true := by
  rw [twtServes, inRun_of_run run, run]
  split <;> rfl

theorem Dev.asleep_of_run {d : Dev} (run : d.sy.power = .run) : d.asleep = false := by
  rw [asleep, run]
  rfl

/-- A write to a port that matches and serves moves the pointer and puts its bytes at their places. -/
theorem exec_twtWriteTransfer {i : Fin 2} {a : BitVec 7} {s : State} (p : Byte) (l : List Byte) (run : s.dev.sy.power = .run)
    (en : (s.dev.twtOf i).addr.getLsbD 31 = true) (hits : (s.dev.twtOf i).hits a = true) (idle : s.dev.ln.hb.go = false) :
    exec (.twtWriteTransfer i a (p :: l)) s = .next { s with dev :=
      (((List.range l.length).foldl (fun e k => e.hbByte ((p.toNat + k) % 256) (l.getD k 0))
        ((s.dev.reply []).modTwt i fun x => { x with ptr := BitVec.ofNat 8 (p.toNat + l.length) })).when
          (goWritten p.toNat l) fun e => e.hbGo) } := by
  have awake : (s.dev.reply []).asleep = false := Dev.asleep_of_run run
  simp only [exec, execTwtWriteTransfer, State.onDev, bit, en, hits, Dev.twtServes_of_run run, idle, awake]
  simp

theorem exec_twtTransfer_unmatched {i : Fin 2} {a : BitVec 7} {s : State} (b : List Byte) (n : Nat)
    (miss : (s.dev.twtOf i).hits a = false) : exec (.twtReadTransfer i a n) s = .next { s with dev := s.dev.busError } ∧
      exec (.twtWriteTransfer i a b) s = .next { s with dev := s.dev.busError } := by
  constructor
  · simp only [exec, execTwtReadTransfer, State.onBoth_next, miss]
    simp
  · simp only [exec, execTwtWriteTransfer, State.onDev, miss]
    simp

/-- Settles O47: a transfer to a port that matches and serves is its equation, and the two ends of an in-band request are counted. -/
theorem twoWireTargets : Obligations.TwoWireTargets := by
  refine ⟨fun i a n s run en hits unserved => ?read, fun i a p s run en hits idle => ?pointer,
    fun i a p b s run en hits idle lo hi notGo => ?byte, fun i a p l s run en hits idle => exec_twtWriteTransfer p l run en hits idle,
    fun i a b n s miss => exec_twtTransfer_unmatched b n miss, fun s run en req pending idle => ?request, fun s holding => ⟨?ack, ?timeout⟩⟩
  case read =>
    have noRequest (b : Bool) : (i.val == 0 && b && s.dev.ln.hb.req == .served) = false := by
      rcases unserved with h | h <;> simp [h]
    have awake (r : List Byte) : (s.dev.reply r).asleep = false := Dev.asleep_of_run run
    simp only [exec, execTwtReadTransfer, State.onBoth_next, bit, en, hits, Dev.twtServes_of_run run, awake, Bool.and_false,
      Dev.when_false, Dev.modTwt_ln, Dev.reply_ln, noRequest]
    rfl
  case pointer =>
    rw [exec_twtWriteTransfer p [] run en hits idle]
    simp [goWritten]
  case byte =>
    have inside : p.toNat % 256 = p.toNat := Nat.mod_eq_of_lt (by omega)
    have next : BitVec.ofNat 8 (p.toNat + 1) = p + 1 := BitVec.eq_of_toNat_eq (by simp)
    have noGo : goWritten p.toNat [b] = false := by
      simp only [goWritten, List.length_singleton, List.range_one, List.any_cons, Nat.add_zero, inside, List.any_nil]
      simp [notGo]
    have command : 0x80 ≤ p.toNat ∧ p.toNat < 0xC0 ∧ p.toNat ≠ 0x81 := ⟨lo, hi, notGo⟩
    rw [exec_twtWriteTransfer p [b] run en hits idle, noGo, Dev.when_false]
    simp only [List.length_singleton, List.range_one, List.foldl_cons, List.foldl_nil, Nat.add_zero, inside, List.getD_cons_zero,
      Dev.hbByte, if_pos command, next]
    rw [if_neg (by omega)]
  case request =>
    have waiting : (s.dev.ln.hb.pending != 0) = true := by simpa using pending
    simp only [exec, execInBandRequest, State.onDev, Dev.twtServes_of_run run, bit, en, req, waiting, idle]
    rfl
  case ack =>
    simp only [exec, execRequestAcknowledge, State.onDev, if_pos holding, satInc_eq_min]
  case timeout =>
    simp only [exec, execRequestTimeout, State.onDev, if_pos holding, satInc_eq_min]

/-! ### The hatband's commands -/

/-- In RUN with no order accepted, nothing is abandoned and nothing wakes. -/
theorem Dev.wakeSleep_of_run {d : Dev} (run : d.sy.power = .run) (order : d.sy.order = none) (sleep : d.sy.sleepNext = false)
    (cause : Nat) : d.wakeSleep cause = d := by
  simp [wakeSleep, run, order, sleep]

/-- A ready command with its privilege runs its effect. -/
theorem Dev.hbRun_ready {d : Dev} {code : Nat} {priv : Option Nat} (run : d.sy.power = .run) (order : d.sy.order = none)
    (sleep : d.sy.sleepNext = false) (ready : d.hbReady code = true) (may : (priv.filter fun b => !bit (d.twtOf 0).hb b) = none)
    (f : Dev → Dev) : d.hbRun code priv f = f d := by
  have state : ¬((d.sy.power = .liner ∨ d.sy.power = .recovery) ∧ 2 < code) := by simp [run]
  rw [hbRun, ready, if_neg (by decide), if_neg state, may]
  cases code != 6
  · rfl
  · exact congrArg f (wakeSleep_of_run run order sleep 3)

theorem Dev.hbDone_of_run {d : Dev} (run : d.sy.power = .run) (status result : Nat) (data : List Byte) :
    d.hbDone status result data = d.modHb fun h => { h.answer false status result data with wait := some 0 } := by
  rw [hbDone, inRun_of_run run, if_pos rfl]

/-- Settles O48: each ready command is its effect, done at the next checkpoint. -/
theorem hatbandCommands : Obligations.HatbandCommands := by
  intro s run order sleep
  refine ⟨fun ready kind unit => ?status, fun ready => ?time, fun ready may => ?motion, fun ready barred => ?denied,
    fun ready may least most free alone => ?power, fun ready => ?wake, fun ok ready may => ?chunk⟩
  case status =>
    simp only [exec, execHatbandStatus, State.onDev, Dev.hbRun_ready run order sleep ready (priv := none) rfl, if_neg (Nat.not_lt.mpr kind),
      if_neg (Nat.not_le.mpr unit), Dev.hbDone_of_run run]
  case time =>
    simp only [exec, execHatbandTime, State.onBoth_next, Dev.hbRun_ready run order sleep ready (priv := none) rfl, Dev.hbDone_of_run run]
  case motion =>
    have held : (Option.filter (fun b => !bit (s.dev.twtOf 0).hb b) (some 1)) = none := by simp [bit, may]
    have run' : (s.dev.onPw fun p => { p with moving := s.dev.hbArg 0 % 2 == 1 }).sy.power = .run := run
    simp only [exec, execHatbandMotion, State.onDev, Dev.hbRun_ready run order sleep ready held, Dev.hbDone_of_run run']
  case denied =>
    have state : ¬((s.dev.sy.power = .liner ∨ s.dev.sy.power = .recovery) ∧ 2 < 3) := by simp [run]
    simp only [exec, execHatbandMotion, State.onDev, Dev.hbRun, ready, if_neg state, Option.filter, bit, barred]
    rfl
  case power =>
    have held : (Option.filter (fun b => !bit (s.dev.twtOf 0).hb b) (some 1)) = none := by simp [bit, may]
    have run' : (s.dev.onSy fun y => { y with order := some (orderOf (s.dev.hbArg 0)), orderAt := 0 }).sy.power = .run := run
    have noChain : (s.dev.ln.chn.role == 1 && s.dev.hasShared) = false := by rw [alone, Bool.and_false]
    have accepted := Dev.powerState_accepted least (Nat.le_of_lt_succ most) (by simp [run]) free
    rw [noChain, if_neg (by decide)] at accepted
    simp only [exec, execHatbandPower, State.onDev, Dev.hbRun_ready run order sleep ready held, accepted, Dev.hbDone_of_run run']
  case wake =>
    simp only [exec, execHatbandWake, State.onDev, Dev.hbRun_ready run order sleep ready (priv := none) rfl, Dev.hbDone_of_run run]
  case chunk =>
    simp only [exec, execHatbandUpdateChunk, State.onBoth_next, ready, run, bit, may]
    rfl

end Sys2Proof.Machine
end

section
/-! PROOFS. The two-wire controllers and CAN (R146, R344, R345, R350-R352). -/

namespace Sys2Proof.Machine

/-! ### Controller ports -/

/-- Two updates of a controller port in turn are one. -/
theorem Dev.modTwc_modTwc (d : Dev) (c : Nat) (f g : Twc → Twc) : (d.modTwc c f).modTwc c g = d.modTwc c fun t => g (f t) :=
  congrArg (fun l => ({ d with ln := { d.ln with twc := l } } : Dev)) (List.modify_modify_eq f g c d.ln.twc)

/-- An update that knows the port's own count is the one that reads it. -/
theorem Dev.modTwc_own (d : Dev) (c : Nat) (f : Twc → Nat → Twc) :
    d.modTwc c (fun t => f t t.tries) = d.modTwc c fun t => f t (d.twcOf c).tries :=
  congrArg (fun l => ({ d with ln := { d.ln with twc := l } } : Dev)) <|
    modify_agree d.ln.twc c _ _ fun t there => by rw [twcOf, getD_there _ _ _ _ there]

/-- A poll runs on the port that its string names, where no lower-numbered string fell due with it. -/
theorem Dev.pollRuns {d : Dev} {c : Fin 4} {k : Fin 16} (on : d.twcOn c = true) (link : d.stp k 12 = (c.val : Int) + 1)
    (first : ∀ j, j < k.val → d.pollsOn c j = true → d.pmDue j ≠ d.pmDue k) : (!d.twcOn c || d.stp k 12 != (c.val : Int) + 1 ||
      (List.range k).any fun j => d.pollsOn c j && d.pmDue j == d.pmDue k) = false := by
  simp only [on, link, Bool.not_true, Bool.false_or, bne_self_eq_false, List.any_eq_false, List.mem_range, Bool.and_eq_true,
    beq_iff_eq, not_and]
  exact first

theorem exec_packMonitorPoll {c : Fin 4} {k : Fin 16} {s : State} (r : PollReply) (on : s.dev.twcOn c = true)
    (link : s.dev.stp k 12 = (c.val : Int) + 1)
    (first : ∀ j, j < k.val → s.dev.pollsOn c j = true → s.dev.pmDue j ≠ s.dev.pmDue k) :
    exec (.packMonitorPoll c k r) s = .next { s with dev := (
      let d := s.dev.modTwc c fun t => { t with tries := 0, polled := pollBytes (s.dev.stp k 13).toNat }
      match r with
      | .record b => if d.pmAccepts k b then (d.pmRecord k b).modStr k fun y => { y with pmLast := d.now } else d.pollMissed k
      | .nack => (d.modTwc c fun t => { t with nack := satInc 255 t.nack }).pollMissed k) } := by
  simp only [exec, execPackMonitorPoll, State.onDev, Dev.pollRuns on link first] <;> rfl

theorem exec_twcArbitrationLost {c : Fin 4} {s : State} (on : s.dev.twcOn c = true) : exec (.twcArbitrationLost c) s =
    .next { s with dev := (
      if (s.dev.twcOf c).tries < fld ((s.dev.twcOf c).regs.getD 0 0) 3 2 then s.dev.modTwc c fun t =>
        { t with arbLost := min 255 (t.arbLost + 1), tries := (s.dev.twcOf c).tries + 1 }
      else (s.dev.modTwc c fun t => { t with arbLost := min 255 (t.arbLost + 1), tries := 0 }).portMissed c) } := by
  simp only [exec, execTwcArbitrationLost, State.onDev, on, satInc_eq_min]
  by_cases again : (s.dev.twcOf c).tries < fld ((s.dev.twcOf c).regs.getD 0 0) 3 2
  · rw [if_pos again, decide_eq_true again, ← Dev.modTwc_own s.dev c fun t n =>
      { t with arbLost := min 255 (t.arbLost + 1), tries := n + 1 }]
    rfl
  · rw [if_neg again, decide_eq_false again]
    rfl

/-! ### CAN -/

/-- The one string of a controller has receive buffer 0. -/
theorem exec_canFrameReceived {k : Fin 2} {n : Nat} {ident : BitVec 29} {ide : Bool} {s : State} (b : List Byte)
    (on : s.dev.canOn k = true) (one : s.dev.canStrings k = [n]) (hit : s.dev.canMatch n ident ide = true) :
    exec (.canFrameReceived k ident ide b) s = .next { s with dev := (
      if b.length < 16 then s.dev.modCan k fun c => { c with short := min 255 (c.short + 1) }
      else (s.dev.modCan k fun c => { c with bufs := c.bufs.set 0 b }).pmRecord n (b.take 16)) } := by
  simp only [exec, execCanFrameReceived, State.onDev, on, one, List.length_singleton, List.range_one, List.filter_cons,
    List.getD_cons_zero, hit, List.filter_nil, satInc_eq_min, if_true, Dev.each_cons, Dev.each_nil]
  rfl

/-- Settles O49: each row is its equation, under the conditions of its rule. -/
theorem controllersAndCan : Obligations.ControllersAndCan := by
  refine ⟨fun c k b s on => ⟨fun link first => ⟨fun taken => ?record, fun other => ?missed, ?nack⟩, fun again => ?again,
    fun spent => ?spent, ?cond, ?timeout⟩, fun k n ident ide b s on one hit => ⟨fun long => ?frame, fun short => ?short⟩,
    fun k s on => ⟨fun fd talks period => ?status, fun active => ?passive, ?busOff⟩, fun k s power en auto off => ?recovery⟩
  case record =>
    have taken' : (s.dev.modTwc c fun t => { t with tries := 0, polled := pollBytes (s.dev.stp k 13).toNat }).pmAccepts k b = true :=
      taken
    rw [exec_packMonitorPoll _ on link first]
    simp only [taken', if_true]
    rfl
  case missed =>
    have other' : (s.dev.modTwc c fun t => { t with tries := 0, polled := pollBytes (s.dev.stp k 13).toNat }).pmAccepts k b = false :=
      other
    rw [exec_packMonitorPoll _ on link first]
    simp only [other', Bool.false_eq_true, if_false]
  case nack =>
    rw [exec_packMonitorPoll _ on link first]
    simp only [Dev.modTwc_modTwc, satInc_eq_min]
  case again => rw [exec_twcArbitrationLost on, if_pos again]
  case spent => rw [exec_twcArbitrationLost on, if_neg (Nat.not_lt.mpr spent)]
  case cond =>
    simp only [exec, execTwcArbLostCond, State.onDev, on, satInc_eq_min]
    rfl
  case timeout =>
    simp only [exec, execTwcTimeout, State.onDev, on, satInc_eq_min]
    rfl
  case frame => rw [exec_canFrameReceived b on one hit, if_neg (Nat.not_lt.mpr long)]
  case short => rw [exec_canFrameReceived b on one hit, if_pos short]
  case status =>
    have due : (fld (s.dev.canOf k).ctrl 8 16 != 0) = true := by
      rw [fld_eq]
      simpa using period
    simp only [exec, execCanStatusFrame, State.onDev, on, bit, fd, talks, due]
    rfl
  case passive =>
    simp only [exec, execCanErrorPassive, State.onDev, on, active]
    rfl
  case busOff =>
    simp only [exec, execCanBusOff, State.onDev, on, if_true]
  case recovery =>
    simp only [exec, execCanBusOffRecovery, State.onDev, power, bit, en, auto, off]
    rfl

end Sys2Proof.Machine
end

section
/-! PROOFS. The chain: formation, loss, SYNC, frames and messages (R90-R92, R355-R362, R422). -/

namespace Sys2Proof.Machine

/-- An update of the chain port is known by its value there. -/
theorem Dev.modChn_at (d : Dev) {f g : Chain → Chain} (same : f d.ln.chn = g d.ln.chn) : d.modChn f = d.modChn g :=
  congrArg (fun c => ({ d with ln := { d.ln with chn := c } } : Dev)) same

/-! ### Formation and loss (R355, R360) -/

/-- A condition's onset leaves all of the chain port but its queue. -/
theorem Dev.onset_chn (d : Dev) (ev unit : Nat) (inst : Option Nat) (data : List Byte) :
    ∃ q, (d.onset ev unit inst data).ln.chn = { d.ln.chn with outMsg := q } := by
  rw [onset]
  split
  · exact ⟨_, rfl⟩
  · obtain ⟨h, q, ln⟩ := Dev.raise_ln (d.modGlb fun g => { g with evcond := insertN (condKey ev unit) g.evcond }) ev inst data
    exact ⟨q, by rw [ln, modGlb_ln]⟩

theorem exec_chainFormed_conflict {f : Formation} {s : State} (electing : s.dev.ln.chn.st = .electing)
    (conflict : f.conflict = true ∨ (f.keys.any (· % 16 == fld s.dev.ln.chn.ctrl 1 4)) = true) :
    exec (.chainFormed f) s = .next { s with dev :=
      ((s.dev.modChn fun c => { c with st := .electing, role := 0 }).raise evChainIdConflict none []) } := by
  have same : (f.conflict || f.keys.any (· % 16 == fld s.dev.ln.chn.ctrl 1 4)) = true := Bool.or_eq_true_iff.mpr conflict
  simp only [exec, execChainFormed, State.onDev, electing]
  rw [if_neg (by decide), if_pos same]

/-- The chain port of a formed chain (R355, R359). -/
def Chain.formedAs (c : Chain) (f : Formation) : Chain :=
  { c with st := .formed, role := if f.position = 0 then 1 else 2, pos := f.position, count := f.count, crownId := f.crownId,
           loopNs := f.loopNs, formed := satInc 255 c.formed, lost := false, known := true, quiet := 0, rx := [], off := 0,
           dueC := [], dueP := [], slots := List.replicate 16 {}, side := {}, bases := [], serv := [], servTill := 0,
           shedTo := none, limpers := 0, aux := [], auxPrev := [], outFrame := [],
           dly := chainDelay c.cable f.loopNs f.position f.count }

/-- The first formation of a device without a shared mitten is the chain port's alone, and is announced. -/
theorem exec_chainFormed_alone {f : Formation} {s : State} (electing : s.dev.ln.chn.st = .electing) (noConflict : f.conflict = false)
    (noKey : (f.keys.any (· % 16 == fld s.dev.ln.chn.ctrl 1 4)) = false) (short : f.loopNs ≤ 8000)
    (elects : s.dev.ln.chn.elects f = true) (alone : ∀ m, m < 16 → (s.dev.mitE m).shared = false)
    (first : s.dev.ln.chn.known = false) : exec (.chainFormed f) s = .next { s with dev :=
      (((s.dev.modChn fun c => c.formedAs f).offset evChainLost 0).raise evChainFormed none (d2 f.count ++ d2 f.crownId)) } := by
  have unshared (l : List Nat) (below : ∀ m ∈ l, m < 16) : (s.dev.modChn fun c => c.formedAs f).each l (fun m e =>
      if (e.mitE m).shared then e.modMit m fun x =>
        { x with nTotal := (e.active m).length, baseIx := 0, keep := none, stopBlk := false, peerT := none, peerB := none, peerL := none }
      else e) = s.dev.modChn fun c => c.formedAs f := by
    induction l with
    | nil => rfl
    | cons m t ih =>
      have own : ((s.dev.modChn fun c => c.formedAs f).mitE m).shared = false := alone m (below m List.mem_cons_self)
      rw [Dev.each_cons, own, if_neg (by decide), ih fun k hk => below k (List.mem_cons_of_mem _ hk)]
  simp only [exec, execChainFormed, State.onDev, electing, noConflict, noKey, elects, first]
  rw [if_neg (by decide), if_neg (by decide), if_neg (Nat.not_lt.mpr short), if_neg (by decide)]
  exact congrArg (fun e : Dev => Host.Outcome.next { s with dev := (
    (e.offset evChainLost 0).raise evChainFormed none (d2 f.count ++ d2 f.crownId)) })
      (unshared (List.range 16) fun m hm => List.mem_range.mp hm)

/-- The chain port after a loss (R360). -/
def Chain.lostAs (c : Chain) : Chain :=
  { c with st := if c.role = 2 then .isolated else c.st, lost := true, losses := satInc 255 c.losses, rx := [],
           dueC := [], dueP := [], slots := c.slots.map fun s => { s with missed := 2 } }

theorem exec_chainLost {s : State} (formed : s.dev.ln.chn.st = .formed) (here : s.dev.ln.chn.lost = false)
    (quiet : 2 ≤ s.dev.ln.chn.quiet) : exec .chainLost s = .next { s with dev := (
      ((s.dev.modChn Chain.lostAs).onset evChainLost 0 none []).when (s.dev.ln.chn.role == 2) fun e => e.rebaseGrid) } := by
  have due : ¬(s.dev.ln.chn.st ≠ .formed ∨ s.dev.ln.chn.lost = true ∨ s.dev.ln.chn.quiet < 2) := by
    rw [not_or, not_or]
    exact ⟨not_not.mpr formed, by simp [here], Nat.not_lt.mpr quiet⟩
  simp only [exec, execChainLost, State.onDev, if_neg due]
  rfl

/-! ### SYNC (R362) -/

theorem syncGoodEdge_eq_true {p : Nat} {o : Int} (lo : 999000 ≤ p) (hi : p ≤ 1001000) (near : o.natAbs ≤ 2000) :
    syncGoodEdge p o = true := by
  simp [syncGoodEdge, lo, hi, near]

theorem syncGoodEdge_eq_false {p : Nat} {o : Int} (bad : p < 999000 ∨ 1001000 < p ∨ 2000 < o.natAbs) :
    syncGoodEdge p o = false := by
  simp only [syncGoodEdge, Bool.and_eq_false_iff, decide_eq_false_iff_not]
  omega

section
variable {p w : Nat} {o : Int} {s : State} (input : fld s.dev.ln.chn.ctrl 9 2 = 2) (ticks : s.dev.sy.ticking = true)
  (crown : s.dev.ln.chn.st = .formed → s.dev.ln.chn.role = 1) (lock : s.dev.ln.chn.syncLock = true)
include input ticks crown lock

/-- A good edge of a locked grid is a new reference of the grid. -/
theorem exec_syncEdge_good (good : syncGoodEdge p o = true) : exec (.syncEdge p o w) s = .next { s with dev := (
    (s.dev.modChn fun c => { c with syncBad := 0, syncGood := min 8 (c.syncGood + 1), edgeAt := s.dev.now, syncPer := p }).onSy
      fun y => { y with
        tick := y.tick.lockTo 0 s.dev.now, cframe := y.cframe.lockTo 1 s.dev.now,
        pframe := if 2000 < w then y.pframe.lockTo 2 s.dev.now else y.pframe }) } := by
  have acts : ¬(fld s.dev.ln.chn.ctrl 9 2 ≠ 2 ∨ (!s.dev.sy.ticking) = true ∨ s.dev.ln.chn.st = .formed ∧ s.dev.ln.chn.role ≠ 1) := by
    simpa [input, ticks] using crown
  simp only [exec, execSyncEdge, State.onDev, if_neg acts, good, lock, satInc_eq_min, if_true, decide_eq_true_eq]
  rfl

/-- A bad edge counts; the third in a row ends the lock. -/
theorem exec_syncEdge_bad (bad : syncGoodEdge p o = false) : exec (.syncEdge p o w) s = .next { s with dev := (
    if 3 ≤ s.dev.ln.chn.syncBad + 1 then
      ((s.dev.modChn fun c => { c with syncGood := 0, syncBad := min 3 (c.syncBad + 1), syncLock := false }).onset
        evSyncLost 0 none []).rebaseGrid
    else s.dev.modChn fun c => { c with syncGood := 0, syncBad := min 3 (c.syncBad + 1) }) } := by
  have acts : ¬(fld s.dev.ln.chn.ctrl 9 2 ≠ 2 ∨ (!s.dev.sy.ticking) = true ∨ s.dev.ln.chn.st = .formed ∧ s.dev.ln.chn.role ≠ 1) := by
    simpa [input, ticks] using crown
  have third : 3 ≤ min 3 (s.dev.ln.chn.syncBad + 1) ↔ 3 ≤ s.dev.ln.chn.syncBad + 1 := by omega
  simp only [exec, execSyncEdge, State.onDev, if_neg acts, bad, lock, satInc_eq_min, Dev.modChn_ln, third, true_and,
    Bool.false_eq_true, if_false]
  rfl
end

/-- Settles O50: each row is its equation; a formation without a shared mitten and a loss keep the rest of the device. -/
theorem chainStates : Obligations.ChainStates := by
  refine ⟨fun s training => ?lock, fun f s electing => ⟨exec_chainFormed_conflict electing, fun noConflict noKey long => ?long,
    fun noConflict noKey short elects alone first => ?formed⟩, fun s formed here quiet crown => ?crownLost,
    fun s formed here quiet follower => ?followerLost, fun p s lost => ⟨fun other => ?readmit, fun follower => ?relock⟩,
    fun p w o s mode ticks crown locked => ?sync⟩
  case lock =>
    simp only [exec, execChainSymbolLock, State.onDev]
    refine congrArg (fun e : Dev => Host.Outcome.next { s with dev := e }) (s.dev.modChn_at ?_)
    exact if_pos training
  case long =>
    simp only [exec, execChainFormed, State.onDev, electing, noConflict, noKey]
    rw [if_neg (by decide), if_neg (by decide), if_pos long]
  case formed =>
    refine ⟨_, exec_chainFormed_alone electing noConflict noKey short elects alone first, ?_⟩
    obtain ⟨h, q, ln⟩ := Dev.raise_ln ((s.dev.modChn fun c => c.formedAs f).offset evChainLost 0) evChainFormed none
      (d2 f.count ++ d2 f.crownId)
    simp only [ln]
    exact ⟨rfl, rfl, rfl, rfl, rfl, rfl, Dev.raise_evstat _ _ _ _, Dev.raise_pw _ _ _ _, Dev.raise_ms _ _ _ _,
      Dev.raise_sy _ _ _ _, trivial⟩
  case crownLost =>
    have alone : (s.dev.ln.chn.role == 2) = false := by rw [crown]; rfl
    rw [exec_chainLost formed here quiet, alone, Dev.when_false]
    refine congrArg (fun e : Dev => Host.Outcome.next { s with dev := e.onset evChainLost 0 none [] }) (s.dev.modChn_at ?_)
    simp [Chain.lostAs, crown, satInc_eq_min]
  case followerLost =>
    have isolated : (s.dev.ln.chn.role == 2) = true := by rw [follower]; rfl
    obtain ⟨q, chn⟩ := (s.dev.modChn Chain.lostAs).onset_chn evChainLost 0 none []
    refine ⟨_, exec_chainLost formed here quiet, ?_⟩
    rw [isolated, Dev.when_true]
    simp only [Dev.rebaseGrid, Dev.onSy_ln, Dev.onSy_pw, Dev.onSy_ms, chn, Dev.onset_pw, Dev.onset_ms]
    refine ⟨?_, rfl, rfl, rfl, trivial⟩
    simp [Chain.lostAs, follower]
  case readmit =>
    simp only [exec, execChainFramesReturn, State.onDev, lost]
    exact congrArg (fun e => Host.Outcome.next { s with dev := e }) (if_neg other)
  case relock =>
    simp only [exec, execChainFramesReturn, State.onDev, lost]
    exact congrArg (fun e => Host.Outcome.next { s with dev := e }) (if_pos follower)
  case sync =>
    have input : fld s.dev.ln.chn.ctrl 9 2 = 2 := by rw [fld_eq]; exact mode
    refine ⟨fun lo hi near => exec_syncEdge_good input ticks crown locked (syncGoodEdge_eq_true lo hi near),
      fun bad => ⟨fun few => ?_, fun third => ?_⟩⟩ <;>
      rw [exec_syncEdge_bad input ticks crown locked (syncGoodEdge_eq_false bad)]
    · rw [if_neg (by omega)]
    · rw [if_pos (by omega)]
      refine congrArg (fun e : Dev => Host.Outcome.next { s with dev := (e.onset evSyncLost 0 none []).rebaseGrid })
        (s.dev.modChn_at ?_)
      rw [third]
      rfl

end Sys2Proof.Machine
end

section
/-! PROOFS. The chain's frames and messages (R90-R92, R356-R358, R360, R422). -/

namespace Sys2Proof.Machine

theorem badFrame_eq_true {f : List Byte} {code : Bool} (bad : code = true ∨ f.length ≠ 250 ∨ sealFrame f ≠ f) :
    (code || f.length != 250 || sealFrame f != f) = true := by
  simpa [or_assoc] using bad

theorem badFrame_eq_false {f : List Byte} {code : Bool} (fine : code = false) (len : f.length = 250) (crc : sealFrame f = f) :
    (code || f.length != 250 || sealFrame f != f) = false := by
  simp [fine, len, crc]

theorem Chain.follows_spec {c : Chain} (follows : c.follows = true) : c.role = 2 ∧ c.st = .formed := by
  simpa [Chain.follows] using follows

/-- A received frame as the chain port keeps it (R356). -/
def frameOf (f : List Byte) (side : ChainSide) : RxFrame :=
  { tick := leAt f 2 4, blocks := (List.range 2).map fun i => parseBlk (f.drop (8 + 16 * i)),
    slots := (List.range 16).map fun p => parseSlot (f.drop (40 + 11 * p)), side := side }

/-- The units of 16 bytes of a manifest after a chunk (R413, R422). -/
def Chain.manAfter (c : Chain) (msg : List Byte) : List (Nat × List Byte) :=
  addChunk (leAt msg 2 2) (msg.drop 4) (if leAt msg 2 2 = 0 then [] else c.man)

theorem exec_manifestChunk {msg : List Byte} {s : State} (formed : s.dev.ln.chn.st = .formed)
    (neighbour : s.dev.ln.chn.fromUpstream = true) (receives : s.dev.receives = true) (kind : byteAt msg 0 = 5)
    (free : s.nv.upd ≠ .activating)
    (part : ((manifestUnits (s.dev.ln.chn.manAfter msg)).bind fun k => wholeItem k (s.dev.ln.chn.manAfter msg)) = none) :
    exec (.manifestChunk msg) s = .next { s with dev := s.dev.modChn fun c => { c with man := c.manAfter msg } } := by
  have taken : ¬(s.dev.ln.chn.st ≠ .formed ∨ (!s.dev.ln.chn.fromUpstream) = true ∨ byteAt msg 0 ≠ 5 ∨ s.nv.upd = .activating ∨
      (!s.dev.receives) = true) := by
    simp [formed, neighbour, kind, free, receives]
  have part' : ((manifestUnits (addChunk (leAt msg 2 2) (msg.drop 4) (if leAt msg 2 2 = 0 then [] else s.dev.ln.chn.man))).bind fun k =>
      wholeItem k (addChunk (leAt msg 2 2) (msg.drop 4) (if leAt msg 2 2 = 0 then [] else s.dev.ln.chn.man))) = none := part
  simp only [exec, execManifestChunk, State.onBoth_next, if_neg taken, Dev.modChn_ln, part', Chain.manAfter]

/-- Settles O51: each frame and message is its equation on the chain port or on the mitten it names. -/
theorem chainMessages : Obligations.ChainMessages := by
  refine ⟨fun f code side s formed => ⟨fun bad => ?dropped, fun fine len crc crown => ?kept⟩, fun f code side s isolated bad => ?counted,
    fun msg m s follows which used shared => ⟨fun kind => ?interleave, fun kind => ?check⟩, fun msg s follows kind least most => ?order,
    fun msg s formed follower kind other inChain limp => ?event,
    fun msg s formed neighbour receives kind free part => exec_manifestChunk formed neighbour receives kind free ?manifest,
    fun msg ok s formed neighbour receives kind free part => ?piece⟩
  case dropped =>
    have there : ¬(s.dev.ln.chn.st = .isolated ∧ (code || f.length != 250 || sealFrame f != f) = true) := by simp [formed]
    simp only [exec, execChainFrame, State.onDev, if_neg there, if_neg (not_not.mpr formed), if_pos (badFrame_eq_true bad)]
  case kept =>
    have there : ¬(s.dev.ln.chn.st = .isolated ∧ (code || f.length != 250 || sealFrame f != f) = true) := by simp [formed]
    have crown' : ¬ s.dev.ln.chn.role = 2 := by simp [crown]
    refine ⟨{ s with dev := s.dev.modChn fun c => { c with rx := (frameOf f side :: c.rx).take 3, quiet := 0 } }, frameOf f side,
      ?_, rfl, rfl, rfl, rfl, rfl, rfl, rfl, rfl⟩
    simp only [exec, execChainFrame, State.onDev, if_neg there, if_neg (not_not.mpr formed),
      if_neg (Bool.eq_false_iff.mp (badFrame_eq_false fine len crc))]
    exact congrArg (fun e => Host.Outcome.next { s with dev := e }) (if_neg crown')
  case counted =>
    simp only [exec, execChainFrame, State.onDev, if_pos (And.intro isolated (badFrame_eq_true bad)), satInc_eq_min]
  case interleave =>
    simp only [exec, execChainInterleave, State.onDev, which, follows, used, shared, kind]
    simp
  case check =>
    simp only [exec, execChainConfigCheck, State.onDev, which, follows, used, shared, kind]
    rw [if_neg (by decide)]
  case order =>
    simp only [exec, execChainOrder, State.onDev, follows, kind, least, most]
    rfl
  case event =>
    have heard : ¬(s.dev.ln.chn.st ≠ .formed ∨ byteAt msg 0 ≠ 4 ∨ byteAt msg 1 = s.dev.ln.chn.pos ∨ 16 ≤ byteAt msg 1) := by
      simp [formed, kind, other, inChain]
    have role : ¬ (s.dev.modChn fun c => { c with limpers := c.limpers ||| (1#16 <<< byteAt msg 1) }).ln.chn.role = 1 := by
      simp [follower]
    simp only [exec, execChainEvent, State.onDev, if_neg heard, limp, if_true]
    exact congrArg (fun e => Host.Outcome.next { s with dev := e }) (if_neg role)
  case manifest =>
    unfold Chain.manAfter
    revert part
    cases manifestUnits (addChunk (leAt msg 2 2) (msg.drop 4) (if leAt msg 2 2 = 0 then [] else s.dev.ln.chn.man)) with
    | none => exact fun _ => rfl
    | some k => exact fun part => by simpa using part
  case piece =>
    have taken : ¬(s.dev.ln.chn.st ≠ .formed ∨ (!s.dev.ln.chn.fromUpstream) = true ∨ byteAt msg 0 ≠ 6 ∨ s.nv.upd = .activating ∨
        (!s.dev.receives) = true) := by
      simp [formed, neighbour, kind, free, receives]
    simp only [exec, execPieceChunk, State.onBoth_next, if_neg taken, Dev.modChn_ln, part]

end Sys2Proof.Machine
end

section
/-! PROOFS. The recovery ROM (R431, R432). -/

namespace Sys2Proof.Machine

theorem byteAt_drop (b : List Byte) (k i : Nat) : byteAt (b.drop k) i = byteAt b (k + i) := by
  simp [byteAt, List.getD_eq_getElem?_getD]

theorem leAt_drop (b : List Byte) (k off n : Nat) : leAt (b.drop k) off n = leAt b (k + off) n := by
  rw [leAt, leAt, List.drop_drop]

/-- The ROM serves an attachment as long as the other has not delivered a valid packet. -/
theorem Dev.romServes_window {d : Dev} (other : d.ln.upd.romAtt ≠ some .uart) : d.romServes .window = true := by
  rw [romServes]
  cases h : d.ln.upd.romAtt with
  | none => rfl
  | some a => cases a with
    | window => rfl
    | uart => exact absurd h other

theorem Dev.romServes_uart {d : Dev} (other : d.ln.upd.romAtt ≠ some .window) : d.romServes .uart = true := by
  rw [romServes]
  cases h : d.ln.upd.romAtt with
  | none => rfl
  | some a => cases a with
    | window => exact absurd h other
    | uart => rfl

section
variable {d : Dev} {n : Nv} {code : Nat} {raw p : List Byte} {att : RomAtt} {f : List Byte → Dev → Nv → Dev × Nv}
  (recovery : d.sy.power = .recovery) (serves : d.romServes att = true)
include recovery serves

/-- A frame or CRC error gets status 1. -/
theorem Dev.romRow_broken (broken : romPacket att raw = none) :
    d.romRow n code raw att f = ((d.reply ([0x80, 0] ++ leBytes 2 1 ++ leBytes 1 1)).romSend att, n) := by
  simp only [romRow, recovery, serves, broken]
  simp

section
variable (packet : romPacket att raw = some p)
include packet

/-- A wrong LEN gets status 1. -/
theorem Dev.romRow_length (len : p.length ≠ 4 + leAt p 2 2) :
    d.romRow n code raw att f = ((d.romAnswer p 1 []).romSend att, n) := by
  simp only [romRow, recovery, serves, packet, if_pos (Or.inr len)]
  simp

variable (whole : 4 ≤ p.length) (len : p.length = 4 + leAt p 2 2)
include whole len

/-- A repeated SEQ gets the previous response. -/
theorem Dev.romRow_repeated (seen : d.ln.upd.romSeq = some (byteAt p 1)) : d.romRow n code raw att f =
    ((((d.romBy att).modUpd fun u => { u with romWin := winSet u.romWin 0 0 }).reply d.ln.upd.romResp).romSend att, n) := by
  have fits : ¬(p.length < 4 ∨ p.length ≠ 4 + leAt p 2 2) := by omega
  simp only [romRow, recovery, serves, packet, if_neg fits, if_pos seen]
  simp

/-- A new packet of the row's command is answered by its effect. -/
theorem Dev.romRow_new (fresh : d.ln.upd.romSeq ≠ some (byteAt p 1)) (known : ¬(code = 0 ∨ 6 < code)) (cmd : byteAt p 0 = code) :
    d.romRow n code raw att f = (((f p (d.romBy att) n).1.romSend att), (f p (d.romBy att) n).2) := by
  have fits : ¬(p.length < 4 ∨ p.length ≠ 4 + leAt p 2 2) := by omega
  simp only [romRow, recovery, serves, packet, if_neg fits, if_neg fresh, cmd, if_neg known]
  simp
end
end

/-- What the ROM holds as its slot's manifest may be committed with its whole bitmap (R432). -/
theorem Dev.commitRefusal_held {d : Dev} {n : Nv} {slot : Nat} {m : Manifest} (inDevice : slot < 2) (own : d.romSlot n = some slot)
    (held : n.held = some m) (free : n.ownerLock = false) (whole : n.bitmap.length = m.pieces) :
    d.commitRefusal n slot true = none := by
  have a : ¬ 1 < slot := by omega
  simp [commitRefusal, own, held, free, whole, a]

/-- The bitmap of the slot whose manifest the ROM holds (R432). -/
theorem exec_romBitmap {att : RomAtt} (raw : List Byte) {p : List Byte} {s : State}
    (turn : ∀ {f}, s.dev.romRow s.nv 4 raw att f = ((f p (s.dev.romBy att) s.nv).1.romSend att, (f p (s.dev.romBy att) s.nv).2))
    (own : s.dev.romSlot s.nv = some (byteAt p 4)) (size : p.length = 5) : exec (.romBitmap raw att) s =
      .next { s with dev := ((s.dev.romBy att).romAnswer p 0 (bitmapBytes s.nv.bitmap)).romSend att } := by
  have fits : ¬((s.dev.romBy att).romSlot s.nv ≠ some (byteAt p 4) ∨ (p.drop 4).length ≠ 1) := by
    rw [List.length_drop, size, not_or, not_not]
    exact ⟨own, by decide⟩
  simp only [exec, execRomBitmap, State.onBoth_next, turn, byteAt_drop, Nat.reduceAdd, if_neg fits]

/-- Settles O52: each packet is one turn of `romRow`, and the row's effect is its equation. -/
theorem recoveryRom : Obligations.RecoveryRom := by
  refine ⟨fun p s recovery other whole len seen => ?repeated, fun p s recovery other len => ?length,
    fun p s recovery other whole len fresh => ⟨fun cmd => ?hello, fun cmd slot least most part => ?manifest,
      fun ok cmd own size => ?piece, fun cmd own size => ?bitmap, fun m b cmd slot own held free all => ?commit,
      fun b cmd => ?reset⟩, fun f s recovery other => ⟨fun broken => ?broken, fun p packet size len fresh cmd own => ?uart⟩,
    fun p s att => ?elsewhere⟩
  case repeated =>
    simp only [exec, execRomHello, State.onBoth_next,
      Dev.romRow_repeated (att := .window) recovery (Dev.romServes_window other) rfl whole len seen]
    rfl
  case length =>
    simp only [exec, execRomBitmap, State.onBoth_next,
      Dev.romRow_length (att := .window) recovery (Dev.romServes_window other) rfl len]
    rfl
  case hello =>
    simp only [exec, execRomHello, State.onBoth_next,
      Dev.romRow_new (att := .window) recovery (Dev.romServes_window other) rfl whole len fresh (by decide) cmd]
    rfl
  case manifest =>
    have slot' : ¬ 1 < byteAt p 4 := by omega
    have size : ¬((p.drop 4).length < 5 ∨ 4096 < (p.drop 9).length) := by
      rw [List.length_drop, List.length_drop]
      omega
    simp only [exec, execRomManifest, State.onBoth_next,
      Dev.romRow_new (att := .window) recovery (Dev.romServes_window other) rfl whole len fresh (by decide) cmd, byteAt_drop,
      leAt_drop, List.drop_drop, if_neg slot', if_neg size, Nat.reduceAdd, Dev.romBy, Dev.modUpd_ln]
    split
    · rfl
    · next b assembled => cases assembled.symm.trans part
  case piece =>
    have own' : ¬(s.dev.romBy .window).romSlot s.nv ≠ some (byteAt p 4) := not_not.mpr own
    have size' : ¬(p.drop 4).length ≠ 4099 := by
      rw [List.length_drop]
      omega
    simp only [exec, execRomPiece, State.onBoth_next,
      Dev.romRow_new (att := .window) recovery (Dev.romServes_window other) rfl whole len fresh (by decide) cmd, byteAt_drop,
      leAt_drop, List.drop_drop, Nat.reduceAdd, if_neg own', if_neg size']
    rfl
  case bitmap =>
    rw [exec_romBitmap p (Dev.romRow_new (att := .window) recovery (Dev.romServes_window other) rfl whole len fresh (by decide) cmd)
      own size]
    rfl
  case commit =>
    have own' : (s.dev.romBy .window).romSlot s.nv = some (byteAt p 4) := own
    refine ⟨_, ?_, rfl⟩
    simp only [exec, execRomCommit, State.onBoth_next,
      Dev.romRow_new (att := .window) recovery (Dev.romServes_window other) rfl whole len fresh (by decide) cmd, byteAt_drop,
      Nat.reduceAdd, Dev.commitRefusal_held slot own' held free all, own', held,
      beq_self_eq_true, if_true, Option.getD_some]
    rfl
  case reset =>
    simp only [exec, execRomReset, State.onBoth_next,
      Dev.romRow_new (att := .window) recovery (Dev.romServes_window other) rfl whole len fresh (by decide) cmd]
    rfl
  case broken =>
    simp only [exec, execRomBitmap, State.onBoth_next, Dev.romRow_broken (att := .uart) recovery (Dev.romServes_uart other) broken]
    rfl
  case uart =>
    rw [exec_romBitmap f (Dev.romRow_new (att := .uart) recovery (Dev.romServes_uart other) packet (by omega) (by omega) fresh
      (by decide) cmd) own size]
    rfl
  case elsewhere =>
    have serves : s.dev.romServes .window = false := by
      rw [Dev.romServes, att]
      rfl
    simp only [exec, execRomBitmap, State.onBoth_next, Dev.romRow, serves]
    simp

end Sys2Proof.Machine
end

section
/-! PROOFS. Doorbells that act, and the rows of the ring engine (R270-R273, R282-R287, R294). -/

namespace Sys2Proof.Machine

/-! ### Doorbells (R272, R273, R282) -/

/-- The fields of a doorbell value by arithmetic. -/
theorem Ring.doorbell_eq (g : Ring) (v : Nat) : g.doorbell v = { g with
    sqTail := if v / 32768 % 2 = 1 then v % 4096 else g.sqTail,
    cqHead := if v / 2147483648 % 2 = 1 then v / 65536 % 4096 else g.cqHead,
    unrel := if v / 2147483648 % 2 = 1 then g.unrel - g.released (v / 65536 % 4096) else g.unrel,
    arm := g.arm || decide (v / 1073741824 % 2 = 1) } := by
  simp only [doorbell, Nat.testBit_eq_decide_div_mod_eq, bits_eq_div_mod, decide_eq_true_eq, Nat.pow_zero, Nat.div_one, Nat.reducePow]

theorem Ring.badDoorbell_eq_false {g : Ring} {v : Nat} (up : g.st = .active ∨ g.st = .error)
    (reserved : v / 4096 % 8 = 0 ∧ v / 268435456 % 4 = 0 ∧ v < 4294967296) (sq : v / 32768 % 2 = 1 → v % 4096 < g.sqLen)
    (cq : v / 2147483648 % 2 = 1 → v / 65536 % 4096 < g.cqLen ∧ g.released (v / 65536 % 4096) ≤ g.unrel) :
    g.badDoorbell v = false := by
  obtain ⟨there, kept⟩ := Ring.there_of_up up
  obtain ⟨r1, r2, r3⟩ := reserved
  simp only [badDoorbell, Nat.testBit_eq_decide_div_mod_eq, bits_eq_div_mod, Nat.reducePow, Nat.div_one, r1, r2,
    Nat.div_eq_of_lt r3, Nat.zero_mod, bne_self_eq_false, Bool.false_or, Bool.or_eq_false_iff, Bool.and_eq_false_iff,
    decide_eq_false_iff_not, beq_eq_false_iff_ne]
  refine ⟨⟨⟨?_, ?_⟩, there⟩, kept⟩
  · by_cases h : v / 32768 % 2 = 1
    · exact .inr (Nat.not_le.mpr (sq h))
    · exact .inl h
  · by_cases h : v / 2147483648 % 2 = 1
    · exact .inr ⟨Nat.not_le.mpr (cq h).1, Nat.not_lt.mpr (cq h).2⟩
    · exact .inl h

/-- Awake and with no order accepted, no access wakes the device. -/
theorem Dev.wakeSleep_awake {d : Dev} (up : d.inRun = true) (order : d.sy.order = none) (sleep : d.sy.sleepNext = false)
    (cause : Nat) : d.wakeSleep cause = d := by
  have awake : d.sy.power ≠ .sleep := fun h => by simp [inRun, h] at up
  simp [wakeSleep, awake, order, sleep]

section
variable {d : Dev} {r n : Nat} {g : Ring} {v : BitVec 64} (up : d.inRun = true) (size : n = 8 ∨ n = 4)
  (short : v.toNat < 4294967296)
include up size short

/-- A whole doorbell write of a 32-bit value reads that value. -/
theorem Dev.doorbell_eq : d.doorbell r v n = if (d.ring r).badDoorbell v.toNat then
      d.raise evRingDoorbellInvalid none (d2 r ++ leBytes 8 v.toNat)
    else (d.modRing r fun x => x.doorbell v.toNat).when ((d.ring r).cls != 0) fun e => e.wakeSleep 4 := by
  have answers : (d.inRun || d.sy.power == .sleep || d.sy.power == .liner) = true := by simp [up]
  have whole : ¬(n ≠ 8 ∧ n ≠ 4) := by omega
  have value : (if n = 8 then v.toNat else v.toNat % 4294967296) = v.toNat := by
    split
    · rfl
    · exact Nat.mod_eq_of_lt short
  rw [doorbell, answers, if_neg (by decide), if_neg whole]
  simp only [value]

/-- A valid value acts on its ring alone. -/
theorem Dev.doorbell_valid (order : d.sy.order = none) (sleep : d.sy.sleepNext = false) (there : look r d.ho.rings = some g)
    (good : g.badDoorbell v.toNat = false) : d.doorbell r v n = d.setRing r (g.doorbell v.toNat) := by
  rw [doorbell_eq up size short, ring_of_look there, good, if_neg (by decide)]
  have ring : (d.modRing r fun x => x.doorbell v.toNat) = d.setRing r (g.doorbell v.toNat) := by rw [modRing, there]
  rw [ring]
  cases g.cls != 0
  · rfl
  · exact wakeSleep_awake (d := d.setRing r (g.doorbell v.toNat)) up order sleep 4
end

theorem toNat_ofNat_short {w : Nat} (short : w < 4294967296) : (BitVec.ofNat 64 w).toNat = w := by
  rw [BitVec.toNat_ofNat]
  omega

/-- Settles O31: each value is valid, and its one valid bit says what acts. -/
theorem doorbells : Obligations.Doorbells := by
  intro r n g s up order sleep there live size
  refine ⟨fun i inRing short => ?tail, fun h inRing short few => ?head, ?arm, fun h short out => ?bad⟩
  case tail =>
    have v : (BitVec.ofNat 64 (0x8000 + i)).toNat = 0x8000 + i := toNat_ofNat_short (by omega)
    rw [exec_doorbell s (.inl rfl), Dev.doorbell_valid up size (by omega) order sleep there]
    · have low : (0x8000 + i) % 4096 = i := by omega
      have noHead : ¬(0x8000 + i) / 2147483648 % 2 = 1 := by omega
      have noArm : ¬(0x8000 + i) / 1073741824 % 2 = 1 := by omega
      rw [v, Ring.doorbell_eq, if_pos (by omega), if_neg noHead, if_neg noHead, low, decide_eq_false noArm, Bool.or_false]
    · rw [v]
      exact Ring.badDoorbell_eq_false live (by omega) (fun _ => by omega) (fun _ => by omega)
  case head =>
    have v : (BitVec.ofNat 64 (0x80000000 + 65536 * h)).toNat = 0x80000000 + 65536 * h := toNat_ofNat_short (by omega)
    have field : (0x80000000 + 65536 * h) / 65536 % 4096 = h := by omega
    rw [exec_doorbell s (.inr (.inl rfl)), Dev.doorbell_valid up size (by omega) order sleep there]
    · have noTail : ¬(0x80000000 + 65536 * h) / 32768 % 2 = 1 := by omega
      have noArm : ¬(0x80000000 + 65536 * h) / 1073741824 % 2 = 1 := by omega
      rw [v, Ring.doorbell_eq, if_neg noTail, if_pos (by omega), if_pos (by omega), field, decide_eq_false noArm, Bool.or_false]
    · rw [v]
      refine Ring.badDoorbell_eq_false live (by omega) (fun _ => by omega) fun _ => ?_
      rw [field]
      exact ⟨inRing, few⟩
  case arm =>
    rw [exec_doorbell s (.inr (.inr rfl)), Dev.doorbell_valid up size (by decide) order sleep there]
    · refine congrArg (fun x => Host.Outcome.next { s with dev := s.dev.setRing r x }) ?_
      rw [Ring.doorbell_eq]
      simp
    · exact Ring.badDoorbell_eq_false live (by decide) (fun h => absurd h (by decide)) (fun h => absurd h (by decide))
  case bad =>
    have v : (BitVec.ofNat 64 (0x80000000 + 65536 * h)).toNat = 0x80000000 + 65536 * h := toNat_ofNat_short (by omega)
    have field : (0x80000000 + 65536 * h) / 65536 % 4096 = h := by omega
    have invalid : g.badDoorbell (0x80000000 + 65536 * h) = true := by
      have valid : (0x80000000 + 65536 * h) / 2147483648 % 2 = 1 := by omega
      simp only [Ring.badDoorbell, Nat.testBit_eq_decide_div_mod_eq, bits_eq_div_mod, Nat.reducePow, field, valid]
      simp [out]
    rw [exec_doorbell s (.inr (.inl rfl)), Dev.doorbell_eq up size (by omega), Dev.ring_of_look there, v, if_pos invalid]

end Sys2Proof.Machine
end

section
/-! PROOFS. The rows of the ring engine (R270, R282, R284, R286, R287, R294). -/

namespace Sys2Proof.Machine

/-! ### What an event to a ring leaves -/

/-- Two devices with the same rings, tags, power state and link. -/
structure Dev.sameRings (d e : Dev) : Prop where
  rings : e.ho.rings = d.ho.rings
  tags : e.ho.tags = d.ho.tags
  sy : e.sy = d.sy
  bme : e.ho.hif.bme = d.ho.hif.bme
  inL2 : e.ho.hif.inL2 = d.ho.hif.inL2

namespace Dev

theorem sameRings.trans {a b c : Dev} (h : a.sameRings b) (k : b.sameRings c) : a.sameRings c :=
  ⟨k.rings.trans h.rings, k.tags.trans h.tags, k.sy.trans h.sy, k.bme.trans h.bme, k.inL2.trans h.inL2⟩

theorem sameRings.ring {d e : Dev} (h : d.sameRings e) (r : Nat) : e.ring r = d.ring r := by rw [Dev.ring, Dev.ring, h.rings]

theorem wakeSideband_sameRings (d : Dev) : d.sameRings d.wakeSideband := by
  unfold wakeSideband
  split <;> exact ⟨rfl, rfl, rfl, rfl, rfl⟩

theorem hostWrite_sameRings (d : Dev) (a : Nat) (b : List Byte) : d.sameRings (d.hostWrite a b) := by
  unfold hostWrite
  split
  · exact ⟨rfl, rfl, rfl, rfl, rfl⟩
  · split <;> exact ⟨rfl, rfl, rfl, rfl, rfl⟩

theorem pend_sameRings (d : Dev) (v : Nat) : d.sameRings (d.modHif (·.pend v)) := by
  refine ⟨rfl, rfl, rfl, ?_, ?_⟩ <;>
  · simp only [modHif_ho, Hif.pend]
    split <;> rfl

theorem fire_sameRings (d : Dev) (v : Nat) : d.sameRings (d.fire v) := by
  unfold fire
  refine .trans ?_ (wakeSideband_sameRings _)
  split
  · exact d.pend_sameRings v
  · split <;> exact ⟨rfl, rfl, rfl, rfl, rfl⟩

theorem sameRings.linkUp {d e : Dev} (h : d.sameRings e) : e.linkUp = d.linkUp := by
  rw [Dev.linkUp, Dev.linkUp, inRun, inRun, qspiMode, qspiMode, h.sy, h.bme, h.inL2]

theorem sameRings.inFlight {d e : Dev} (h : d.sameRings e) (r : Nat) : e.inFlight r = d.inFlight r := by
  rw [Dev.inFlight, Dev.inFlight, h.tags]

end Dev

/-- The ring list after an update of a ring that stays in being. -/
theorem Dev.look_modRing {d : Dev} {r : Nat} {g : Ring} {f : Ring → Ring} (there : look r d.ho.rings = some g)
    (kept : (f g).st ≠ .none) : look r (d.modRing r f).ho.rings = some (f g) := by
  rw [modRing_rings there kept, look_assign, if_pos rfl]

/-- An entry written to a ring is counted as unreleased, and the ring's other counts stand. -/
theorem Dev.writeEntry_ring {d : Dev} {r : Nat} {g : Ring} (there : look r d.ho.rings = some g) (live : g.st ≠ .none)
    (lo w6 hi : Nat) : ((d.writeEntry r lo w6 hi).ring r).lost = g.lost ∧ ((d.writeEntry r lo w6 hi).ring r).unrel = g.unrel + 1 := by
  let b := leBytes 6 lo ++ leBytes 2 (w6 % 0x8000 + 0x8000 * b2n g.phaseBit) ++ leBytes 8 hi
  have written : look r (d.hostWrite (g.cqBase + 16 * g.cqTail) b).ho.rings = some g := by
    rw [(d.hostWrite_sameRings _ _).rings, there]
  rw [writeEntry, (wakeSideband_sameRings _).ring, ring_of_look there, ring_of_look (look_modRing written live)]
  exact ⟨rfl, rfl⟩

/-- An event goes to a ring with room and nothing waiting as one entry. -/
theorem Dev.eventTo_ring {d : Dev} {r : Nat} {g : Ring} (e : EventRec) (there : look r d.ho.rings = some g) (live : g.st ≠ .none)
    (link : d.linkUp = true) (room : d.inFlight r + g.unrel < g.cqLen) (none_lost : g.lost = 0) (idle : g.evWait = []) :
    ((d.eventTo e r).ring r).lost = 0 ∧ ((d.eventTo e r).ring r).unrel = g.unrel + 1 := by
  have flushed : d.flushRing r = d.modRing r fun x => { x with evWait := [] } := by
    rw [flushRing, link, if_pos rfl, ring_of_look there, idle]
    rfl
  have there' : look r (d.flushRing r).ho.rings = some { g with evWait := [] } := by
    rw [flushed]
    exact look_modRing there live
  have room' : ((d.flushRing r).inFlight r + ({ g with evWait := [] } : Ring).unrel < ({ g with evWait := [] } : Ring).cqLen &&
      ({ g with evWait := [] } : Ring).lost == 0) = true := by
    have flight : (d.flushRing r).inFlight r = d.inFlight r := by rw [inFlight, inFlight, flushed, modRing_tags]
    rw [flight, none_lost]
    exact Bool.and_eq_true_iff.mpr ⟨decide_eq_true room, rfl⟩
  rw [eventTo, link, if_pos rfl, putEvent, ring_of_look there', if_pos room', ← none_lost]
  exact writeEntry_ring there' live _ _ _

/-! ### The rows -/

theorem Dev.tagOf_ho {d e : Dev} (tags : e.ho.tags = d.ho.tags) (t : Nat) : e.tagOf t = d.tagOf t := by
  rw [tagOf, tagOf, tags]

theorem exec_completionWrite {tag : Tag} {x : TagRec} {s : State} (there : s.dev.tagOf tag = some x) (due : x.st = .due) :
    exec (.completionWrite tag) s = .next { s with dev := (
      if x.drop then (s.dev.atCompletion x).freeTag tag
      else if !s.dev.linkUp then s.dev.wakeSideband
      else if s.dev.waitsFor x then s.dev
      else s.dev.complete x) } := by
  simp only [exec, execCompletionWrite, State.onDev, there, if_neg (not_not.mpr due)]

theorem exec_vectorFire {r : Fin 1024} {waited : Bool} {s : State} (live : (s.dev.ring r).st ≠ .none)
    (arm : (s.dev.ring r).arm = true) (some : 0 < (s.dev.ring r).unrel) (vec : (s.dev.ring r).vector < 64)
    (link : s.dev.linkUp = true) : exec (.vectorFire r waited) s = .next { s with dev := (
      if waited = true ∨ (s.dev.ring r).coalT = 0 ∨ (s.dev.ring r).coalN ≤ (s.dev.ring r).unrel then
        (s.dev.modRing r fun g => { g with arm := false }).fire (s.dev.ring r).vector
      else s.dev) } := by
  have live' : ((s.dev.ring r).st != .none) = true := by simpa using live
  simp only [exec, execVectorFire, State.onDev, link, live', arm, some, vec]
  simp [or_assoc]

/-- The event that tells of lost ones (R294). -/
def Dev.lostEvent (d : Dev) (r lost : Nat) : EventRec :=
  { ev := evEventsLost, inst := none, seq := d.ho.evSeq, frame := d.sy.cframe.count, time := d.now,
    data := leBytes 4 lost ++ leBytes 2 r ++ List.replicate 6 0 }

/-- The device as EVENTS_LOST sets its status bit, and as the event's vector fires. -/
def Dev.lostNoted (d : Dev) : Dev :=
  let e := d.onHo fun h => { h with glb := { h.glb with evstat := insertN evEventsLost h.glb.evstat },
                                    evSeq := (h.evSeq + 1) % 65536 }
  if e.ho.glb.vecByte evEventsLost ≥ 128 then e.fire (e.ho.glb.vecByte evEventsLost % 64) else e

/-- The device as it posts the event of lost ones: the ring's count is clear. -/
def Dev.lostCleared (d : Dev) (r : Nat) : Dev := d.lostNoted.modRing r fun x => { x with lost := 0 }

theorem exec_eventsLost {r : Fin 1024} {g : Ring} {s : State} (there : look r.val s.dev.ho.rings = some g) (lost : g.lost ≠ 0)
    (open' : s.dev.sy.holdOn = false) (room : s.dev.inFlight r + g.unrel < g.cqLen) (link : s.dev.linkUp = true) :
    exec (.eventsLost r) s = .next { s with dev := (
      (((s.dev.lostCleared r).eventTo (s.dev.lostEvent r g.lost) r).addLog 0 s.dev.now
        evEventsLost 0xFFFF (s.dev.lostEvent r g.lost).data).hbEvent (s.dev.lostEvent r g.lost)) } := by
  have due : ¬(g.lost = 0 ∨ s.dev.sy.holdOn = true ∨ (!decide (s.dev.inFlight r + g.unrel < g.cqLen)) = true) := by
    simp [lost, open', room]
  simp only [exec, execEventsLost, State.onDev, link, Dev.ring_of_look there, if_neg due]
  rfl

theorem Dev.lostNoted_sameRings (d : Dev) : d.sameRings d.lostNoted := by
  unfold lostNoted
  dsimp only
  split
  · exact sameRings.trans (b := d.onHo _) ⟨rfl, rfl, rfl, rfl, rfl⟩ (fire_sameRings _ _)
  · exact ⟨rfl, rfl, rfl, rfl, rfl⟩

theorem Dev.lostNoted_evstat (d : Dev) : evEventsLost ∈ d.lostNoted.ho.glb.evstat := by
  unfold lostNoted
  dsimp only
  split
  · rw [(fire_hostOnly _ _).glb]
    exact (mem_insertN _ _ _).mpr (.inl rfl)
  · exact (mem_insertN _ _ _).mpr (.inl rfl)

theorem Dev.lostNoted_parts (d : Dev) : d.lostNoted.pw = d.pw ∧ d.lostNoted.ms = d.ms ∧ d.lostNoted.sy = d.sy := by
  unfold lostNoted
  dsimp only
  split
  · exact ⟨(fire_hostOnly _ _).pw, (fire_hostOnly _ _).ms, (fire_hostOnly _ _).sy⟩
  · exact ⟨rfl, rfl, rfl⟩

/-- The log and the hatband's record of an event leave the rings and the rest of the device. -/
theorem Dev.logged_kept (d : Dev) (time code inst : Nat) (data : List Byte) (e : EventRec) :
    ((d.addLog 0 time code inst data).hbEvent e).ho.rings = d.ho.rings ∧
    ((d.addLog 0 time code inst data).hbEvent e).ho.glb = d.ho.glb ∧ ((d.addLog 0 time code inst data).hbEvent e).pw = d.pw ∧
    ((d.addLog 0 time code inst data).hbEvent e).ms = d.ms ∧ ((d.addLog 0 time code inst data).hbEvent e).sy = d.sy := by
  obtain ⟨h, record⟩ := (d.addLog 0 time code inst data).hbEvent_eq e
  rw [record]
  exact ⟨rfl, rfl, rfl, rfl, rfl⟩

/-- Settles O33: each row is its equation; the event of lost ones is one entry of its ring. -/
theorem ringEngine : Obligations.RingEngine := by
  refine ⟨fun r s active => ?error, fun tag x s there due => ⟨fun drop => ?dropped, fun kept link free => ?written⟩,
    fun r waited s live arm some vec link => ⟨fun due => ?fires, fun early timed few => ?waits⟩,
    fun r g s there live lost open' room link idle => ?lost,
    fun r tag s drained => ⟨fun deleting waits noReset => ?deleted, fun error waits => ?reset⟩⟩
  case error =>
    simp only [exec, execRingError, State.onDev, if_pos active]
  case dropped => rw [exec_completionWrite there due, if_pos drop]
  case written =>
    rw [exec_completionWrite there due, kept, link, free]
    rfl
  case fires => rw [exec_vectorFire live arm some vec link, if_pos due]
  case waits =>
    rw [exec_vectorFire live arm some vec link, if_neg]
    simp [early, timed, few]
  case lost =>
    have noted := s.dev.lostNoted_sameRings
    obtain ⟨pw, ms, sy⟩ := s.dev.lostNoted_parts
    have there₁ : look r.val s.dev.lostNoted.ho.rings = some g := by rw [noted.rings, there]
    have there₂ : look r.val (s.dev.lostCleared r).ho.rings = some { g with lost := 0 } := Dev.look_modRing there₁ live
    have modified : s.dev.lostNoted.hostOnly (s.dev.lostCleared r) := s.dev.lostNoted.modRing_hostOnly r _
    have link₂ : (s.dev.lostCleared r).linkUp = true := by
      have bus : (s.dev.lostCleared r).ho.hif = s.dev.lostNoted.ho.hif := by
        simp only [Dev.lostCleared, Dev.modRing, there₁]
        rfl
      have l₁ : (s.dev.lostCleared r).linkUp = s.dev.lostNoted.linkUp := by
        rw [Dev.linkUp, Dev.linkUp, Dev.inRun, Dev.inRun, Dev.qspiMode, Dev.qspiMode, modified.sy, bus]
      rw [l₁, noted.linkUp, link]
    have room₂ : (s.dev.lostCleared r).inFlight r + ({ g with lost := 0 } : Ring).unrel < ({ g with lost := 0 } : Ring).cqLen := by
      have flight : (s.dev.lostCleared r).inFlight r = s.dev.inFlight r := by rw [Dev.inFlight, Dev.inFlight, modified.tags, noted.tags]
      rw [flight]
      exact room
    obtain ⟨lost₃, unrel₃⟩ := Dev.eventTo_ring (s.dev.lostEvent r g.lost) there₂ live link₂ room₂ rfl idle
    have sent := (s.dev.lostCleared r).eventTo_hostOnly (s.dev.lostEvent r g.lost) r
    obtain ⟨rings, glb, pw₄, ms₄, sy₄⟩ :=
      ((s.dev.lostCleared r).eventTo (s.dev.lostEvent r g.lost) r).logged_kept s.dev.now evEventsLost 0xFFFF (s.dev.lostEvent r g.lost).data (s.dev.lostEvent r g.lost)
    refine ⟨_, exec_eventsLost there lost open' room link, ?_⟩
    simp only [Dev.ring, rings, glb, pw₄, ms₄, sy₄]
    refine ⟨lost₃, unrel₃, ?_, sent.pw.trans (modified.pw.trans pw), sent.ms.trans (modified.ms.trans ms),
      sent.sy.trans (modified.sy.trans sy), trivial⟩
    rw [sent.glb, modified.glb]
    exact s.dev.lostNoted_evstat
  case deleted =>
    simp only [exec, execRingDrainEnd, State.onDev, if_neg (not_not.mpr drained), if_pos deleting, waits, noReset]
  case reset =>
    have kept : ¬(s.dev.ring r).st = .deleting := by simp [error]
    simp only [exec, execRingDrainEnd, State.onDev, if_neg (not_not.mpr drained), if_neg kept, waits]
    rfl

end Sys2Proof.Machine
end

section
/-! PROOFS. Resets and the enable of the host interface (R261, R282, R284, R291, R293). -/

namespace Sys2Proof.Machine

/-! ### The rings are deleted (R261) -/

/-- Two devices that differ in the stage alone. -/
structure Dev.stageOnly (d e : Dev) : Prop where
  pw : { e.pw with stage := d.pw.stage } = d.pw
  ms : e.ms = d.ms
  ho : e.ho = d.ho
  sy : e.sy = d.sy
  ln : e.ln = d.ln

theorem Dev.dropStage_stageOnly {d e : Dev} (h : d.stageOnly e) (r : Nat) : d.stageOnly (e.dropStage r) := by
  unfold dropStage
  split
  · exact ⟨h.pw, h.ms, h.ho, h.sy, h.ln⟩
  · exact h

theorem Dev.dropStages_stageOnly (d : Dev) (l : List Nat) : d.stageOnly (d.each l fun r e => e.dropStage r) :=
  each_induct (P := d.stageOnly) (fun r _ h => dropStage_stageOnly h r) l ⟨rfl, rfl, rfl, rfl, rfl⟩

/-- What deleting every ring leaves. -/
structure Dev.ringsDeleted (d e : Dev) : Prop where
  pw : { e.pw with stage := d.pw.stage } = d.pw
  ms : e.ms = d.ms
  sy : e.sy = d.sy
  ln : e.ln = d.ln
  rings : e.ho.rings = []
  hif : e.ho.hif = { d.ho.hif with enable := false }
  names : e.ho.tags.map (·.tag) = d.ho.tags.map (·.tag)
  drop : ∀ x ∈ e.ho.tags, x.drop = true
  win : e.ho.win = d.ho.win
  glb : e.ho.glb = d.ho.glb

theorem Dev.deleteRings_spec (d : Dev) : d.ringsDeleted d.deleteRings := by
  have kept := d.dropStages_stageOnly (d.ho.rings.map (·.1))
  unfold deleteRings
  refine ⟨kept.pw, kept.ms, kept.sy, kept.ln, rfl, ?_, ?_, fun x hx => ?_, ?_, ?_⟩
  · simp only [onHo_ho, kept.ho]
  · simp only [onHo_ho, kept.ho, List.map_map]
    rfl
  · obtain ⟨y, _, rfl⟩ := List.mem_map.mp hx
    rfl
  · simp only [onHo_ho, kept.ho]
  · simp only [onHo_ho, kept.ho]

/-- A reset of the function deletes the rings and writes the interface alone. -/
theorem resetFunction_spec {f : Hif → Hif} {s t : State} (is : t = { s with dev := s.dev.deleteRings.modHif f })
    (off : ∀ h : Hif, h.enable = false → (f h).enable = false) : t.dev.ho.rings = [] ∧ t.dev.ho.hif.enable = false ∧
      t.dev.ho.tags.map (·.tag) = s.dev.ho.tags.map (·.tag) ∧ (∀ x ∈ t.dev.ho.tags, x.drop = true) ∧
      { t.dev.pw with stage := s.dev.pw.stage } = s.dev.pw ∧ t.dev.ms = s.dev.ms ∧ t.dev.sy = s.dev.sy ∧ t.dev.ln = s.dev.ln ∧
      t.dev.ho.win = s.dev.ho.win ∧ t.dev.ho.glb = s.dev.ho.glb ∧ t.nv = s.nv ∧ t.pending = s.pending ∧
      t.dev.ho.hif = f { s.dev.ho.hif with enable := false } := by
  subst is
  obtain ⟨pw, ms, sy, ln, rings, hif, names, drop, win, glb⟩ := s.dev.deleteRings_spec
  refine ⟨rings, ?_, names, drop, pw, ms, sy, ln, win, glb, rfl, rfl, ?_⟩
  · simp only [Dev.modHif_ho, hif]
    exact off _ rfl
  · simp only [Dev.modHif_ho, hif]

/-! ### Pending messages (R282) -/

theorem Dev.sendPending_none {d : Dev} (none : d.ho.hif.pba = 0) : d.sendPending = d := by
  have empty : ((List.range 64).filter fun v => d.ho.hif.pba.getLsbD v && !d.ho.hif.vecMask.getLsbD v) = [] := by
    rw [List.filter_eq_nil_iff]
    intro v _
    simp [none]
  rw [sendPending]
  simp only [empty]
  split <;> rfl

/-- What sending messages leaves: the vectors' entries and masks, the rings and the rest of the device. -/
structure Dev.messagesSent (d e : Dev) : Prop where
  addr : e.ho.hif.vecAddr = d.ho.hif.vecAddr
  mask : e.ho.hif.vecMask = d.ho.hif.vecMask
  rings : e.ho.rings = d.ho.rings
  pw : e.pw = d.pw
  sy : e.sy = d.sy

/-- Messages stay posted, and pending bits that are clear stay clear. -/
theorem Dev.sendMsix_later (d : Dev) (v w : Nat) : d.messagesSent (d.sendMsix v) ∧
    (∀ m ∈ d.ho.posted, m ∈ (d.sendMsix v).ho.posted) ∧
    (d.ho.hif.pba.getLsbD w = false → (d.sendMsix v).ho.hif.pba.getLsbD w = false) :=
  ⟨⟨rfl, rfl, rfl, rfl, rfl⟩, fun _ hm => List.mem_append_left _ hm, fun clear => by simp [sendMsix, clear]⟩

theorem Dev.sendMsix_own (d : Dev) {v : Nat} (vec : v < 64) : .msix v (d.ho.hif.vecEntry v) ∈ (d.sendMsix v).ho.posted ∧
    (d.sendMsix v).ho.hif.pba.getLsbD v = false := by
  refine ⟨List.mem_append_right _ (List.mem_singleton.mpr rfl), ?_⟩
  simp [sendMsix, vec]

/-- Each vector of a list is sent with its own entry, and its pending bit clears. -/
theorem Dev.sendAll_spec (v : Nat) (vec : v < 64) : ∀ (l : List Nat) (d : Dev), d.messagesSent (d.each l fun v e => e.sendMsix v) ∧
    (v ∈ l ∨ (.msix v (d.ho.hif.vecEntry v) ∈ d.ho.posted ∧ d.ho.hif.pba.getLsbD v = false) →
      .msix v (d.ho.hif.vecEntry v) ∈ (d.each l fun v e => e.sendMsix v).ho.posted ∧
        (d.each l fun v e => e.sendMsix v).ho.hif.pba.getLsbD v = false)
  | [], d => ⟨⟨rfl, rfl, rfl, rfl, rfl⟩, fun h => h.resolve_left List.not_mem_nil⟩
  | w :: t, d => by
    obtain ⟨sent, posted⟩ := sendAll_spec v vec t (d.sendMsix w)
    obtain ⟨kept, stays, clear⟩ := d.sendMsix_later w v
    refine ⟨⟨sent.addr.trans kept.addr, sent.mask.trans kept.mask, sent.rings.trans kept.rings, sent.pw.trans kept.pw,
      sent.sy.trans kept.sy⟩, fun h => posted ?_⟩
    by_cases own : v = w
    · subst own
      exact .inr (d.sendMsix_own vec)
    · rcases h with member | ⟨there, off⟩
      · exact .inl ((List.mem_cons.mp member).resolve_left own)
      · exact .inr ⟨stays _ there, clear off⟩

theorem exec_pcieLinkL0 {wide en mask bme : Bool} {speed : Fin 3} {s : State} (pcie : s.dev.qspiMode = false) :
    exec (.pcieLinkL0 wide speed en mask bme) s = .next { s with dev := (s.dev.modHif fun h => { h with
      inL2 := false, wakeLow := false, link := (if wide then 2 else 1) + 4 * (speed.val + 1), bme := bme, msixEn := en,
      msixMask := mask }).sendPending } := by
  simp only [exec, execPcieLinkL0, State.onDev, pcie]
  rfl

/-! ### HIF_CTRL (R293) -/

theorem fld_upper_zero {v : Word} (short : v.toNat < 4) : v &&& 0xFFFFFFFC#32 = 0 := by
  exact and_eq_zero_of_lt (k := 2) short (by decide)

theorem exec_hifEnable {v : Word} {s : State} (up : s.dev.windowUp = true) :
    exec (.hifEnable v) s = .next { s with dev := s.dev.writeHifCtrl v } ∧
      exec (.hifDisable v) s = .next { s with dev := s.dev.writeHifCtrl v } := by
  simp only [exec, execHifEnable, execHifDisable, State.onDev, up, Dev.when_true, and_self]

theorem look_unassign {α : Type} (k i : Nat) (l : List (Nat × α)) : look i (unassign k l) = if i = k then none else look i l := by
  induction l with
  | nil => exact (ite_self none).symm
  | cons p t ih =>
    obtain ⟨j, a⟩ := p
    unfold unassign at ih ⊢
    by_cases gone : j = k
    · subst gone
      rw [List.filter_cons_of_neg (by simp), ih]
      split
      · rfl
      · next other => rw [look, if_neg (Ne.symm other)]
    · rw [List.filter_cons_of_pos (by simpa using gone), look, look, ih]
      by_cases here : j = i
      · rw [if_pos here, if_pos here, if_neg fun h => gone (here.trans h)]
      · rw [if_neg here, if_neg here]

theorem Dev.ring_setRing (d : Dev) (r i : Nat) (g : Ring) : (d.setRing r g).ring i =
    if i = r then (if g.st = .none then {} else g) else d.ring i := by
  rw [ring, ring, setRing, onHo_ho]
  by_cases gone : g.st = .none
  · simp only [if_pos gone, look_unassign]
    split <;> rfl
  · simp only [if_neg gone, look_assign]
    split <;> rfl

/-- A ring that is no more, or on its way. -/
def Ring.closing (g : Ring) : Prop := g.st = .none ∨ g.st = .deleting

/-- One ring as ENABLE = 0 deletes it (R293). -/
def Dev.closeRing (r : Nat) (d : Dev) : Dev := ((d.dropStage r).modRing r fun g => { g with st := .deleting }).ringGone r

/-- What deleting rings leaves of the host's part and the rest of the device. -/
structure Dev.ringsOnly (d e : Dev) : Prop where
  hif : e.ho.hif = d.ho.hif
  tags : e.ho.tags = d.ho.tags
  ms : e.ms = d.ms
  sy : e.sy = d.sy
  ln : e.ln = d.ln

theorem Dev.dropStage_ho (d : Dev) (r : Nat) : (d.dropStage r).ho = d.ho := by
  unfold dropStage
  split <;> rfl

theorem Dev.closeRing_closing (d : Dev) (r i : Nat) (h : i = r ∨ (d.ring i).closing) : ((d.closeRing r).ring i).closing := by
  have marked : (((d.dropStage r).modRing r fun g => { g with st := .deleting }).ring i).closing := by
    have same (j : Nat) : (d.dropStage r).ring j = d.ring j := by rw [ring, ring, dropStage_ho]
    unfold modRing
    split
    · next absent =>
      rw [same]
      rcases h with rfl | h
      · rw [dropStage_ho] at absent
        rw [ring, absent]
        exact .inl rfl
      · exact h
    · rw [ring_setRing]
      split
      · exact .inr rfl
      · next other => rw [same]; exact h.resolve_left other
  unfold closeRing ringGone
  dsimp only
  split
  · rw [ring_setRing]
    split
    · exact .inl rfl
    · exact marked
  · exact marked

theorem Dev.closeRing_ringsOnly {d e : Dev} (h : d.ringsOnly e) (r : Nat) : d.ringsOnly (e.closeRing r) := by
  have dropped : d.ringsOnly (e.dropStage r) := by
    unfold dropStage
    split
    · exact ⟨h.hif, h.tags, h.ms, h.sy, h.ln⟩
    · exact h
  have set {c : Dev} (k : d.ringsOnly c) (g : Ring) : d.ringsOnly (c.setRing r g) := ⟨k.hif, k.tags, k.ms, k.sy, k.ln⟩
  have marked : d.ringsOnly ((e.dropStage r).modRing r fun g => { g with st := .deleting }) := by
    unfold modRing
    split
    · exact dropped
    · exact set dropped _
  unfold closeRing ringGone
  dsimp only
  split
  · exact set marked _
  · exact marked

/-- Every ring of a list is closed, and none that was comes back. -/
theorem Dev.closeRings_closing : ∀ (l : List Nat) (d : Dev) (i : Nat), (i ∈ l ∨ (d.ring i).closing) →
    ((d.each l Dev.closeRing).ring i).closing
  | [], _, _, h => h.resolve_left List.not_mem_nil
  | r :: t, d, i, h => by
    refine closeRings_closing t (d.closeRing r) i ?_
    by_cases later : i ∈ t
    · exact .inl later
    · refine .inr (d.closeRing_closing r i ?_)
      rcases h with member | closing
      · exact .inl ((List.mem_cons.mp member).resolve_right later)
      · exact .inr closing

theorem look_of_not_mem {α : Type} (i : Nat) : ∀ l : List (Nat × α), i ∉ l.map (·.1) → look i l = none
  | [], _ => rfl
  | (j, a) :: t, h => by
    rw [List.map_cons, List.mem_cons, not_or] at h
    rw [look, if_neg (Ne.symm h.1), look_of_not_mem i t h.2]

theorem Dev.writeHifCtrl_off {d : Dev} {v : Word} (short : v.toNat < 4) (off : v.getLsbD 0 = false)
    (on : d.ho.hif.enable = true) : d.writeHifCtrl v =
      (d.modHif fun h => { h with enable := false, intnEn := v.getLsbD 1 }).each (d.ho.rings.map (·.1)) Dev.closeRing := by
  simp only [writeHifCtrl, fld_upper_zero short, bit, off, modHif_ho, on]
  rfl

theorem Dev.writeHifCtrl_on {d : Dev} {v : Word} (short : v.toNat < 4) (off : d.ho.hif.enable = false)
    (on : v.getLsbD 0 = true) : d.writeHifCtrl v =
      if (d.modHif fun h => { h with intnEn := v.getLsbD 1 }).ho.hif.ring0.badPlace
          (d.modHif fun h => { h with intnEn := v.getLsbD 1 }).qspiMode = true then
        (d.modHif fun h => { h with intnEn := v.getLsbD 1 }).raise evAdminConfigInvalid none []
      else ((d.modHif fun h => { h with intnEn := v.getLsbD 1 }).modHif fun h => { h with enable := true }).setRing 0
        (d.modHif fun h => { h with intnEn := v.getLsbD 1 }).ho.hif.ring0 := by
  simp only [writeHifCtrl, fld_upper_zero short, bit, on, modHif_ho, off]
  rfl

/-- Settles O30: each row is its equation; `deleteRings` and `closeRing` say what a reset and ENABLE = 0 leave. -/
theorem hostInterface : Obligations.HostInterface := by
  refine ⟨⟨fun c s pcie which => ?resets, fun wide en mask bme speed s pcie quiet => ?link,
    fun wide speed v s pcie up pending unmasked => ?sends⟩, fun v s short on off up => ⟨fun good => ?enable, fun bad => ?invalid⟩,
    fun v s short off on up => ?disable, fun v s down => ?down⟩
  case resets =>
    rcases which with rfl | rfl | rfl
    · have run : exec .functionLevelReset s = .next { s with dev := s.dev.deleteRings.modHif Hif.msixReset } := by
        simp only [exec, execFunctionLevelReset, State.onDev, pcie]
        rfl
      obtain ⟨rings, en, names, drop, pw, ms, sy, ln, win, glb, nv, pending, hif⟩ := resetFunction_spec (f := Hif.msixReset) (s := s) rfl fun _ h => h
      refine ⟨_, run, rings, en, names, drop, pw, ms, sy, ln, win, glb, nv, pending, ?_, ?_, ?_⟩
      · exact fun h => by cases h
      · exact fun _ => by rw [hif]; exact ⟨rfl, rfl, rfl⟩
      · exact fun h => by cases h
    · have run : exec .busMasterEnableClear s =
          .next { s with dev := s.dev.deleteRings.modHif fun h => { h with bme := false } } := by
        simp only [exec, execBusMasterEnableClear, State.onDev, pcie]
        rfl
      obtain ⟨rings, en, names, drop, pw, ms, sy, ln, win, glb, nv, pending, hif⟩ := resetFunction_spec (f := fun h => { h with bme := false }) (s := s) rfl fun _ h => h
      refine ⟨_, run, rings, en, names, drop, pw, ms, sy, ln, win, glb, nv, pending, ?_, ?_, ?_⟩
      · exact fun _ => hif
      · exact fun h => absurd rfl h
      · exact fun h => by cases h
    · have run : exec .pcieConventionalReset s = .next { s with dev := (s.dev.deleteRings.modHif fun h =>
          { h.msixReset with link := 0, inL2 := false, wakeLow := false }) } := by
        simp only [exec, execPcieConventionalReset, State.onDev, pcie]
        rfl
      obtain ⟨rings, en, names, drop, pw, ms, sy, ln, win, glb, nv, pending, hif⟩ := resetFunction_spec
        (f := fun h => { h.msixReset with link := 0, inL2 := false, wakeLow := false }) (s := s) rfl fun _ h => h
      refine ⟨_, run, rings, en, names, drop, pw, ms, sy, ln, win, glb, nv, pending, ?_, ?_, ?_⟩
      · exact fun h => by cases h
      · exact fun _ => by rw [hif]; exact ⟨rfl, rfl, rfl⟩
      · exact fun _ => by rw [hif]
  case link =>
    rw [exec_pcieLinkL0 pcie, Dev.sendPending_none]
    exact quiet
  case sends =>
    refine ⟨_, exec_pcieLinkL0 pcie, ?_⟩
    generalize shown : (s.dev.modHif fun h => { h with
      inL2 := false, wakeLow := false, link := (if wide then 2 else 1) + 4 * (speed.val + 1), bme := true, msixEn := true,
      msixMask := false }) = d
    have hif : d.ho.hif.pba = s.dev.ho.hif.pba ∧ d.ho.hif.vecMask = s.dev.ho.hif.vecMask ∧
        d.ho.hif.vecAddr = s.dev.ho.hif.vecAddr ∧ d.ho.hif.msixEn = true ∧ d.ho.hif.msixMask = false := by
      subst shown
      exact ⟨rfl, rfl, rfl, rfl, rfl⟩
    have same : d.ho.rings = s.dev.ho.rings ∧ d.pw = s.dev.pw ∧ d.sy = s.dev.sy := by
      subst shown
      exact ⟨rfl, rfl, rfl⟩
    have linkUp : d.linkUp = true := by
      have up' : d.inRun = true := by
        subst shown
        exact up
      have link : d.ho.hif.bme = true ∧ d.ho.hif.inL2 = false := by
        subst shown
        exact ⟨rfl, rfl⟩
      rw [Dev.linkUp, up', link.1, link.2]
      simp
    obtain ⟨pba, mask, addr, en, unmaskedAll⟩ := hif
    obtain ⟨rings, pw, sy⟩ := same
    have due : v.val ∈ (List.range 64).filter fun v => d.ho.hif.pba.getLsbD v && !d.ho.hif.vecMask.getLsbD v := by
      rw [List.mem_filter, pba, mask, pending, unmasked]
      exact ⟨List.mem_range.mpr v.isLt, rfl⟩
    obtain ⟨sent, posted⟩ := Dev.sendAll_spec v.val v.isLt _ d
    have all : d.sendPending = d.each ((List.range 64).filter fun v => d.ho.hif.pba.getLsbD v && !d.ho.hif.vecMask.getLsbD v)
        fun v e => e.sendMsix v := by
      rw [Dev.sendPending, en, unmaskedAll, linkUp]
      rfl
    obtain ⟨message, clear⟩ := posted (.inl due)
    have entry : s.dev.ho.hif.vecEntry v = d.ho.hif.vecEntry v := by rw [Hif.vecEntry, Hif.vecEntry, addr]
    rw [all, entry]
    exact ⟨message, clear, sent.mask.trans mask, sent.rings.trans rings, sent.pw.trans pw, sent.sy.trans sy, rfl⟩
  case enable =>
    have place : (s.dev.modHif fun h => { h with intnEn := v.getLsbD 1 }).ho.hif.ring0.badPlace
      (s.dev.modHif fun h => { h with intnEn := v.getLsbD 1 }).qspiMode = false := good
    rw [(exec_hifEnable up).1, Dev.writeHifCtrl_on short off on, if_neg (Bool.eq_false_iff.mp place)]
    rfl
  case invalid =>
    have place : (s.dev.modHif fun h => { h with intnEn := v.getLsbD 1 }).ho.hif.ring0.badPlace
      (s.dev.modHif fun h => { h with intnEn := v.getLsbD 1 }).qspiMode = true := bad
    rw [(exec_hifEnable up).1, Dev.writeHifCtrl_on short off on, if_pos place]
  case disable =>
    have kept : (s.dev.modHif fun h => { h with enable := false, intnEn := v.getLsbD 1 }).ringsOnly
        ((s.dev.modHif fun h => { h with enable := false, intnEn := v.getLsbD 1 }).each (s.dev.ho.rings.map (·.1)) Dev.closeRing) :=
      Dev.each_induct (P := Dev.ringsOnly _) (fun r _ h => Dev.closeRing_ringsOnly h r) _ ⟨rfl, rfl, rfl, rfl, rfl⟩
    refine ⟨_, (exec_hifEnable up).2, ?_⟩
    rw [Dev.writeHifCtrl_off short off on]
    refine ⟨kept.hif, fun r => Dev.closeRings_closing _ _ r ?_, kept.tags, kept.ms, kept.sy, kept.ln, rfl⟩
    by_cases member : r ∈ s.dev.ho.rings.map (·.1)
    · exact .inl member
    · refine .inr (.inl ?_)
      have absent : (s.dev.modHif fun h => { h with enable := false, intnEn := v.getLsbD 1 }).ring r = {} := by
        rw [Dev.ring, Dev.modHif_ho, look_of_not_mem r _ member]
        rfl
      rw [absent]
  case down =>
    simp only [exec, execHifEnable, execHifDisable, State.onDev, down, Dev.when_false, and_self]

end Sys2Proof.Machine
end

section
/-! PROOFS. Qualification, loss and faults of a source (R96, R98-R100, R114). -/

namespace Sys2Proof.Machine

namespace Dev

/-- The loss of a source that is AVAILABLE: no rations and no supply end with it. -/
theorem loseSource_available {d : Dev} {k : Nat} {x : Source} (there : d.pw.src[k]? = some x) (st : x.st = .available) :
    d.loseSource k = (d.modSrc k fun y => { y.cutScan with
      st := .absent, selAt := .none, warming := false, surge := false, pendClose := false, ripBad := 0 }).raise
        evSourceLost (some (srcNode k)) [] := by
  have old : d.source k = x := getD_there _ _ _ _ there
  simp only [loseSource, old, Source.qualified, st]
  rfl

/-- The row of a source fault on a source in service is the reaction of R114. -/
theorem srcFaultRow_inService {d : Dev} {k : Nat} (ev : Nat) (enabled : (d.source k).st ≠ .disabled)
    (held : (d.source k).st ≠ .retired) (sound : (d.source k).st ≠ .faulted) : d.srcFaultRow k ev = d.sourceFault k ev true := by
  simp only [srcFaultRow, enabled, held, sound, or_self, if_false]

end Dev

/-- Settles O20: each row of a source is its reaction where its condition stands. -/
theorem sourceRows : Obligations.SourceRows := by
  refine ⟨⟨fun k s st low high => ?qualified, fun k s low => ⟨fun st ride => ?rides, fun st => ?lost⟩, fun k s st => ?expiry,
    fun k s ripple bad => ?ripple, fun k s st low => ?holdoff, fun k x d there st => ?loss⟩,
    fun k s high enabled held sound => ⟨fun type => ?overvoltage, fun type fresh => ?surge, fun surge => ?hold⟩,
    fun k s enabled held sound => ⟨fun high => ?overcurrent, fun on lend reverse => ?reverse, fun bad => ?sense,
      fun lend leak => ?switch⟩⟩
  case qualified => simp only [exec, execSourceQualified, State.onDev, st, low, high, true_and, if_true, srcNode]
  case rides =>
    simp only [exec, execSourceUndervoltageLoss, State.onDev, st, low, ride, or_true, and_self, if_true]
    rfl
  case lost =>
    have serves : (s.dev.source k).st = .available ∨ (s.dev.source k).st = .selected := st.elim (fun h => .inr h.1) .inl
    have noRide : ¬ ((s.dev.source k).st = .selected ∧ 0 < s.dev.sp k 6) := fun h => st.elim (fun g => by omega) fun g => by
      rw [g] at h
      cases h.1
    simp only [exec, execSourceUndervoltageLoss, State.onDev, serves, low, noRide, and_self, if_true, if_false]
  case expiry => simp only [exec, execRideThroughExpiry, State.onDev, st, if_true]
  case ripple => simp only [exec, execRippleLoss, State.onDev, ripple, bad, and_self, if_true]
  case holdoff => simp only [exec, execHoldoffEnd, State.onDev, st, low, and_self, if_true]
  case loss =>
    rw [Dev.loseSource_available there st]
    have gone : ((d.modSrc k fun y => { y.cutScan with
        st := .absent, selAt := .none, warming := false, surge := false, pendClose := false, ripBad := 0 }).raise
          evSourceLost (some (srcNode k)) []).pw.src[k]? = some { x.cutScan with
        st := .absent, selAt := .none, warming := false, surge := false, pendClose := false, ripBad := 0 } := by
      rw [Dev.raise_pw, Dev.modSrc_pw, List.getElem?_modify_eq, there]
      rfl
    exact ⟨Dev.raise_evstat _ _ _ _, _, gone, rfl, rfl, rfl⟩
  case overvoltage =>
    simp only [exec, execSourceOvervoltage, State.onDev, high, type, false_and, Bool.not_true, Bool.false_eq_true, if_false,
      Dev.srcFaultRow_inService _ enabled held sound]
  case surge =>
    simp only [exec, execSourceOvervoltage, State.onDev, high, type, fresh, enabled, held, sound, ne_eq, not_false_eq_true,
      and_self, Bool.not_true, Bool.false_eq_true, if_false, if_true, srcNode]
  case hold => simp only [exec, execAlternatorSurgeHoldExpiry, State.onDev, surge, high, Bool.and_self, if_true]
  case overcurrent =>
    simp only [exec, execSourceOvercurrent, State.onDev, high, if_true, Dev.srcFaultRow_inService _ enabled held sound]
  case reverse =>
    simp only [exec, execSourceReverse, State.onDev, on, lend, reverse, ne_eq, not_false_eq_true, and_self, if_true,
      Dev.srcFaultRow_inService _ enabled held sound]
  case sense =>
    have out : ((s.dev.ms.tap.getD (2 * k) {}).senseBad || (s.dev.ms.tap.getD (2 * k + 1) {}).senseBad) = true := by
      simp only [Tap.senseBad, Bool.or_eq_true, decide_eq_true_eq]
      tauto
    have reaction : ((s.dev.modTap (2 * k) Tap.taken).modTap (2 * k + 1) Tap.taken).srcFaultRow k evSourceSenseFault =
        ((s.dev.modTap (2 * k) Tap.taken).modTap (2 * k + 1) Tap.taken).sourceFault k evSourceSenseFault true :=
      Dev.srcFaultRow_inService _ enabled held sound
    simp only [exec, execSourceSenseFault, State.onDev, out, if_true, reaction]
    rfl
  case switch =>
    simp only [exec, execSourceSwitchFault, State.onDev, enabled, held, lend, leak, ne_eq, not_false_eq_true, and_self, if_true,
      srcNode]

end Sys2Proof.Machine
end

section
/-! PROOFS. The gauntlet and the mittens in service (R79, R81-R85, R87, R93). -/

namespace Sys2Proof.Machine

/-! ### Averages -/

theorem overAvg_short {thr : Int} {l : List Int} (short : l.length < 4) : overAvg thr l = false := by
  match l, short with
  | [], _ => rfl
  | [_], _ => rfl
  | [_, _], _ => rfl
  | [_, _, _], _ => rfl

/-- Four samples in a row, somewhere in the list, whose mean reaches the threshold. -/
theorem overAvg_iff (thr : Int) (l : List Int) : overAvg thr l = true ↔ ∃ (i : Nat) (a b c e : Int) (r : List Int),
    l.drop i = a :: b :: c :: e :: r ∧ 4 * thr ≤ ((a + b + c + e).natAbs : Int) := by
  induction l with
  | nil => simp [overAvg_short]
  | cons a t ih =>
    match t, ih with
    | b :: c :: e :: r, ih =>
      rw [overAvg, Bool.or_eq_true, decide_eq_true_eq, ih]
      constructor
      · rintro (here | ⟨i, later⟩)
        · exact ⟨0, a, b, c, e, r, rfl, here⟩
        · exact ⟨i + 1, later⟩
      · rintro ⟨_ | i, a', b', c', e', r', at', over'⟩
        · cases at'
          exact .inl over'
        · exact .inr ⟨i, a', b', c', e', r', at', over'⟩
    | [], _ | [_], _ | [_, _], _ =>
      refine iff_of_false (by simp [overAvg_short]) ?_
      rintro ⟨i, a', b', c', e', r', at', -⟩
      have long := congrArg List.length at'
      simp only [List.length_drop, List.length_cons, List.length_nil] at long
      omega

namespace Dev

/-! ### The set-up of the members -/

/-- What the parameters of a mitten are read from stands. -/
structure sameMp (d e : Dev) : Prop where
  map : e.pw.map = d.pw.map
  mit : e.pw.mit = d.pw.mit
  stage : e.pw.stage = d.pw.stage
  st : e.ln.chn.st = d.ln.chn.st
  pos : e.ln.chn.pos = d.ln.chn.pos
  slots : e.ln.chn.slots = d.ln.chn.slots
  side : e.ln.chn.side = d.ln.chn.side

theorem sameMp.mp {d e : Dev} (h : d.sameMp e) (m id : Nat) : e.mp m id = d.mp m id := by
  simp only [Dev.mp, nOf, mitMoves, oldMap, newMap, mitE, mitten, h.map, h.mit, h.stage, h.st, h.pos, h.slots, h.side]
  rfl

theorem raise_sameMp {d e : Dev} (h : d.sameMp e) (ev : Nat) (inst : Option Nat) (data : List Byte) :
    d.sameMp (e.raise ev inst data) := by
  obtain ⟨hb, queued, ln⟩ := e.raise_ln ev inst data
  constructor <;> simp only [raise_pw, ln, h.map, h.mit, h.stage, h.st, h.pos, h.slots, h.side]

theorem applySetup_sameMp {d e : Dev} (h : d.sameMp e) (p : Nat) (cycle : Bool) : d.sameMp (e.applySetup p cycle) := by
  unfold applySetup rethreshold
  refine when_induct (P := d.sameMp) ⟨h.map, h.mit, h.stage, h.st, h.pos, h.slots, h.side⟩ fun hf => raise_sameMp hf _ _ _

/-- The members of a gauntlet take their held set-up. -/
def setUp (d : Dev) (l : List Nat) : Dev := d.each l fun p e => e.applySetup p false

theorem setUp_mp (d : Dev) (l : List Nat) (m id : Nat) : (d.setUp l).mp m id = d.mp m id :=
  (each_induct (P := d.sameMp) (fun p _ he => applySetup_sameMp he p false) l ⟨rfl, rfl, rfl, rfl, rfl, rfl, rfl⟩).mp m id

/-! ### The members a step tests -/

theorem underTest_early {d : Dev} {g : Gauntlet} (early : g.step < 2) : d.underTest g = d.inGauntlet g := if_pos early

/-- A pulse tests one member. -/
theorem underTest_pulse {d : Dev} {g : Gauntlet} {i p : Nat} (step : g.step = i + 2) (member : g.members[i]? = some p) :
    d.underTest g = (d.inGauntlet g).filter fun q => p == q := by
  rw [underTest, if_neg (by omega), step, Nat.add_sub_cancel, member]
  rfl

theorem underTest_one {d : Dev} {g : Gauntlet} {i p : Nat} (step : g.step = i + 2) (member : g.members[i]? = some p)
    (distinct : g.members.Nodup) (st : (d.phase p).st = .gauntlet) : d.underTest g = [p] := by
  have tested : p ∈ d.inGauntlet g := List.mem_filter.mpr ⟨List.mem_of_getElem? member, by rw [st]; rfl⟩
  rw [underTest_pulse step member]
  rw [List.filter_congr (q := (· == p)) fun q _ => BEq.comm, List.filter_beq, List.count_eq_one_of_mem ?_ tested]
  · rfl
  · exact distinct.filter _

theorem stepReady_pulse {d : Dev} {m : Nat} {g : Gauntlet} {i p : Nat} (step : g.step = i + 2) (member : g.members[i]? = some p)
    (able : (d.phase p).st = .gauntlet → d.testable m p = true) : d.stepReady m g = true := by
  rw [stepReady, underTest_pulse step member, step, Bool.and_eq_true, List.all_eq_true]
  refine ⟨rfl, fun q hq => ?_⟩
  obtain ⟨tested, same⟩ := List.mem_filter.mp hq
  rw [← eq_of_beq same] at tested ⊢
  exact able (of_decide_eq_true (List.mem_filter.mp tested).2)


theorem mp_modPh (d : Dev) (p m id : Nat) (f : Phase → Phase) : (d.modPh p f).mp m id = d.mp m id :=
  sameMp.mp ⟨rfl, rfl, rfl, rfl, rfl, rfl, rfl⟩ m id

theorem each_same (d : Dev) (l : List Nat) : (d.each l fun _ e => e) = d := each_fixed (fun _ => rfl) l

/-! ### The steps of a gauntlet -/

end Dev

section
variable {m : Fin 16} {g : Gauntlet} {s : State} (o : GntObs) (running : (s.dev.mitten m).gnt = some g)
include running

theorem exec_gauntletStep (early : g.step < g.members.length + 2) (ready : s.dev.stepReady m g = true) :
    exec (.gauntletStep m o) s = .next { s with dev := ((((s.dev.setUp (s.dev.inGauntlet g)).each (s.dev.underTest g)
      fun p e => if g.step = 0 then
          (if (look p o.cm).all fun v => decide (300 ≤ v) && decide (v ≤ 1500) then e
           else (e.fault evPhaseSenseFault (some p) []).gauntletTransient p evPhaseSenseFault)
        else if g.step = 1 then (if overAvg (s.dev.mp m 16) ((look p o.samples).getD []) then e.finding p 1 else e)
        else o.fltAt.elim e fun w => e.pulseResult m p w).modMit m fun x => { x with gnt := some { g with step := g.step + 1 } })) } := by
  have go : ¬ (g.members.length + 2 ≤ g.step ∨ (!s.dev.stepReady m g) = true) := by
    rw [ready]
    simpa using early
  have ithr := s.dev.setUp_mp (s.dev.inGauntlet g) m 16
  simp only [exec, execGauntletStep, State.onDev, running, if_neg go, Dev.setUp] at ithr ⊢
  rw [ithr]
  cases o.fltAt <;> rfl

/-- The pulse of one member whose driver reports FLT. -/
theorem exec_gauntletPulse {i p w : Nat} (step : g.step = i + 2) (member : g.members[i]? = some p) (distinct : g.members.Nodup)
    (flt : o.fltAt = some w) (st : (s.dev.phase p).st = .gauntlet) (able : s.dev.testable m p = true) :
    exec (.gauntletStep m o) s = .next { s with dev := ((((s.dev.setUp (s.dev.inGauntlet g)).pulseResult m p w).modMit m
      fun x => { x with gnt := some { g with step := i + 3 } })) } := by
  have inside := (List.getElem?_eq_some_iff.mp member).1
  rw [exec_gauntletStep o running (by omega) (Dev.stepReady_pulse step member fun _ => able),
    Dev.underTest_one step member distinct st, step]
  simp only [if_neg (by omega : ¬ i + 2 = 0), if_neg (by omega : ¬ i + 2 = 1), flt, Option.elim_some, Dev.each_cons, Dev.each_nil]

end

/-- Settles O18: a step tests the members that `underTest` names, and each row in service is its equation. -/
theorem gauntletsAndMittens : Obligations.GauntletsAndMittens := by
  refine ⟨⟨fun m g o s running step cal able => ?common, fun m g o s running step able => ?current,
    fun m g o i p s running step member quiet able => ?calm,
    fun m g o i p w s running step member distinct flt st able => ⟨fun soon => ?window, fun late => ?late⟩,
    fun m g s running step join test fsbb passed enough => ?done, fun m g s running step join test retry none few => ?few,
    fun m g s running join dark => ?dark, overAvg_iff⟩,
    fun m s st done => ?ramp, fun p ma m s member st active high => ?standby, fun m s st low => ?short,
    fun m s looping => ⟨fun high => ?overV, fun t temp hot => ?hot, fun st few => ?under⟩,
    fun m s used remote lost => ?loss⟩
  case common =>
    rw [exec_gauntletStep o running (by omega), Dev.underTest_early (by omega), step]
    · rfl
    · rw [Dev.stepReady, Dev.underTest_early (by omega), step, Bool.and_eq_true, Bool.or_eq_true, List.all_eq_true, List.all_eq_true]
      exact ⟨.inr cal, able⟩
  case current =>
    rw [exec_gauntletStep o running (by omega), Dev.underTest_early (by omega), step]
    · rfl
    · rw [Dev.stepReady, Dev.underTest_early (by omega), step, Bool.and_eq_true, List.all_eq_true]
      exact ⟨rfl, able⟩
  case calm =>
    have inside := (List.getElem?_eq_some_iff.mp member).1
    rw [exec_gauntletStep o running (by omega) (Dev.stepReady_pulse step member able), step]
    simp only [if_neg (by omega : ¬ i + 2 = 0), if_neg (by omega : ¬ i + 2 = 1), quiet, Option.elim_none, Dev.each_same]
    rfl
  case window =>
    rw [exec_gauntletPulse o running step member distinct flt st able, Dev.pulseResult,
      if_pos (by rwa [Dev.mp_modPh, Dev.setUp_mp])]
    rfl
  case late =>
    rw [exec_gauntletPulse o running step member distinct flt st able, Dev.pulseResult,
      if_neg (by rw [Dev.mp_modPh, Dev.setUp_mp]; omega)]
    rfl
  case done =>
    have tested : s.dev.inGauntlet g = g.members := List.filter_eq_self.mpr fun p hp => decide_eq_true (passed p hp).1
    have pass : s.dev.passed m g = g.members := by
      rw [Dev.passed, tested]
      refine List.filter_eq_self.mpr fun p hp => ?_
      simp only [(passed p hp).1, (passed p hp).2, fsbb, decide_true, Bool.and_self, Bool.not_false, Bool.true_or]
    have noFail : (g.members.filter fun p => !(s.dev.phase p).gntPass) = [] :=
      List.filter_eq_nil_iff.mpr fun p hp => by simp [(passed p hp).2]
    have noSingle : (g.members.filter fun p => (s.dev.phase p).gntPass && !g.members.contains p) = [] :=
      List.filter_eq_nil_iff.mpr fun p hp => by simp [hp]
    simp only [exec, execGauntletEnd, State.onDev, running, if_neg (by omega : ¬ g.step < g.members.length + 2), pass, tested,
      noFail, noSingle, join, test, Bool.false_eq_true, if_false, Dev.each_nil, if_neg (by omega : ¬ (g.members.length : Int) < s.dev.mp m 18)]
  case few =>
    have tested : s.dev.inGauntlet g = [] := List.filter_eq_nil_iff.mpr fun p hp => by simpa using none p hp
    have pass : s.dev.passed m g = [] := by rw [Dev.passed, tested, List.filter_nil]
    simp only [exec, execGauntletEnd, State.onDev, running, if_neg (by omega : ¬ g.step < g.members.length + 2), pass, tested,
      List.filter_nil, join, test, retry, Bool.false_eq_true, if_false, Dev.each_nil, List.length_nil, Nat.cast_zero, few, if_true]
  case dark =>
    simp only [exec, execGauntletNoSupply, State.onDev, running, dark, join, Bool.false_eq_true, if_false]
  case ramp => simp only [exec, execSoftStartComplete, State.onDev, st, done, and_self, if_true]
  case standby => simp only [exec, execStandbyCurrentFinding, State.onDev, member, st, active, high, true_or, and_self, if_true]
  case short =>
    have looping : (s.dev.mitten m).looping = true := by rw [Mitten.looping, st]; rfl
    simp only [exec, execMittenShort, State.onDev, st, Dev.mitFaultRow, looping, reduceCtorEq, decide_false, Bool.false_and,
      Bool.false_eq_true, if_false, or_true, low, and_self, if_true]
  case overV => simp only [exec, execMittenOvervoltage, State.onDev, high, Dev.mitFaultRow, looping, if_true]
  case hot => simp only [exec, execMittenOvertemp, State.onDev, temp, hot, Dev.mitFaultRow, looping, if_true]
  case under => simp only [exec, execMittenUnderstaffed, State.onDev, st, few, and_self, Dev.mitFaultRow, looping, if_true]
  case loss =>
    simp only [exec, execSetpointLoss, State.onDev, used, remote, lost, decide_true, Bool.and_self, if_true]
    rfl

end Sys2Proof.Machine
end

section
/-! PROOFS. A fault reads nothing of the liner: it commutes with a change of the liner's record. -/

namespace Sys2Proof.Machine

namespace Dev

/-- The record of an event that is raised now. -/
def eventNow (d : Dev) (ev : Nat) (inst : Option Nat) (data : List Byte) : EventRec :=
  { ev := ev, inst := inst, seq := d.ho.evSeq, frame := d.sy.cframe.count, time := d.now, data := (data ++ List.replicate 12 0).take 12 }

/-- The vector of an event fires, where it has one. -/
def vectored (d : Dev) (ev : Nat) : Dev := if d.ho.glb.vecByte ev ≥ 128 then d.fire (d.ho.glb.vecByte ev % 64) else d

/-- A record goes to the rings, or waits while a hold lasts. -/
def posted (d : Dev) (e : EventRec) : Dev :=
  if d.sy.holdOn then d.onHo fun h => { h with heldEv := h.heldEv ++ [e] } else d.deliver e

theorem raiseHere_eq (d : Dev) (ev : Nat) (inst : Option Nat) (data : List Byte) : d.raiseHere ev inst data =
    (((d.onHo fun h => { h with glb := { h.glb with evstat := insertN ev h.glb.evstat }, evSeq := (h.evSeq + 1) % 65536 }).vectored
      ev).hbEvent (d.eventNow ev inst data)).posted (d.eventNow ev inst data) := rfl

/-- The device with the liner's record changed. -/
def onLiner (f : LinerS → LinerS) (d : Dev) : Dev := d.onSy fun y => { y with liner := f y.liner }

section
variable (f : LinerS → LinerS)

theorem each_onLiner {step : Nat → Dev → Dev} (h : ∀ n e, step n (e.onLiner f) = (step n e).onLiner f) (l : List Nat) (d : Dev) :
    (d.onLiner f).each l step = (d.each l step).onLiner f := by
  induction l generalizing d with
  | nil => rfl
  | cons n t ih => rw [each_cons, h, ih, each_cons]

theorem wakeSideband_onLiner (d : Dev) : (d.onLiner f).wakeSideband = d.wakeSideband.onLiner f :=
  (apply_ite (onLiner f) (d.ho.hif.inL2 && !d.qspiMode) (d.modHif fun h => { h with wakeLow := true }) d).symm

theorem hostWrite_onLiner (d : Dev) (addr : Nat) (b : List Byte) : (d.onLiner f).hostWrite addr b = (d.hostWrite addr b).onLiner f := by
  rw [hostWrite, hostWrite, apply_ite (onLiner f), apply_ite (onLiner f)]
  rfl

theorem fire_onLiner (d : Dev) (v : Nat) : (d.onLiner f).fire v = (d.fire v).onLiner f := by
  rw [fire, fire, ← wakeSideband_onLiner, apply_ite (onLiner f), apply_ite (onLiner f)]
  rfl

theorem modRing_onLiner (d : Dev) (r : Nat) (g : Ring → Ring) : (d.onLiner f).modRing r g = (d.modRing r g).onLiner f := by
  unfold modRing onLiner
  dsimp only [onSy]
  cases look r d.ho.rings <;> rfl

theorem writeEntry_onLiner (d : Dev) (r lo w hi : Nat) : (d.onLiner f).writeEntry r lo w hi = (d.writeEntry r lo w hi).onLiner f := by
  rw [writeEntry, writeEntry, ← wakeSideband_onLiner, ← modRing_onLiner, ← hostWrite_onLiner]
  rfl

theorem putEvent_onLiner (d : Dev) (e : EventRec) (r : Nat) : (d.onLiner f).putEvent e r = (d.putEvent e r).onLiner f := by
  rw [putEvent, putEvent, apply_ite (onLiner f), ← writeEntry_onLiner, ← modRing_onLiner]
  rfl

theorem putEvents_onLiner (r : Nat) (l : List EventRec) (d : Dev) :
    l.foldl (fun x e => x.putEvent e r) (d.onLiner f) = (l.foldl (fun x e => x.putEvent e r) d).onLiner f := by
  induction l generalizing d with
  | nil => rfl
  | cons e t ih => rw [List.foldl_cons, putEvent_onLiner, ih, List.foldl_cons]

theorem flushRing_onLiner (d : Dev) (r : Nat) : (d.onLiner f).flushRing r = (d.flushRing r).onLiner f := by
  rw [flushRing, flushRing, apply_ite (onLiner f), ← putEvents_onLiner, ← modRing_onLiner]
  rfl

theorem eventTo_onLiner (d : Dev) (e : EventRec) (r : Nat) : (d.onLiner f).eventTo e r = (d.eventTo e r).onLiner f := by
  rw [eventTo, eventTo, apply_ite (onLiner f), ← wakeSideband_onLiner, ← putEvent_onLiner, ← flushRing_onLiner, ← modRing_onLiner]
  rfl

theorem deliver_onLiner (d : Dev) (e : EventRec) : (d.onLiner f).deliver e = (d.deliver e).onLiner f := by
  rw [deliver, deliver]
  exact congrArg (fun x : Dev => x.addLog 0 e.time e.ev (e.inst.getD 0xFFFF) e.data)
    (each_onLiner f (fun r x => eventTo_onLiner f x e r) _ d)

theorem hbEvent_onLiner (d : Dev) (e : EventRec) : (d.onLiner f).hbEvent e = (d.hbEvent e).onLiner f := by
  rw [hbEvent, hbEvent, apply_ite (onLiner f)]
  rfl

theorem posted_onLiner (d : Dev) (e : EventRec) : (d.onLiner f).posted e = (d.posted e).onLiner f := by
  rw [posted, posted, apply_ite (onLiner f), ← deliver_onLiner]
  rfl

theorem vectored_onLiner (d : Dev) (ev : Nat) : (d.onLiner f).vectored ev = (d.vectored ev).onLiner f := by
  rw [vectored, vectored, apply_ite (onLiner f), ← fire_onLiner]
  rfl

theorem raise_onLiner (d : Dev) (ev : Nat) (inst : Option Nat) (data : List Byte) :
    (d.onLiner f).raise ev inst data = (d.raise ev inst data).onLiner f := by
  have here : (d.onLiner f).raiseHere ev inst data = (d.raiseHere ev inst data).onLiner f := by
    rw [raiseHere_eq, raiseHere_eq, ← posted_onLiner, ← hbEvent_onLiner, ← vectored_onLiner]
    rfl
  rw [raise, raise, apply_ite (onLiner f), here]
  rfl

theorem wakeSleep_onLiner (d : Dev) (cause : Nat) : (d.onLiner f).wakeSleep cause = (d.wakeSleep cause).onLiner f := by
  rw [wakeSleep, wakeSleep, apply_ite (onLiner f), apply_ite (onLiner f), apply_ite (onLiner f), abandon, abandon, ← raise_onLiner]
  rfl

theorem fault_onLiner (d : Dev) (ev : Nat) (inst : Option Nat) (data : List Byte) :
    (d.onLiner f).fault ev inst data = (d.fault ev inst data).onLiner f := by
  rw [fault, fault, ← wakeSleep_onLiner, raise_onLiner]
  rfl

end

end Dev

end Sys2Proof.Machine
end

section
/-! PROOFS. Cycle boundaries, the protections of a phase and the quad rows (R40, R45, R46, R51, R57-R61, R73). -/

namespace Sys2Proof.Machine

namespace Dev

/-! ### One phase -/

theorem modPh_modPh (d : Dev) (p : Nat) (f g : Phase → Phase) : (d.modPh p f).modPh p g = d.modPh p (g ∘ f) := by
  rw [modPh, modPh, modPh]
  simp only [onPw, List.modify_modify_eq]

/-- Of the power path at most one phase changes; measurement and system stand. -/
structure onePhase (d e : Dev) (p : Nat) : Prop where
  pw : e.pw = { d.pw with ph := e.pw.ph }
  others : ∀ q, q ≠ p → e.pw.ph[q]? = d.pw.ph[q]?
  ms : e.ms = d.ms
  sy : e.sy = d.sy

section
variable {d e : Dev} {p : Nat} (h : d.onePhase e p)
include h

theorem onePhase.modPh (f : Phase → Phase) : d.onePhase (e.modPh p f) p where
  pw := by rw [modPh_pw, h.pw]
  others q other := by rw [modPh_pw, List.getElem?_modify_ne _ _ (Ne.symm other), h.others q other]
  ms := h.ms
  sy := h.sy

theorem onePhase.raise (ev : Nat) (inst : Option Nat) (data : List Byte) : d.onePhase (e.raise ev inst data) p where
  pw := by rw [raise_pw, h.pw]
  others q other := by rw [raise_pw, h.others q other]
  ms := by rw [raise_ms, h.ms]
  sy := by rw [raise_sy, h.sy]

end

theorem modPh_at {d : Dev} {p : Nat} {x : Phase} (there : d.pw.ph[p]? = some x) (f : Phase → Phase) :
    (d.modPh p f).pw.ph[p]? = some (f x) := by
  rw [modPh_pw, List.getElem?_modify_eq, there]
  rfl

theorem modPh_st {d : Dev} {p : Nat} {f : Phase → Phase} (hf : ∀ x, (f x).st = x.st) : ((d.modPh p f).phase p).st = (d.phase p).st := by
  rcases modPh_phase d p f with h | ⟨h, -⟩
  · rw [h, hf]
  · rw [h]

theorem modPh_idledAt {d : Dev} {p : Nat} {f : Phase → Phase} (hf : ∀ x, (f x).idledAt = x.idledAt) :
    ((d.modPh p f).phase p).idledAt = (d.phase p).idledAt := by
  rcases modPh_phase d p f with h | ⟨h, -⟩
  · rw [h, hf]
  · rw [h]

end Dev

theorem Phase.blank_eq (x : Phase) : x.blank = x.regs.prot.toNat % 256 := by
  rw [blank, fld_eq]
  simp

/-! ### The start of a cycle -/

/-- What the start of a cycle reads of a phase stands from `x` to `y`. -/
structure Phase.sameCycle (x y : Phase) : Prop where
  periodNext : y.periodNext = x.periodNext
  targetNext : y.targetNext = x.targetNext
  held : y.held = x.held
  coarse : y.coarse = x.coarse
  trip : y.trip = x.trip
  badCyc : y.badCyc = x.badCyc
  ocRun : y.ocRun = x.ocRun
  senseRun : y.senseRun = x.senseRun
  st : y.st = x.st
  lad : y.lad = x.lad

namespace Dev

section
variable {d : Dev} {p : Nat} {x : Phase} (there : d.pw.ph[p]? = some x)
include there

theorem autorange_spec : d.onePhase (d.autorange p) p ∧ ∃ y, (d.autorange p).pw.ph[p]? = some y ∧ x.sameCycle y := by
  have start : d.onePhase d p := ⟨rfl, fun _ _ => rfl, rfl, rfl⟩
  unfold autorange
  dsimp only
  split
  · exact ⟨start, x, there, rfl, rfl, rfl, rfl, rfl, rfl, rfl, rfl, rfl, rfl⟩
  · exact ⟨start.modPh _, _, modPh_at there _, rfl, rfl, rfl, rfl, rfl, rfl, rfl, rfl, rfl, rfl⟩

theorem rethreshold_spec : d.onePhase (d.rethreshold p) p ∧ ∃ y, (d.rethreshold p).pw.ph[p]? = some y ∧ x.sameCycle y ∧
    y.regs = x.regs := by
  have moved (f : Phase → Phase) : d.onePhase (d.modPh p f) p := onePhase.modPh ⟨rfl, fun _ _ => rfl, rfl, rfl⟩ f
  unfold rethreshold
  refine when_induct (P := fun e => d.onePhase e p ∧ ∃ y, e.pw.ph[p]? = some y ∧ x.sameCycle y ∧ y.regs = x.regs)
    ⟨moved _, _, modPh_at there _, ⟨rfl, rfl, rfl, rfl, rfl, rfl, rfl, rfl, rfl, rfl⟩, rfl⟩ fun ⟨one, y, hy, same⟩ => ?_
  exact ⟨one.raise _ _ _, y, by rw [raise_pw, hy], same⟩

end

theorem onePhase.trans {d e g : Dev} {p : Nat} (h : d.onePhase e p) (k : e.onePhase g p) : d.onePhase g p where
  pw := by rw [k.pw, h.pw]
  others q other := (k.others q other).trans (h.others q other)
  ms := k.ms.trans h.ms
  sy := k.sy.trans h.sy

/-- The range and the set-up of the next cycle are in force, and nothing else of the cycle has moved. -/
theorem setUpCycle_spec {d : Dev} {p : Nat} {x : Phase} (there : d.pw.ph[p]? = some x) (cycle : Bool) :
    let e := (d.autorange p).applySetup p cycle
    d.onePhase e p ∧ ∃ y, e.pw.ph[p]? = some y ∧ x.sameCycle y ∧ y.regs = x.held := by
  obtain ⟨ranged, y, hy, same⟩ := autorange_spec there
  obtain ⟨set, z, hz, again, regs⟩ := rethreshold_spec (modPh_at hy fun x =>
    let x := { x with regs := x.held }
    let r := if x.autorange then x.rangeNext else x.csRange
    let new := r != x.range
    { x with range := r, rangeNext := r, mark := cycle && new, changes := x.changes + b2n (cycle && new), cyc := if x.autorange && new then 0 else x.cyc,
             lowRun := if new then 0 else x.lowRun })
  exact ⟨(ranged.modPh _).trans set, z, hz,
    ⟨again.periodNext.trans same.periodNext, again.targetNext.trans same.targetNext, again.held.trans same.held,
      again.coarse.trans same.coarse, again.trip.trans same.trip, again.badCyc.trans same.badCyc, again.ocRun.trans same.ocRun,
      again.senseRun.trans same.senseRun, again.st.trans same.st, again.lad.trans same.lad⟩, regs.trans same.held⟩

/-- One phase that keeps its state leaves every lead as it is. -/
theorem onePhase.leadOf {d e : Dev} {p : Nat} {x y : Phase} (h : d.onePhase e p) (old : d.pw.ph[p]? = some x)
    (new : e.pw.ph[p]? = some y) (st : y.st = x.st) (m : Nat) : e.leadOf m = d.leadOf m := by
  have states (q : Nat) : (e.phase q).st = (d.phase q).st := by
    by_cases same : q = p
    · subst same
      rw [phase_of_get old, phase_of_get new, st]
    · simp only [phase, List.getD_eq_getElem?_getD, h.others q same]
  have map : e.mitE m = d.mitE m := by rw [mitE, mitE, h.pw]
  simp only [Dev.leadOf, active, phasesIn, states, map]

theorem swapRule_steady {d : Dev} {m : Nat} (steady : (d.mitten m).dir = .none) (p : Nat) : d.swapRule m p = d := by
  rw [swapRule]
  simp only [steady]
  rfl

end Dev

namespace Dev

theorem modPh_now (d : Dev) (p : Nat) (f : Phase → Phase) : (d.modPh p f).now = d.now := rfl

theorem modPh_mitE (d : Dev) (p m : Nat) (f : Phase → Phase) : (d.modPh p f).mitE m = d.mitE m := rfl

theorem modPh_mitten (d : Dev) (p m : Nat) (f : Phase → Phase) : (d.modPh p f).mitten m = d.mitten m := rfl

theorem modPh_map (d : Dev) (p : Nat) (f : Phase → Phase) : (d.modPh p f).pw.map = d.pw.map := rfl

theorem each_fixed_mem {d : Dev} {l : List Nat} {f : Nat → Dev → Dev} (hf : ∀ n ∈ l, f n d = d) : d.each l f = d := by
  induction l with
  | nil => rfl
  | cons n t ih => rw [each_cons, hf n List.mem_cons_self, ih fun k hk => hf k (List.mem_cons_of_mem _ hk)]

theorem inService_of_st {d : Dev} {p : Nat} (st : (d.phase p).st = .active ∨ (d.phase p).st = .shed ∨ (d.phase p).st = .gauntlet) :
    d.inService p = true := by
  rw [inService]
  rcases st with st | st | st <;> rw [st] <;> rfl

/-! ### A calibration -/

/-- The delay lines of a phase are calibrated and none failed. -/
def calibrated (d : Dev) (p now : Nat) (temp : Int) : Dev :=
  d.modPh p fun x => { x with calOk := true, coarse := false, calAt := now, calTemp := temp }

/-- Without a gauntlet no member waits for its calibration. -/
theorem joinTest_calm {d : Dev} (calm : ∀ m, (d.mitten m).gnt = none) (p : Nat) : d.joinTest p = d := by
  rw [joinTest]
  cases d.pw.map.mitOf p with
  | none => rfl
  | some m => simp only [calm m]

/-- Two loops whose steps agree on what they keep end alike. -/
theorem each_congr {P : Dev → Prop} {f g : Nat → Dev → Dev} (h : ∀ n e, P e → f n e = g n e ∧ P (g n e)) (l : List Nat) {d : Dev}
    (start : P d) : d.each l f = d.each l g := by
  induction l generalizing d with
  | nil => rfl
  | cons n t ih => rw [each_cons, each_cons, (h n d start).1, ih (h n d start).2]

/-- A change of the four phases of a quad. -/
theorem quadPhases_at {d : Dev} {p : Nat} {x : Phase} (there : d.pw.ph[p]? = some x) (q : Nat) (f : Phase → Phase) :
    (d.each (List.range 4) fun i e => e.modPh (4 * q + i) f).pw.ph[p]? = some (if p / 4 = q then f x else x) := by
  rw [show List.range 4 = [0, 1, 2, 3] from rfl]
  simp only [each_cons, each_nil, modPh_pw, List.getElem?_modify, there, Option.map_eq_map, Option.map_some]
  by_cases inside : p / 4 = q
  · obtain ⟨i, small, place⟩ : ∃ i, i < 4 ∧ p = 4 * q + i := ⟨p % 4, by omega, by omega⟩
    rw [if_pos inside, place]
    interval_cases i <;> simp
  · rw [if_neg inside, if_neg (by omega), if_neg (by omega), if_neg (by omega), if_neg (by omega)]

/-! ### A driver fault -/

theorem fault_liner (d : Dev) (ev : Nat) (inst : Option Nat) (data : List Byte) : (d.fault ev inst data).sy.liner = d.sy.liner := by
  have asleep (e : Dev) : (e.wakeSleep 6).sy.liner = e.sy.liner := by
    unfold wakeSleep abandon
    dsimp only
    split
    · split <;> rfl
    · split
      · rw [raise_sy]; rfl
      · rfl
  rw [fault, asleep]
  exact congrArg Sys.liner (d.raise_sy ev inst data)

/-- The outputs of a phase go low, its latch is set, and the fault of its driver is raised. -/
def driverLow (d : Dev) (p : Nat) : Dev :=
  (d.modPh p fun x => { x.low with flt := true, latch := true }).fault evPhaseDriverFault (some p) []

theorem driverLow_inService (d : Dev) (p : Nat) : (d.driverLow p).inService p = d.inService p := by
  have same : (d.driverLow p).phase p = (d.modPh p fun x => { x.low with flt := true, latch := true }).phase p := by
    rw [driverLow, phase, fault_pw]
    rfl
  have tick : (d.driverLow p).sy.tick = d.sy.tick := (fault_notes _ _ _ _).tick
  have st : ((d.modPh p fun x => { x.low with flt := true, latch := true }).phase p).st = (d.phase p).st := modPh_st fun _ => rfl
  have idled : ((d.modPh p fun x => { x.low with flt := true, latch := true }).phase p).idledAt = (d.phase p).idledAt :=
    modPh_idledAt fun _ => rfl
  simp only [inService, same, tick, st, idled]

end Dev

theorem exec_phaseDriverFault {p : Fin 64} {s : State} (on : s.dev.pw.quadOn.getD (p.val / 4) false = true)
    (powered : (s.dev.phase p).st ≠ .unpowered) : exec (.phaseDriverFault p) s = .next { s with dev := (
      if (s.dev.phase p).st = .gauntlet then (s.dev.driverLow p).gauntletTransient p evPhaseDriverFault
      else if s.dev.inService p then (s.dev.driverLow p).phaseTransient p evPhaseDriverFault
      else if p.val < 4 && s.dev.sy.liner.st != .off then
        (s.dev.driverLow p).onLiner fun l => { l with fltLow := l.fltLow ||| (1#4 <<< p.val) }
      else s.dev.driverLow p) } := by
  have liner : (s.dev.driverLow p).sy.liner.st = s.dev.sy.liner.st := congrArg LinerS.st (Dev.fault_liner _ _ _ _)
  rw [← Dev.driverLow_inService, ← liner]
  simp only [exec, execPhaseDriverFault, State.onDev, powered, on, Bool.not_true, Bool.false_eq_true, or_self, if_false]
  rfl

/-- Settles O15: a boundary moves one phase; each protection and quad row is its reaction. -/
theorem phaseRows : Obligations.PhaseRows := by
  refine ⟨fun p m x s there st member follows steady => ?cycle,
    ⟨fun p t s on untripped free sign blank mark => ?trip, fun p s st persists => ?overcurrent, fun p s st on => ?driver,
      fun p s st on => ?driverGauntlet, fun p s out on st => ?driverIdle, fun p s early liner st on old => ?driverLiner,
      fun p s st bad single => ?sense, fun p t s unseen => ?unseen, fun p s off => ?unpowered⟩,
    fun q s on => ?supply, fun q s sound => ?recovery, fun q s on calm => ?calibration, fun p ma s st rejoin fresh => ?failed,
    fun p ma m s st rejoin sound member low single => ?passed⟩
  case cycle =>
    obtain ⟨one, y, hy, same, regs⟩ := Dev.setUpCycle_spec there true
    have active : ¬ (s.dev.phase p).st ≠ .active := by
      rw [Dev.phase_of_get there, st]
      exact fun h => h rfl
    have noLead : (((s.dev.autorange p).applySetup p true).leadOf m == some p.val) = false := by
      rw [one.leadOf there hy same.st]
      exact beq_eq_false_iff_ne.mpr follows
    have still : ((((s.dev.autorange p).applySetup p true).mitten m).dir) = .none := by
      rw [Dev.mitten, one.pw]
      exact steady
    have map : ((s.dev.autorange p).applySetup p true).pw.map = s.dev.pw.map := by rw [one.pw]
    simp only [exec, execPwmCycleBoundary, State.onDev, if_neg active, member, noLead, Bool.false_and, Dev.when_false]
    generalize (s.dev.autorange p).applySetup p true = e at *
    have swap (f : Phase → Phase) : (e.modPh p f).swapRule m p = e.modPh p f := by
      refine Dev.swapRule_steady ?_ p
      exact still
    rw [swap]
    have mit : e.pw.mit = s.dev.pw.mit := by rw [one.pw]
    have str : e.pw.str = s.dev.pw.str := by rw [one.pw]
    refine ⟨_, _, rfl, Dev.modPh_at (Dev.modPh_at hy _) _, ?period, same.targetNext, regs, rfl, ?trips, ?senses, same.st.trans st,
      same.lad, fun q other => ?others, mit, str, one.ms, one.sy, rfl⟩
    case period => exact (congrArg₂ (fun c n => if c = true then (n + 10) / 20 * 20 else n) same.coarse same.periodNext)
    case trips => exact (congrArg₂ (fun c n => if c = true then n + 1 else 0) same.trip same.ocRun)
    case senses => exact (congrArg₂ (fun c n => if c = true then n + 1 else 0) same.badCyc same.senseRun)
    case others =>
      exact (List.getElem?_modify_ne _ _ (Ne.symm other)).trans ((List.getElem?_modify_ne _ _ (Ne.symm other)).trans (one.others q other))
  case trip =>
    have seen : s.dev.tripSeen p t = true := by
      have clear : (!((s.dev.phase p).mark && decide (t.cycle < max (s.dev.phase p).blank 80))) = true := by
        rcases mark with new | late
        · rw [new]; rfl
        · rw [decide_eq_false (by rw [Phase.blank_eq]; omega), Bool.and_false]; rfl
      rw [Dev.tripSeen, clear, Bool.and_true, Bool.and_eq_true, decide_eq_true_eq, Phase.blank_eq]
      refine ⟨?_, blank⟩
      rcases sign with positive | ⟨m, member, topo⟩
      · rw [positive, Bool.not_false, Bool.or_true]
      · rw [member, Bool.or_eq_true]
        exact .inl (by rcases topo with h | h <;> simp [h])
    simp only [exec, execComparatorTrip, State.onDev, on, untripped, seen, free, Bool.false_eq_true, Bool.not_true, or_self, if_false,
      Bool.not_false, Dev.when_true]
  case overcurrent =>
    have serves : s.dev.inService p = true := Dev.inService_of_st (.inl st)
    have due : (s.dev.phase p).ocPersist ≤ (s.dev.phase p).ocRun + b2n (s.dev.phase p).trip := persists
    simp only [exec, execPhaseOvercurrent, State.onDev, serves, st, due, ne_eq, reduceCtorEq, not_false_eq_true, and_self, if_true]
  case driver =>
    have serves : s.dev.inService p = true := Dev.inService_of_st (st.imp_right .inl)
    rw [exec_phaseDriverFault on (by rcases st with h | h <;> rw [h] <;> decide), if_neg (by rcases st with h | h <;> rw [h] <;> decide),
      if_pos serves]
    rfl
  case driverGauntlet =>
    rw [exec_phaseDriverFault on (by rw [st]; decide), if_pos st]
    rfl
  case driverIdle =>
    have idle : s.dev.inService p = false := by
      rcases st with ⟨st, tick⟩ | st | st
      · simp [Dev.inService, st, tick]
      · simp [Dev.inService, st]
      · simp [Dev.inService, st]
    have noLiner : (decide (p.val < 4) && s.dev.sy.liner.st != .off) = false := by
      rcases out with big | off
      · simp [big]
      · simp [off]
    rw [exec_phaseDriverFault on (by rcases st with ⟨h, -⟩ | h | h <;> rw [h] <;> decide),
      if_neg (by rcases st with ⟨h, -⟩ | h | h <;> rw [h] <;> decide), idle, noLiner]
    rfl
  case driverLiner =>
    have idle : s.dev.inService p = false := by simp [Dev.inService, st, old]
    have runs : (decide (p.val < 4) && s.dev.sy.liner.st != .off) = true := by simp [early, liner]
    rw [exec_phaseDriverFault on (by rw [st]; decide), if_neg (by rw [st]; decide), idle, runs]
    rw [Dev.driverLow, if_neg Bool.false_ne_true, if_pos rfl, ← Dev.fault_onLiner]
    rfl
  case sense =>
    have serves : s.dev.inService p = true := Dev.inService_of_st (st.imp_right .inl)
    have tested : ((s.dev.phase p).st != .gauntlet) = true := by rcases st with h | h <;> rw [h] <;> rfl
    have due : decide (16 ≤ (s.dev.phase p).senseRun + b2n (s.dev.phase p).badCyc) = true := decide_eq_true bad
    cases member : s.dev.pw.map.mitOf p with
    | none => simp only [exec, execPhaseSenseFault, State.onDev, serves, tested, due, member, Bool.and_self, if_true, Bool.false_and,
        Dev.when_false]
    | some m => simp only [exec, execPhaseSenseFault, State.onDev, serves, tested, due, member, single m member, Bool.and_self, if_true,
        Bool.false_and, Dev.when_false]
  case unseen =>
    have blind : s.dev.tripSeen p t = false := by
      rw [Dev.tripSeen]
      rcases unseen with ⟨negative, other⟩ | early
      · cases member : s.dev.pw.map.mitOf p with
        | none => simp [negative]
        | some m =>
          obtain ⟨noBidir, noFsbb⟩ := other m member
          simp [negative, noBidir, noFsbb]
      · simp [Phase.blank_eq, early]
    simp only [exec, execComparatorTrip, State.onDev, blind, Bool.not_false, or_true, if_true]
  case unpowered => simp only [exec, execPhaseDriverFault, State.onDev, off, Bool.not_false, or_true, if_true]
  case supply => simp only [exec, execQuadSupplyFault, State.onDev, on, Bool.not_true, Bool.false_eq_true, if_false]
  case recovery =>
    simp only [exec, execQuadSupplyRecovery, State.onDev]
    rw [Dev.each_fixed_mem]
    intro p hp
    have inside := List.mem_range'_1.mp hp
    exact if_neg fun out => sound p inside.1 inside.2 out.1
  case calibration =>
    have steps : exec (.delayLineCalibration q 0) s = .next { s with dev := (s.dev.each (List.range 4) fun i e =>
        e.calibrated (4 * q.val + i) s.dev.now (s.dev.unit q).dieT) } := by
      simp only [exec, execDelayLineCalibration, State.onDev, on, Bool.not_true, Bool.false_eq_true, if_false]
      rw [Dev.each_congr (P := fun e => ∀ m, (e.mitten m).gnt = none)
        (g := fun i e => e.calibrated (4 * q.val + i) s.dev.now (s.dev.unit q).dieT) ?_ _ calm]
      intro i e he
      have clear : BitVec.getLsbD (0 : BitVec 4) i = false := by simp
      simp only [clear, Bool.false_and, Dev.when_false]
      exact ⟨Dev.joinTest_calm (d := e.calibrated (4 * q.val + i) s.dev.now (s.dev.unit q).dieT) he _, he⟩
    exact ⟨_, steps, rfl, rfl, fun p x there => Dev.quadPhases_at there _ _⟩
  case failed =>
    simp only [exec, execPhaseRejoinCheckEnd, State.onDev, st, rejoin, fresh, ne_eq, not_true_eq_false, Bool.not_true, Bool.false_eq_true,
      or_self, if_false, Bool.false_and, Bool.not_false, if_true, Dev.modPh_now, Dev.modPh_modPh]
    rfl
  case passed =>
    simp only [exec, execPhaseRejoinCheckEnd, State.onDev, st, rejoin, sound, member, low, ne_eq, not_true_eq_false, Bool.not_true,
      Bool.false_eq_true, or_self, if_false, Bool.not_false, decide_true, Bool.true_or, Bool.and_self, single, Dev.modPh_mitE,
      Dev.modPh_mitten, Dev.modPh_map, Dev.modPh_modPh]
    cases (s.dev.mitten m).looping <;> rfl

end Sys2Proof.Machine
end

section
/-! PROOFS. Urgent samples of the phase engines (R27, R50, R51, R53-R55, R167). -/

namespace Sys2Proof.Machine

/-! ### The slices of a unit -/

section
variable {u : MUnit} {r : Urgent}

/-- A unit with nothing planned and nothing queued starts nothing. -/
theorem MUnit.advance_rest (plan : u.plan = []) (corr : u.corrDue = none) (queue : u.queue = []) (stop : Nat) : u.advance stop = u := by
  have rest : u.startOne stop = none := by
    unfold startOne
    cases u.firstFree with
    | none => rfl
    | some i => simp [queue, plan, corr]
  rw [advance, startAll]
  simp only [rest]

/-- A full queue takes no request. -/
theorem MUnit.request_full (full : 4 ≤ (u.advance r.at0).queue.length) : u.request r = none := by
  have waiting : (u.advance r.at0).queue.isEmpty = false := by
    cases queue : (u.advance r.at0).queue with
    | nil => rw [queue] at full; cases full
    | cons => rfl
  rw [request]
  simp only [waiting, Bool.false_eq_true, if_false, if_neg (by omega : ¬ (u.advance r.at0).queue.length < 4)]

section
variable (plan : u.plan = []) (corr : u.corrDue = none) (queue : u.queue = [])
include plan corr queue

/-- The request takes the slice that frees first where it is free by then. -/
theorem MUnit.request_free {i : Nat} (free : u.firstFree = some i) (ready : (u.slice i).till ≤ r.at0) :
    u.request r = some { u.hold i (.urgent r.ph) r.at0 r.dur with urg := u.urg ++ [(r.ph, 0, r.trig)] } := by
  unfold request
  simp only [advance_rest plan corr queue, queue, List.isEmpty_nil, if_true, free, if_pos ready]

/-- Else it takes the slice of other work whose sample started last. -/
theorem MUnit.request_displacing {i j : Nat} (free : u.firstFree = some i) (busy : r.at0 < (u.slice i).till)
    (latest : u.latest r.at0 = some j) : u.request r = some { (u.discard j r.at0).hold j (.urgent r.ph) r.at0 r.dur with
      urg := (u.discard j r.at0).urg ++ [(r.ph, 0, r.trig)] } := by
  unfold request
  simp only [advance_rest plan corr queue, queue, List.isEmpty_nil, if_true, free, if_neg (Nat.not_le.mpr busy), latest]

/-- Else it waits. -/
theorem MUnit.request_waiting {i : Nat} (free : u.firstFree = some i) (busy : r.at0 < (u.slice i).till)
    (none : u.latest r.at0 = none) : u.request r = some { u with queue := [r] } := by
  have waits : u.wait r = { u with queue := [r] } := by
    rw [wait, queue]
    rfl
  unfold request
  simp only [advance_rest plan corr queue, queue, List.isEmpty_nil, if_true, free, if_neg (Nat.not_le.mpr busy), none, waits,
    List.length_nil, Nat.zero_lt_succ]

end

/-- A sample that belongs to no plan leaves nothing behind. -/
theorem MUnit.discard_window {j : Nat} (window : (u.slice j).use = .window) (t : Nat) : u.discard j t = u := by
  rw [discard]
  simp only [window, ite_self]

end

/-- The oldest urgent conversion of a phase that has one needs no further service. -/
theorem MUnit.finish_running {u : MUnit} {p late trig : Nat} (oldest : (u.urg.find? fun q => q.1 == p) = some (p, late, trig)) :
    u.finish p = some ({ u with urg := u.urg.erase (p, late, trig) }, late, trig) := by
  have running : (u.urg.any fun q => q.1 == p) = true :=
    List.any_eq_true.mpr ⟨_, List.mem_of_find?_eq_some oldest, by simp⟩
  have ready (n : Nat) : MUnit.serveUntil p n u = u := by
    cases n with
    | zero => rfl
    | succ n => rw [serveUntil, if_pos running]
  rw [finish, ready, oldest]
  rfl

theorem clampI_of_mem {lo hi x : Int} (low : lo ≤ x) (high : x ≤ hi) : clampI lo hi x = x := by
  rw [clampI, if_neg (by omega), if_neg (by omega)]

theorem SenseEntry.value_eq (e : SenseEntry) (num : Int) (den : Nat) : e.value num den =
    roundDiv ((if e.invert then -1 else 1) * (if e.mode = 2 then 10 * num + 9 * (den : Int) else 10 * num) * e.fsEng) (10 * den) +
      e.offset := by
  rw [value]
  cases e.invert
  · simp only [Bool.false_eq_true, if_false, one_mul]
  · simp only [if_true, neg_one_mul]

/-- The end of a conversion: its unit without it, and its phase changed. -/
def Dev.sampled (d : Dev) (p : Nat) (u : MUnit) (f : Phase → Phase) : Dev := ((d.modMu (p / 4) fun _ => u).modPh p f).tickFree

theorem Phase.atTrigger_sample (x : Phase) (trig : Nat) (v : Int) : (x.atTrigger trig v).sample = (if trig = 0 then v else x.sample) ∧
    (x.atTrigger trig v).sampleB = (if trig = 1 ∧ x.law = .avg then v else x.sampleB) := by
  unfold atTrigger
  by_cases zero : trig = 0
  · subst zero
    exact ⟨rfl, rfl⟩
  · rw [if_neg zero, if_neg zero]
    by_cases avg : trig = 1 ∧ x.law = .avg
    · rw [if_pos avg, if_pos avg]
      exact ⟨rfl, rfl⟩
    · rw [if_neg avg, if_neg avg]
      exact ⟨rfl, rfl⟩

theorem Phase.atTrigger_kept (x : Phase) (trig : Nat) (v : Int) : (x.atTrigger trig v).target = x.target ∧
    (x.atTrigger trig v).st = x.st := by
  unfold atTrigger
  split
  · exact ⟨rfl, rfl⟩
  · split <;> exact ⟨rfl, rfl⟩

/-- The oldest conversion of a phase of no pair: the phase sees it as converted where the request did not wait. -/
theorem exec_urgentConversionDone {p : Fin 64} (code : Int) (bad : Bool) {x : Phase} {u : MUnit} {late trig : Nat} {s : State}
    (there : s.dev.pw.ph[p.val]? = some x) (unit : s.dev.ms.mu[p.val / 4]? = some u)
    (oldest : (u.urg.find? fun q => q.1 == p.val) = some (p.val, late, trig))
    (single : ∀ m, s.dev.pw.map.mitOf p = some m → (s.dev.mitE m).fsbb = false) :
    ∃ (f : Phase → Phase) (seen : Int),
      exec (.urgentConversionDone p code bad) s =
        .next { s with dev := s.dev.sampled p { u with urg := u.urg.erase (p.val, late, trig) } f } ∧
      (late = 0 → seen = (s.dev.pw.map.senseE (phIx p)).value (clampI (-8192) 8191 code) (8192 * 2 ^ x.range)) ∧
      (f x).sample = (if trig = 0 then (if s.dev.ms.ref.settled && !x.mark then seen else x.pred) else x.sample) ∧
      (f x).sampleB = (if trig = 1 ∧ x.law = .avg then (if s.dev.ms.ref.settled && !x.mark then seen else x.pred) else x.sampleB) ∧
      (f x).late = late ∧ (f x).target = x.target ∧ (f x).st = x.st := by
  have hu : s.dev.unit (p.val / 4) = u := getD_there _ _ _ _ unit
  have hx (g : MUnit → MUnit) : (s.dev.modMu (p.val / 4) g).phase p = x := Dev.phase_of_get there
  have finished := MUnit.finish_running oldest
  cases member : s.dev.pw.map.mitOf p with
  | none =>
    simp only [exec, execUrgentConversionDone, State.onDev, hu, hx, finished, Dev.modMu_pw, member, Bool.false_and, Dev.when_false]
    exact ⟨_, _, rfl, fun _ => rfl, (Phase.atTrigger_sample x trig _).1, (Phase.atTrigger_sample x trig _).2, rfl,
      (Phase.atTrigger_kept x trig _).1, (Phase.atTrigger_kept x trig _).2⟩
  | some m =>
    have alone (g : MUnit → MUnit) : ((s.dev.modMu (p.val / 4) g).mitE m).fsbb = false := single m member
    simp only [exec, execUrgentConversionDone, State.onDev, hu, hx, finished, Dev.modMu_pw, member, alone, Bool.false_and, Dev.when_false]
    exact ⟨_, _, rfl, fun prompt => if_pos prompt, (Phase.atTrigger_sample x trig _).1, (Phase.atTrigger_sample x trig _).2, rfl,
      (Phase.atTrigger_kept x trig _).1, (Phase.atTrigger_kept x trig _).2⟩

/-- Settles O16: a request takes its slice by `MUnit.request`, and a conversion that ends moves its phase and its unit alone. -/
theorem urgentSamples : Obligations.UrgentSamples := by
  refine ⟨⟨fun p t clk s st used silent => ?skipped, fun p t clk v s st used fires on taken => ?taken,
    fun p t clk s st used fires lost => ?dropped, fun u r plan corr queue => ?slices, fun u r full => MUnit.request_full full⟩,
    fun p code bad x u late trig s there unit oldest single low high => ?done⟩
  case skipped =>
    have runs : ¬ (((s.dev.phase p).st ≠ .active ∧ (s.dev.phase p).st ≠ .gauntlet) ∨ ((s.dev.phase p).trigger t).1 = 0) := by tauto
    simp only [exec, execSampleTrigger, State.onDev, if_neg runs, silent, Bool.not_false, if_true]
  case taken =>
    have runs : ¬ (((s.dev.phase p).st ≠ .active ∧ (s.dev.phase p).st ≠ .gauntlet) ∨ ((s.dev.phase p).trigger t).1 = 0) := by tauto
    simp only [exec, execSampleTrigger, State.onDev, if_neg runs, fires, Bool.not_true, Bool.false_eq_true, if_false, if_neg on,
      occupancy, taken]
  case dropped =>
    have runs : ¬ (((s.dev.phase p).st ≠ .active ∧ (s.dev.phase p).st ≠ .gauntlet) ∨ ((s.dev.phase p).trigger t).1 = 0) := by tauto
    simp only [exec, execSampleTrigger, State.onDev, if_neg runs, fires, Bool.not_true, Bool.false_eq_true, if_false, occupancy]
    rcases lost with off | full
    · rw [if_pos off]
      rfl
    · simp only [full, ite_self]
      rfl
  case slices =>
    refine ⟨fun i free ready => ?_, fun i j free busy latest window => ?_, fun i free busy none => ?_⟩
    · exact MUnit.request_free plan corr queue free ready
    · rw [MUnit.request_displacing plan corr queue free busy latest, MUnit.discard_window window]
      rfl
    · exact MUnit.request_waiting plan corr queue free busy none
  case done =>
    obtain ⟨f, seen, run, prompt, sample, sampleB, kept⟩ := exec_urgentConversionDone code bad there unit oldest single
    refine ⟨_, _, run, Dev.modPh_at there f, ?unit, ⟨_, fun settled clear now => ?_, fun h => ?_, sample, sampleB⟩, kept.1, kept.2.1, kept.2.2,
      fun q other => List.getElem?_modify_ne _ _ (Ne.symm other), rfl, rfl⟩
    case unit => exact (List.getElem?_modify_eq _ _ _).trans (congrArg _ unit)
    · rw [settled, clear, prompt now, clampI_of_mem low high, SenseEntry.value_eq]
      rfl
    · have spoilt : (s.dev.ms.ref.settled && !x.mark) = false := by rcases h with h | h <;> simp [h]
      rw [spoilt]
      rfl

end Sys2Proof.Machine
end

section
/-! PROOFS. Visits, passes and units of the measurement fabric (R160-R162, R164, R169, R173-R175, R182, R185, R189). -/

namespace Sys2Proof.Machine

namespace Dev

/-! ### What a fault and a pass start leave -/

theorem fault_ms (d : Dev) (ev : Nat) (inst : Option Nat) (data : List Byte) : (d.fault ev inst data).ms = d.ms := by
  have asleep (e : Dev) : (e.wakeSleep 6).ms = e.ms := by
    unfold wakeSleep abandon
    dsimp only
    split
    · split <;> rfl
    · split
      · rw [raise_ms]; rfl
      · rfl
  rw [fault, asleep]
  exact d.raise_ms ev inst data

theorem modMu_fixed {d : Dev} {k : Nat} {f : MUnit → MUnit} (fixed : f (d.unit k) = d.unit k) : d.modMu k f = d := by
  have same : d.ms.mu.modify k f = d.ms.mu := by
    rw [modify_agree d.ms.mu k f id fun u there => ?_, List.modify_id]
    rw [unit, getD_there _ _ _ _ there] at fixed
    exact fixed
  rw [modMu, onMs, same]

theorem newSequence_none {d : Dev} {k : Nat} (none : (d.unit k).seqNext = none) : d.newSequence k = d := by
  rw [newSequence]
  simp only [none]

theorem takeSetups_none {d : Dev} {k : Nat} (acc : ∀ p ∈ d.ms.accNext, p.1 ≠ k) (mmx : ∀ p ∈ d.ms.mmxNext, p.1 ≠ k) :
    d.takeSetups k = d := by
  have noAcc : d.ms.accNext.filter (·.1 == k) = [] := List.filter_eq_nil_iff.mpr fun p hp => by simpa using acc p hp
  have noMmx : d.ms.mmxNext.filter (·.1 == k) = [] := List.filter_eq_nil_iff.mpr fun p hp => by simpa using mmx p hp
  have allAcc : d.ms.accNext.filter (·.1 != k) = d.ms.accNext := List.filter_eq_self.mpr fun p hp => by simpa using acc p hp
  have allMmx : d.ms.mmxNext.filter (·.1 != k) = d.ms.mmxNext := List.filter_eq_self.mpr fun p hp => by simpa using mmx p hp
  simp only [takeSetups, noAcc, noMmx, List.foldl_nil, onMs, allAcc, allMmx]

theorem syncEntries_zero (d : Dev) (k : Nat) : d.syncEntries k 0 = d := by
  have none : ((List.range (d.seqOf k).entries.length).filter (0 : BitVec 16).getLsbD) = [] :=
    List.filter_eq_nil_iff.mpr fun i _ => by simp
  rw [syncEntries, none, each_nil]

theorem endImp_idle {d : Dev} {k : Nat} (idle : (d.ms.imp.getD k {}).run = none) (reason : Nat) : d.endImp k reason = d := by
  rw [endImp]
  simp only [idle]

theorem endCapture_idle {d : Dev} {j : Nat} (idle : d.ms.cap.getD j none = none) (reason : Nat) : d.endCapture j reason = d := by
  rw [endCapture]
  simp only [idle]

end Dev

section
variable {k : Fin 16} {s : State}

/-- A visit that ends in a pass of a unit in service. -/
theorem exec_visitEnd {l : List Int} {cm cl : Bool} {time : Nat} {e : SeqEntry} (inPass : (s.dev.unit k).inPass = true)
    (works : (s.dev.unit k).works = true) (entry : (s.dev.seqOf k).entries[(s.dev.unit k).entry]? = some e) (some : l ≠ []) :
    exec (.visitEnd k l cm cl time) s = .next { s with dev := (if l.length ≠ 2 ^ e.samples then s.dev else
      ((if e.precise then s.dev.precise k (s.dev.unit k).entry e (l.foldl (· + ·) 0)
          { s.dev.baseMarks k e with cm := cm, ovr := cl } (time / 10 * 10)
        else s.dev.fast k e (l.foldl (· + ·) 0) { s.dev.baseMarks k e with cm := cm, ovr := cl } (time / 10 * 10)).modMu k fun u =>
      let z := u.advance (time * 2 / 5 + 1)
      if z.entry + 1 < (s.dev.seqOf k).entries.length then { z with entry := z.entry + 1 } else z.endPass).beginVisit k) } := by
  have nonempty : l.isEmpty = false := List.isEmpty_eq_false_iff.mpr some
  simp only [exec, execVisitEnd, nonempty, State.onDev, inPass, works, Bool.and_self, if_true, Bool.false_eq_true, if_false, entry]

/-- A pass that may start on its boundary, without anything new to take. -/
theorem exec_passStart {b clk : Nat} (works : (s.dev.unit k).works = true) (idle : (s.dev.unit k).inPass = false) (after : b ≤ clk)
    (pace : s.dev.onPace (s.dev.seqOf k).period (clk - b) = true) : exec (.passStart k b clk) s = .next { s with dev := (
      if (s.dev.seqOf k).period ≠ 0 ∧ (s.dev.seqOf k).period ≤ b then
        let d := (s.dev.skipPass k).modMu k fun y => { y with skips := satInc 255 y.skips, noted := true }
        if (s.dev.unit k).noted then d else d.raise evMeasSeqOverrun (some k.val) []
      else
        let d := ((s.dev.newSequence k).takeSetups k).modMu k MUnit.leases
        let d := (d.syncEntries k (d.unit k).syncNow).modMu k fun y => { y with syncNow := 0 }
        (d.modMu k fun y => { y.startPlan clk ((d.seqOf k).entries.map fun e => (2 ^ e.samples, e.ts)) with
          late := if (s.dev.seqOf k).period ≠ 0 ∧ 0 < b then satInc 255 y.late else y.late, inPass := true, entry := 0,
          pass := y.pass + 1 }).beginVisit k) } := by
  have early : decide (clk < b) = false := decide_eq_false (by omega)
  simp only [exec, execPassStart, State.onDev, works, idle, early, pace, Bool.not_true, Bool.or_self, Bool.false_eq_true, if_false]

/-- A slice that is retired on a unit that neither a run nor a capture uses. -/
theorem exec_muSliceFault {i : Fin 4} (on : (s.dev.unit k).corr ≠ .off) (serves : (s.dev.unit k).retired = false)
    (up : (s.dev.unit k).sliceUp i = true) (sound : (s.dev.unit k).fault = false) (noImp : (s.dev.ms.imp.getD k {}).run = none)
    (noCap : s.dev.ms.cap.getD (k.val / 2) none = none) (bad : (s.dev.unit k).sliceBad i s.dev.now = true) :
    exec (.muSliceFault k i) s = .next { s with dev := (
      if (s.dev.unit k).up.length ≤ 3 then ((s.dev.fault evMuSliceFault (some k.val) []).modMu k fun u =>
        { u.retire i s.dev.clk with corr := .degraded }).unitFault k
      else (s.dev.fault evMuSliceFault (some k.val) []).modMu k fun u => { u.retire i s.dev.clk with corr := .degraded }) } := by
  have ms := s.dev.fault_ms evMuSliceFault (some k.val) []
  have clk : (s.dev.fault evMuSliceFault (some k.val) []).clk = s.dev.clk := by
    rw [Dev.clk, Dev.now, (Dev.fault_notes _ _ _ _).time]
    rfl
  simp only [exec, execMuSliceFault, State.onDev, on, serves, up, sound, bad, Bool.not_true, Bool.false_eq_true, false_and, or_self,
    if_false, clk]
  rw [Dev.endImp_idle, Dev.endCapture_idle]
  · exact (congrArg (fun m : Meas => m.cap.getD (k.val / 2) none) ms).trans noCap
  · exact (congrArg (fun m : Meas => (m.imp.getD k.val {}).run) ms).trans noImp

end

/-- Settles O25: each row is its equation once the pass start has nothing new to take. -/
theorem unitPasses : Obligations.UnitPasses := by
  refine ⟨⟨fun k l cm cl time e s inPass works entry whole => ?visit, fun k l cm cl time e s inPass works entry some partly => ?partly,
    fun k cm cl time s => ?empty⟩, fun k b clk s works idle after pace seq lease unlease sync acc mmx ready => ?start,
    fun k b clk s works idle after pace paced behind fresh => ?skip, fun k c s works up runs => ?slot, fun k s acquiring => ?converged,
    fun k i s on serves up sound noImp noCap => ⟨fun good => ?good, fun bad many => ?slice, fun bad few => ?unit⟩,
    fun k stall s on serves => ⟨fun due => ?fault, fun flows dev in12 => ?flows⟩⟩
  case visit =>
    have some : l ≠ [] := fun none => by
      rw [none] at whole
      exact absurd whole.symm (Nat.two_pow_pos e.samples).ne'
    rw [exec_visitEnd inPass works entry some, if_neg (not_not_intro whole)]
  case partly => rw [exec_visitEnd inPass works entry some, if_pos partly]
  case empty => rfl
  case start =>
    have idleLease : MUnit.leases (s.dev.unit k) = s.dev.unit k := by
      rw [MUnit.leases, unlease, lease]
      rfl
    have quiet : ({ s.dev.unit k with syncNow := 0 } : MUnit) = s.dev.unit k := by rw [← sync]
    rw [exec_passStart works idle after pace, if_neg (by omega), Dev.newSequence_none seq, Dev.takeSetups_none acc mmx,
      Dev.modMu_fixed idleLease]
    dsimp only
    rw [sync, Dev.syncEntries_zero, Dev.modMu_fixed (f := fun y => { y with syncNow := 0 }) quiet]
  case skip =>
    rw [exec_passStart works idle after pace, if_pos ⟨paced, behind⟩, fresh]
    rfl
  case slot => simp only [exec, execCorrectionSlot, State.onDev, works, up, runs, Bool.and_self, if_true]
  case converged => simp only [exec, execCorrectionConverged, State.onDev, if_pos acquiring]
  case good => simp only [exec, execMuSliceFault, State.onDev, good, Bool.not_false, or_true, if_true]
  case slice =>
    rw [exec_muSliceFault on serves up sound noImp noCap bad, if_neg (by omega)]
  case unit =>
    rw [exec_muSliceFault on serves up sound noImp noCap bad, if_pos few]
  case fault =>
    have seen : (stall || decide (10 ≤ (s.dev.unit k).devRun) || decide (10 ≤ (s.dev.unit k).in12Run)) = true := by
      simpa [or_assoc] using due
    simp only [exec, execMuUnitFault, State.onDev, on, seen, serves, Bool.not_true, Bool.false_eq_true, or_self, if_false]
    rfl
  case flows =>
    have calm : (stall || decide (10 ≤ (s.dev.unit k).devRun) || decide (10 ≤ (s.dev.unit k).in12Run)) = false := by
      simp [flows, dev, in12]
    simp only [exec, execMuUnitFault, State.onDev, calm, Bool.not_false, or_true, if_true]

end Sys2Proof.Machine
end

section
/-! PROOFS. Stale taps, captures and the reference (R172, R176, R177, R180). -/

namespace Sys2Proof.Machine

/-! ### What the samples of a capture reach -/

/-- The power path, the taps, the captures and accumulator `n` of `d` stand. -/
structure Dev.besides (n : Nat) (d e : Dev) : Prop where
  pw : e.pw = d.pw
  tap : e.ms.tap = d.ms.tap
  cap : e.ms.cap = d.ms.cap
  acc : e.ms.acc[n]? = d.ms.acc[n]?

namespace Dev

section
variable {n : Nat} {d e : Dev} (h : d.besides n e)
include h

theorem besides.raise (ev : Nat) (inst : Option Nat) (data : List Byte) : d.besides n (e.raise ev inst data) where
  pw := by rw [raise_pw, h.pw]
  tap := by rw [raise_ms, h.tap]
  cap := by rw [raise_ms, h.cap]
  acc := by rw [raise_ms, h.acc]

theorem besides.modAcc {i : Nat} (other : i ≠ n) (f : Acc → Acc) : d.besides n (e.modAcc i f) where
  pw := h.pw
  tap := h.tap
  cap := h.cap
  acc := (List.getElem?_modify_ne _ _ other).trans h.acc

theorem besides.accTake {i : Nat} (other : i ≠ n) (v : Int) (mk : Marks) (t : Nat) (withheld : Bool) :
    d.besides n (e.accTake i v mk t withheld) := by
  unfold Dev.accTake
  split
  · exact h
  · split
    · exact h.modAcc other _
    · split
      · exact h.modAcc other _
      · exact when_induct (h.modAcc other _) fun k => k.raise _ _ _

theorem besides.accTakes {i : Nat} (other : i ≠ n) (mate : i + 1 ≠ n) (v : Int) (mk : Marks) (t : Nat) (withheld : Bool) :
    d.besides n (e.accTakes i v mk t withheld) := by
  unfold Dev.accTakes
  split
  · exact h
  · dsimp only
    split
    · exact (h.accTake other v mk t withheld).accTake mate v mk t withheld
    · exact h.accTake other v mk t withheld

theorem besides.mmxTake (m : Nat) (v : Int) (mk : Marks) (t : Nat) (withheld : Bool) : d.besides n (e.mmxTake m v mk t withheld) := by
  have stored (f : Mmx → Mmx) : d.besides n (e.modMmx m f) := ⟨h.pw, h.tap, h.cap, h.acc⟩
  unfold Dev.mmxTake
  split
  · exact h
  · split
    · exact stored _
    · split
      · exact stored _
      · exact when_induct (stored _) fun k => k.raise _ _ _

end

theorem each_mem_induct {P : Dev → Prop} {f : Nat → Dev → Dev} {l : List Nat} (hf : ∀ n ∈ l, ∀ e, P e → P (f n e)) {d : Dev} (h : P d) :
    P (d.each l f) := by
  induction l generalizing d with
  | nil => exact h
  | cons n t ih => exact ih (fun k hk => hf k (List.mem_cons_of_mem _ hk)) (hf n List.mem_cons_self d h)

/-- A capture holds the slices of both its units. -/
def windowOpened (d : Dev) (j : Nat) (c : Capture) (ev : Nat) : Dev :=
  let sp := spacing (d.unit (2 * j + b2n c.odd)).up.length c.ts
  d.each [0, 1] fun u x => x.modMu (2 * j + u) fun y =>
    y.window ((ev + c.delay) / 20 - c.ts) (ceilDiv ((c.window - 1) * sp) 2 + occupancy c.ts) sp (u * (sp / 2))

/-- One sample of a capture's window. -/
def windowSample (c : Capture) (k sp hold : Nat) (l : List (Option WinSample)) (i : Nat) (x : Dev) : Dev :=
  match l.getD i none with
  | none => x
  | some w =>
    let e : SeqEntry := { input := c.input, ts := c.ts, gain := c.gain }
    let v := x.engineering k e w.code (4 * 8192 * 2 ^ x.gainOf k e)
    let mk := { x.baseMarks k e with cm := w.cm, ovr := w.clipped }
    (x.accTakes (c.accBase + i) v mk ((hold + 10 * (i * sp)) / 80 * 10) false).mmxTake c.mmx v mk ((hold + 10 * (i * sp)) / 80 * 10) false

/-- The samples of a window go to the accumulators of their index. -/
def windowTaken (d : Dev) (j : Nat) (c : Capture) (ev : Nat) (l : List (Option WinSample)) : Dev :=
  (d.windowOpened j c ev).each (List.range c.window)
    (windowSample c (2 * j + b2n c.odd) (spacing (d.unit (2 * j + b2n c.odd)).up.length c.ts) (ev + c.delay) l)

theorem windowTaken_besides (d : Dev) (j : Nat) (c : Capture) (ev : Nat) (l : List (Option WinSample)) {n : Nat}
    (outside : n < c.accBase ∨ c.accBase + c.window < n) : d.besides n (d.windowTaken j c ev l) := by
  have opened : d.besides n (d.windowOpened j c ev) := ⟨rfl, rfl, rfl, rfl⟩
  refine each_mem_induct (P := d.besides n) (fun i hi e he => ?_) opened
  have inside := List.mem_range.mp hi
  unfold windowSample
  split
  · exact he
  · exact (he.accTakes (by omega) (by omega) _ _ _ _).mmxTake _ _ _ _ _

theorem windowTaken_nil (d : Dev) (j : Nat) (c : Capture) (ev : Nat) : d.windowTaken j c ev [] = d.windowOpened j c ev :=
  each_fixed (fun _ => rfl) _

end Dev

section
variable {j : Fin 8} {c : Capture} {l : List (Option WinSample)} {ev at0 : Nat} {s : State}

/-- A window that begins and is not the capture's last. -/
theorem exec_pairWindow (running : s.dev.ms.cap[j.val]? = some (some c)) (ready : c.tickDone = false)
    (trigger : s.dev.triggerAt c at0 = some ev) (more : c.taken + 1 < c.rep) :
    exec (.pairWindow j l at0) s = .next { s with dev := ((s.dev.windowTaken j c ev l).onMs fun m => { m with
      cap := m.cap.set j (some { c with taken := c.taken + 1, tickDone := true, idle := 0 }) }) } := by
  have cap : s.dev.ms.cap.getD j none = some c := getD_there _ _ _ _ running
  simp only [exec, execPairWindow, State.onDev, cap, ready, Bool.false_eq_true, if_false, trigger, if_neg (Nat.not_le.mpr more)]
  rfl

end

/-- Settles O26: `windowTaken_besides` says what the samples of a window leave, and the other rows are their equations. -/
theorem referenceAndPairs : Obligations.ReferenceAndPairs := by
  refine ⟨⟨fun i s source stale => ?stale, fun j c s running idle => ?timeout, fun j c ev sp at0 s running ready trigger more hsp => ?window,
    fun j c l at0 s running silent => ?untriggered, fun s on unsettled => ⟨fun near => ?settled, ?late⟩, fun s bad => ?mismatch,
    fun s bad sound => ?fault⟩, fun j c l ev at0 s running ready trigger more => ?samples⟩
  case stale =>
    simp only [exec, execMeasTapStale, State.onDev, source, if_true, Bool.not_true, Bool.false_eq_true, or_false,
      if_neg (Nat.not_lt.mpr stale)]
    rfl
  case timeout =>
    have cap : s.dev.ms.cap.getD j none = some c := getD_there _ _ _ _ running
    simp only [exec, execCaptureTriggerTimeout, State.onDev, cap, idle, if_true, Dev.endCapture]
  case window =>
    subst hsp
    rw [exec_pairWindow running ready trigger more, Dev.windowTaken_nil]
    rfl
  case untriggered =>
    have cap : s.dev.ms.cap.getD j none = some c := getD_there _ _ _ _ running
    simp only [exec, execPairWindow, State.onDev, cap, silent, ite_self]
  case settled => simp only [exec, execReferenceSettled, State.onDev, on, unsettled, near, Bool.not_false, decide_true, Bool.and_self, if_true]
  case late => simp only [exec, execMeasRefTimeout, State.onDev, on, unsettled, Bool.not_false, Bool.and_self, if_true]
  case mismatch => simp only [exec, execMeasRefMismatch, State.onDev, bad, if_true]
  case fault => simp only [exec, execMeasRefFault, State.onDev, bad, sound, decide_true, Bool.not_false, Bool.and_self, if_true]
  case samples =>
    have kept (n : Nat) (outside : n < c.accBase ∨ c.accBase + c.window < n) := s.dev.windowTaken_besides j c ev l outside
    have far := kept (c.accBase + c.window + 1) (.inr (by omega))
    refine ⟨_, exec_pairWindow running ready trigger more, ?_, fun n outside => (kept n outside).acc, far.tap, far.pw, rfl⟩
    have inside : j.val < s.dev.ms.cap.length := (List.getElem?_eq_some_iff.mp running).1
    exact List.getElem?_set_self (far.cap ▸ inside)

end Sys2Proof.Machine
end

section
/-! PROOFS. The course of an impedance run (R203-R207). -/

namespace Sys2Proof.Machine

namespace Dev

theorem setAcc_kept (d : Dev) (n : Nat) (c : AccCfg) : (d.setAcc n c).ms.imp = d.ms.imp ∧ (d.setAcc n c).ms.gen = d.ms.gen := by
  unfold setAcc
  dsimp only
  split <;> split <;> exact ⟨rfl, rfl⟩

theorem startPoint_none {d : Dev} {k : Nat} {r : ImpRun} (none : r.freqs[r.point]? = none) : d.startPoint k r = d := by
  rw [startPoint]
  simp only [none]

/-- A point that begins: its generator runs from now on, and the run measures nothing yet. -/
theorem startPoint_some {d : Dev} {k : Nat} {r : ImpRun} {f : ImpFreq} (point : r.freqs[r.point]? = some f) :
    (d.startPoint k r).ms.imp = d.ms.imp.modify k (fun i => { i with run := i.run.map fun x => { x with measure := false, clipped := false } }) ∧
    (d.startPoint k r).ms.gen = d.ms.gen.set k { freq := f.freq, at0 := d.now } := by
  have eq : d.startPoint k r = (((d.onMs fun m => { m with gen := m.gen.set k { freq := f.freq, at0 := d.now } }).setAcc r.accBase
      { mode := .demod, ref := k, refFreq := f.freq, periods := f.measure }).setAcc (r.accBase + 2)
      { mode := .demod, ref := k, refFreq := f.freq, periods := f.measure }).modRun k fun x => { x with measure := false, clipped := false } := by
    rw [startPoint]
    simp only [point]
  rw [eq]
  constructor
  · exact congrArg (List.modify · k _) ((setAcc_kept _ _ _).1.trans (setAcc_kept _ _ _).1)
  · exact (setAcc_kept _ _ _).2.trans (setAcc_kept _ _ _).2

/-- The run that starts now on mitten `m` with step `q`. -/
def runStarted (d : Dev) (k : Nat) (r : ImpRun) (q : Step) (m : Nat) : ImpRun :=
  { r with running := true, point := 0, i0 := min (d.strTargets k).2.1 (d.iLimit m),
           amp := if q.type = 9 then floorDiv (r.ampl * q.iStep) 100
             else floorDiv (r.ampl * min (d.strTargets k).2.1 (d.iLimit m)) 100,
           points := [], startAt := d.now, mitten := m, rest := q.type == 9, measure := false, clipped := false }

/-- The run is in force, its leases are due, and its mitten's dither is cleared. -/
def runBegun (d : Dev) (k : Nat) (n : ImpRun) : Dev :=
  ((d.modImp k fun i => { i with run := some n, runs := i.runs + 1 }).modMu k fun u => { u with leaseDue := true }).modMit n.mitten
    fun x => { x with dither := 0 }

end Dev

section
variable {k : Fin 16} {r : ImpRun} {s : State} (asked : (s.dev.ms.imp.getD k {}).run = some r)
include asked

theorem exec_impedanceRunStart (waits : r.running = false) {q : Step} {m : Nat} (step : s.dev.impStep k = some q)
    (charges : (s.dev.string k).chgMit = some m) (fits : (s.dev.baseSeq k).takesLeases = true) :
    exec (.impedanceRunStart k) s = .next { s with dev := (((s.dev.runBegun k (s.dev.runStarted k r q m)).startPoint k
      (s.dev.runStarted k r q m)).publish k) } := by
  simp only [exec, execImpedanceRunStart, State.onDev, asked, waits, step, charges, fits, Bool.not_true, Bool.false_eq_true, if_false]
  rfl

end

/-- Settles O27: a start is `runBegun` with its first point, and the other rows are their equations. -/
theorem impedanceRows : Obligations.ImpedanceRows := by
  refine ⟨fun k r q m s asked waits step charges empty fits => ?start, fun k r q m f l s asked waits step charges freqs fits => ?points,
    fun k r s asked waits full => ?full, fun k r s asked runs settles => ?settled,
    fun k r f s asked runs measures point more => ?point, fun k r s ended rep free permits => ?again, fun k r s ended barred => ?barred⟩
  case start =>
    have noPoint : (s.dev.runStarted k r q m).freqs[(s.dev.runStarted k r q m).point]? = none := by
      change r.freqs[0]? = none
      rw [empty]
      rfl
    rw [exec_impedanceRunStart asked waits step charges fits, Dev.startPoint_none noPoint]
    rfl
  case points =>
    obtain ⟨i, imp, run⟩ := Option.map_eq_some_iff.mp asked
    have held : (s.dev.ms.imp.getD k {}).run = some r := by rw [getD_there _ _ _ _ imp, run]
    have first : (s.dev.runStarted k r q m).freqs[(s.dev.runStarted k r q m).point]? = some f := by
      change r.freqs[0]? = some f
      rw [freqs]
      rfl
    obtain ⟨runs, gen⟩ := Dev.startPoint_some (d := s.dev.runBegun k (s.dev.runStarted k r q m)) (k := k) first
    refine ⟨_, s.dev.runStarted k r q m, exec_impedanceRunStart held waits step charges fits, ?_, rfl, rfl, rfl, rfl, rfl, rfl, fun room => ?_⟩
    · have stored : (s.dev.runBegun k (s.dev.runStarted k r q m)).ms.imp[k.val]? =
          some { i with run := some (s.dev.runStarted k r q m), runs := i.runs + 1 } :=
        (List.getElem?_modify_eq _ _ _).trans (congrArg _ imp)
      rw [Dev.publish, Dev.modStr_ms, runs, List.getElem?_modify_eq, stored]
      rfl
    · rw [Dev.publish, Dev.modStr_ms, gen]
      exact List.getElem?_set_self room
  case full =>
    simp only [exec, execImpedanceRunStart, State.onDev, asked, waits, full, Bool.false_eq_true, if_false, Bool.not_false, if_true]
  case settled =>
    simp only [exec, execImpedanceSettleEnd, State.onDev, asked, runs, settles, Bool.not_true, Bool.or_self, Bool.false_eq_true, if_false]
  case point =>
    simp only [exec, execImpedancePointEnd, State.onDev, asked, runs, measures, Bool.and_self, if_true, point, more]
  case again =>
    simp only [exec, execImpedanceRepeat, State.onDev, ended, rep, free, permits, ne_eq, not_false_eq_true, Option.isNone_none,
      and_self, if_true]
  case barred =>
    simp only [exec, execImpedanceRepeat, State.onDev, ended, barred, Bool.false_eq_true, and_false, if_false]

end Sys2Proof.Machine
end

section
/-! PROOFS. Port switches, solar scans, generators, lends and supplement (R14, R15, R33, R36, R107-R109, R113, R119, R248). -/

namespace Sys2Proof.Machine

namespace Dev

/-! ### The closing of a switch -/

theorem setSwitch_map (d : Dev) (p : Nat) (m : SwMode) : (d.setSwitch p m).pw.map = d.pw.map := by
  unfold setSwitch
  dsimp only
  split <;> rfl

/-- An OFF switch with nothing blocked closes where it may. -/
theorem tryClose_may {d : Dev} {p : Nat} (room : p < d.pw.sw.length) (off : (d.switch p).mode = .off)
    (free : (d.switch p).blocked = false) (may : d.mayClose p = true) :
    d.tryClose p = d.setSwitch p .on ∧ ((d.setSwitch p .on).switch p).mode = .on := by
  have there : d.pw.sw[p]? = some (d.switch p) := by
    rw [switch, List.getD_eq_getElem?_getD, List.getElem?_eq_getElem room]
    rfl
  have moved : (d.setSwitch p .on).switch p = { d.switch p with mode := .on, conduct := true } := by
    have set : d.setSwitch p .on = d.modSw p fun x => { x with mode := .on, conduct := true } := by
      rw [setSwitch]
      simp only [off]
      rfl
    rw [set]
    exact getD_there _ _ _ _ (by rw [modSw_pw, List.getElem?_modify_eq, there]; rfl)
  have still : ((d.setSwitch p .on).switch p).blocked = false := by rw [moved, free]
  refine ⟨?_, by rw [moved]⟩
  rw [tryClose, if_pos may, unblock, if_neg (Bool.eq_false_iff.mp still)]

/-- An OFF switch that may not close stays OFF, and is reported. -/
theorem tryClose_barred {d : Dev} {p : Nat} (off : (d.switch p).mode = .off) (barred : d.mayClose p = false) :
    d.tryClose p = (d.modSw p fun x => { x with blocked := true }).onset evSwitchBlocked p (some (portNode p)) [] ∧
    ((d.tryClose p).switch p).mode ≠ .on := by
  have run : d.tryClose p = (d.modSw p fun x => { x with blocked := true }).onset evSwitchBlocked p (some (portNode p)) [] := by
    rw [tryClose, if_neg (Bool.eq_false_iff.mp barred)]
  have blocked : ((d.modSw p fun x => { x with blocked := true }).switch p).mode ≠ .on :=
    getD_modify_of (P := fun x : Switch => x.mode ≠ .on) p (by rw [show d.pw.sw.getD p {} = d.switch p from rfl, off]; decide) fun _ h => h
  refine ⟨run, ?_⟩
  rw [run, switch, onset_pw]
  exact blocked

/-! ### The end of a lend -/

theorem returnDonor_src (d : Dev) (k : Nat) : (d.returnDonor k).pw.src = d.pw.src := by
  unfold returnDonor stepEvent
  dsimp only
  split
  · rfl
  · split
    · rw [raise_pw]
      rfl
    · split <;> rfl

theorem idleMembers_src (d : Dev) (m : Nat) : (d.idleMembers m).pw.src = d.pw.src :=
  each_induct (P := fun e => e.pw.src = d.pw.src) (fun p e he => by dsimp only; split <;> exact he) _ rfl

theorem newPeriod_classC (d : Dev) (k : Nat) : (d.newPeriod k).classC = d.classC := by
  have sy : (d.newPeriod k).sy = d.sy := by
    refine each_induct (P := fun e => e.sy = d.sy) (fun m e he => ?_) _ rfl
    exact he
  simp only [classC, sy]

/-- The end of a lend moves the source's record alone among the sources. -/
theorem endLend_src {d : Dev} {k : Nat} {l : Lend} (lends : (d.source k).lend = some l) (reason : Nat) :
    (d.endLend k reason).pw.src = d.pw.src.modify k fun x =>
      { x with lend := .none, st := if x.st = .lending then .holdoff else x.st } := by
  unfold endLend
  simp only [lends, raise_pw]
  generalize moved : d.modSrc k (fun x => { x with lend := .none, st := if x.st = .lending then .holdoff else x.st }) = e
  have start : e.pw.src = d.pw.src.modify k fun x => { x with lend := .none, st := if x.st = .lending then .holdoff else x.st } := by
    rw [← moved]
    rfl
  rw [← start]
  have donor : (if l.donor ≥ 32 then e.returnDonor (l.donor - 32) else e).pw.src = e.pw.src := by
    split
    · exact e.returnDonor_src _
    · rfl
  generalize (if l.donor ≥ 32 then e.returnDonor (l.donor - 32) else e) = f at donor ⊢
  rw [← donor]
  split
  all_goals
    split
    · exact f.idleMembers_src _
    · rfl

theorem endLend_evstat {d : Dev} {k : Nat} {l : Lend} (lends : (d.source k).lend = some l) (reason : Nat) :
    evLendEnded ∈ (d.endLend k reason).ho.glb.evstat := by
  unfold endLend
  simp only [lends]
  exact raise_evstat _ _ _ _

end Dev

/-- A step of a scan after its first. -/
theorem exec_solarScanStep {k : Fin 12} {s : State} {c : Scan} {i : Int} (scans : (s.dev.source k).scan = some c)
    (impp : (s.dev.source k).iMpp = some i) (later : 0 < c.step) : exec (.solarScanStep k) s = .next { s with dev := (
      let stop := decide (s.dev.nodeV (.src k) < s.dev.sp k 9) || decide (20 ≤ c.step + 1)
      let p := (s.dev.source k).meanPower
      let c' : Scan := { step := c.step + 1, bestP := max c.bestP p, bestI := if c.bestP < p then i else c.bestI }
      ((s.dev.modSrc k fun y =>
        if stop then { y with scan := .none, scanAt := some s.dev.now, iMpp := some c'.bestI, mppPrev := c'.bestP, pAcc := 0, pN := 0 }
        else { y with scan := some c', mppPrev := p, iMpp := some (pctOf (5 * ((c'.step : Int) + 1)) (s.dev.sp k 7)), pAcc := 0, pN := 0 }).newPeriod
          k).when (stop && s.dev.classC)
          fun e => e.addLog 2 e.now 7 k (leBytes 4 (enc 4 (sat32 c'.bestP)) ++ List.replicate 4 0)) } := by
  have best : (if c.bestP < (s.dev.source k).meanPower then (s.dev.source k).meanPower else c.bestP) =
      max c.bestP (s.dev.source k).meanPower := by
    split <;> omega
  have started : ¬ c.step = 0 := by omega
  simp only [exec, execSolarScanStep, State.onDev, scans, impp, Option.getD_some, started, false_or, best]
  rfl

/-- An incoming switch whose group has been off for a tick tries to close. -/
theorem exec_changeoverSwitchClose {k : Fin 12} {s : State} (pend : (s.dev.source k).pendClose = true)
    (st : (s.dev.source k).st = .selected) (connected : (s.dev.switch k).disc = false) (free : (s.dev.switch k).hold = false)
    (sound : (s.dev.switch k).openFlt = false) (allowed : (s.dev.srcE k).allows .on = true)
    (others : ∀ i ∈ s.dev.pw.map.group k, i = k.val ∨ (s.dev.switch i).mode = .off ∧
      (s.dev.switch i).offTick < s.dev.sy.tick.count) : exec (.changeoverSwitchClose k) s = .next { s with dev := (
      if ((s.dev.tryClose k).switch k).mode ≠ .on then s.dev.tryClose k
      else ((s.dev.tryClose k).modSrc k fun x => { x with pendClose := false }).each
        (((s.dev.tryClose k).modSrc k fun x => { x with pendClose := false }).pw.map.mitsAt k) fun m e => if (e.mitten m).dChange then
          (e.modMit m fun x => { x with
            dChange := false,
            dHost := x.dHost || (decide (16 ≤ (e.mitE m).toN) && decide ((e.mitE m).toN < 32)) }).startMit m else e) } := by
  have waits : (!((s.dev.source k).pendClose && (s.dev.source k).selected) || (s.dev.switch k).disc || (s.dev.switch k).hold ||
      (s.dev.switch k).openFlt) = false := by
    simp [pend, Source.selected, st, connected, free, sound]
  have alone : ((s.dev.pw.map.group k).all fun i => i == k.val || ((s.dev.switch i).mode = .off &&
        (s.dev.switch i).offTick < s.dev.sy.tick.count)) = true :=
    List.all_eq_true.mpr fun i hi => by simpa using others i hi
  simp only [exec, execChangeoverSwitchClose, State.onDev, waits, allowed, alone, Bool.not_true, Bool.false_eq_true, if_false]

/-- Settles O21: `tryClose` moves its switch, a scan step is its equation, and a lend ends by `endLend_src`. -/
theorem portRows : Obligations.PortRows := by
  refine ⟨⟨fun p s diode => ⟨?off, ?on⟩, fun k s used tie on st apart small => ?opens, fun k s used tie on st apart small => ?openStr,
    fun k s pend st connected free sound allowed others off clear => ⟨fun may room => ?close, fun barred => ?blocked⟩⟩,
    ⟨fun k i s solar st calm impp rationed => ?mppt, fun k s solar st calm first => ?first,
      fun k c i s scans impp later => ⟨fun early high => ?scan, fun ends => ?last⟩, fun k s => ⟨rfl, fun unwanted => ?release⟩,
      fun k a b s solar st calm last entered period due rationed => ?again⟩,
    fun k r l s lends ends => ?lend, fun k r l x d there lends st => ?ended, fun m s supp zero => ?back, fun j s used low => ?low⟩
  case off => simp only [exec, execIdealDiodeTurnOff, State.onDev, diode, if_true]
  case on => simp only [exec, execIdealDiodeTurnOn, State.onDev, diode, if_true]
  case opens =>
    simp only [exec, execSwitchOpen, State.onDev, k.isLt, if_true, st]
    rw [if_pos (by simp [used, tie, on, apart, small]), Dev.portTransient, if_pos k.isLt]
  case openStr =>
    have string : ¬ 12 + k.val < 12 := by omega
    simp only [exec, execSwitchOpen, State.onDev, string, if_false, Nat.add_sub_cancel_left, st]
    rw [if_pos (by simp [used, tie, on, apart, small]), Dev.portTransient, if_neg string, Nat.add_sub_cancel_left]
  case close =>
    rw [exec_changeoverSwitchClose pend st connected free sound allowed others]
    obtain ⟨run, mode⟩ := Dev.tryClose_may room off clear may
    rw [run, if_neg (not_not_intro mode), Dev.modSrc_pw, Dev.setSwitch_map]
  case blocked =>
    rw [exec_changeoverSwitchClose pend st connected free sound allowed others]
    obtain ⟨run, mode⟩ := Dev.tryClose_barred off barred
    rw [if_pos mode, run, portNode, if_pos k.isLt]
    rfl
  case mppt =>
    have idle : ¬ ((s.dev.srcE k).type ≠ 4 ∨ (s.dev.source k).st ≠ .selected ∨ (s.dev.source k).scan.isSome = true) := by
      simp [solar, st, calm]
    simp only [exec, execMpptStep, State.onDev, if_neg idle, rationed, if_true, impp, Option.getD_some]
    by_cases fell : (s.dev.source k).meanPower ≤ (s.dev.source k).mppPrev <;> cases (s.dev.source k).mppUp <;> simp [fell]
  case first =>
    simp only [exec, execSolarScanStart, State.onDev, solar, st, calm, first, Option.isNone_none, and_self, if_true]
    rfl
  case scan =>
    have stays : (decide (s.dev.nodeV (.src k) < s.dev.sp k 9) || decide (20 ≤ c.step + 1)) = false := by
      simp only [Bool.or_eq_false_iff, decide_eq_false_iff_not]
      omega
    rw [exec_solarScanStep scans impp later, stays]
    simp only [Bool.false_eq_true, if_false, Bool.false_and, Dev.when_false, pctOf]
    push_cast
    ring_nf
  case last =>
    have stops : (decide (s.dev.nodeV (.src k) < s.dev.sp k 9) || decide (20 ≤ c.step + 1)) = true := by
      simp only [Bool.or_eq_true, decide_eq_true_eq]
      omega
    rw [exec_solarScanStep scans impp later, stops]
    simp only [if_true, Bool.true_and, Dev.newPeriod_classC]
    rfl
  case release => simp only [exec, execStartOutRelease, State.onDev, unwanted, Bool.false_eq_true, if_false]
  case again =>
    have some : (s.dev.sp k 33 * 60000000000 != 0) = true := by
      rw [bne_iff_ne]
      omega
    simp only [exec, execSolarScanStart, State.onDev, solar, st, calm, last, entered, some, due, rationed, Option.isNone_none,
      decide_true, Bool.and_self, Bool.or_true, and_self, if_true]
    rfl
  case lend => simp only [exec, execLendEndCondition, State.onDev, lends, ends, if_true]
  case ended =>
    have old : (d.source k).lend = some l := (congrArg Source.lend (getD_there _ _ _ _ there)).trans lends
    have after : (d.endLend k r).pw.src[k]? = some { x with lend := .none, st := .holdoff } := by
      rw [Dev.endLend_src old, List.getElem?_modify_eq, there]
      simp only [Option.map_eq_map, Option.map_some, st, if_true]
    exact ⟨Dev.endLend_evstat old r, _, after, rfl, rfl, rfl⟩
  case back => simp only [exec, execSupplementReturn, State.onDev, supp, zero, Bool.true_or, decide_true, Bool.and_self, if_true]
  case low => simp only [exec, execBusUndervoltage, State.onDev, used, low, decide_true, Bool.and_self, if_true, busNode]

end Sys2Proof.Machine
end

section
/-! PROOFS. Presence, precharge, steps and pauses of a string (R34, R129, R134, R140-R142). -/

namespace Sys2Proof.Machine

namespace Dev

/-! ### The record of a string -/

theorem modStr_at {d : Dev} {k : Nat} {x : Str} (there : d.pw.str[k]? = some x) (f : Str → Str) :
    (d.modStr k f).pw.str[k]? = some (f x) := by
  rw [modStr_pw, List.getElem?_modify_eq, there]
  rfl

theorem modStr_modStr (d : Dev) (k : Nat) (f g : Str → Str) : (d.modStr k f).modStr k g = d.modStr k (g ∘ f) := by
  rw [modStr, modStr, modStr]
  simp only [onPw, List.modify_modify_eq]

/-- Changes that agree on a string's record change the device alike. -/
theorem modStr_congr {d : Dev} {k : Nat} {f g : Str → Str} (h : f (d.string k) = g (d.string k)) : d.modStr k f = d.modStr k g := by
  rw [modStr, modStr, onPw, onPw, modify_agree d.pw.str k f g fun x there => ?_]
  rw [string, getD_there _ _ _ _ there] at h
  exact h

/-- A string that is not DISABLED has a record. -/
theorem string_there {d : Dev} {k : Nat} (st : (d.string k).st ≠ .disabled) : d.pw.str[k]? = some (d.string k) := by
  cases there : d.pw.str[k]? with
  | none =>
    rw [string, List.getD_eq_getElem?_getD, there] at st
    exact absurd rfl st
  | some x => rw [string, getD_there _ _ _ _ there]

theorem modStr_string {d : Dev} {k : Nat} (st : (d.string k).st ≠ .disabled) (f : Str → Str) : (d.modStr k f).string k = f (d.string k) :=
  getD_there _ _ _ _ (modStr_at (string_there st) f)

/-- A change that leaves the parameters in force leaves what they give. -/
theorem stp_modStr {f : Str → Str} (hf : ∀ x, (f x).cfg = x.cfg) (d : Dev) (j k id : Nat) : (d.modStr j f).stp k id = d.stp k id := by
  have cfg : ((d.modStr j f).string k).cfg = (d.string k).cfg := by
    simp only [string, modStr_pw, List.getD_eq_getElem?_getD, List.getElem?_modify]
    cases d.pw.str[k]? with
    | none => rfl
    | some x =>
      by_cases same : j = k
      · simp [same, hf]
      · simp [same]
  simp only [stp, cfg]
  rfl

/-! ### What leaves the strings -/

/-- The strings and the sources of `d`. -/
def sameStrings (d e : Dev) : Prop := e.pw.str = d.pw.str ∧ e.pw.src = d.pw.src

theorem endImp_sameStrings (d : Dev) (k : Nat) {reason : Nat} (cut : reason ≠ 1) : d.sameStrings (d.endImp k reason) :=
  endImp_induct (P := d.sameStrings) (fun e f h ⟨str, src⟩ => ⟨by rw [h.pw, str], by rw [h.pw, src]⟩) (fun _ _ h => h)
    ⟨rfl, rfl⟩ k cut

/-- A stop leaves the sources, and of the string its program and set-up. -/
theorem stopStr_spec {d : Dev} {k : Nat} : (d.stopStr k).pw.src = d.pw.src ∧ ∀ x, d.pw.str[k]? = some x →
    (d.stopStr k).pw.str[k]? = some { x with
      preMit := .none, noPre := false, preOk := 0, st := .stopped, iCeil := 0, chgMit := .none, cnt := [0, 0, 0, 0], pTemp := false,
      pPack := false, pNoPath := false, pSupp := false, pHost := false } := by
  obtain ⟨str, src⟩ := d.endImp_sameStrings k (reason := 3) (by decide)
  refine ⟨(endPre_kept _ k).2.1.trans src, fun x there => ?_⟩
  rw [stopStr, modStr_pw, List.getElem?_modify_eq, endPre_str, List.getElem?_modify_eq, str, there]
  rfl

/-- A string enters a step: its record is `enter` with new targets, and the event is raised. -/
theorem toStep_spec {d : Dev} {k n : Nat} {x : Str} (there : d.pw.str[k]? = some x) :
    evStringStep ∈ (d.toStep k n).ho.glb.evstat ∧ ∃ y, (d.toStep k n).pw.str[k]? = some y ∧ y.st = x.st ∧ y.step = n ∧
      y.stepNs = 0 ∧ y.preMit = x.preMit := by
  obtain ⟨str, -⟩ := (d.modStr k fun x => x.enter n).endImp_sameStrings k (reason := 3) (by decide)
  have entered : ((d.modStr k fun x => x.enter n).endImp k 3).pw.str[k]? = some (x.enter n) := by rw [str, modStr_at there]
  refine ⟨raise_evstat _ _ _ _, ?_⟩
  rw [toStep, stepEvent, raise_pw, publish]
  exact ⟨_, modStr_at entered _, rfl, rfl, rfl, rfl⟩

/-- A string that is no longer ABSENT is STOPPED. -/
def nowPresent (d : Dev) (k : Nat) : Dev := (d.modStr k fun x => { x with st := .stopped }).offset evStringAbsent k

theorem nowPresent_stp (d : Dev) (k id : Nat) : (d.nowPresent k).stp k id = d.stp k id :=
  stp_modStr (f := fun x => { x with st := .stopped }) (fun _ => rfl) d k k id

end Dev

theorem Str.dropRetry_kept (x : Str) : x.dropRetry.prog = x.prog ∧ x.dropRetry.cfg = x.cfg ∧ x.dropRetry.q = x.q := by
  unfold dropRetry
  split <;> exact ⟨rfl, rfl, rfl⟩

/-- An ABSENT string above its level. -/
theorem exec_stringPresent {k : Fin 16} {s : State} (st : (s.dev.string k).st = .absent)
    (up : s.dev.absentLevel k < s.dev.nodeV (.str k)) : exec (.stringPresent k) s = .next { s with dev := (
      if s.dev.stp k 2 = 1 && (s.dev.inRun || s.dev.sy.power == .sleep) then (s.dev.nowPresent k).runFromStart k
      else s.dev.nowPresent k) } := by
  have level : (decide ((s.dev.string k).st = .absent) && decide (s.dev.absentLevel k < s.dev.nodeV (.str k))) = true := by
    simp [st, up]
  rw [← Dev.nowPresent_stp]
  simp only [exec, execStringPresent, State.onDev, level, if_true]
  rfl

/-- The first exit condition reached of a step in force, which anchors nothing. -/
theorem exec_stepExit {k : Fin 16} {p : Program} {q : Step} {i : Nat} {c : ExitCond} {s : State} (st : (s.dev.string k).st = .running)
    (free : (s.dev.switch (12 + k)).hold = false) (cur : (s.dev.string k).cur = some (p, q)) (power : s.dev.sy.power = .run)
    (first : firstReached q (s.dev.string k).cnt = some (i, c)) (other : ¬ (c.code = 1 ∧ (q.type = 4 ∨ q.type = 5))) :
    exec (.stepExit k) s = .next { s with dev := (let d := if c.next < 16 then s.dev.toStep k c.next else s.dev
      if c.next < 16 then d
      else if c.next = 0xFE then d.stopStr k
      else if q.type = 1 ∧ c.code = 3 then
        (d.fault evStringPrechargeTimeout (some (strNode k)) []).retireString k evStringPrechargeTimeout
      else (d.stopStr k).raise evChargeProgramFault (some (strNode k)) (d2 (s.dev.string k).step ++ d2 i)) } := by
  have reached : s.dev.reached k = some (q, i, c) := by
    have real : s.dev.substitute q = false := by
      rw [Dev.substitute, power]
      rfl
    simp only [Dev.reached, cur, real, first, Bool.false_eq_true, if_false, Option.map_some]
  have taken : s.dev.takeExit k q c = if c.next < 16 then s.dev.toStep k c.next else s.dev := by
    rw [Dev.takeExit, if_neg other]
  simp only [exec, execStepExit, State.onDev, st, free, reached, taken, decide_true, Bool.not_false, Bool.and_self, if_true]

/-- A pause whose PACK and HOST reasons have ended. -/
theorem exec_pauseEnd {k : Fin 16} {s : State} (st : (s.dev.string k).st = .paused) (pack : (s.dev.string k).packBad = false)
    (disc : (s.dev.switch (12 + k)).disc = false) (free : (s.dev.switch (12 + k)).hold = false) :
    exec (.pauseEnd k) s = .next { s with dev := (let d := s.dev.modStr k fun x => { x with pPack := false, pHost := false }
      if (d.string k).unpaused then (d.modStr k fun x => { x with st := .running, cnt := [0, 0, 0, 0] }).publish k else d) } := by
  have ended : s.dev.modStr k (fun x => { x with pPack := x.pPack && x.packBad, pHost := x.pHost && (s.dev.switch (12 + k)).disc }) =
      s.dev.modStr k fun x => { x with pPack := false, pHost := false } :=
    Dev.modStr_congr (by simp only [pack, disc, Bool.and_false])
  simp only [exec, execPauseEnd, State.onDev, st, free, ended, decide_true, Bool.not_false, Bool.and_self, if_true]

/-- Settles O22: `toStep_spec` and `stopStr_spec` say what a step and a stop leave, and the other rows are their equations. -/
theorem stringRows : Obligations.StringRows := by
  refine ⟨⟨fun k s enabled present serves off low quiet => ?absent, fun k s st up manual => ?present, fun k s st low free => ?precharge,
    fun k p s st ready prog old free plain => ?preEnd, fun k s st long => ?timeout, fun k s st up auto runs => ?autostart,
    fun k s held => ⟨?heldEntry, ?heldEnd⟩⟩,
    fun k p q i c s st free cur power first other => ⟨fun next => ?step, fun stop => ?stop, fun fault charges => ?faultExit⟩,
    fun k p q s st now tied armed high => ?tie, fun k s => rfl, fun k s st temp path supp pack disc free => ?resume,
    fun k s st stays pack disc free => ?stays, fun k s held => ?heldPause⟩
  case absent =>
    have run : exec (.stringAbsent k) s = .next { s with dev := s.dev.enterAbsent k } := by
      simp only [exec, execStringAbsent, State.onDev]
      rw [if_pos (by simp [enabled, present, serves, off, low])]
    have still := Dev.endDonor_noLend (d := s.dev) quiet 8 k
    obtain ⟨src, stopped⟩ := Dev.stopStr_spec (d := s.dev.modStr k Str.dropRetry) (k := k)
    refine ⟨_, run, ?_, rfl, fun x there => ?_⟩
    · rw [Dev.enterAbsent, still, Dev.onset_pw]
      exact src
    · have after := stopped _ (Dev.modStr_at there _)
      obtain ⟨prog, cfg, charge⟩ := x.dropRetry_kept
      rw [Dev.enterAbsent, still, Dev.onset_pw]
      exact ⟨_, Dev.modStr_at after _, rfl, rfl, rfl, rfl, prog, cfg, charge⟩
  case present =>
    rw [exec_stringPresent st up, manual]
    rfl
  case precharge =>
    have live : (decide ((s.dev.string k).st = .running) || decide ((s.dev.string k).st = .paused) ||
        decide ((s.dev.string k).st = .stopped) || decide ((s.dev.string k).st = .lent)) = true := by
      rcases st with h | h | h | h <;> simp [h]
    have dead : s.dev.deadBattery k = true := decide_eq_true low
    simp only [exec, execPrechargeEntry, State.onDev, live, free, dead, Bool.not_false, Bool.and_self, if_true]
  case preEnd =>
    have noPre : p.steps.find? (fun (q : Step) => q.type == 1) = none := List.find?_eq_none.mpr fun q hq => by simpa using plain q hq
    have due : (decide ((s.dev.string k).st = .precharge) && decide (1000 ≤ (s.dev.string k).preOk) &&
        !(s.dev.switch (12 + k)).hold) = true := by
      simp [st, ready, free]
    have there := Dev.string_there (d := s.dev) (k := k) (by rw [st]; decide)
    have begun : (s.dev.endPre k).pw.str[k.val]? = some { s.dev.string k with preMit := .none, noPre := false, preOk := 0 } := by
      rw [Dev.endPre_str, List.getElem?_modify_eq, there]
      rfl
    simp only [exec, execPrechargeEnd, State.onDev, due, if_true, old, Bool.false_eq_true, if_false, prog, noPre]
    obtain ⟨event, y, hy, running, step, time, mit⟩ := Dev.toStep_spec (n := p.start) (Dev.modStr_at (Dev.modStr_at begun _) _)
    exact ⟨_, rfl, rfl, event, fun x _ => ⟨y, hy, running, step, time, mit⟩⟩
  case timeout => simp only [exec, execStringPrechargeTimeout, State.onDev, st, long, and_self, if_true, strNode]
  case autostart =>
    have live : (s.dev.inRun || s.dev.sy.power == .sleep) = true := by
      rcases runs with h | h <;> simp [h]
    rw [exec_stringPresent st up, auto, live]
    rfl
  case heldEntry => simp only [exec, execPrechargeEntry, State.onDev, held, Bool.not_true, Bool.and_false, Bool.false_and, Bool.false_eq_true, if_false]
  case heldEnd => simp only [exec, execPrechargeEnd, State.onDev, held, Bool.not_true, Bool.and_false, Bool.false_eq_true, if_false]
  case step =>
    rw [exec_stepExit st free cur power first other, if_pos next, if_pos next]
  case stop =>
    rw [exec_stepExit st free cur power first other, if_neg (by omega : ¬ c.next < 16), if_neg (by omega : ¬ c.next < 16), if_pos stop]
  case faultExit =>
    rw [exec_stepExit st free cur power first other, if_neg (by omega : ¬ c.next < 16), if_neg (by omega : ¬ c.next < 16),
      if_neg (by omega : ¬ c.next = 0xFE), if_neg (fun h => charges h.1)]
    rfl
  case tie =>
    simp only [exec, execStringTieLimit, State.onDev, now, st, tied, armed, high, decide_true, Bool.not_false, Bool.and_self, if_true,
      strNode]
  case resume =>
    have there : (s.dev.string k).st ≠ .disabled := by rw [st]; decide
    have free' : (Str.unpaused { s.dev.string k with pPack := false, pHost := false }) = true := by
      simp [Str.unpaused, temp, path, supp]
    rw [exec_pauseEnd st pack disc free]
    dsimp only
    rw [Dev.modStr_string there, if_pos free', Dev.modStr_modStr]
    rfl
  case stays =>
    have there : (s.dev.string k).st ≠ .disabled := by rw [st]; decide
    have held : (Str.unpaused { s.dev.string k with pPack := false, pHost := false }) = false := by
      rcases stays with h | h | h <;> simp [Str.unpaused, h]
    rw [exec_pauseEnd st pack disc free]
    dsimp only
    rw [Dev.modStr_string there, if_neg (Bool.eq_false_iff.mp held)]
  case heldPause => simp only [exec, execPauseEnd, State.onDev, held, Bool.not_true, Bool.and_false, Bool.false_eq_true, if_false]

end Sys2Proof.Machine
end

section
/-! PROOFS. Pack monitors and string faults (R141, R146-R149, R257). -/

namespace Sys2Proof.Machine

/-! ### The bytes of a record -/

theorem byteAt_take {b : List Byte} {n i : Nat} (inside : i < n) : byteAt (b.take n) i = byteAt b i := by
  rw [byteAt, byteAt, List.getD_eq_getElem?_getD, List.getElem?_take_of_lt inside, List.getD_eq_getElem?_getD]

theorem leAt_take {b : List Byte} {n off len : Nat} (inside : off + len ≤ n) : leAt (b.take n) off len = leAt b off len := by
  rw [leAt, leAt, List.drop_take, List.take_take, Nat.min_eq_left (by omega)]

theorem parsePm_take (b : List Byte) : parsePm (b.take 16) = parsePm b := by
  simp only [parsePm, leAt_take, byteAt_take, Nat.reduceAdd, Nat.reduceLeDiff, Nat.reduceLT]

namespace Dev

/-- The first sixteen bytes alone decide whether a record is accepted. -/
theorem pmAccepts_take (d : Dev) (k : Nat) (b : List Byte) : d.pmAccepts k (b.take 16) = (decide (16 ≤ b.length) &&
    (crc16 (b.take 14)).toNat == leAt b 14 2 && (d.string k).pmSeq != some (byteAt b 13) && (d.string k).st != .disabled) := by
  have whole : (16 ≤ (b.take 16).length) = (16 ≤ b.length) := by
    rw [List.length_take]
    exact propext ⟨fun h => by omega, fun h => by omega⟩
  have seq : (parsePm (b.take 16)).seq = byteAt b 13 := by
    rw [parsePm_take]
    rfl
  simp only [pmAccepts, seq, whole, List.take_take, leAt_take (show 14 + 2 ≤ 16 by decide), Nat.reduceLeDiff, Nat.min_eq_left]

/-! ### A pause -/

theorem pauseNow_serving {d : Dev} {k : Nat} (st : (d.string k).st = .running ∨ (d.string k).st = .paused) (f : Str → Str) :
    d.pauseNow k f = d.modStr k fun x => { f x with st := .paused, cnt := [0, 0, 0, 0], iCeil := 0 } := by
  rw [pauseNow, if_pos st]

theorem pauseNow_other {d : Dev} {k : Nat} (st : ¬ ((d.string k).st = .running ∨ (d.string k).st = .paused)) (f : Str → Str) :
    d.pauseNow k f = d := by
  rw [pauseNow, if_neg st]

theorem pause_free {d : Dev} {k : Nat} {f : Str → Str} (free : (d.switch (12 + k)).hold = false) : d.pause k f = d.pauseNow k f := by
  rw [pause, if_neg (Bool.eq_false_iff.mp free)]

theorem pause_held {d : Dev} {k : Nat} {f : Str → Str} (held : (d.switch (12 + k)).hold = true) : d.pause k f = d := by
  rw [pause, if_pos held]

/-! ### The reaction to a string fault -/

theorem modMit_st {d : Dev} {f : Mitten → Mitten} (hf : ∀ x, (f x).st = x.st) (n m : Nat) :
    ((d.modMit n f).mitten m).st = (d.mitten m).st := by
  rcases getD_modify_or d.pw.mit n m f {} with h | h
  · exact (congrArg Mitten.st h).trans (hf _)
  · exact congrArg Mitten.st h

theorem endImp_mitSt (d : Dev) (k : Nat) {reason : Nat} (cut : reason ≠ 1) (m : Nat) :
    ((d.endImp k reason).mitten m).st = (d.mitten m).st :=
  endImp_induct (P := fun e => (e.mitten m).st = (d.mitten m).st) (fun e f h same => by rw [mitten, h.pw]; exact same)
    (fun e n same => (modMit_st (f := fun m => { m with perturb := 0 }) (fun _ => rfl) n m).trans same) rfl k cut

/-- A stop reaches its mitten and no other. -/
theorem stopMit_st {d : Dev} (quiet : d.noLend) (n m : Nat) : ((d.stopMit n).mitten m).st = .stopped ∨
    n ≠ m ∧ ((d.stopMit n).mitten m).st = (d.mitten m).st := by
  obtain ⟨mit, src, -, -⟩ := d.idleMembers_parts n
  have still : (d.idleMembers n).noLend := noLend_of_src quiet src
  rw [stopMit, endLendOn_noLend]
  · by_cases same : n = m
    · subst same
      refine .inl ?_
      simp only [mitten, modMit_pw, List.getD_eq_getElem?_getD, List.getElem?_modify_eq]
      cases (d.idleMembers n).pw.mit[n]? <;> rfl
    · refine .inr ⟨same, ?_⟩
      simp only [mitten, modMit_pw, List.getD_eq_getElem?_getD, List.getElem?_modify_ne _ _ same, mit]
  · exact still

/-- A running mitten at a terminal is stopped with the others there. -/
theorem stopAt_stopped {d : Dev} (quiet : d.noLend) {p m : Nat} (member : m ∈ d.pw.map.mitsAt p) (run : (d.mitten m).st = .run) :
    ((d.stopAt p).mitten m).st = .stopped := by
  have keeps (e : Dev) (n : Nat) (he : e.noLend) : (e.stopMit n).noLend :=
    noLend_of_src he (stopMit_sameTies he ⟨rfl, rfl, rfl, rfl⟩ n).2.2.1
  unfold stopAt
  generalize d.pw.map.mitsAt p = l at member
  have stays (l : List Nat) (e : Dev) (he : e.noLend) (st : (e.mitten m).st = .stopped) : ((e.each l fun n e =>
      if (e.mitten n).st = .stopped ∨ (e.mitten n).st = .faulted ∨ (e.mitten n).st = .retired then e else e.stopMit n).mitten m).st =
        .stopped := by
    refine (each_induct (P := fun e => e.noLend ∧ (e.mitten m).st = .stopped) (fun n e ⟨he, st⟩ => ?_) l ⟨he, st⟩).2
    split
    · exact ⟨he, st⟩
    · exact ⟨keeps e n he, (stopMit_st he n m).elim id fun h => h.2.trans st⟩
  induction l generalizing d with
  | nil => cases member
  | cons n t ih =>
    rw [each_cons]
    by_cases same : n = m
    · subst same
      rw [if_neg (by rw [run]; decide)]
      exact stays t _ (keeps d n quiet) ((stopMit_st quiet n n).elim id fun h => absurd rfl h.1)
    · have rest : m ∈ t := (List.mem_cons.mp member).resolve_left (Ne.symm same)
      split
      · exact ih quiet run rest
      · rcases stopMit_st quiet n m with st | ⟨-, st⟩
        · exact stays t _ (keeps d n quiet) st
        · exact ih (keeps d n quiet) (st.trans run) rest

/-- The strings, the mittens and the system part of `d`. -/
def sameServed (d e : Dev) : Prop := e.pw.str = d.pw.str ∧ e.pw.mit = d.pw.mit ∧ e.sy = d.sy

theorem openNow_sameServed (d : Dev) (p : Nat) : d.sameServed (d.openNow p) := by
  have set : d.sameServed (d.setSwitch p .off) := by
    unfold setSwitch
    dsimp only
    split <;> exact ⟨rfl, rfl, rfl⟩
  unfold openNow unblock
  split <;> exact set

/-- A string fault in its parts: the event, the mittens that stop, and the end of the charge. -/
def faultStopped (d : Dev) (k ev : Nat) (all : Bool) : Dev :=
  let d := (d.endImp k 8).fault ev (some (strNode k)) []
  if all then d.stopAt (12 + k)
  else d.each ((d.string k).chgMit.toList ++ (d.string k).preMit.toList) fun m e =>
    if (e.mitten m).looping || (e.mitten m).st = .gauntlet then e.stopMit m else e

def faultEnded (d : Dev) (k cause : Nat) : Dev :=
  let d := ((d.modStr k fun y => { y with iCeil := 0, chgMit := .none }).endPre k).endDonor k 8
  if cause = evStringOvercurrent ∨ cause = causeSenseI then d.openNow (12 + k) else d

theorem stringFault_eq (d : Dev) (k ev cause : Nat) (all : Bool) : d.stringFault k ev cause all =
    let e := (d.faultStopped k ev all).faultEnded k cause
    if (((d.endImp k 8).fault ev (some (strNode k)) []).string k).lad.spent e.now then e.retireString k ev
    else e.modStr k fun y => { y with st := .faulted, lad := y.lad.enter e.now cause, cnt := [0, 0, 0, 0] } := rfl

section
variable {d : Dev} (quiet : d.noLend)
include quiet

theorem faultStopped_sameTies (k ev : Nat) (all : Bool) : d.sameTies (d.faultStopped k ev all) := by
  have faulted := sameTies_noted d _ _ (fault_notes (d.endImp k 8) ev (some (strNode k)) [])
    (endImp_induct (sameTies_noted d) (fun _ _ h => h) ⟨rfl, rfl, rfl, rfl⟩ k (by decide))
  unfold faultStopped
  cases all with
  | true => exact stopAt_sameTies quiet faulted (12 + k)
  | false =>
    refine each_induct (P := d.sameTies) (fun m e he => ?_) _ faulted
    split
    · exact stopMit_sameTies quiet he m
    · exact he

theorem faultStopped_stopped {k m : Nat} (ev : Nat) (member : m ∈ d.pw.map.mitsAt (12 + k)) (run : (d.mitten m).st = .run) :
    ((d.faultStopped k ev true).mitten m).st = .stopped := by
  have faulted := sameTies_noted d _ _ (fault_notes (d.endImp k 8) ev (some (strNode k)) [])
    (endImp_induct (sameTies_noted d) (fun _ _ h => h) ⟨rfl, rfl, rfl, rfl⟩ k (by decide))
  have map : ((d.endImp k 8).fault ev (some (strNode k)) []).pw.map = d.pw.map := by
    rw [fault_pw]
    exact endImp_induct (P := fun e => e.pw.map = d.pw.map) (fun e f h same => by rw [h.pw, same]) (fun _ _ h => h) rfl k (by decide)
  have runs : (((d.endImp k 8).fault ev (some (strNode k)) []).mitten m).st = .run := by
    rw [mitten, fault_pw]
    exact (endImp_mitSt d k (by decide) m).trans run
  refine stopAt_stopped (noLend_of_src quiet faulted.2.2.1) ?_ runs
  rw [map]
  exact member

/-- The end of the charge: the string's record without it, the mittens and the time as they were. -/
theorem faultEnded_spec {k : Nat} (cause : Nat) : (d.faultEnded k cause).pw.mit = d.pw.mit ∧ (d.faultEnded k cause).now = d.now ∧
    ∀ x, d.pw.str[k]? = some x → (d.faultEnded k cause).pw.str[k]? =
      some { x with iCeil := 0, chgMit := .none, preMit := .none, noPre := false, preOk := 0 } := by
  let e := (d.modStr k fun y => { y with iCeil := 0, chgMit := .none }).endPre k
  obtain ⟨-, src, sy⟩ := endPre_kept (d.modStr k fun y => { y with iCeil := 0, chgMit := .none }) k
  have ended : e.endDonor k 8 = e := endDonor_noLend (noLend_of_src quiet src) 8 k
  have served : e.sameServed (d.faultEnded k cause) := by
    rw [faultEnded, ended]
    split
    · exact openNow_sameServed e (12 + k)
    · exact ⟨rfl, rfl, rfl⟩
  obtain ⟨str, mit, sy'⟩ := served
  have mit' : e.pw.mit = d.pw.mit := by
    change ((d.modStr k _).endPre k).pw.mit = _
    unfold endPre
    exact when_induct (P := fun e => e.pw.mit = d.pw.mit) rfl id
  refine ⟨mit.trans mit', by rw [now, sy', sy]; rfl, fun x there => ?_⟩
  rw [str, endPre_str, List.getElem?_modify_eq, modStr_at there]
  rfl

end

/-- A string fault on a string in service is its reaction. -/
theorem strFaultRow_serving {d : Dev} {k : Nat} (ev cause : Nat) (all : Bool) (enabled : (d.string k).st ≠ .disabled)
    (present : (d.string k).st ≠ .absent) (serves : (d.string k).st ≠ .retired) (sound : (d.string k).st ≠ .faulted) :
    d.strFaultRow k ev cause all = d.stringFault k ev cause all := by
  simp only [strFaultRow, enabled, present, serves, sound, or_self, if_false]

/-- Against a FAULTED string it is the event alone. -/
theorem strFaultRow_faulted {d : Dev} {k : Nat} (ev cause : Nat) (all : Bool) (st : (d.string k).st = .faulted) :
    d.strFaultRow k ev cause all = d.fault ev (some (strNode k)) [] := by
  simp [strFaultRow, st]

end Dev

section
variable {k : Fin 16} {s : State}

theorem exec_packMonitorLost (port : s.dev.stp k 12 ≠ 0) (enabled : (s.dev.string k).st ≠ .disabled) :
    exec (.packMonitorLost k) s = .next { s with dev := (((s.dev.modStr k fun x => { x with pmLost := true }).pause k fun x =>
      { x with pPack := true }).onset evPackMonitorLost k (some (32 + k.val)) []) } := by
  have on : (decide (s.dev.stp k 12 = 0) || decide ((s.dev.string k).st = .disabled)) = false := by simp [port, enabled]
  simp only [exec, execPackMonitorLost, State.onDev, on, Bool.false_eq_true, if_false]
  rfl

theorem exec_stringSenseFault {current : Bool} (bad : 16 ≤ (s.dev.ms.tap.getD (32 + 3 * k.val + b2n current) {}).bad ∨
      16 ≤ (s.dev.ms.tap.getD (32 + 3 * k.val + b2n current) {}).stale) :
    exec (.stringSenseFault k current) s = .next { s with dev := (
      if current then (s.dev.modTap (32 + 3 * k.val + b2n current) Tap.taken).strFaultRow k evStringSenseFault causeSenseI true
      else (s.dev.modTap (32 + 3 * k.val + b2n current) Tap.taken).strFaultRow k evStringSenseFault evStringSenseFault false) } := by
  have out : (s.dev.ms.tap.getD (32 + 3 * k.val + b2n current) {}).senseBad = true := by
    simpa [Tap.senseBad] using bad
  simp only [exec, execStringSenseFault, State.onDev, out, Bool.not_true, Bool.false_eq_true, if_false]

/-- The temperature of a string in service is out of range for the first time. -/
theorem exec_stringTempFault (enabled : (s.dev.string k).st ≠ .disabled) (serves : (s.dev.string k).st ≠ .retired)
    (sound : (s.dev.string k).tFault = false) (range : s.dev.strT k < -5000 ∨ 15000 < s.dev.strT k)
    (fresh : (s.dev.string k).lad.spent s.dev.now = false)
    (now : ((s.dev.endImp k 8).fault evStringTempFault (some (strNode k)) []).now = s.dev.now) :
    exec (.stringTempFault k) s = .next { s with dev := (
      let d := ((s.dev.endImp k 8).fault evStringTempFault (some (strNode k)) []).modStr k fun x =>
        { x with tFault := true, lad := if x.st = .faulted then x.lad else x.lad.enter s.dev.now evStringTempFault }
      if (s.dev.string k).pm.isNone then d.pauseNow k fun x => { x with pTemp := true } else d) } := by
  have out : (decide ((s.dev.string k).st = .disabled) || decide ((s.dev.string k).st = .retired) ||
      !(decide (s.dev.strT k < -5000) || decide (15000 < s.dev.strT k))) = false := by
    rcases range with h | h <;> simp [enabled, serves, h]
  simp only [exec, execStringTempFault, State.onDev, out, sound, now, fresh, Bool.false_eq_true, if_false]

end

/-- Settles O23: a string fault is `faultStopped` and `faultEnded`, which say what stops and what the string keeps. -/
theorem stringMonitors : Obligations.StringMonitors := by
  refine ⟨⟨fun k b s port whole enabled crc new => ?record, fun k b s bad => ?refused, fun k s port st free => ?lost,
    fun k s port enabled other => ?noted, fun k s none => ?unmonitored, fun k r s pm limit tie closed high => ?discharge,
    fun k s calm => ?calm, fun d k alone => ?alone⟩,
    fun k s enabled present serves sound => ⟨fun high => ?overV, fun high => ?overI, fun hot => ?overT, fun bad => ?senseV,
      fun bad => ?senseI⟩,
    fun k s st => ⟨fun high => ?again, fun high => ?againI, fun hot => ?againT⟩, fun k ev cause all x d there fresh quiet => ?faulted,
    fun k s enabled serves sound range fresh => ?temp, fun k s enabled off idle leak => ?switch⟩
  case record =>
    have accepted : s.dev.pmAccepts k (b.take 16) = true := by
      rw [Dev.pmAccepts_take]
      simp [whole, crc, new, enabled]
    simp only [exec, execPackMonitorRecord, State.onDev, if_neg port, Dev.pmRecord, accepted, if_true, parsePm_take]
    rfl
  case refused =>
    by_cases port : s.dev.stp k 12 = 0
    · simp only [exec, execPackMonitorRecord, State.onDev, if_pos port]
    · have refused : s.dev.pmAccepts k (b.take 16) = false := by
        rw [Dev.pmAccepts_take]
        rcases bad with h | h | h | h | h
        · exact absurd h port
        · simp [h]
        · simp [Nat.not_le.mpr h]
        · simp [h]
        · simp [h]
      simp only [exec, execPackMonitorRecord, State.onDev, if_neg port, Dev.pmRecord, refused, Bool.false_eq_true, if_false]
  case lost =>
    have live : (s.dev.string k).st ≠ .disabled := by rcases st with h | h <;> rw [h] <;> decide
    rw [exec_packMonitorLost port live, Dev.pause_free, Dev.pauseNow_serving, Dev.modStr_modStr]
    · rfl
    · rw [Dev.modStr_string live]
      exact st
    · exact free
  case noted =>
    rw [exec_packMonitorLost port enabled]
    by_cases held : (s.dev.switch (12 + k)).hold = true
    · rw [Dev.pause_held]
      exact held
    · have idle : ¬ ((s.dev.string k).st = .running ∨ (s.dev.string k).st = .paused) := fun h => by
        rcases other with ⟨noRun, noPause⟩ | h'
        · exact h.elim noRun noPause
        · exact held h'
      rw [Dev.pause_free, Dev.pauseNow_other]
      · rw [Dev.modStr_string enabled]
        exact idle
      · exact Bool.eq_false_iff.mpr held
  case unmonitored =>
    have off : (decide (s.dev.stp k 12 = 0) || decide ((s.dev.string k).st = .disabled)) = true := by
      rcases none with h | h <;> simp [h]
    simp only [exec, execPackMonitorLost, State.onDev, off, if_true]
  case discharge =>
    simp only [exec, execStringDischargeLimit, State.onDev, pm]
    rw [if_pos ⟨limit, tie, closed, high⟩]
    rfl
  case calm =>
    cases pm : (s.dev.string k).pm with
    | none => simp only [exec, execStringDischargeLimit, State.onDev, pm]
    | some r =>
      simp only [exec, execStringDischargeLimit, State.onDev, pm]
      rw [if_neg]
      rintro ⟨limit, tie, closed, high⟩
      rcases calm with h | h | h
      · exact h tie
      · exact closed h
      · rcases h r pm with h | h
        · exact limit h
        · omega
  case alone => rw [Dev.tieOut, alone, List.foldl_nil]
  case overV =>
    simp only [exec, execStringOvervoltage, State.onDev, high, if_true, Dev.strFaultRow_serving _ _ _ enabled present serves sound]
  case overI =>
    simp only [exec, execStringOvercurrent, State.onDev, high, if_true, Dev.strFaultRow_serving _ _ _ enabled present serves sound]
  case overT =>
    simp only [exec, execStringOvertemp, State.onDev, hot, if_true, Dev.strFaultRow_serving _ _ _ enabled present serves sound]
  case senseV =>
    rw [exec_stringSenseFault (current := false) bad, if_neg Bool.false_ne_true, Dev.strFaultRow_serving]
    · rfl
    all_goals assumption
  case senseI =>
    have tap : 32 + 3 * k.val + 1 = 33 + 3 * k.val := by omega
    have place : 32 + 3 * k.val + b2n true = 33 + 3 * k.val := tap
    rw [exec_stringSenseFault (current := true) (by rw [place]; exact bad), if_pos rfl, place, Dev.strFaultRow_serving]
    · rfl
    all_goals assumption
  case again =>
    simp only [exec, execStringOvervoltage, State.onDev, high, if_true, Dev.strFaultRow_faulted _ _ _ st]
    rfl
  case againI =>
    simp only [exec, execStringOvercurrent, State.onDev, high, if_true, Dev.strFaultRow_faulted _ _ _ st]
    rfl
  case againT =>
    simp only [exec, execStringOvertemp, State.onDev, hot, if_true, Dev.strFaultRow_faulted _ _ _ st]
    rfl
  case faulted =>
    have same := Dev.faultStopped_sameTies quiet k ev all
    obtain ⟨str, -, src, time⟩ := same
    obtain ⟨mit, now, record⟩ := Dev.faultEnded_spec (Dev.noLend_of_src quiet src) (k := k) cause
    have held := record x (by rw [str, there])
    have old : (((d.endImp k 8).fault ev (some (strNode k)) []).string k).lad = x.lad := by
      rw [Dev.string, Dev.fault_pw, (d.endImp_sameStrings k (reason := 8) (by decide)).1, getD_there _ _ _ _ there]
    have now' : ((d.faultStopped k ev all).faultEnded k cause).now = d.now := now.trans (by rw [Dev.now, time]; rfl)
    have eq : d.stringFault k ev cause all = ((d.faultStopped k ev all).faultEnded k cause).modStr k fun y =>
        { y with st := .faulted, lad := y.lad.enter d.now cause, cnt := [0, 0, 0, 0] } := by
      rw [Dev.stringFault_eq]
      dsimp only
      rw [old, now', fresh, if_neg Bool.false_ne_true]
    rw [eq]
    refine ⟨⟨_, Dev.modStr_at held _, rfl, rfl, rfl, rfl, rfl, rfl, rfl, rfl, rfl, rfl⟩, fun whole m member run => ?_⟩
    subst whole
    rw [Dev.mitten, Dev.modStr_pw]
    exact (congrArg (fun l : List Mitten => (l.getD m {}).st) mit).trans (Dev.faultStopped_stopped quiet ev member run)
  case temp =>
    let e := (s.dev.endImp k 8).fault evStringTempFault (some (strNode k)) []
    have raised : evStringTempFault ∈ e.ho.glb.evstat := Dev.fault_evstat _ _ _ _
    have str : e.pw.str = s.dev.pw.str :=
      (congrArg Power.str (Dev.fault_pw _ _ _ _)).trans (s.dev.endImp_sameStrings k (reason := 8) (by decide)).1
    have now : e.now = s.dev.now := by
      rw [Dev.now, (Dev.fault_notes _ _ _ _).time]
      exact Dev.endImp_induct (P := fun e => e.now = s.dev.now) (fun e f h same => by rw [Dev.now, h.time]; exact same)
        (fun _ _ h => h) rfl k (by decide)
    refine ⟨_, exec_stringTempFault enabled serves sound range fresh now, ?_, fun x there => ?_⟩
    · have kept (f g : Str → Str) : evStringTempFault ∈ ((e.modStr k f).pauseNow k g).ho.glb.evstat := by
        unfold Dev.pauseNow
        dsimp only
        split <;> exact raised
      dsimp only
      split
      · exact kept _ _
      · exact raised
    · have hot : (e.modStr k fun x => { x with
          tFault := true, lad := if x.st = .faulted then x.lad else x.lad.enter s.dev.now evStringTempFault }).pw.str[k.val]? =
          some { x with tFault := true, lad := if x.st = .faulted then x.lad else x.lad.enter s.dev.now evStringTempFault } :=
        Dev.modStr_at (by rw [str, there]) _
      have old : s.dev.string k = x := getD_there _ _ _ _ there
      have now' := getD_there _ _ _ ({} : Str) hot
      dsimp only
      rw [old]
      cases pm : x.pm with
      | some r => exact ⟨_, hot, rfl, rfl, (if_neg fun h => by cases h.1).symm⟩
      | none =>
        rw [Option.isNone_none, if_pos rfl]
        by_cases st : x.st = .running ∨ x.st = .paused
        · rw [Dev.pauseNow_serving (by rw [Dev.string, now']; exact st)]
          refine ⟨_, Dev.modStr_at hot _, rfl, rfl, ?_⟩
          rcases st with h | h <;> simp [h]
        · rw [Dev.pauseNow_other (by rw [Dev.string, now']; exact st)]
          exact ⟨_, hot, rfl, rfl, (if_neg fun h => st (.inl h.2)).symm⟩
  case switch =>
    have calm : ((s.dev.pw.map.mitsAt (12 + k)).all fun m => (s.dev.mitten m).quiet) = true := List.all_eq_true.mpr idle
    simp only [exec, execStringSwitchFault, State.onDev]
    rw [if_pos ⟨enabled, off, calm, leak⟩]
    rfl

end Sys2Proof.Machine
end

section
/-! PROOFS. Retries after a backoff (R61, R149, R238). -/

namespace Sys2Proof.Machine

/-- The retry record of a supervisor that a fault once retired and that waits out a backoff. -/
def goneLadder : Ladder := { backoff := some 10, gone := some 0 }

/-- A device whose first supervisor has that record. -/
def goneSupervisor : State := { dev := ({} : Dev).onSy fun y => { y with supLad := [goneLadder] }, nv := {} }

/-- The time of the retirement kept in the first supervisor's record. -/
def goneOf : Host.Outcome State Fault Refusal → Option Nat
  | .next t => (t.dev.sy.supLad.getD 0 {}).gone
  | _ => none

/-- The retry that starts keeps the time of the retirement. -/
theorem goneOf_backoffExpiry : goneOf (exec (.backoffExpiry (.supervisor 0) false) goneSupervisor) = some 0 := rfl

/-- Refutes O10: `Ladder.start` keeps the field `gone`, the time at which a fault retired the unit; the statement writes the
retry record out without it, so it differs from the model where a unit in its backoff holds such a time. The supervisor's
clause fails at a record with `gone = some 0`. -/
theorem not_backoffRetries : ¬ Obligations.BackoffRetries := by
  rintro ⟨-, -, -, -, -, supervisor, -⟩
  have kept := supervisor 0 false goneLadder 10 goneSupervisor rfl rfl
  have dropped : goneOf (exec (.backoffExpiry (.supervisor 0) false) goneSupervisor) = none := (congrArg goneOf kept).trans rfl
  exact Option.some_ne_none 0 (goneOf_backoffExpiry.symm.trans dropped)

end Sys2Proof.Machine
end

section
/-! PROOFS. The rows of the ticks and frames (R210, R211, R218, R233, R251, R401). -/

namespace Sys2Proof.Machine

namespace Dev

/-- What no part of a boundary's first work touches: the power state, the takeover, the pieces that wait and the time. -/
structure sameSpan (d e : Dev) : Prop where
  power    : e.sy.power = d.sy.power
  takeover : e.sy.takeover = d.sy.takeover
  pieceQ   : e.sy.pieceQ = d.sy.pieceQ
  time     : e.sy.time = d.sy.time

theorem sameSpan_refl (d : Dev) : d.sameSpan d := ⟨rfl, rfl, rfl, rfl⟩

section
variable {d e : Dev} (h : d.sameSpan e)
include h

theorem onSy_sameSpan {f : Sys → Sys} (hf : (e.onSy f).sy.power = e.sy.power ∧ (e.onSy f).sy.takeover = e.sy.takeover ∧
    (e.onSy f).sy.pieceQ = e.sy.pieceQ ∧ (e.onSy f).sy.time = e.sy.time) : d.sameSpan (e.onSy f) := by
  obtain ⟨power, takeover, pieceQ, time⟩ := hf
  exact ⟨power.trans h.power, takeover.trans h.takeover, pieceQ.trans h.pieceQ, time.trans h.time⟩

/-- A change outside the system part. -/
theorem sameSpan_of_sy {e' : Dev} (hs : e'.sy = e.sy) : d.sameSpan e' := by
  obtain ⟨power, takeover, pieceQ, time⟩ := h
  exact ⟨by rw [hs, power], by rw [hs, takeover], by rw [hs, pieceQ], by rw [hs, time]⟩

theorem setLevel_sameSpan (l : Nat) (v : Level) : d.sameSpan (e.onSy fun s => s.setLevel l v) := by
  refine onSy_sameSpan h ?_
  simp only [onSy_sy, Sys.setLevel]
  split
  · exact ⟨rfl, rfl, rfl, rfl⟩
  · split <;> exact ⟨rfl, rfl, rfl, rfl⟩

theorem startGrid_sameSpan : d.sameSpan e.startGrid := by
  unfold startGrid
  split
  · exact h
  · exact onSy_sameSpan h ⟨rfl, rfl, rfl, rfl⟩

theorem lagged_sameSpan (l : Nat) : d.sameSpan (e.lagged l) := by
  have noted : d.sameSpan (e.onSy fun s => { s with pDirty := s.pDirty || (e.sy.level l).lag != 0 || e.chainLag l != 0 }) :=
    onSy_sameSpan h ⟨rfl, rfl, rfl, rfl⟩
  unfold lagged
  dsimp only
  split
  · have levelled := setLevel_sameSpan noted l { e.sy.level l with episode := true }
    exact sameSpan_of_sy (onSy_sameSpan (f := fun s => { s with overruns := satInc 255 e.sy.overruns }) levelled ⟨rfl, rfl, rfl, rfl⟩)
      (raise_sy _ _ _ _)
  · exact noted

theorem boundary_sameSpan (l : Nat) : d.sameSpan (e.boundary l) := by
  have moved : d.sameSpan (e.advanced l) := sameSpan_of_sy (setLevel_sameSpan h l (e.bounded l)) rfl
  have parts : e.boundary l = (if l = 0 then (e.advanced l).startGrid else e.advanced l).lagged l := rfl
  rw [parts]
  refine lagged_sameSpan ?_ l
  split
  · exact startGrid_sameSpan moved
  · exact moved

theorem opened_sameSpan (l : Nat) : d.sameSpan ((e.boundary l).showBoundary l) := sameSpan_of_sy (boundary_sameSpan h l) rfl

theorem refFrame_sameSpan : d.sameSpan e.refFrame := by
  have units (k : Nat) (c : Dev) {f : MUnit → MUnit} (hc : d.sameSpan c) : d.sameSpan (c.modMu k f) := sameSpan_of_sy hc rfl
  unfold refFrame
  dsimp only
  split
  · exact h
  · exact when_induct (each_induct (fun k c hc => units k c hc) _ (sameSpan_of_sy h rfl)) fun hc => sameSpan_of_sy hc rfl

theorem writeCheckpoint_sameSpan : d.sameSpan e.writeCheckpoint := ⟨h.power, h.takeover, h.pieceQ, h.time⟩

theorem policyUnits_sameSpan (now : Nat) (l : List Nat) : d.sameSpan (e.each l fun k c => c.modMu k fun u => u.policy now) :=
  each_induct (P := fun c => d.sameSpan c) (f := fun k c => c.modMu k fun u => u.policy now) (fun _ _ hc => sameSpan_of_sy hc rfl) l h

theorem motionFrame_sameSpan : d.sameSpan e.motionFrame := by
  unfold motionFrame
  dsimp only
  split <;> exact onSy_sameSpan h ⟨rfl, rfl, rfl, rfl⟩

end

/-- A late policy frame has no piece to serve where none waits. -/
theorem latePieces_none {d : Dev} (free : d.sy.pieceQ = []) (n : Nv) : d.latePieces n = (d, n) := by
  unfold latePieces
  split
  · rfl
  · rw [free]
    refine Prod.ext ?_ rfl
    exact congrArg (fun q => d.onSy fun y => { y with pieceQ := q }) free.symm

end Dev

/-- A checkpoint that ends no hold and no activation closes: the completions of its commands are due (R401). -/
def Dev.closed (d : Dev) : Dev :=
  ((d.onSy fun y => { y with ckOpen := false, ck := y.ck.modify (d.sy.ckNow % 2) fun b => { b with closeSeq := d.sy.ckNow } }).onHo fun h =>
    { h with tags := h.tags.map fun t => if t.st = .awaiting ∧ t.ckAt ≠ 0 ∧ t.ckAt ≤ d.sy.ckNow then { t with st := .due } else t }).modHb
    fun h => match h.wait with
      | some k => if k ≠ 0 ∧ k ≤ d.sy.ckNow then h.complete else h
      | none => h

theorem Dev.closed_of_noWait {d : Dev} (wait : d.ln.hb.wait = none) : d.closed = (d.onSy fun y => { y with
    ckOpen := false, ck := y.ck.modify (d.sy.ckNow % 2) fun b => { b with closeSeq := d.sy.ckNow } }).onHo fun h =>
    { h with tags := h.tags.map fun t => if t.st = .awaiting ∧ t.ckAt ≠ 0 ∧ t.ckAt ≤ d.sy.ckNow then { t with st := .due } else t } := by
  simp only [closed, modHb, onLn, onHo, onSy, wait]

theorem exec_checkpointComplete {s : State} (opened : s.dev.sy.ckOpen = true) (sup : s.dev.sy.noSup = false)
    (hold : s.dev.sy.holdOn = false) (act : s.dev.sy.actDue = none) : exec .checkpointComplete s = .next { s with dev :=
      (s.dev.closed.when s.dev.closed.sy.sleepNext fun e => e.enterSleep) } := by
  have closes : s.dev.closeCheckpoint = s.dev.closed := by
    have quiet : (s.dev.closed.sy.noSup || s.dev.closed.sy.holdOn) = false := by
      rw [show s.dev.closed.sy.noSup = false from sup, show s.dev.closed.sy.holdOn = false from hold]
      rfl
    have still : s.dev.closed.activated = s.dev.closed := by
      rw [Dev.activated, show s.dev.closed.sy.actDue = none from act]
    calc s.dev.closeCheckpoint
        = (s.dev.closed.when (s.dev.closed.sy.noSup || s.dev.closed.sy.holdOn) fun e => e.endHold).activated := by
          rw [Dev.closeCheckpoint, opened]
          rfl
      _ = s.dev.closed := by rw [quiet, Dev.when_false, still]
  simp only [exec, execCheckpointComplete, State.onDev, opened, Bool.not_true, Bool.false_eq_true, if_false, closes]

/-- Settles O13: each boundary and each row of a frame is its equation. -/
theorem frameBoundaries : Obligations.FrameBoundaries := by
  refine ⟨⟨fun n aux er s ticking may => ?tick, fun all s power takeover ckOpen may => ?linerCharge,
    fun all s run takeover ckOpen may => ?charge, fun l late s power takeover free last may => ?linerPolicy⟩,
    fun l s lag => ?lag, fun s power clear => ?leave, fun b m s enable classC lag role idle due fits => ?cap,
    fun s opened sup hold act next wait => ?close, fun s opened sup hold act next => ?sleep⟩
  case tick =>
    refine ⟨_, rfl, ?_⟩
    simp only [exec, execControlTick, State.onDev, ticking, may, Bool.and_self, Bool.not_true, Bool.false_eq_true, if_false]
  case linerCharge =>
    have ticking : s.dev.sy.ticking = true := by simp [Sys.ticking, power]
    have idle : s.dev.supWorks = false := by simp [Dev.supWorks, Dev.inRun, power]
    have span := Dev.refFrame_sameSpan (Dev.opened_sameSpan s.dev.sameSpan_refl 1)
    have still : ((((s.dev.boundary 1).showBoundary 1).refFrame).inRun ||
        (((s.dev.boundary 1).showBoundary 1).refFrame).sy.power == .sleep) = false := by simp [Dev.inRun, span.power, power]
    simp only [exec, execChargeFrameBoundary, State.onDev, ticking, takeover, ckOpen, may, idle, Dev.when_false, still, Bool.and_self,
      Bool.not_true, Bool.not_false, Bool.false_eq_true, if_false, if_true]
  case charge =>
    have works : s.dev.supWorks = true := by simp [Dev.supWorks, run, takeover]
    have ticking : s.dev.sy.ticking = true := by
      have : s.dev.sy.power = .run ∨ s.dev.sy.power = .limp := by simpa [Dev.inRun] using run
      rcases this with h | h <;> simp [Sys.ticking, h]
    have span := Dev.refFrame_sameSpan (Dev.opened_sameSpan (Dev.writeCheckpoint_sameSpan s.dev.sameSpan_refl) 1)
    have still : ((((s.dev.writeCheckpoint.boundary 1).showBoundary 1).refFrame).inRun ||
        (((s.dev.writeCheckpoint.boundary 1).showBoundary 1).refFrame).sy.power == .sleep) = true := by
      rw [Dev.inRun, span.power]
      exact (Bool.or_eq_true _ _).mpr (.inl run)
    simp only [exec, execChargeFrameBoundary, State.onDev, ticking, takeover, ckOpen, may, works, Dev.when_true, still, Bool.and_self,
      Bool.not_true, Bool.not_false, Bool.false_eq_true, if_false]
    simp only [Dev.when]
  case linerPolicy =>
    have ticking : s.dev.sy.ticking = true := by simp [Sys.ticking, power]
    have cleaned : s.dev.sameSpan ((s.dev.boundary 2).showBoundary 2).cleanFrames :=
      Dev.onSy_sameSpan (Dev.opened_sameSpan s.dev.sameSpan_refl 2) ⟨rfl, rfl, rfl, rfl⟩
    have now : (((s.dev.boundary 2).showBoundary 2).cleanFrames).now = s.dev.now := congrArg TimeS.now cleaned.time
    have span := Dev.motionFrame_sameSpan (Dev.policyUnits_sameSpan cleaned s.dev.now (List.range 16))
    simp only [exec, execPolicyFrameBoundary, State.onBoth, ticking, takeover, last, may, Bool.and_self, Bool.not_true, Bool.not_false,
      Bool.false_eq_true, if_false, beq_self_eq_true, Dev.policyFrame, now]
    generalize ((((s.dev.boundary 2).showBoundary 2).cleanFrames.each (List.range 16) fun k e => e.modMu k fun u =>
      u.policy s.dev.now).motionFrame) = e at span ⊢
    have idle : e.inRun = false := by simp [Dev.inRun, span.power, power]
    have awake : (e.sy.power == .sleep) = false := by simp [span.power, power]
    simp only [idle, awake, Bool.or_self, Bool.false_eq_true, if_false, Dev.latePieces_none (span.pieceQ.trans free)]
  case lag => simp only [exec, execFrameLagLimp, State.onDev, if_pos lag]
  case leave => simp only [exec, execLimpLeft, State.onDev, Dev.leaveLimp, power, clear, and_self, if_true]
  case cap =>
    have late : s.dev.policyOnTime = true := by simp [Dev.policyOnTime, Dev.chainLag, lag, role]
    cases at' : (s.dev.busOf b).capAt with
    | none =>
      simp only [exec, execCapacitanceMeasurement, State.onDev, fits, enable, classC, late, idle, at', Option.isNone_none, Bool.and_self,
        if_true]
    | some t =>
      simp only [exec, execCapacitanceMeasurement, State.onDev, fits, enable, classC, late, idle, at', decide_eq_true (due t at'),
        Option.isNone_none, Bool.and_self, if_true]
  case close =>
    have awake : s.dev.closed.sy.sleepNext = false := next
    rw [exec_checkpointComplete opened sup hold act, awake, Dev.when_false, Dev.closed_of_noWait wait]
    rfl
  case sleep =>
    have asleep : s.dev.closed.sy.sleepNext = true := next
    rw [exec_checkpointComplete opened sup hold act, asleep, Dev.when_true]
    exact ⟨_, rfl, rfl, rfl⟩

end Sys2Proof.Machine
end

section
/-! PROOFS. Entries into and wakes from the power states (R361, R385, R386, R455). -/

namespace Sys2Proof.Machine

namespace Dev

/-- What the power domains leave alone: the system part but its domains, and the configuration of the power path. -/
structure poweredFrom (d e : Dev) : Prop where
  sy      : ∃ w, e.sy = { d.sy with domains := w }
  map     : e.pw.map = d.pw.map
  profile : e.pw.profile = d.pw.profile

theorem poweredFrom_refl (d : Dev) : d.poweredFrom d := ⟨⟨_, rfl⟩, rfl, rfl⟩

section
variable {d e : Dev} (h : d.poweredFrom e)
include h

theorem poweredFrom_of_same {e' : Dev} (sy : e'.sy = e.sy) (map : e'.pw.map = e.pw.map) (profile : e'.pw.profile = e.pw.profile) :
    d.poweredFrom e' := by
  obtain ⟨⟨w, hw⟩, hm, hp⟩ := h
  exact ⟨⟨w, sy.trans hw⟩, map.trans hm, profile.trans hp⟩

theorem domains_poweredFrom (f : BitVec 24 → BitVec 24) : d.poweredFrom (e.onSy fun s => { s with domains := f s.domains }) := by
  obtain ⟨⟨w, hw⟩, hm, hp⟩ := h
  exact ⟨⟨f e.sy.domains, by rw [onSy_sy, hw]⟩, hm, hp⟩

theorem modPh_poweredFrom (p : Nat) (f : Phase → Phase) : d.poweredFrom (e.modPh p f) := poweredFrom_of_same h rfl rfl rfl

theorem raise_poweredFrom (ev : Nat) (inst : Option Nat) (data : List Byte) : d.poweredFrom (e.raise ev inst data) :=
  poweredFrom_of_same h (raise_sy _ _ _ _) (by rw [raise_pw]) (by rw [raise_pw])

theorem applySetup_poweredFrom (p : Nat) (cycle : Bool) : d.poweredFrom (e.applySetup p cycle) := by
  unfold applySetup rethreshold
  dsimp only
  exact when_induct (modPh_poweredFrom (modPh_poweredFrom h _ _) _ _) fun he => raise_poweredFrom he _ _ _

theorem powerQuad_poweredFrom (q : Nat) : d.poweredFrom (e.powerQuad q) := by
  unfold powerQuad
  dsimp only
  split
  · exact h
  · refine each_induct (fun p c hc => ?_) _ (domains_poweredFrom (e := e.onPw fun p => { p with
      quadOn := p.quadOn.set q (e.quadWanted q), quadBad := p.quadBad.set q false }) (poweredFrom_of_same h rfl rfl rfl) fun w =>
        if e.quadWanted q then w ||| (1#24 <<< (1 + q)) else w &&& ~~~(1#24 <<< (1 + q)))
    split
    · split
      · exact hc
      · exact applySetup_poweredFrom (modPh_poweredFrom hc _ _) _ _
    · exact modPh_poweredFrom hc _ _

theorem powerQuads_poweredFrom : d.poweredFrom e.powerQuads :=
  each_induct (P := fun c => d.poweredFrom c) (f := fun q c => c.powerQuad q) (fun q _ hc => powerQuad_poweredFrom hc q) _ h

theorem modMu_poweredFrom (k : Nat) (f : MUnit → MUnit) : d.poweredFrom (e.modMu k f) := poweredFrom_of_same h rfl rfl rfl

theorem powerUnits_poweredFrom : d.poweredFrom e.powerUnits := by
  unfold powerUnits
  refine each_induct (fun g c hc => ?_) _ h
  refine each_induct (fun k b hb => ?_) _ (domains_poweredFrom hc fun w =>
    if c.measWanted g then w ||| (1#24 <<< (17 + g)) else w &&& ~~~(1#24 <<< (17 + g)))
  dsimp only
  split
  · exact modMu_poweredFrom hb _ _
  · split
    · exact modMu_poweredFrom hb _ _
    · exact hb

end

/-- The power state taken, before the domains follow it. -/
def inPower (d : Dev) (p : PowerSt) : Dev :=
  d.onSy fun s => { s with power := p, pwrEn := p != .ship && p != .off, domains := (s.domains &&& 0x07FFFE#24) ||| fixedDomains p }

theorem setPower_poweredFrom (d : Dev) (p : PowerSt) : (d.inPower p).poweredFrom (d.setPower p) :=
  powerUnits_poweredFrom (powerQuads_poweredFrom (poweredFrom_refl _))

/-- A device that neither sleeps nor is about to needs no wake. -/
theorem wakeSleep_noSleep {d : Dev} (awake : d.sy.power ≠ .sleep) (order : d.sy.order ≠ some .sleep) (next : d.sy.sleepNext = false)
    (cause : Nat) : d.wakeSleep cause = d := by
  simp [wakeSleep, awake, order, next]

/-- DEEP and SHIP are entered with the time latched, no wake cause and the timers at rest. -/
theorem enterDeep_sy (d : Dev) (p : PowerSt) (aon : Nat) : let t := (d.enterDeep p aon).sy
    t.power = p ∧ t.order = none ∧ t.time.ae = aon ∧ t.wakeCause = 0 ∧ t.pwrEn = (p != .ship && p != .off) ∧
      t.tmr = List.replicate 16 {} := by
  unfold enterDeep
  dsimp only
  rw [modHif_sy]
  obtain ⟨⟨w, sy⟩, -, -⟩ := setPower_poweredFrom ((d.sleepSources.quiesce.leaveChain.each (List.range 28) fun i e =>
    e.setSwitch i (if p = .deep then (e.pw.map.portE i).diodeOrOff else .off)).saveCounts.onSy fun s => { s with
      order := none, wakeCause := 0, wakeSrc := 0, tmr := List.replicate 16 {},
      time := { s.time with te := s.time.now, ae := aon, rcSpan := s.time.aonRc } }) p
  rw [sy]
  exact ⟨rfl, rfl, rfl, rfl, rfl, rfl⟩

end Dev

/-- Settles O12: an entry by the frame of the power domains, a wake by its equation. -/
theorem powerEntryAndWake : Obligations.PowerEntryAndWake := by
  refine ⟨fun n s run order due => ?sleep, fun n s run order due => ?deep, fun n s early => ?early,
    fun s power idle order next => ?wake, fun s power order role => ?wakeSleep, fun k uv fell s power idle type wakeEn trips edge => ?source⟩
  case sleep => simp only [exec, execPowerStateEntry, State.onDev, run, order, due, decide_true, Bool.and_self, if_true]
  case deep =>
    rcases order with ordered | ordered
    · have entry : exec (.powerStateEntry n) s = .next { s with dev := s.dev.enterDeep .deep n } := by
        simp only [exec, execPowerStateEntry, State.onDev, run, due, ordered, decide_true, Bool.and_self, if_true]
      obtain ⟨power, none', ae, cause, pwrEn, tmr⟩ := s.dev.enterDeep_sy .deep n
      rw [entry, ordered]
      generalize s.dev.enterDeep .deep n = e at *
      exact ⟨_, rfl, congrArg some power, none', ae, cause, pwrEn, tmr, rfl⟩
    · have entry : exec (.powerStateEntry n) s = .next { s with dev := s.dev.enterDeep .ship n } := by
        simp only [exec, execPowerStateEntry, State.onDev, run, due, ordered, decide_true, Bool.and_self, if_true]
      obtain ⟨power, none', ae, cause, pwrEn, tmr⟩ := s.dev.enterDeep_sy .ship n
      rw [entry, ordered]
      generalize s.dev.enterDeep .ship n = e at *
      exact ⟨_, rfl, congrArg some power, none', ae, cause, pwrEn, tmr, rfl⟩
  case early =>
    have late : ¬ s.dev.sy.orderAt ≤ s.dev.sy.tick.count := by omega
    simp only [exec, execPowerStateEntry, State.onDev, late, decide_false, Bool.and_false, Bool.false_eq_true, if_false]
  case wake =>
    have awake : s.dev.sy.power ≠ .sleep := by rcases power with h | h <;> simp [h]
    simp only [exec, execWakeNLow, State.onDev, Dev.wakeSleep_noSleep awake (by simp [order]) next, Dev.wakeDeep,
      if_pos power, if_pos idle]
  case wakeSleep =>
    have down : (s.dev.ln.chn.role == 1) = false := by simpa using role
    simp [exec, execWakeNLow, State.onDev, Dev.wakeSleep, Dev.wakeDeep, power, down, order]
  case source =>
    have may : (s.dev.sy.power = .deep ∨ s.dev.sy.power = .ship) ∧ (s.dev.srcE k).type ≠ 0 ∧ s.dev.sp k 38 = 1 ∧ s.dev.trips k uv ∧
        (!(s.dev.source k).wakeAbove || fell) = true := ⟨power, type, wakeEn, trips, by rcases edge with h | h <;> simp [h]⟩
    simp only [exec, execSourceWakeComparator, State.onDev, if_pos may, Dev.wakeDeep, if_pos power, if_pos idle]

end Sys2Proof.Machine
end

section
/-! PROOFS. The entry into RECOVERY (R430) and the rings. -/

namespace Sys2Proof.Machine

/-- LINER with a source under test while quad 0 has no power: phase 0 holds an overcurrent level beyond full scale, and ring 0
takes PH_THRESHOLD_CLAMPED. -/
def quadlessTest : State := { dev := {
  pw := { ph := [{ held := { ocp := 1 } }] },
  ho := { rings := [(0, { st := .active, subs := [evPhThresholdClamped] })] },
  sy := { liner := { st := .test } } } }

/-- How many events wait at each ring. -/
def waitingEvents : Host.Outcome State Fault Refusal → List Nat
  | .next t => t.dev.ho.rings.map fun r => r.2.evWait.length
  | _ => []

/-- The entry powers quad 0, phase 0 applies its settings, and the clamped threshold's event waits at ring 0. -/
theorem waitingEvents_recovery : waitingEvents (exec .recoveryWakeNHold quadlessTest) = [1] := by decide +kernel

/-- Refutes O6: the entry into RECOVERY follows the power domains, and a quad that it powers applies its phases' settings, which
may raise PH_THRESHOLD_CLAMPED; the event then waits at a ring that takes it, so the rings are not those before. The last clause
fails at a state of LINER whose quad 0 is off while its source is under test. -/
theorem not_starts : ¬ Obligations.Starts := by
  rintro ⟨-, -, -, -, -, recovery⟩
  obtain ⟨t, entry, -, -, rings⟩ := recovery quadlessTest rfl rfl
  have kept : waitingEvents (exec .recoveryWakeNHold quadlessTest) = [0] := by
    rw [entry, waitingEvents, rings]
    rfl
  exact absurd (waitingEvents_recovery.symm.trans kept) (by decide)

end Sys2Proof.Machine
end

section
/-! PROOFS. What the ends of activities, the notices and the power domains keep of the system part. -/

namespace Sys2Proof.Machine

/-- The system part without the power domains, the power-state order and the records of declarations and revocations. -/
def Sys.core (s : Sys) : Sys :=
  { s with domains := 0, order := none, sleepNext := false, testFinds := 0, stall := [], mbx := [], lck := [], lckBroken := 0,
           revokes := 0 }

namespace Dev

def core (d : Dev) : Sys := d.sy.core

theorem core_of_sy {d e : Dev} (h : e.sy = d.sy) : e.core = d.core := congrArg Sys.core h

/-- Two devices of one core have one power state, supervisor and liner. -/
theorem core_power {d e : Dev} (h : e.core = d.core) : e.sy.power = d.sy.power ∧ e.sy.limpCause = d.sy.limpCause ∧
    e.sy.startKind = d.sy.startKind ∧ e.sy.liner = d.sy.liner :=
  have part {α : Type} (f : Sys → α) : f e.core = f d.core := congrArg f h
  ⟨part Sys.power, part Sys.limpCause, part Sys.startKind, part Sys.liner⟩

theorem each_sy {f : Nat → Dev → Dev} (hf : ∀ n e, (f n e).sy = e.sy) (l : List Nat) (d : Dev) : (d.each l f).sy = d.sy :=
  each_induct (P := fun e => e.sy = d.sy) (fun n e he => (hf n e).trans he) l rfl

theorem each_core {f : Nat → Dev → Dev} (hf : ∀ n e, (f n e).core = e.core) (l : List Nat) (d : Dev) : (d.each l f).core = d.core :=
  each_induct (P := fun e => e.core = d.core) (fun n e he => (hf n e).trans he) l rfl

theorem when_core {f : Dev → Dev} {d : Dev} (hf : (f d).core = d.core) (c : Bool) : (d.when c f).core = d.core :=
  when_induct (P := fun e => e.core = d.core) rfl fun _ => hf

/-! ### Activities that end -/

@[simp] theorem returnDonor_sy (d : Dev) (k : Nat) : (d.returnDonor k).sy = d.sy := by
  unfold returnDonor
  dsimp only
  split
  · rfl
  · split
    · exact raise_sy _ _ _ _
    · split <;> rfl

@[simp] theorem idleMembers_sy (d : Dev) (m : Nat) : (d.idleMembers m).sy = d.sy := by
  refine each_sy (fun p e => ?_) _ d
  dsimp only
  split <;> rfl

theorem endLend_sy (d : Dev) (k reason : Nat) : (d.endLend k reason).sy = d.sy := by
  unfold endLend
  split
  · rfl
  · dsimp only
    rw [raise_sy]
    split <;> split <;> split <;> simp

theorem endImp_sy (d : Dev) (k : Nat) {reason : Nat} (cut : reason ≠ 1) : (d.endImp k reason).sy = d.sy := by
  unfold endImp
  split
  · rfl
  · dsimp only
    rw [if_neg cut, raise_sy]
    split <;> rfl

theorem endDonor_sy (d : Dev) (k reason : Nat) : (d.endDonor k reason).sy = d.sy := by
  refine each_sy (fun s e => ?_) _ d
  split
  · split
    · exact endLend_sy e s reason
    · rfl
  · rfl

theorem powerUnits_core (d : Dev) : d.powerUnits.core = d.core := by
  obtain ⟨⟨w, sy⟩, -, -⟩ := powerUnits_poweredFrom (poweredFrom_refl d)
  rw [core, sy]
  rfl

theorem powerQuads_core (d : Dev) : d.powerQuads.core = d.core := by
  obtain ⟨⟨w, sy⟩, -, -⟩ := powerQuads_poweredFrom (poweredFrom_refl d)
  rw [core, sy]
  rfl

theorem endCapture_core (d : Dev) (j reason : Nat) : (d.endCapture j reason).core = d.core := by
  unfold endCapture
  split
  · rfl
  · exact (powerUnits_core _).trans (core_of_sy (raise_sy _ _ _ _))

theorem endActivities_core (d : Dev) : d.endActivities.core = d.core :=
  (each_core (f := fun k e => e.endImp k 5) (fun k e => core_of_sy (endImp_sy e k (by decide))) _ _).trans
    ((each_core (f := fun k e => e.endLend k 9) (fun k e => core_of_sy (endLend_sy e k 9)) _ _).trans
      (each_core (f := fun j e => e.endCapture j 2) (fun j e => endCapture_core e j 2) _ _))

/-! ### Notices and declarations -/

theorem raise_core (d : Dev) (ev : Nat) (inst : Option Nat) (data : List Byte) : (d.raise ev inst data).core = d.core :=
  core_of_sy (raise_sy _ _ _ _)

theorem revoked_core (d : Dev) (a step res : Nat) : (d.revoked a step res).core = d.core := raise_core _ _ _ _

theorem breakLock_core (d : Dev) (n a : Nat) : (d.breakLock n a).core = d.core := raise_core _ _ _ _

theorem revokeBoxes_core (d : Dev) (a : Nat) : (d.revokeBoxes a).core = d.core := by
  refine each_core (fun n e => (revoked_core _ _ _ _).trans ?_) _ d
  split <;> rfl

/-- The declaration of an agent takes its leads, sequences, boxes and locks (R244), and nothing else of the system part. -/
theorem declare_core (d : Dev) (a : Nat) : (d.declare a).core = d.core := by
  unfold declare declareAll
  dsimp only
  refine (each_core (fun n e => ?locks) _ _).trans ((each_core (fun n e => ?boxes) _ _).trans ((each_core (fun n e => ?seqs) _ _).trans
    ((each_core (fun n e => ?leads) _ _).trans (each_core (fun n e => ?declared) _ d))))
  case locks => exact each_core (fun k c => (revoked_core _ _ _ _).trans (breakLock_core _ _ _)) _ e
  case boxes => exact revokeBoxes_core e n
  case seqs =>
    refine each_core (fun k c => ?_) _ e
    rw [revoked_core]
    rfl
  case leads =>
    refine each_core (fun k c => ?_) _ e
    rw [revoked_core]
    rfl
  case declared =>
    rw [raise_core]
    rfl

theorem abandon_core (d : Dev) : d.abandon.core = d.core := raise_core _ _ _ _

theorem wakeSleep_core {d : Dev} (awake : d.sy.power ≠ .sleep) (cause : Nat) : (d.wakeSleep cause).core = d.core := by
  unfold wakeSleep
  rw [if_neg awake]
  split
  · exact abandon_core d
  · rfl

theorem fault_core {d : Dev} (awake : d.sy.power ≠ .sleep) (ev : Nat) (inst : Option Nat) (data : List Byte) :
    (d.fault ev inst data).core = d.core := by
  have noted : ((d.raise ev inst data).addLog 1 d.now ev (inst.getD 0xFFFF) data).sy = d.sy := raise_sy _ _ _ _
  exact (wakeSleep_core (by rwa [noted]) 6).trans (core_of_sy noted)

end Dev

end Sys2Proof.Machine
end

section
/-! PROOFS. Failover, memory errors and the end of a hold (R246, R248, R402, R403, R405). -/

namespace Sys2Proof.Machine

namespace Dev

/-- The supervisors of two devices agree: who is active, whether one takes over or stands by, and the stalls counted. -/
structure sameSup (d e : Dev) : Prop where
  activeSup : e.sy.activeSup = d.sy.activeSup
  takeover  : e.sy.takeover = d.sy.takeover
  noSup     : e.sy.noSup = d.sy.noSup
  standbyOk : e.sy.standbyOk = d.sy.standbyOk
  stalls    : e.sy.stalls = d.sy.stalls

theorem sameSup_refl (d : Dev) : d.sameSup d := ⟨rfl, rfl, rfl, rfl, rfl⟩

theorem sameSup_trans {a b c : Dev} (h : a.sameSup b) (k : b.sameSup c) : a.sameSup c :=
  ⟨k.activeSup.trans h.activeSup, k.takeover.trans h.takeover, k.noSup.trans h.noSup, k.standbyOk.trans h.standbyOk,
    k.stalls.trans h.stalls⟩

theorem sameSup_of_core {d e : Dev} (h : e.core = d.core) : d.sameSup e := by
  have part {α : Type} (f : Sys → α) : f e.core = f d.core := congrArg f h
  exact ⟨part Sys.activeSup, part Sys.takeover, part Sys.noSup, part Sys.standbyOk, part Sys.stalls⟩

theorem wakeSleep_sameSup (d : Dev) (cause : Nat) : d.sameSup (d.wakeSleep cause) := by
  by_cases asleep : d.sy.power = .sleep
  · unfold wakeSleep
    rw [if_pos asleep]
    dsimp only
    split <;> exact ⟨rfl, rfl, rfl, rfl, rfl⟩
  · exact sameSup_of_core (wakeSleep_core asleep cause)

theorem respread_sy (d : Dev) (m : Nat) : (d.respread m).sy = d.sy := by
  unfold respread
  split
  · split <;> rfl
  · rfl

theorem shedChain_sy (d : Dev) (m : Nat) (n : Option Nat) : (d.shedChain m n).sy = d.sy := by
  unfold shedChain
  split <;> rfl

theorem recall_sy (d : Dev) (m : Nat) : (d.recall m).sy = d.sy := by
  unfold Dev.recall
  dsimp only
  split
  · exact shedChain_sy d m none
  · rw [respread_sy]
    exact (each_sy (fun p e => modPh_sy e p _) _ _).trans (shedChain_sy d m none)

theorem limpLevers_sy (d : Dev) (m : Nat) : (d.limpLevers m).sy = d.sy := by
  unfold limpLevers
  rw [modMit_sy]
  split
  · exact recall_sy d m
  · rfl

theorem beginLimp_sameSup (d : Dev) : d.sameSup d.beginLimp := by
  unfold beginLimp
  split
  · have entered : d.sameSup ((d.onSy fun s => { s with power := .limp, limpCount := satInc 255 s.limpCount }).raise evLimpEntered .none []) :=
      sameSup_trans (b := d.onSy fun s => { s with power := .limp, limpCount := satInc 255 s.limpCount }) ⟨rfl, rfl, rfl, rfl, rfl⟩
        (sameSup_of_core (raise_core _ _ _ _))
    refine sameSup_trans (sameSup_trans entered (sameSup_of_core (endActivities_core _))) (sameSup_of_core (core_of_sy ?_))
    refine each_sy (fun m e => ?_) _ _
    split
    · exact limpLevers_sy e m
    · rfl
  · exact sameSup_refl d

theorem enterLimp_sameSup (d : Dev) (cause : Nat) : d.sameSup (d.enterLimp cause) :=
  sameSup_trans (sameSup_trans (wakeSleep_sameSup d 6) (c := (d.wakeSleep 6).onSy fun s => { s with
    limpCause := s.limpCause ||| (1#4 <<< cause), cleanP := if cause = 0 then 0 else s.cleanP }) ⟨rfl, rfl, rfl, rfl, rfl⟩)
    (beginLimp_sameSup _)

/-- A supervisor whose ladder is spent is retired. -/
def supRetire (d : Dev) (a : Nat) : Dev :=
  d.onSy fun s => { s with supRetired := s.supRetired.set (a - 1) true,
                           supLad := s.supLad.set (a - 1) ((d.sy.supLad.getD (a - 1) {}).retire d.now) }

theorem supFault_sameSup (d : Dev) (a ev : Nat) : d.sameSup (d.supFault a ev) := by
  unfold supFault
  dsimp only
  split
  · exact sameSup_refl d
  · split
    · split
      · exact ⟨rfl, rfl, rfl, rfl, rfl⟩
      · exact sameSup_trans (b := d.supRetire a) ⟨rfl, rfl, rfl, rfl, rfl⟩ (enterLimp_sameSup _ 2)
    · exact ⟨rfl, rfl, rfl, rfl, rfl⟩

/-- The change of the active supervisor, before the failed one is declared. -/
def handedOver (d : Dev) : Dev :=
  let d := d.onSy fun s => { s with activeSup := s.standby, standbyOk := false, noSup := true, takeover := true, holdOn := true }
  let d := d.onMs fun m => { m with accL := m.accL.filter (·.reader != d.sy.activeSup), mmxL := m.mmxL.filter (·.reader != d.sy.activeSup) }
  d.onSy Sys.takeoverBoxes

/-- A takeover's start (R402): the standby is active, none stands by, and no supervisor works until it has taken over. -/
theorem takeOver_sup (d : Dev) (ev : Nat) : (d.takeOver ev).sy.activeSup = d.sy.standby ∧ (d.takeOver ev).sy.takeover = true ∧
    (d.takeOver ev).sy.noSup = true ∧ (d.takeOver ev).sy.standbyOk = false ∧ (d.takeOver ev).sy.stalls = d.sy.stalls := by
  obtain ⟨activeSup, takeover, noSup, standbyOk, stalls⟩ := sameSup_trans (sameSup_of_core (declare_core d.handedOver d.sy.activeSup))
    (supFault_sameSup (d.handedOver.declare d.sy.activeSup) d.sy.activeSup ev)
  exact ⟨activeSup, takeover, noSup, standbyOk, stalls⟩

/-- The fault of the active supervisor is a takeover. -/
theorem agentFault_active {d : Dev} {a ev : Nat} (sup : 1 ≤ a ∧ a ≤ 4) (active : a = d.sy.activeSup) :
    d.agentFault a ev = d.takeOver ev := by
  unfold agentFault
  rw [if_neg (by omega), if_neg (by omega), if_neg (by omega), if_pos sup, if_pos active]

end Dev

/-- Settles O9: a takeover by what its start keeps, the other rows by their equations. -/
theorem failoverAndMemory : Obligations.FailoverAndMemory := by
  refine ⟨⟨fun i s active ready idle => ?stall, fun us i s taking image ck => ?complete, fun s run idle inService alive ck => ?standby⟩,
    fun a s => rfl, fun a k i s => rfl, fun a i s low high other => ?agent, fun s hold out took => ?hold⟩
  case stall =>
    have seen : (s.dev.stallSeen (some 1)).sy = { s.dev.sy with stalls := satInc 65535 s.dev.sy.stalls } := Dev.raise_sy _ _ _ _
    have hands : exec (.engineStall 1 i) s = .next { s with dev := (s.dev.stallSeen (some 1)).takeOver evEngineStall } := by
      have served : ¬ (1 = (s.dev.stallSeen (some 1)).sy.activeSup ∧
          ((s.dev.stallSeen (some 1)).sy.takeover = true ∨ (!(s.dev.stallSeen (some 1)).sy.standbyOk) = true)) := by
        simp [seen, idle, ready]
      have itself : (1 : Nat) = (s.dev.stallSeen (some 1)).sy.activeSup := by rw [seen]; exact active.symm
      have agent : (1 : Fin 128).val = 1 := rfl
      simp only [exec, execEngineStall, State.onBoth, agent]
      rw [if_neg (by omega), Dev.stalled, if_neg served,
        Dev.agentFault_active (by omega) itself]
    obtain ⟨sup, takeover, noSup, standbyOk, stalls⟩ := (s.dev.stallSeen (some 1)).takeOver_sup evEngineStall
    rw [hands]
    refine ⟨_, rfl, sup.trans ?_, takeover, noSup, standbyOk, stalls.trans ?_, rfl⟩
    · rw [seen, Sys.standby, if_pos active]
    · rw [seen]
      exact satInc_eq_min _ _
  case complete =>
    have due : ¬ ((!s.dev.sy.takeover) = true ∨ (!s.dev.sy.imageOk) = true) := by simp [taking, image]
    have held : s.dev.sy.newestCk.isNone = false := Option.isNone_eq_false_iff.2 (Option.isSome_iff_ne_none.2 ck)
    simp only [exec, execTakeoverComplete, State.onBoth, if_neg due, held, Bool.false_eq_true, if_false]
  case standby =>
    have held : s.dev.sy.newestCk.isSome = true := by rwa [Option.isSome_iff_ne_none]
    have fit : s.dev.sy.supRetired.getD (s.dev.sy.standby - 1) false = false := by
      rw [inService, Sys.standby]
      split <;> rfl
    simp only [exec, execStandbyOk, State.onDev, run, idle, held, fit, alive, List.contains_nil, Bool.not_false, Bool.and_self, if_true]
  case agent =>
    have known : ¬ (a.val = 0 ∨ a.val = 98 ∨ 99 < a.val) := by omega
    simp only [exec, execEccUncorrectable, State.onBoth, if_neg known, Dev.stalled, other, false_and, if_false]
  case hold =>
    have due : ¬ ((!s.dev.sy.holdOn) = true ∨ s.dev.sy.holdOut = true ∨ s.dev.sy.tookAt = some s.dev.now) := by simp [hold, out, took]
    simp only [exec, execHoldExpired, State.onDev, if_neg due]

end Sys2Proof.Machine
end

section
/-! PROOFS. The liner and the hand-over (R392-R394, R397). -/

namespace Sys2Proof.Machine

namespace Dev

/-! ### The hand-over -/

/-- RUN after a cold start with no cause of LIMP. -/
structure calm (d : Dev) : Prop where
  power     : d.sy.power = .run
  limpCause : d.sy.limpCause = 0
  startKind : d.sy.startKind = .cold

/-- The same with the findings of the liner reported. -/
structure reported (d : Dev) : Prop extends calm d where
  findings : d.sy.liner.findings = []

theorem calm.awake {d : Dev} (h : d.calm) : d.sy.power ≠ .sleep := by simp [h.power]

theorem calm_of_core {d e : Dev} (h : d.calm) (hc : e.core = d.core) : e.calm := by
  obtain ⟨power, cause, kind, -⟩ := core_power hc
  exact ⟨power.trans h.power, cause.trans h.limpCause, kind.trans h.startKind⟩

theorem reported_of_core {d e : Dev} (h : d.reported) (hc : e.core = d.core) : e.reported := by
  obtain ⟨-, -, -, liner⟩ := core_power hc
  exact ⟨calm_of_core h.tocalm hc, (congrArg LinerS.findings liner).trans h.findings⟩

theorem leave_sy (d : Dev) (p : Nat) (st : PhaseSt) (atOnce : Bool) : (d.leave p st atOnce).sy = d.sy := by
  unfold leave
  dsimp only
  split
  · rfl
  · split
    · rw [respread_sy]
      simp only [apply_ite Dev.sy, modPh_sy, ite_self]
    · rfl

theorem retirePhase_core {d : Dev} (awake : d.sy.power ≠ .sleep) (p fault : Nat) : (d.retirePhase p fault).core = d.core := by
  have left : ((d.leave p .retired true).modPh p fun x => { x with lad := x.lad.retire d.now }).sy = d.sy :=
    leave_sy d p _ _
  exact (declare_core _ _).trans ((fault_core (by rwa [left]) _ _ _).trans (core_of_sy left))

/-- A finding of the liner's test is a fault and retires its phase. -/
theorem finding_core {d : Dev} (awake : d.sy.power ≠ .sleep) (p step : Nat) : (d.finding p step).core = d.core := by
  unfold finding
  have counted : (d.when (d.selfTested p) fun e => e.onSy fun y => { y with testFinds := y.testFinds + 1 }).core = d.core :=
    when_core rfl _
  generalize (d.when (d.selfTested p) fun e => e.onSy fun y => { y with testFinds := y.testFinds + 1 }) = e at counted ⊢
  have up : e.sy.power ≠ .sleep := by rwa [(core_power counted).1]
  have told := fault_core up evGauntletFinding (some p) (d2 p ++ d2 step)
  exact (retirePhase_core (by rwa [(core_power told).1]) p _).trans (told.trans counted)

theorem setPower_calm {d : Dev} (cause : d.sy.limpCause = 0) (kind : d.sy.startKind = .cold) : (d.setPower .run).calm := by
  have ready : (d.inPower .run).calm := ⟨rfl, cause, kind⟩
  obtain ⟨⟨w, sy⟩, -, -⟩ := setPower_poweredFrom d .run
  exact calm_of_core ready (by rw [core, sy]; rfl)

theorem linerReports_reported {d : Dev} (h : d.calm) : d.linerReports.reported := by
  have found : ∀ (l : List (Nat × Nat)) (e : Dev), e.calm → (l.foldl (fun c p => c.finding p.1 p.2) e).calm := by
    intro l
    induction l with
    | nil => exact fun e he => he
    | cons p t ih => exact fun e he => ih _ (calm_of_core he (finding_core he.awake p.1 p.2))
  have told : (d.when (d.sy.liner.st == .failed) fun e => e.raise evLinerFailed none []).calm :=
    calm_of_core h (when_core (raise_core _ _ _ _) _)
  obtain ⟨power, cause, kind⟩ := found _ _ told
  exact ⟨⟨power, cause, kind⟩, rfl⟩

theorem linerLow_sy (d : Dev) : d.linerLow.sy = d.sy := by
  refine each_sy (fun p e => ?_) _ d
  split <;> rfl

theorem applySetup_sy (d : Dev) (p : Nat) (cycle : Bool) : (d.applySetup p cycle).sy = d.sy := by
  unfold applySetup rethreshold
  dsimp only
  exact when_induct (P := fun e => e.sy = d.sy) rfl fun h => (raise_sy _ _ _ _).trans h

theorem linerFree_reported {d : Dev} (h : d.reported) : d.linerFree.reported := by
  have off : (d.onSy fun s => { s with liner := { s.liner with st := .off } }).reported := ⟨⟨h.power, h.limpCause, h.startKind⟩, h.findings⟩
  unfold linerFree
  generalize (d.onSy fun s => { s with liner := { s.liner with st := .off } }) = e at off ⊢
  have low := reported_of_core off (core_of_sy (linerLow_sy e))
  have set := reported_of_core low (core_of_sy (each_sy (fun p e => applySetup_sy e p false) (List.range 4) e.linerLow))
  exact reported_of_core (reported_of_core set (powerQuads_core _)) (powerUnits_core _)

theorem selectLiner_sy (d : Dev) : d.selectLiner.sy = d.sy := by
  unfold selectLiner
  dsimp only
  split <;> rfl

theorem takeLiner_reported {d : Dev} (h : d.reported) : d.takeLiner.reported := by
  unfold takeLiner
  dsimp only
  refine reported_of_core (linerFree_reported (reported_of_core h (core_of_sy ?_))) (core_of_sy (respread_sy _ _))
  rw [modMit_sy]
  exact (each_sy (fun p e => modPh_sy e p _) _ _).trans (selectLiner_sy _)

theorem publish_sy (d : Dev) (k : Nat) : (d.publish k).sy = d.sy := rfl

theorem enterPre_sy (d : Dev) (k : Nat) : (d.enterPre k).sy = d.sy := by
  unfold enterPre
  dsimp only
  rw [publish_sy]
  split
  · exact onset_sy _ _ _ _ _
  · rfl

theorem runFromStart_sy (d : Dev) (k : Nat) : (d.runFromStart k).sy = d.sy := by
  unfold runFromStart
  split
  · rfl
  · dsimp only
    split
    · exact enterPre_sy _ k
    · exact raise_sy _ _ _ _

theorem endPre_sy (d : Dev) (k : Nat) : (d.endPre k).sy = d.sy := by
  unfold endPre
  exact when_induct (P := fun e => e.sy = d.sy) rfl fun h => h

theorem stopStr_sy (d : Dev) (k : Nat) : (d.stopStr k).sy = d.sy := (endPre_sy _ k).trans (endImp_sy d k (by decide))

theorem enterAbsent_sy (d : Dev) (k : Nat) : (d.enterAbsent k).sy = d.sy := by
  unfold enterAbsent
  rw [onset_sy, modStr_sy, stopStr_sy, modStr_sy, endDonor_sy]

theorem autostart_sy (d : Dev) : d.autostart.sy = d.sy := by
  refine each_sy (fun k e => ?_) _ d
  split
  · rfl
  · split
    · exact enterAbsent_sy e k
    · split
      · exact runFromStart_sy e k
      · rfl

theorem joinRule_sy (d : Dev) (m : Nat) : (d.joinRule m).sy = d.sy := by
  unfold joinRule
  dsimp only
  split
  · rw [modMit_sy]
    exact each_sy (fun p e => modPh_sy e p _) _ _
  · rfl

theorem beginLimp_calm {d : Dev} (h : d.calm) : d.beginLimp = d := by
  unfold beginLimp
  rw [if_neg]
  rintro ⟨-, cause⟩
  rw [h.limpCause] at cause
  exact cause rfl

/-- What HAND_OVER makes of a device that reported its liner's findings: the liner's work is taken over or freed. -/
def linerTaken (d : Dev) (st : LinerSt) : Dev :=
  let mch := d.sy.linerMatches d.pw.map
  if st = .running then (if mch then d.takeLiner else d.selectLiner) else if mch ∨ st = .failed then d.linerFree else d

theorem linerTaken_reported {d : Dev} (h : d.reported) (st : LinerSt) : (d.linerTaken st).reported := by
  unfold linerTaken
  dsimp only
  split
  · split
    · exact takeLiner_reported h
    · exact reported_of_core h (core_of_sy (selectLiner_sy d))
  · split
    · exact linerFree_reported h
    · exact h

end Dev

/-- The device after a hand-over. -/
def Dev.handed (d : Dev) : Dev :=
  let e := (((d.setPower .run).linerReports.linerTaken d.sy.liner.st).powerQuads.autostart.joinRule 0).beginLimp
  if e.sy.startKind = .wake ∧ e.sy.wakeCause = 3 ∧ e.sy.power = .run then e.enterSleep else e

/-- A hand-over that is due (R394). -/
theorem exec_handOver {s : State} (due : ¬ (s.dev.sy.power ≠ .liner ∨ (!s.dev.sy.imageOk) = true ∨ (!s.dev.ms.ref.settled) = true ∨
    s.dev.sy.liner.st = .heldHigh ∨ s.dev.sy.liner.st = .collapsed)) : exec .handOver s = .next { s with dev := s.dev.handed } := by
  simp only [exec, execHandOver, State.onDev, if_neg due]
  rw [Dev.handed]
  rw [Dev.linerTaken]

theorem Dev.setSwitch_sy (d : Dev) (p : Nat) (m : SwMode) : (d.setSwitch p m).sy = d.sy := by
  unfold setSwitch
  dsimp only
  split
  · rfl
  · exact modSw_sy _ _ _

theorem Dev.linerFinding_setSwitch (d : Dev) (p : Nat) (m : SwMode) : (d.setSwitch p m).linerFinding = d.linerFinding := by
  funext o q
  rw [linerFinding, setSwitch_sy, linerFinding]

theorem Dev.linerBus_setSwitch (d : Dev) (p : Nat) (m : SwMode) (uv : Int) : (d.setSwitch p m).linerBus uv = d.linerBus uv := by
  rw [linerBus, linerMv, setSwitch_sy, linerBus, linerMv]

/-- The outcome of the liner's source test. -/
def Dev.linerTested (d : Dev) (o : LinerObs) : Dev :=
  let ok := (List.range 4).filter fun p => d.linerFinding o p == none
  (d.setSwitch d.sy.linerSrc .on).modLiner fun l => { l with
    passed := BitVec.ofNat 4 (ok.foldl (fun a p => a + 2 ^ p) 0), fltLow := 0, st := if ok = [] then .failed else .running,
    findings := (List.range 4).filterMap fun p => (d.linerFinding o p).map fun n => (p, n), v0 := d.linerBus o.busUv, softNs := 0 }

theorem Dev.linerTested_st (d : Dev) (o : LinerObs) : (d.linerTested o).sy.liner.st =
    if (List.range 4).filter (fun p => d.linerFinding o p == none) = [] then .failed else .running := rfl

theorem Dev.linerTested_findings (d : Dev) (o : LinerObs) : (d.linerTested o).sy.liner.findings =
    (List.range 4).filterMap fun p => (d.linerFinding o p).map fun n => (p, n) := rfl

/-- The source's switch and the power domains leave the liner's record. -/
theorem Dev.linerTested_down (d : Dev) (o : LinerObs) :
    ((d.linerTested o).setSwitch (d.linerTested o).sy.linerSrc .off).powerDomains.sy.liner = (d.linerTested o).sy.liner := by
  obtain ⟨-, -, -, kept⟩ := core_power ((powerUnits_core _).trans (powerQuads_core
    ((d.linerTested o).setSwitch (d.linerTested o).sy.linerSrc .off)))
  rw [powerDomains, kept, setSwitch_sy]

theorem exec_linerSourceTestPass {o : LinerObs} {s : State}
    (due : ¬ (s.dev.sy.liner.st ≠ .test ∨ 100 * s.dev.linerSource o.srcUv < 105 * s.dev.sy.linerTarget)) :
    exec (.linerSourceTestPass o) s = .next { s with dev :=
      (if (List.range 4).filter (fun p => s.dev.linerFinding o p == none) = [] then
        ((s.dev.linerTested o).setSwitch (s.dev.linerTested o).sy.linerSrc .off).powerDomains else s.dev.linerTested o) } := by
  simp only [exec, execLinerSourceTestPass, State.onDev, if_neg due, Dev.linerFinding_setSwitch, Dev.linerBus_setSwitch, Dev.linerTested]

/-- The bits of the phases that pass the liner's test. -/
theorem passed_bits (g : Nat → Option Nat) (p : Nat) (hp : p < 4) :
    (BitVec.ofNat 4 (((List.range 4).filter fun p => g p == none).foldl (fun a p => a + 2 ^ p) 0)).getLsbD p = (g p).isNone := by
  have sum (b : Nat → Bool) : ((List.range 4).filter b).foldl (fun a p => a + 2 ^ p) 0 =
      (b 0).toNat + 2 * (b 1).toNat + 4 * (b 2).toNat + 8 * (b 3).toNat := by
    simp only [List.range_eq_range', List.range', List.filter_cons, List.filter_nil]
    cases b 0 <;> cases b 1 <;> cases b 2 <;> cases b 3 <;> rfl
  have bits : ∀ (b0 b1 b2 b3 : Bool) (p : Fin 4), (BitVec.ofNat 4 (b0.toNat + 2 * b1.toNat + 4 * b2.toNat + 8 * b3.toNat)).getLsbD p =
      [b0, b1, b2, b3].getD p false := by decide
  have none' (q : Nat) : (g q == none) = (g q).isNone := by cases g q <;> rfl
  simp only [none']
  rw [sum, bits _ _ _ _ ⟨p, hp⟩]
  match p, hp with
  | 0, _ | 1, _ | 2, _ | 3, _ => rfl

/-- The list of the findings names each phase with one, and no other. -/
theorem mem_findings (g : Nat → Option Nat) (p n : Nat) :
    (p, n) ∈ (List.range 4).filterMap (fun p => (g p).map fun n => (p, n)) ↔ p < 4 ∧ g p = some n := by
  simp only [List.mem_filterMap, List.mem_range, Option.map_eq_some_iff, Prod.mk.injEq]
  constructor
  · rintro ⟨q, hq, m, hm, rfl, rfl⟩
    exact ⟨hq, hm⟩
  · rintro ⟨hp, hm⟩
    exact ⟨p, hp, n, hm, rfl, rfl⟩

theorem findings_of_all (g : Nat → Option Nat) (all : ∀ p, p < 4 → g p ≠ none) :
    ((List.range 4).filterMap fun p => (g p).map fun n => (p, n)).map Prod.fst = [0, 1, 2, 3] := by
  obtain ⟨a, ha⟩ := Option.ne_none_iff_exists'.1 (all 0 (by decide))
  obtain ⟨b, hb⟩ := Option.ne_none_iff_exists'.1 (all 1 (by decide))
  obtain ⟨c, hc⟩ := Option.ne_none_iff_exists'.1 (all 2 (by decide))
  obtain ⟨e, he⟩ := Option.ne_none_iff_exists'.1 (all 3 (by decide))
  simp [List.range_eq_range', List.range', ha, hb, hc, he]

/-- Settles O8: the liner's rows by their equations, the hand-over by what its parts keep of the system part. -/
theorem linerAndHandOver : Obligations.LinerAndHandOver := by
  refine ⟨⟨fun o s test due => ⟨fun pass => ?passes, fun fail => ?fails⟩, fun v s running => ⟨fun over' => ?high, fun low => ?collapse, fun low => ?low⟩,
    fun v s held below => ?release, fun v s collapsed => ?soft⟩, fun s power image settled high low kind cause => ?handOver⟩
  case passes =>
    have some' : (List.range 4).filter (fun p => s.dev.linerFinding o p == none) ≠ [] := by
      obtain ⟨p, hp, none'⟩ := pass
      exact List.ne_nil_of_mem (List.mem_filter.2 ⟨List.mem_range.2 hp, by rw [none']; rfl⟩)
    have open' : ¬ (s.dev.sy.liner.st ≠ .test ∨ 100 * s.dev.linerSource o.srcUv < 105 * s.dev.sy.linerTarget) := by simp [test, due]
    refine ⟨_, _, passed_bits (s.dev.linerFinding o), mem_findings (s.dev.linerFinding o), ?_⟩
    rw [exec_linerSourceTestPass open', Dev.linerTested, if_neg some', if_neg some']
  case fails =>
    have none' : (List.range 4).filter (fun p => s.dev.linerFinding o p == none) = [] := by
      refine List.filter_eq_nil_iff.2 fun p hp => ?_
      simpa using fail p (List.mem_range.1 hp)
    have open' : ¬ (s.dev.sy.liner.st ≠ .test ∨ 100 * s.dev.linerSource o.srcUv < 105 * s.dev.sy.linerTarget) := by simp [test, due]
    have kept := s.dev.linerTested_down o
    rw [exec_linerSourceTestPass open', if_pos none']
    generalize ((s.dev.linerTested o).setSwitch (s.dev.linerTested o).sy.linerSrc .off).powerDomains = e at kept ⊢
    refine ⟨_, rfl, ?_, ?_⟩
    · rw [kept, Dev.linerTested_st, if_pos none']
    · rw [kept, Dev.linerTested_findings]
      exact findings_of_all (s.dev.linerFinding o) fail
  case high => simp only [exec, execLinerBusOvervoltage, State.onDev, if_pos (And.intro running over')]
  case collapse => simp only [exec, execLinerBusCollapse, State.onDev, if_pos (And.intro running low)]
  case low =>
    have runs : s.dev.sy.liner.runs = true := by simp [LinerS.runs, running]
    simp only [exec, execLinerSourceLow, State.onDev, if_pos (And.intro runs low)]
  case release => simp only [exec, execLinerOvervoltageRelease, State.onDev, if_pos (And.intro held below)]
  case soft =>
    simp only [exec, execLinerSoftStartRepeat, State.onDev, Dev.modLiner, Dev.onSy, collapsed, if_true]
  case handOver =>
    have due : ¬ (s.dev.sy.power ≠ .liner ∨ (!s.dev.sy.imageOk) = true ∨ (!s.dev.ms.ref.settled) = true ∨
        s.dev.sy.liner.st = .heldHigh ∨ s.dev.sy.liner.st = .collapsed) := by simp [power, image, settled, high, low]
    have taken := Dev.linerTaken_reported (Dev.linerReports_reported (Dev.setPower_calm cause kind)) s.dev.sy.liner.st
    have joined := Dev.reported_of_core (Dev.reported_of_core taken (Dev.powerQuads_core _))
      (Dev.core_of_sy ((Dev.joinRule_sy _ 0).trans (Dev.autostart_sy _)))
    rw [exec_handOver due, Dev.handed]
    generalize ((s.dev.setPower .run).linerReports.linerTaken s.dev.sy.liner.st).powerQuads.autostart.joinRule 0 = e at joined ⊢
    have cold : ¬ (e.sy.startKind = .wake ∧ e.sy.wakeCause = 3 ∧ e.sy.power = .run) := by simp [joined.startKind]
    rw [Dev.beginLimp_calm joined.tocalm, if_neg cold]
    exact ⟨_, rfl, joined.power, joined.findings, rfl, rfl⟩

end Sys2Proof.Machine
end

section
/-! PROOFS. The starts that switch the slot or enter RECOVERY (R399). -/

namespace Sys2Proof.Machine

/-- The slot that a start takes: the other one where BOOT_FAILS has reached 3. -/
def Nv.startSlot (n : Nv) : Nat := if n.bootFails == 3 then 1 - n.activeSlot else n.activeSlot

/-- The non-volatile state as a start counts itself. -/
def Nv.started (n : Nv) (b : BootIn) : Nv :=
  { n with activeSlot := n.startSlot, bootFails := satInc 7 n.bootFails, eraseReady := n.erasePend,
           upd := if n.upd = .activating then .ready else n.upd,
           timeEpoch := if b.aonLost then (n.timeEpoch + 1) % 4294967296 else n.timeEpoch }

namespace Dev

/-- The device of a start before its image runs. -/
def starting (d : Dev) (n : Nv) (kind : StartKind) (b : BootIn) : Dev :=
  ((((((d.startTime b).fresh kind b).onSy fun s => { s with slot := n.startSlot }).setPower .liner).startLiner).when b.aonLost fun e =>
    e.raise evTimeEpochNew none []).when (n.bootFails == 3) fun e => e.raise evImageSlotSwitched none []

/-- The kind of a start: a switch of the slot makes it cold. -/
def startKind (n : Nv) (kind : StartKind) : StartKind := if n.bootFails == 3 then .cold else kind

theorem boot_eq (d : Dev) (n : Nv) (kind : StartKind) (b : BootIn) : d.boot n kind b =
    if 6 ≤ (n.started b).bootFails ∨ (startKind n kind = .cold ∧
        !(b.slotOk && (d.slotPasses (n.started b) 0 || d.slotPasses (n.started b) 1))) then
      ((d.starting n (startKind n kind) b).recovery, n.started b)
    else if !(b.imageOk && d.slotPasses (n.started b) n.startSlot) then
      ((d.starting n (startKind n kind) b).onSy fun s => { s with imageOk := false }, n.started b)
    else ((((d.starting n (startKind n kind) b).when (!b.settingsOk) fun e => e.defaultSettings).loadSettings.powerQuads).powerUnits,
      (n.started b).running n.startSlot) := rfl

theorem slotPasses_started (d : Dev) (n : Nv) (b : BootIn) (slot : Nat) : d.slotPasses (n.started b) slot = d.slotPasses n slot := rfl

/-- A start with a good image and good settings, and BOOT_FAILS not at its limit. -/
theorem boot_runs {d : Dev} {n : Nv} {kind : StartKind} {b : BootIn} (image : b.imageOk = true) (slotOk : b.slotOk = true)
    (settings : b.settingsOk = true) (passes : d.slotPasses n n.startSlot = true) (slot : n.startSlot ≤ 1) (few : n.bootFails < 5) :
    d.boot n kind b = ((d.starting n (startKind n kind) b).loadSettings.powerQuads.powerUnits, (n.started b).running n.startSlot) := by
  have below : ¬ 6 ≤ (n.started b).bootFails := by
    show ¬ 6 ≤ satInc 7 n.bootFails
    rw [satInc_eq_min]
    omega
  have valid : (d.slotPasses n 0 || d.slotPasses n 1) = true := by
    rcases Nat.le_one_iff_eq_zero_or_eq_one.1 slot with h | h <;> rw [h] at passes <;> simp [passes]
  rw [boot_eq, slotPasses_started, slotPasses_started, slotPasses_started, if_neg (by simp [below, slotOk, valid]),
    if_neg (by simp [image, passes]), settings, Bool.not_true, when_false]

/-- A start that brings BOOT_FAILS to 6 enters RECOVERY (R399). -/
theorem boot_recovers {d : Dev} {n : Nv} {kind : StartKind} {b : BootIn} (many : 5 ≤ n.bootFails) :
    d.boot n kind b = ((d.starting n (startKind n kind) b).recovery, n.started b) := by
  have reached : 6 ≤ (n.started b).bootFails := by
    show 6 ≤ satInc 7 n.bootFails
    rw [satInc_eq_min]
    omega
  rw [boot_eq, if_pos (.inl reached)]

theorem recovery_power (d : Dev) : d.recovery.sy.power = .recovery := by
  obtain ⟨⟨w, sy⟩, -, -⟩ := setPower_poweredFrom d.leaveChain .recovery
  rw [recovery, sy]
  rfl

/-- A device in LINER from a slot, with the kind of its start and the watchdog's cause. -/
structure startsAs (slot : Nat) (kind : StartKind) (cause : Nat) (d : Dev) : Prop where
  power     : d.sy.power = .liner
  slot      : d.sy.slot = slot
  startKind : d.sy.startKind = kind
  lastCause : d.sy.wdt.lastCause = cause

section
variable {slot cause : Nat} {kind : StartKind} {d : Dev}

theorem startsAs_of_core {e : Dev} (h : d.startsAs slot kind cause) (hc : e.core = d.core) : e.startsAs slot kind cause := by
  have part {α : Type} (f : Sys → α) : f e.core = f d.core := congrArg f hc
  exact ⟨(part Sys.power).trans h.power, (part Sys.slot).trans h.slot, (part Sys.startKind).trans h.startKind,
    (part fun s => s.wdt.lastCause).trans h.lastCause⟩

theorem raise_startsAs (h : d.startsAs slot kind cause) (ev : Nat) (inst : Option Nat) (data : List Byte) :
    (d.raise ev inst data).startsAs slot kind cause := startsAs_of_core h (raise_core _ _ _ _)

theorem startLiner_startsAs (h : d.startsAs slot kind cause) : d.startLiner.startsAs slot kind cause := by
  unfold startLiner
  refine startsAs_of_core ?_ (powerQuads_core _)
  obtain ⟨power, slot, startKind, lastCause⟩ := h
  exact ⟨power, slot, startKind, lastCause⟩

theorem startTime_wdt (d : Dev) {b : BootIn} (aon : b.aonLost = false) : (d.startTime b).sy.wdt = d.sy.wdt := by
  simp only [startTime, aon, Bool.false_eq_true, if_false, onSy_sy]

theorem setPower_core (d : Dev) (p : PowerSt) : (d.setPower p).core = (d.inPower p).core := by
  obtain ⟨⟨w, sy⟩, -, -⟩ := setPower_poweredFrom d p
  rw [core, sy]
  rfl

theorem fresh_startsAs (d : Dev) (slot : Nat) (kind : StartKind) (b : BootIn) :
    (((d.fresh kind b).onSy fun s => { s with slot := slot }).inPower .liner).startsAs slot kind d.sy.wdt.lastCause := ⟨rfl, rfl, rfl, rfl⟩

theorem starting_startsAs (d : Dev) (n : Nv) (kind : StartKind) {b : BootIn} (aon : b.aonLost = false) :
    (d.starting n kind b).startsAs n.startSlot kind d.sy.wdt.lastCause := by
  have first := startsAs_of_core (fresh_startsAs (d.startTime b) n.startSlot kind b) (setPower_core _ .liner)
  rw [startTime_wdt d aon] at first
  unfold starting
  exact when_induct (P := fun e => e.startsAs _ _ _) (when_induct (P := fun e => e.startsAs _ _ _) (startLiner_startsAs first)
    fun h => raise_startsAs h _ _ _) fun h => raise_startsAs h _ _ _

/-! ### The settings of a start -/

/-- A change of the measurement fabric alone. -/
structure measured (d e : Dev) : Prop where
  sy : e.sy = d.sy
  ho : e.ho = d.ho

theorem setGen_measured (d : Dev) (c : AccCfg) : d.measured (d.setGen c) := by
  unfold setGen
  split <;> exact ⟨rfl, rfl⟩

theorem setAcc_measured (d : Dev) (k : Nat) (c : AccCfg) : d.measured (d.setAcc k c) := by
  unfold setAcc
  dsimp only
  split <;> split <;> exact ⟨rfl, rfl⟩

theorem foldl_measured {α : Type} {f : Dev → α → Dev} (hf : ∀ (e : Dev) x, e.measured (f e x)) (l : List α) (d : Dev) : d.measured (l.foldl f d) := by
  induction l generalizing d with
  | nil => exact ⟨rfl, rfl⟩
  | cons x t ih => exact ⟨(ih _).sy.trans (hf d x).sy, (ih _).ho.trans (hf d x).ho⟩

/-- The settings put in force change the motion's of the system part, and no event's state. -/
theorem loadSettings_kept (d : Dev) : (∃ m, d.loadSettings.sy = { d.sy with motion := m }) ∧
    d.loadSettings.ho.glb.evstat = d.ho.glb.evstat := by
  have accs (l : List (Nat × AccCfg)) (e : Dev) : e.measured (l.foldl (fun c p => (c.setGen p.2).setAcc p.1 p.2) e) :=
    foldl_measured (fun c p => ⟨(setAcc_measured _ _ _).sy.trans (setGen_measured c _).sy,
      (setAcc_measured _ _ _).ho.trans (setGen_measured c _).ho⟩) l e
  have mmxs (l : List (Nat × MmxCfg)) (e : Dev) : e.measured (l.foldl (fun c p => c.setMmx p.1 p.2) e) :=
    foldl_measured (f := fun c p => c.setMmx p.1 p.2) (fun _ _ => ⟨rfl, rfl⟩) l e
  have sy := fun l e => (accs l e).sy
  have sy' := fun l e => (mmxs l e).sy
  have ho := fun l e => (accs l e).ho
  have ho' := fun l e => (mmxs l e).ho
  unfold loadSettings
  dsimp only
  constructor
  · simp only [onSy_sy, onLn_sy, modGlb_sy, onMs_sy, onPw_sy, sy, sy']
    exact ⟨_, rfl⟩
  · simp only [onSy_ho, onLn_ho, modGlb_ho, onMs_ho, onPw_ho, ho, ho']

theorem loadSettings_startsAs (h : d.startsAs slot kind cause) : d.loadSettings.startsAs slot kind cause := by
  obtain ⟨⟨m, sy⟩, -⟩ := loadSettings_kept d
  obtain ⟨power, slot, startKind, lastCause⟩ := h
  constructor <;> rw [sy] <;> assumption

theorem powered_startsAs (h : d.startsAs slot kind cause) : d.powerQuads.powerUnits.startsAs slot kind cause :=
  startsAs_of_core h ((powerUnits_core _).trans (powerQuads_core _))

end

/-! ### Events that stay raised as the domains follow a start -/

section
variable {ev : Nat} {d : Dev} (h : ev ∈ d.ho.glb.evstat)
include h

theorem applySetup_event (p : Nat) (cycle : Bool) : ev ∈ (d.applySetup p cycle).ho.glb.evstat := by
  unfold applySetup rethreshold
  dsimp only
  exact when_induct (P := fun e => ev ∈ e.ho.glb.evstat) h fun he => (raise_notes _ _ _ _).evstat ev he

theorem powerQuad_event (q : Nat) : ev ∈ (d.powerQuad q).ho.glb.evstat := by
  unfold powerQuad
  dsimp only
  split
  · exact h
  · refine each_induct (P := fun e => ev ∈ e.ho.glb.evstat) (fun p c hc => ?_) _ h
    split
    · split
      · exact hc
      · exact applySetup_event (d := c.modPh p fun y => { y with st := .idle }) hc p false
    · exact hc

theorem powerQuads_event : ev ∈ d.powerQuads.ho.glb.evstat := by
  unfold powerQuads
  refine each_induct (P := fun e => ev ∈ e.ho.glb.evstat) (fun q c hc => ?_) _ h
  exact powerQuad_event hc q

theorem powerUnits_event : ev ∈ d.powerUnits.ho.glb.evstat := by
  unfold powerUnits
  refine each_induct (P := fun e => ev ∈ e.ho.glb.evstat) (fun g c hc => ?_) _ h
  refine each_induct (P := fun e => ev ∈ e.ho.glb.evstat) (fun k b hb => ?_) _ hc
  dsimp only
  split
  · exact hb
  · split <;> exact hb

end

end Dev

theorem Nv.running_kept (n : Nv) (slot : Nat) : (n.running slot).activeSlot = n.activeSlot ∧ (n.running slot).bootFails = n.bootFails := by
  unfold Nv.running
  split <;> exact ⟨rfl, rfl⟩

/-- A start that finds BOOT_FAILS at 3 runs the other slot from a cold start and says so (R399). -/
theorem Dev.boot_switches {d : Dev} {n : Nv} {b : BootIn} (kind : StartKind) (aon : b.aonLost = false) (image : b.imageOk = true)
    (slotOk : b.slotOk = true) (settings : b.settingsOk = true) (passes : d.slotPasses n (1 - n.activeSlot) = true)
    (fails : n.bootFails = 3) : ∃ e m, d.boot n kind b = (e, m) ∧ m.activeSlot = 1 - n.activeSlot ∧ m.bootFails = 4 ∧
      e.startsAs (1 - n.activeSlot) .cold d.sy.wdt.lastCause ∧ evImageSlotSwitched ∈ e.ho.glb.evstat := by
  have slot : n.startSlot = 1 - n.activeSlot := by simp [Nv.startSlot, fails]
  have cold : startKind n kind = .cold := by simp [startKind, fails]
  have started := starting_startsAs d n .cold aon
  have told : evImageSlotSwitched ∈ (d.starting n .cold b).ho.glb.evstat := by
    rw [starting, fails]
    exact raise_evstat _ _ _ _
  obtain ⟨active, count⟩ := (n.started b).running_kept n.startSlot
  rw [boot_runs image slotOk settings (by rwa [slot]) (by omega) (by omega), cold]
  rw [slot] at started
  refine ⟨_, _, rfl, active.trans slot, ?_, powered_startsAs (loadSettings_startsAs started), ?_⟩
  · rw [count, Nv.started, fails]
    rfl
  · exact powerUnits_event (powerQuads_event (by rwa [(loadSettings_kept _).2]))

/-- Settles O7: the starts by what a start that switches the slot leaves, and by the limit of BOOT_FAILS. -/
theorem slotSwitch : Obligations.SlotSwitch := by
  refine ⟨⟨fun b s aon image slotOk settings passes fails => ?switch, fun b s many => ?recover⟩,
    fun i s runs reaches fails aon image slotOk settings passes => ?watchdog⟩
  case switch =>
    obtain ⟨e, m, boot, active, count, start, told⟩ := Dev.boot_switches .cold aon image slotOk settings passes fails
    refine ⟨{ s with dev := e, nv := m }, ?_, active, count, start.slot, told, start.power⟩
    simp only [exec, execResetNLow, State.onBoth, boot]
  case recover =>
    have few : (s.nv.bootFails == 3) = false := by
      rw [beq_eq_false_iff_ne]
      omega
    have down := Dev.recovery_power (s.dev.starting s.nv (Dev.startKind s.nv .cold) b)
    simp only [exec, execResetNLow, State.onBoth, Dev.boot_recovers many]
    generalize (s.dev.starting s.nv (Dev.startKind s.nv .cold) b).recovery = e at down ⊢
    refine ⟨_, rfl, down, ?_⟩
    simp only [Nv.started, Nv.startSlot, few, Bool.false_eq_true, if_false]
  case watchdog =>
    obtain ⟨e, m, boot, active, count, start, -⟩ := Dev.boot_switches (d := s.dev.wdtCause 1) .cold aon image slotOk settings passes fails
    refine ⟨{ s with dev := e, nv := m }, ?_, start.startKind, active, count, start.power, start.lastCause⟩
    simp only [exec, execWatchdogTimeout, State.onBoth, runs, reaches, Bool.and_self, if_true, Dev.warmStart, if_pos fails, boot]

end Sys2Proof.Machine
end
